-- ==== Sys2Proof/Word.lean ====
section
/-! DEFINITION. The word types of the part: bytes and 32-bit register words (R9). -/

namespace Sys2Proof

/-- One byte of memory or of a packet. -/
abbrev Byte := BitVec 8

/-- One 32-bit register or memory word (R9). -/
abbrev Word := BitVec 32

end Sys2Proof
end

