-- ==== Sys2Proof/Machine/Bits.lean ====
section
/-! DEFINITION. Bit fields, byte order and the arithmetic of R15: wrap, sat, floor division and
round_half_up, at unbounded width. -/

namespace Sys2Proof.Machine

/-- Bits [lo + len - 1 : lo] of a number (R6). -/
def bits (x lo len : Nat) : Nat := (x >>> lo) % 2 ^ len

/-- Bit i of a number. -/
def bit (x i : Nat) : Bool := x.testBit i

/-- 0 or 1. -/
def b2n (b : Bool) : Nat := if b then 1 else 0

/-- A word with the field [lo + len - 1 : lo] replaced. -/
def setBits (w : Word) (lo len v : Nat) : Word :=
  (w &&& ~~~ (BitVec.ofNat 32 ((2 ^ len - 1) <<< lo))) ||| BitVec.ofNat 32 ((v % 2 ^ len) <<< lo)

/-- wrap(x, N) read as a two's-complement sN (R15). -/
def wrapS (n : Nat) (x : Int) : Int :=
  let m := x.emod (2 ^ n)
  if 2 * m < 2 ^ n then m else m - 2 ^ n

/-- wrap(x, N) read as uN (R15). -/
def wrapU (n : Nat) (x : Int) : Nat := (x.emod (2 ^ n)).toNat

/-- sat(x, lo, hi) (R15). -/
def sat (x lo hi : Int) : Int := if x < lo then lo else if hi < x then hi else x

/-- sat to the range of sN. -/
def satS (n : Nat) (x : Int) : Int := sat x (-(2 ^ (n - 1))) (2 ^ (n - 1) - 1)

/-- floor(x / 2^k) (R15). -/
def asr (x : Int) (k : Nat) : Int := x.fdiv (2 ^ k)

/-- round_half_up(x, k), with k = 0 leaving x (R15). -/
def rhu (x : Int) (k : Nat) : Int := if k = 0 then x else (x + 2 ^ (k - 1)).fdiv (2 ^ k)

/-- The sN that an N-bit pattern holds. -/
def sgn (n x : Nat) : Int := wrapS n (x : Int)

/-- The N-bit pattern of an integer. -/
def pat (n : Nat) (x : Int) : Nat := wrapU n x

/-- Little-endian number of a byte list (R9). -/
def leNat : List Byte → Nat
  | [] => 0
  | b :: t => b.toNat + 256 * leNat t

/-- The n little-endian bytes of a number (R9). -/
def leBytes : Nat → Nat → List Byte
  | 0, _ => []
  | n + 1, x => BitVec.ofNat 8 x :: leBytes n (x / 256)

/-- One bit step of a most-significant-bit-first CRC of width w. -/
def crcBit (w poly crc : Nat) (b : Bool) : Nat :=
  let top := xor (crc.testBit (w - 1)) b
  let sh := (crc <<< 1) % 2 ^ w
  if top then sh ^^^ poly else sh

/-- CRC over the low n bits of x, most significant bit first. -/
def crcBits (w poly : Nat) : Nat → Nat → Nat → Nat
  | 0, _, crc => crc
  | n + 1, x, crc => crcBits w poly n x (crcBit w poly crc (x.testBit n))

/-- CRC over bytes, each most significant bit first. -/
def crcBytesMsb (w poly init : Nat) (l : List Byte) : Nat :=
  l.foldl (fun c b => crcBits w poly 8 b.toNat c) init

/-- CRC-64 with the ECMA-182 polynomial (R124), continued from a state. -/
def crc64From (s : Nat) (l : List Byte) : Nat := crcBytesMsb 64 0x42F0E1EBA9EA3693 s l

/-- The bits of a byte, least significant first. -/
def byteBitsLsb (b : Byte) : List Bool := (List.range 8).map (fun i => b.toNat.testBit i)

/-- One bit step of a least-significant-bit-first (reflected) CRC. -/
def crcBitLsb (poly crc : Nat) (b : Bool) : Nat :=
  if xor (crc.testBit 0) b then (crc >>> 1) ^^^ poly else crc >>> 1

/-- CRC over bytes, each least significant bit first, with the reflected polynomial. -/
def crcBytesLsb (poly init : Nat) (l : List Byte) : Nat :=
  l.foldl (fun c b => (byteBitsLsb b).foldl (crcBitLsb poly) c) init

/-- The number of 1 bits among the low n bits. -/
def popCount (n x : Nat) : Nat := ((List.range n).filter (fun i => x.testBit i)).length

/-- The indices of the 1 bits among the low n bits, ascending. -/
def bitsSet (n x : Nat) : List Nat := (List.range n).filter (fun i => x.testBit i)

/-- Ceiling division. -/
def ceilDiv (a b : Nat) : Nat := (a + b - 1) / b

end Sys2Proof.Machine
end

