-- ==== Sys2Proof/Machine/StateGraver.lean ====
section
/-! DEFINITION. Hidden state of a Graver tile (R173 to R225): the sequencer, the instructions issued and not yet
executed, the arrays' accumulators and drain parameters, the landing FIFOs and the Hatch output. -/

namespace Sys2Proof.Machine

/-- An address generator (R178, R179). -/
structure Ag where
  base : Nat := 0
  s0 : Int := 0
  s1 : Int := 0
  s2 : Int := 0
  deriving DecidableEq, Repr

/-- A loop in progress (R179). -/
structure LoopRec where
  level : Nat
  start : Nat
  last : Nat
  count : Nat
  idx : Nat
  deriving DecidableEq, Repr

/-- An issued instruction that its unit has yet to execute: the instruction word, the sixteen address-generator
values at issue (R177), whether it issued under a predicate of 0 (R180), and the words it has taken from the landing
FIFOs of the ports A, W, S and P (R177, R236). -/
structure Issued where
  word : Nat
  ag : List Nat
  gated : Bool
  got : Vector (List Nat) 4 := Vector.replicate 4 []
  deriving DecidableEq, Repr

/-- A same-word conflict of the step in progress (R190): the word address, the requester earlier in order and
the later one. (DEDUCED, log entry 40.) -/
structure Clash where
  word : Nat
  first : Nat
  later : Nat
  deriving DecidableEq, Repr

/-- The parameters a DRAIN uses (R207): lanes 2, 3 and 4 of the configuration word. -/
structure DrainPar where
  lane2 : Nat := 0
  lane3 : Nat := 0
  lane4 : Nat := 0
  deriving DecidableEq, Repr

/-- A Graver tile.  acc and par are indexed by 2 x array + set; an accumulator list holds (i, j) at 32i + j and
the empty list is all zeros.  land holds the landed words of the ports A, W, S and P in that order.  clash: the
same-word conflicts of the command in progress; held: reads that share a bank cycle's group with a write already made,
by word and requester code (R190).  due: the draft level of a START that the tile takes once it is ON (R352).  drained
and rest: of the DRAIN in progress the rows read and the values, each with its row and place, that the emitter has yet to
take (R195). -/
structure Tile where
  pc : Nat := 0
  issued : List Issued := []
  completing : List (Nat × Nat) := []
  ended : Bool := false
  bad : Bool := false
  loops : List LoopRec := []
  pred : Bool := true
  predLeft : Nat := 0
  ags : Vector Ag 16 := Vector.replicate 16 {}
  acc : Vector (List Int) 8 := Vector.replicate 8 []
  par : Vector DrainPar 8 := Vector.replicate 8 {}
  land : Vector (List Nat) 4 := Vector.replicate 4 []
  hout : List Nat := []
  emitOn : Bool := false
  cycRest : Nat := 0
  clash : List Clash := []
  held : List (Nat × Nat) := []
  doneBad : Option Bool := none
  due : Option Nat := none
  drained : Nat := 0
  rest : List (Nat × Nat × Nat) := []
  deriving DecidableEq, Repr

end Sys2Proof.Machine
end

