-- ==== Sys2Proof/Machine/StateEvent.lean ====
section
/-! DEFINITION. Hidden state of the event side: links, Stipple routers, ports and sources, Etch cores with their
Bite units, and of the parts every unit shares: check-code damage, power domains, the Proof log front end.
Registers and memories stand in the register file and in memory; these structures hold what the spec gives the
machine beside them.  All of it is plain data. -/

namespace Sys2Proof.Machine

/-! ### Links (R40 to R42) -/

/-- A link register: the REQ and ACK levels and the unit offered.  The link is empty when REQ = ACK. -/
structure Link where
  req : Bool := false
  ack : Bool := false
  data : List Nat := []
  deriving DecidableEq, Repr

/-! ### Stipple net (R137 to R167) -/

/-- A unit of flits that routers carry as one: one flit, or a header with its untyped flits (R140, R164).
(DEDUCED, log entry 20.) -/
abbrev FlitUnit := List Nat

/-- A Stipple router: the input FIFOs of ports 0 local, 1 north, 2 east, 3 south, 4 west (R61), the outputs
already served of the unit at each FIFO's head, the output links, and the barrier tree registers (R157). -/
structure SRouter where
  inq : Vector (List FlitUnit) 5 := Vector.replicate 5 []
  served : Vector (List Nat) 5 := Vector.replicate 5 []
  out : Vector Link 5 := Vector.replicate 5 {}
  treeOwn : Option Nat := none
  treeKids : List (Nat × Nat) := []
  treeTag : Nat := 0
  deriving DecidableEq, Repr

/-- An event held in a port's input buffer (R150): source, sequence number, multicast or unicast, step tag,
axon and payload. -/
structure Evt where
  src : Nat
  seq : Nat
  mc : Bool
  tag : Nat
  axon : Nat
  payload : Nat
  deriving DecidableEq, Repr

/-- The port interface of a logical Etch core, destination side (R138, R148 to R155): the buffer, received
counts, closes and excess events counted of steps t_d and t_d + 1 per source, entries freed and not acknowledged, whether step t_d is
all-in, when its wait began and when its last close came, whether a stall declared the step all-in, and the OPEN that the core has yet to
take up. -/
structure SPort where
  buf : List Evt := []
  rcv0 : List (Nat × Nat) := []
  rcv1 : List (Nat × Nat) := []
  cls0 : List (Nat × Nat) := []
  cls1 : List (Nat × Nat) := []
  over0 : List (Nat × Nat) := []
  over1 : List (Nat × Nat) := []
  freed : List (Nat × Nat) := []
  allIn : Bool := false
  waitAt : Option Nat := none
  closesAt : Option Nat := none
  declared : Bool := false
  opened : Option Nat := none
  deriving DecidableEq, Repr

/-- What a source still has to send, in order: an event to a set of cores for a step, the closes of a step, the
DONE of a step. -/
inductive OutItem where
  | event (step axon payload : Nat) (mc : Bool) (dests : List Nat)
  | close (step : Nat)
  | done (step : Nat)
  deriving DecidableEq, Repr

/-- A source of events (R137, R149, R152): credit per destination, sequence numbers, events sent to each
destination by step closed, what waits to be sent, the flit units waiting for the router's input, and the
units that the router has delivered to the attachment (a core in RET leaves them there, R165). -/
structure SSource where
  credit : List (Nat × Nat) := []
  seqU : List (Nat × Nat) := []
  seqM : Nat := 0
  sent0 : List (Nat × Nat) := []
  sent1 : List (Nat × Nat) := []
  sendQ : List OutItem := []
  outq : List FlitUnit := []
  arr : List FlitUnit := []
  deriving DecidableEq, Repr

/-- The step sequencer and the delay unit (R153, R157, R159, R162): the barrier sum received, when OPEN(S) was
broadcast, the step that was open when LOSS was last set and when, the OPENs the delay unit has yet to act on,
and the Rack's request buffer and responses at its Stipple attachment. -/
structure Sequencer where
  sum : Option (Nat × Nat) := none
  openAt : Nat := 0
  lossStep : Option Nat := none
  lossAt : Nat := 0
  delayOpen : List Nat := []
  rackArr : List FlitUnit := []
  rackOut : List FlitUnit := []
  deriving DecidableEq, Repr

/-! ### Etch cores (R65 to R136) -/

/-- Where a core stands in its step (R72, R99, R100). -/
inductive EPhase where
  | idle        -- RUN = 0, or IDLE
  | waiting     -- running, at its opening
  | opening     -- the opening has begun and its spill drain is not complete
  | opened      -- the step is open: events are consumed
  | finishing   -- the update pass is done; the report of completion waits (R164 rule 3, R196)
  | closing     -- closes and DONE stand behind events that wait for credit (R154, R156)
  deriving DecidableEq, Repr

/-- An outstanding overflow row fetch (R92): axon, exponent, payload as a signed number, address, synapses left. -/
structure Fetch where
  axon : Nat
  wexp : Nat
  payload : Int
  addr : Nat
  len : Nat
  deriving DecidableEq, Repr

/-- A Rack request an Etch port has yet to send (R164): produce with its 16 payload bytes, or consume-due;
whether it is a spill. -/
structure RackReq where
  due : Bool
  queue : Nat
  step : Nat
  spill : Bool
  payload : List Byte
  deriving DecidableEq, Repr

/-- The state of a fix (R125 to R128): the request, the page where the set starts, its sequence number and
step, the enabled regions and the whole region table at the request, the pages copied, the staged pages, and
whether an update pass has completed since the request. -/
structure FixState where
  next : Bool := false
  atStep : Nat := 0
  size : Nat := 0
  start : Nat := 0
  seq : Nat := 0
  step : Nat := 0
  regions : List (Nat × Nat) := []
  copied : List Nat := []
  staged : List (Nat × List Byte) := []
  reached : Bool := false
  table : List (Nat × Nat) := []
  deriving DecidableEq, Repr

/-- The hidden state of an Etch core. -/
structure EtchCore where
  phase : EPhase := .idle
  paused : Bool := false
  primed : Bool := false
  follows : Bool := false
  early : List Nat := []
  flagAt : List (Nat × Nat) := []
  flagDone : List Nat := []
  ring : List (Nat × Nat) := []
  fetches : List Fetch := []
  sopRest : Nat := 0
  stallRest : Nat := 0
  rackCredit : Nat := 0
  prodHeld : Nat := 0
  rackQ : List RackReq := []
  rackOut : List (RackReq × Nat) := []
  draining : Option Nat := none
  scvWait : Bool := false
  rewSum : Int := 0
  rewSeen : Bool := false
  rewWrite : Option Nat := none
  learnOn : Bool := false
  fix : FixState := {}
  wearRest : Nat := 0
  wearAt : Nat := 0
  scvBuf : List (List Nat) := []
  scvSeq : Nat := 0
  dig : Nat := 0
  nTrans : Nat := 0
  nSprout : Nat := 0
  nPrune : Nat := 0
  spiked : Bool := false
  digest : Nat := 0
  deriving DecidableEq, Repr

/-! ### Check codes (R325 to R344) -/

/-- A word or page whose stored bits differ from a codeword: how many bits the code corrects, or that it is
uncorrectable, and the raw data and check bytes stored. (DEDUCED, log entry 12.) -/
structure Damage where
  ue : Bool
  nbits : Nat
  raw : List Byte
  deriving DecidableEq, Repr

/-! ### Power domains (R349 to R359) -/

/-- Where a domain stands in a change of state. -/
inductive DomPhase where
  | steady
  | hold (target since : Nat)                 -- a lower resolved state stands for HOLD ticks
  | quiesce (target since : Nat) (forced : Bool)
  | pending (fromOff : Bool)                  -- a wake that waits for the limits of R358
  | wake (step since : Nat) (fromOff : Bool)  -- steps 1 to 4 of R357
  deriving DecidableEq, Repr

/-- A power domain: its phase, whether its votes are ignored after a failed wake (R357), and whether it is held
OFF under R19, R21 or R22. (DEDUCED, log entry 107.) -/
structure Domain where
  phase : DomPhase := .steady
  ignored : Bool := false
  held : Bool := false
  quietSince : Nat := 0
  deriving DecidableEq, Repr

/-- The power record of the POLICY section (R365). -/
structure PolicyRec where
  winMs : Nat := 100
  pSust : Nat := 95000
  tSoft : Int := 800
  bHi : Nat := 192
  bLo : Nat := 32
  dwell : Nat := 8
  points : List Nat := []
  start : Nat := 0
  deriving DecidableEq, Repr

/-- The power controller, policy and Hardground beside their registers (R361 to R370): sensors whose self-check
failed, starts of recent wakes, the bound table, the bound of the frame in progress, the TB_CFG and MARGIN in
force, the policy and its samples, the watchdog, when PKG_POWER fell below the cap's clearing level, when a trip
waits for its limit, the current limits, rail samples, and whether REFCLK is gated. -/
structure Power where
  failedTs : List Nat := []
  wakeStarts : List Nat := []
  bounds : List (Nat × Nat) := []
  frameBound : Option Nat := none
  tbCfg : Nat := 0x0203
  margin : Nat := 1
  policy : PolicyRec := {}
  point : Nat := 0
  sinceMove : Nat := 0
  samples : List Nat := []
  wdOn : Bool := false
  wdSince : Nat := 0
  capBelow : Option Nat := none
  tripAt : Option Nat := none
  limit : Nat := 0
  tripLimit : Bool := false
  limitRest : Nat := 0
  railRest : List (Nat × Nat) := []
  railAvg : List (Nat × List Nat) := []
  gated : Bool := false
  deriving DecidableEq, Repr

/-! ### Proof log front end (R483 to R496) -/

/-- A trigger entry of the PROOF_TRIGGERS section (R492). -/
structure Trig where
  code : Nat
  disable : Bool
  depth : Nat
  periodMs : Nat
  snaps : List Nat
  deriving DecidableEq, Repr

/-- A record (R489).  seq = 0 while it has none. -/
structure Rec where
  seq : Nat
  code : Nat
  unit : Nat
  opsec : Nat
  pcycle : Nat
  bstate : Nat
  tb : Nat
  supp : Nat
  snapErr : Nat
  snaps : List Nat
  nsnap : Nat
  deriving DecidableEq, Repr

/-- A code admitted whose snapshot reads are outstanding (R493). -/
structure PendRec where
  base : Rec
  addrs : List Nat
  deriving DecidableEq, Repr

/-- A token bucket: tokens and the TIMEBASE value up to which it was refilled. -/
structure Bucket where
  tokens : Nat
  at_ : Nat
  deriving DecidableEq, Repr

/-- The Proof log front end: trigger entries, buckets, suppressed codes, records whose snapshots are awaited,
staged records, records lost since the last LOST record, whether the buffer has been full since, TIMEBASE at the
last whole second and at the last TIME record, the next page a clear zeroes, and the absent cores (R483). -/
structure Proof where
  trigs : List Trig := []
  buckets : List (Nat × Bucket) := []
  global : Bucket := ⟨4096, 0⟩
  supp : List (Nat × Nat) := []
  pend : List PendRec := []
  staged : List Rec := []
  lostSince : Nat := 0
  sawFull : Bool := false
  secAt : Nat := 0
  timeAt : Nat := 0
  clearNext : Nat := 0
  absent : List Nat := []
  deriving DecidableEq, Repr

/-! ### Scribes and declaration (R30, R31, R504 to R510) -/

/-- A Scribe: held in reset or running, released by SCRIBE[0], halted by JTAG, last kick, release time of a
restart.
(DESIGN CHOICE, log entry 109.) -/
structure Scribe where
  running : Bool := false
  released : Bool := false
  halted : Bool := false
  kickAt : Nat := 0
  restartAt : Option Nat := none
  deriving DecidableEq, Repr

end Sys2Proof.Machine
end

