-- ==== Sys2Proof/Machine/StateHatch.lean ====
section
/-! DEFINITION. Hidden state of the Hatch mesh (R226 to R255): tokens, routers with their port schedules and
landings, and the frame controller. -/

namespace Sys2Proof.Machine

/-- A token with its sideband (R226). -/
structure HTok where
  data : Nat
  kind : Nat
  crc : Nat
  deriving DecidableEq, Repr

/-- The schedule of a port in the frame in progress (R231): whether it runs, the present entry, the loop
counters, and of the RUN in progress the transfers left, IN or OMASK, LDESC and CHAN. -/
structure HPtr where
  en : Bool := false
  done : Bool := false
  err : Bool := false
  run : Bool := false
  entry : Nat := 0
  c0 : Nat := 0
  c1 : Nat := 0
  left : Nat := 0
  sel : Nat := 0
  desc : Nat := 0
  chan : Nat := 0
  deriving DecidableEq, Repr

/-- A broadcast-load block that passes an input (R249): the outputs it needs with the mask each copy carries,
and the tokens left. -/
structure LoadIn where
  outs : List (Nat × Nat)
  left : Nat
  deriving DecidableEq, Repr

/-- A Hatch router: input FIFOs of 4 tokens, the outputs that have taken each head token, output links, port
schedules, tokens that an edge attachment offers, landed half words and word counts by descriptor, the pair of
tokens waiting to land by port, broadcast-load state with the inputs that ask for outputs in the order of their requests (R59), and the frame tree
node. -/
structure HRouter where
  inq : Vector (List HTok) 5 := Vector.replicate 5 []
  taken : Vector (List Nat) 5 := Vector.replicate 5 []
  out : Vector Link 5 := Vector.replicate 5 {}
  outp : Vector HPtr 5 := Vector.replicate 5 {}
  inp : Vector HPtr 5 := Vector.replicate 5 {}
  tokRest : Vector Nat 5 := Vector.replicate 5 0
  offer : List Nat := []
  edgeBusy : Bool := false
  memEntry : Nat := 0
  halves : List (Nat × Nat) := []
  counts : List (Nat × Nat) := []
  pend : List (Nat × Nat × Nat) := []
  load : Vector (Option LoadIn) 5 := Vector.replicate 5 none
  grant : Vector (Option Nat) 5 := Vector.replicate 5 none
  order : List Nat := []
  rx : List HTok := []
  reported : Bool := false
  bad : Bool := false
  ue : Bool := false
  deriving DecidableEq, Repr

/-- The frame controller (R240 to R248): the mode in force, the stall limit in force, ticks without progress,
when the last START went out, the Tracers ready for the next frame, when an abort began and its fault code, whether
the last frame was BAD or aborted, and the endpoint digests of the frame (R456). -/
structure HatchCtl where
  mode : Nat := 0
  limit : Nat := 2000
  idle : Nat := 0
  startAt : Option Nat := none
  ready : Nat := 0
  abortAt : Nat := 0
  abortCode : Nat := 0
  lastBad : Bool := false
  lastAborted : Bool := false
  dig : Vector Nat 14 := Vector.replicate 14 0
  deriving DecidableEq, Repr

/-- A link that LINK_TRANSFER may move a unit across (R40): Stipple router outputs, Stipple sources, the Rack's
Stipple responses; Hatch router outputs and inputs from attachments, and a Scribe's broadcast-load token. -/
inductive LinkId where
  | stippleOut (s : Fin 112) (o : Fin 5)
  | stippleIn (i : Fin 105)
  | stippleRack
  | hatchOut (s : Fin 112) (o : Fin 5)
  | hatchIn (s : Fin 112) (p : Fin 5)
  | hatchLoad (n : Fin 4) (kind : Fin 4) (data : BitVec 128)
  deriving DecidableEq, Repr

/-- A part of the cut that an abort makes in a tile (R248 step 2): the tile, which of its issued instructions is in
progress, and the reduction elements (MMA), rows (DRAIN) or words (LDS, MOVE) that it has completed.
(DEDUCED, log entry 46.) -/
structure Cut where
  tile : Nat
  place : Nat
  cycles : Nat
  deriving DecidableEq, Repr

end Sys2Proof.Machine
end

