-- ==== Sys2Proof/Machine/StateIo.lean ====
section
/-! DEFINITION. Hidden state of the CSI-2 ports, Tracers and Presses (R256 to R302): links, packets received and
to send, input units and frames, encoders, placement, result streams, readout and annotations. -/

namespace Sys2Proof.Machine

/-- A CSI-2 port (R264, R265, R269): an enable that waits for LP-11, when a disable was written, whether the rest
of the burst is discarded, the last deskew sent, bytes below 1,024 not yet counted, open lines and the frame
number kept for each channel; whether an initial deskew has completed since the enable (R259). -/
structure CsiLink where
  pendEn : Bool := false
  pendDis : Option Nat := none
  dropRest : Bool := false
  deskewAt : Nat := 0
  byteRest : Nat := 0
  lines : List Nat := []
  frameNum : List (Nat × Nat) := []
  burstAt : Nat := 0
  trained : Bool := false
  deriving DecidableEq, Repr

/-- What a receive port has passed to ingest, in link order (R261, R283), each with the stream of its channel's entry as
it was handled (R269); a cut of R462 among it. -/
inductive RxItem where
  | unit (str vc dt : Nat) (body : List Byte) (stamp : Nat)
  | frameEnd (str : Nat)
  | loss (str vc code : Nat)
  | cut (vc : Nat)
  deriving DecidableEq, Repr

/-- An annotation record but for its frame (R293). -/
structure Ann where
  code : Nat
  stream : Nat
  step : Nat
  arg0 : Nat
  arg1 : Nat
  arg2 : Nat
  stamp : Nat
  deriving DecidableEq, Repr

/-- An input unit held in a Tracer's buffer (R273, R280, R281): its input frame (none once that frame needs it no
longer), step, stamp, data type, FMT and data portion, whether it was dropped, whether its encoder has
consumed it. -/
structure TUnit where
  frame : Option Nat
  step : Nat
  stamp : Nat
  dt : Nat
  fmt : Nat
  body : List Byte
  dropped : Bool
  encoded : Bool
  deriving DecidableEq, Repr

/-- An input frame of a stream (R277 to R283): its index, whether its end is known, the stamp of its first unit,
the number of units, the marks as FLAGS of R288, whether later units are dropped, and its annotations. -/
structure TFrame where
  idx : Nat
  ended : Bool := false
  stamp : Option Nat := none
  count : Nat := 0
  marks : Nat := 0
  dropping : Bool := false
  anns : List Ann := []
  deriving DecidableEq, Repr

/-- An ingest stream: units held, frames, I_next, the frame that the Hatch frame in progress consumes, the
expected SEQ, units since the last step and frame advance, the byte ranges read by placement; of the unit that the encoder
works on, the elements taken and the events formed that await room in the queue, each with core, axon and payload
(R287). -/
structure TStream where
  units : List TUnit := []
  frames : List TFrame := []
  nextI : Nat := 0
  cur : Option Nat := none
  seq : Option Nat := none
  sinceStep : Nat := 0
  sinceFrame : Nat := 0
  reads : List (Nat × Nat) := []
  encE : Nat := 0
  encOut : List (Nat × Nat × Nat) := []
  deriving DecidableEq, Repr

/-- A Tracer: its port, what its ingest has yet to take, streams, the next step to close, the streams of the
events that wait, its placement list, the stamp of the last unit. -/
structure TracerUnit where
  link : CsiLink := {}
  rxq : List RxItem := []
  streams : Vector TStream 4 := Vector.replicate 4 {}
  closeNext : Nat := 0
  evq : List Nat := []
  plEntry : Nat := 0
  plPos : Nat := 0
  lastStamp : Nat := 0
  deriving DecidableEq, Repr

/-- A packet that a Press presents: channel, data type, and the data field of a short packet or a payload. -/
structure TxPkt where
  vc : Nat
  dt : Nat
  num : Nat
  body : List Byte
  deriving DecidableEq, Repr

/-- A frame that awaits its trailer (R291): Hatch frame, draft level, FLAGS, TIMEBASE at completion, stamp, the
fault code of an abort, annotations and units consumed. -/
structure Trailer where
  frame : Nat
  draft : Nat
  marks : Nat
  at_ : Nat
  stamp : Nat
  abort : Option Nat
  anns : List Ann
  units : Nat
  deriving DecidableEq, Repr

/-- A Press: its port, packets to send, the last packet sent, the output descriptor list, the tokens of the packet
being filled, tokens received and tensors completed by stream, frame numbers by channel, the frame whose
streams are open, trailers and annotations due, readout and heartbeat. -/
structure PressUnit where
  link : CsiLink := {}
  txq : List TxPkt := []
  sent : List Byte := []
  deskews : Nat := 0
  odOn : Bool := false
  odEntry : Nat := 0
  odPos : Nat := 0
  pkt : List Nat := []
  recv : Vector Nat 4 := Vector.replicate 4 0
  tensors : Vector Nat 4 := Vector.replicate 4 0
  fnum : List (Nat × Nat) := []
  mute : Bool := false
  bad : Bool := false
  trailer : Option Trailer := none
  annDue : List Trailer := []
  roNext : Option Nat := none
  hbSeq : Nat := 0
  hbAt : Nat := 0
  quietAt : Nat := 0
  deriving DecidableEq, Repr

/-- A CSI-2 port: that of Tracer n, or that of Press k. -/
inductive CsiPort where
  | rx (n : Fin 8)
  | tx (k : Fin 4)
  deriving DecidableEq, Repr

/-- A long packet as the link delivers it (R261 to R265): the channel and type of its header, WC, whether the
header was corrected, the payload bytes and the bytes of the CRC that arrived, whether the CRC matched.
(DEDUCED, log entry 48.) -/
structure LongPkt where
  vc : Fin 32
  dt : Fin 64
  wc : Fin 65536
  corrected : Bool
  crcOk : Bool
  crcBytes : Fin 3
  payload : List Byte
  deriving DecidableEq, Repr

/-- A short packet as the link delivers it: channel, type, data field, whether its header was corrected.
(DEDUCED, log entry 48.) -/
structure ShortPkt where
  vc : Fin 32
  num : Fin 65536
  corrected : Bool
  deriving DecidableEq, Repr

/-- The header of a packet partly received when its port is disabled (R269). -/
structure PartPkt where
  vc : Fin 32
  dt : Fin 64
  wc : Fin 65536
  deriving DecidableEq, Repr

end Sys2Proof.Machine
end

