-- ==== Sys2Proof/Machine/StateMem.lean ====
section
/-! DEFINITION. The integrity blocks of the part (R325, R341, R346, R347). -/

namespace Sys2Proof.Machine

/-- A unit with an integrity block or a controller, or a plate memory with its own Burnisher (R341). -/
inductive IntBlk where
  | etch (n : Fin 64)
  | plate (n : Fin 64)
  | graver (n : Fin 32)
  | tracer (n : Fin 8)
  | press (k : Fin 4)
  | rack
  | scribe (n : Fin 4)
  | mc (m : Fin 4)
  deriving DecidableEq, Repr

end Sys2Proof.Machine
end

