-- ==== Sys2Proof/Machine/StateCmd.lean ====
section
/-! DEFINITION. Operand types of the commands: who accesses registers, the two phases of a tile instruction, what a
boot finds and meets, JTAG debug operations. -/

namespace Sys2Proof.Machine

/-- The initiators that access registers (R34, R61).  JTAG, which reaches registers only through DEBUG after unlock
(R443), has its accesses in the JTAG_DEBUG command.
(DESIGN CHOICE, log entry 109.) -/
inductive Ini where
  | hg
  | scribe (n : Fin 4)
  | host
  deriving DecidableEq, Repr

/-- The initiator number (R61). -/
def Ini.num : Ini → Nat
  | .hg => 1
  | .scribe n => 2 + n.val
  | .host => 7

/-- The two events of a tile instruction that its own unit executes (R176, R177): the sequencer issues it, its unit
executes it. -/
inductive Phase where
  | issue
  | execute
  deriving DecidableEq, Repr

/-- What BIST finds (R389): sites whose tile and sites whose routers fail, controllers, Scribes 1 to 3, Tracers and
Presses that fail, and the Rack and the Stipple sequencer. -/
structure Verdict where
  sites : List (Fin 112)
  routers : List (Fin 112)
  mcs : List (Fin 4)
  scribes : List (Fin 3)
  tracers : List (Fin 8)
  presses : List (Fin 4)
  rack : Bool
  stipple : Bool
  deriving DecidableEq, Repr

/-- What the environment of a LOAD decides (R394): whether every flash read answers, the resend rounds and blocks
resent, the tile sites incomplete after 3 rounds in the order found, and whether a router window stays
incomplete. -/
structure LoadEnv where
  readOk : Bool
  rounds : Fin 4
  resent : BitVec 16
  bad : List (Fin 112)
  router : Bool
  deriving DecidableEq, Repr

/-- An operation of JTAG DEBUG (R443): a read or write at a device address, or a Scribe halted or let go on. -/
inductive DebugOp where
  | read (a : BitVec 40) (len : Fin 9)
  | write (a : BitVec 40) (bytes : List Byte)
  | halt (n : Fin 4)
  | go (n : Fin 4)
  deriving DecidableEq, Repr

end Sys2Proof.Machine
end

