-- ==== Sys2Proof/Syntax.lean ====
section
/-! DEFINITION. The commands of the part: one constructor for each row of spec/opcode_table.json,
those with operands first (a runtime numbers at most 244 constructors that hold operands). -/

namespace Sys2Proof

open Machine

/-- A command: what the environment does to the part at one instant (a register access, a packet, a pin), or one event of
the part itself whose moment the environment chooses. (DESIGN CHOICE, log entries 1, 108.) -/
inductive Instr where
  /- Register accesses and link transfers (R10 to R14, R34, R40). -/
  /-- REGISTER_WRITE (R12). -/
  | registerWrite (ini : Ini) (a : BitVec 40) (bytes : List Byte) (tied : Bool := false)
  /-- RC_READ (R12). -/
  | rcRead (ini : Ini) (a : BitVec 40) (len : Fin 9) (tied : Bool := false)
  /-- LINK_TRANSFER (R40). -/
  | linkTransfer (l : LinkId) (flip : List Nat)
  /- Etch cores: steps, events, run control (R72, R92 to R100, R149). -/
  /-- ETCH_STEP_OPEN (R72). -/
  | etchStepOpen (n : Fin 64)
  /-- EVENT_CONSUME (R72). -/
  | eventConsume (n : Fin 64) (bufUe : Bool)
  /-- OVERFLOW_ROW_FETCH_DONE (R92). -/
  | overflowRowFetchDone (n : Fin 64) (i : Fin 8)
  /-- UPDATE_PASS (R72). -/
  | updatePass (n : Fin 64)
  /-- EVENT_SEND (R149). -/
  | eventSend (i : Fin 105)
  /-- FLAG_LINE_RELEASE (R95). -/
  | flagLineRelease (n : Fin 64) (pin : Fin 4)
  /-- ETCH_RUN (R99). -/
  | etchRun (ini : Ini) (n : Fin 64)
  /-- ETCH_STOP (R99). -/
  | etchStop (ini : Ini) (n : Fin 64)
  /-- ETCH_PAUSE (R100). -/
  | etchPause (ini : Ini) (n : Fin 64)
  /-- ETCH_RESUME (R100). -/
  | etchResume (ini : Ini) (n : Fin 64)
  /- Fixing learned weights into plate memory (R127 to R132). -/
  /-- FIX_REQUEST (R127). -/
  | fixRequest (ini : Ini) (n : Fin 64) (next : Bool)
  /-- FIX_SNAPSHOT (R127). -/
  | fixSnapshot (n : Fin 64) (vf : List Bool)
  /-- FIX_PAGE_COPY (R127). -/
  | fixPageCopy (n : Fin 64) (vf : List Bool)
  /-- FIX_COPY_FIRST (R128). -/
  | fixCopyFirst (ini : Ini) (n : Fin 64) (off : BitVec 22) (v : Word)
  /-- FIX_COMMIT (R127). -/
  | fixCommit (n : Fin 64) (vf : List Bool)
  /-- FIX_ERASE (R132). -/
  | fixErase (ini : Ini) (n : Fin 64) (vf : List Bool)
  /-- WEAR_REFILL (R129). -/
  | wearRefill (n : Fin 64)
  /- The Stipple net: flits, arrivals, the step barrier, spill requests (R141 to R167). -/
  /-- FLIT_FORWARD (R144). -/
  | flitForward (r : Fin 112) (p : Fin 5)
  /-- EVENT_ARRIVE (R150). -/
  | eventArrive (n : Fin 64)
  /-- CLOSE_ARRIVE (R155). -/
  | closeArrive (n : Fin 64)
  /-- ACK_ARRIVE (R151). -/
  | ackArrive (i : Fin 105)
  /-- DONE_REDUCE (R157). -/
  | doneReduce (r : Fin 112)
  /-- OPEN_ARRIVE (R157). -/
  | openArrive (i : Fin 105)
  /-- COUNT_STALL_TIMEOUT (R159). -/
  | countStallTimeout (n : Fin 64)
  /-- STIPPLE_START (R166). -/
  | stippleStart (ini : Ini)
  /-- STIPPLE_STOP (R167). -/
  | stippleStop (ini : Ini)
  /-- RACK_REQUEST_SEND (R164). -/
  | rackRequestSend (n : Fin 64)
  /-- RACK_RESPONSE_ARRIVE (R164). -/
  | rackResponseArrive (n : Fin 64)
  /-- RACK_RESPONSE_TIMEOUT (R164). -/
  | rackResponseTimeout (n : Fin 64)
  /- Graver tiles: instructions, frames, bank ownership, the scratchpad, spike-count export (R174 to R211). -/
  /-- TILE_END (R174). -/
  | tileEnd (n : Fin 32)
  /-- TILE_LOOP (R179). -/
  | tileLoop (n : Fin 32)
  /-- MMA (R211). -/
  | mma (n : Fin 32) (ph : Phase) (clash : List Clash)
  /-- MMA_COMPLETE (R184). -/
  | mmaComplete (n : Fin 32) (k : Nat)
  /-- DRAIN (R185). -/
  | drain (n : Fin 32) (ph : Phase) (clash : List Clash := []) (parUe : BitVec 4 := 0)
  /-- LDS (R206). -/
  | lds (n : Fin 32) (ph : Phase) (clash : List Clash)
  /-- MOVE (R186). -/
  | move (n : Fin 32) (ph : Phase) (clash : List Clash)
  /-- WAITL (R178). -/
  | waitl (n : Fin 32)
  /-- SYNC (R177). -/
  | sync (n : Fin 32)
  /-- SETAG (R179). -/
  | setag (n : Fin 32)
  /-- EMIT_CLOSE (R195). -/
  | emitClose (n : Fin 32) (ph : Phase)
  /-- GATE (R180). -/
  | gate (n : Fin 32) (clash : List Clash)
  /-- TILE_FRAME_DONE (R174). -/
  | tileFrameDone (n : Fin 32)
  /-- EMITTER_EVENT_SEND (R195). -/
  | emitterEventSend (n : Fin 32)
  /-- TILE_RUN_WRITE (R175). -/
  | tileRunWrite (ini : Ini) (n : Fin 32) (run : Bool)
  /-- BANK_CLAIM (R191). -/
  | bankClaim (ini : Ini) (n : Fin 32) (b : Fin 16)
  /-- BANK_RELEASE (R191). -/
  | bankRelease (ini : Ini) (n : Fin 32) (b : Fin 16)
  /-- BANK_REVOKE (R191). -/
  | bankRevoke (n : Fin 32) (b : Fin 16) (owner : Fin 32)
  /-- SCRATCHPAD_LANE_WRITE (R193). -/
  | scratchpadLaneWrite (ini : Ini) (n : Fin 32) (lane : BitVec 20) (v : Word)
  /-- SET_ALIAS_WRITE (R193). -/
  | setAliasWrite (ini : Ini) (n : Fin 32) (lane : BitVec 20) (v : Word)
  /-- CLEAR_ALIAS_WRITE (R193). -/
  | clearAliasWrite (ini : Ini) (n : Fin 32) (lane : BitVec 20) (v : Word)
  /-- SCV_SNAPSHOT (R196). -/
  | scvSnapshot (n : Fin 64) (ue : List (Fin 128) := [])
  /- The Hatch mesh: schedules, tokens, landings, frames, aborts, broadcast load (R230 to R253). -/
  /-- SLOT_RUN (R231). -/
  | slotRun (r : Fin 112) (p : Fin 5)
  /-- SLOT_LOOP (R231). -/
  | slotLoop (r : Fin 112) (out : Bool) (p : Fin 5)
  /-- SLOT_END (R231). -/
  | slotEnd (r : Fin 112) (out : Bool) (p : Fin 5)
  /-- FAN_RUN (R230). -/
  | fanRun (r : Fin 112) (p : Fin 5)
  /-- TOKEN_TAKE (R232). -/
  | tokenTake (r : Fin 112) (o : Fin 5)
  /-- TOKEN_LANDING (R236). -/
  | tokenLanding (r : Fin 112) (p : Fin 5) (clash : List Clash)
  /-- MEM_PORT_READ (R239). -/
  | memPortRead (r : Fin 112)
  /-- ROUTER_DONE (R242). -/
  | routerDone (r : Fin 112)
  /-- STALL_SENTINEL_EXPIRE (R247). -/
  | stallSentinelExpire (cuts : List Cut)
  /-- HATCH_ABORT (R248). -/
  | hatchAbort (ini : Ini) (cuts : List Cut)
  /-- HATCH_MODE_WRITE (R253). -/
  | hatchModeWrite (ini : Ini) (mode : BitVec 2)
  /-- LOAD_BLOCK_RECEIVE (R251). -/
  | loadBlockReceive (r : Fin 112)
  /-- LOAD_WINDOW_WRITE (R251). -/
  | loadWindowWrite (ini : Ini) (win : BitVec 16)
  /- CSI-2 ports (R257 to R271, R352). -/
  /-- LONG_PACKET_RECEIVE (R261). -/
  | longPacketReceive (n : Fin 8) (k : LongPkt)
  /-- FRAME_START_PACKET (R264). -/
  | frameStartPacket (n : Fin 8) (k : ShortPkt)
  /-- FRAME_END_PACKET (R264). -/
  | frameEndPacket (n : Fin 8) (k : ShortPkt)
  /-- LINE_MARKER_PACKET (R264). -/
  | lineMarkerPacket (n : Fin 8) (isEnd : Bool) (k : ShortPkt)
  /-- GENERIC_SHORT_PACKET (R260). -/
  | genericShortPacket (n : Fin 8) (dt : Fin 8) (k : ShortPkt)
  /-- PHY_BURST_ERROR (R265). -/
  | phyBurstError (n : Fin 8) (header : Bool)
  /-- LINK_ENABLE (R269). -/
  | linkEnable (ini : Ini) (p : CsiPort)
  /-- LINK_DISABLE (R269). -/
  | linkDisable (ini : Ini) (p : CsiPort)
  /-- LINK_DISABLE_TIMEOUT (R269). -/
  | linkDisableTimeout (p : CsiPort) (part : Option PartPkt := none)
  /-- LANE_ACTIVITY_WAKE (R267). -/
  | laneActivityWake (n : Fin 8)
  /-- PERIODIC_DESKEW (R259). -/
  | periodicDeskew (k : Fin 4)
  /-- PACKET_TRANSMIT (R262). -/
  | packetTransmit (k : Fin 4) (ue : Bool)
  /-- DESKEW_RECEIVE (R259). -/
  | deskewReceive (n : Fin 8) (ok : Bool)
  /-- LP11_STOP_STATE (R269). -/
  | lp11StopState (p : CsiPort)
  /-- ARR_HOLD_EXPIRE (R352). -/
  | arrHoldExpire (p : CsiPort)
  /- Tracers and Presses (R273 to R297). -/
  /-- INPUT_UNIT_ACCEPT (R273). -/
  | inputUnitAccept (n : Fin 8)
  /-- ENCODER_UNIT (R286). -/
  | encoderUnit (n : Fin 8) (j : Fin 4) (ue : List Nat)
  /-- TRACER_EVENT_SEND (R287). -/
  | tracerEventSend (n : Fin 8)
  /-- TRACER_STEP_CLOSE (R278). -/
  | tracerStepClose (n : Fin 8)
  /-- TRACER_FRAME_READY (R279). -/
  | tracerFrameReady (n : Fin 8)
  /-- PLACEMENT_TOKEN (R284). -/
  | placementToken (n : Fin 8) (ue : BitVec 16)
  /-- UNIT_RELEASE (R281). -/
  | unitRelease (n : Fin 8) (j : Fin 4)
  /-- PRESS_TOKEN_TAKE (R290). -/
  | pressTokenTake (k : Fin 4)
  /-- FRAME_TRAILER_SEND (R291). -/
  | frameTrailerSend (k : Fin 4)
  /-- READOUT_GROUP (R292). -/
  | readoutGroup (k : Fin 4)
  /-- ANNOTATION_SEND (R293). -/
  | annotationSend (k : Fin 4)
  /-- HEARTBEAT_SEND (R294). -/
  | heartbeatSend (k : Fin 4)
  /-- REPEAT_BURST (R297). -/
  | repeatBurst (k : Fin 4) (bytes : List Byte) (pkts : Nat)
  /- Rack queues (R306 to R323, R164). -/
  /-- RACK_PRODUCE (R308). -/
  | rackProduce (tied ue : Bool := false)
  /-- CONSUME_DUE (R164). -/
  | consumeDue (tied ue : Bool := false)
  /-- BLOCKED_PRODUCE_RETRY (R309). -/
  | blockedProduceRetry (q : BitVec 22) (ue : Bool := false)
  /-- RACK_CONSUME (R311). -/
  | rackConsume (claimant : Fin 128) (q : BitVec 22) (tied ue : Bool := false)
  /-- DQ_READ (R322). -/
  | dqRead (ini : Ini)
  /-- DQ_INIT (R322). -/
  | dqInit (ini : Ini)
  /-- DQ_DISABLE (R322). -/
  | dqDisable (ini : Ini)
  /-- CLAIM_P (R313). -/
  | claimP (ini : Ini)
  /-- CLAIM_C (R313). -/
  | claimC (ini : Ini)
  /-- RELEASE_P (R313). -/
  | releaseP (ini : Ini)
  /-- RELEASE_C (R313). -/
  | releaseC (ini : Ini)
  /-- REVOKE_P (R314). -/
  | revokeP (ini : Ini)
  /-- REVOKE_C (R314). -/
  | revokeC (ini : Ini)
  /-- FLUSH_ONE (R322). -/
  | flushOne (ini : Ini)
  /-- RESERVE (R319). -/
  | reserve (ini : Ini)
  /-- COMMIT (R319). -/
  | commit (ini : Ini)
  /-- SW_ABORT (R319). -/
  | swAbort (ini : Ini)
  /-- PEEK (R319). -/
  | peek (ini : Ini)
  /-- SW_RELEASE (R319). -/
  | swRelease (ini : Ini)
  /-- RESERVATION_TIMEOUT (R319). -/
  | reservationTimeout (q : BitVec 22)
  /-- RACK_START (R323). -/
  | rackStart (ini : Ini)
  /-- RACK_STOP (R323). -/
  | rackStop (ini : Ini)
  /-- RACK_FLUSH (R306). -/
  | rackFlush (ini : Ini)
  /- Memory integrity: Burnishers, correction, remapping, invalidation, raw access, refresh (R333 to R344). -/
  /-- SCRUB_READ (R341). -/
  | scrubRead (b : IntBlk) (vf : List Bool) (clash : Option Clash) (bitmap : Bool := false)
  /-- CORRECTION_WRITEBACK (R338). -/
  | correctionWriteback (b : IntBlk)
  /-- REMAP_WRITE (R340). -/
  | remapWrite (ini : Ini) (b : IntBlk) (k e : Fin 32) (v : Word)
  /-- LOG_CLEAR (R339). -/
  | logClear (ini : Ini) (b : IntBlk)
  /-- INVAL_GO (R333). -/
  | invalGo (ini : Ini) (m : Fin 4)
  /-- INVAL_DONE (R333). -/
  | invalDone (m : Fin 4)
  /-- RAW_READ (R344). -/
  | rawRead (ini : Ini) (b : IntBlk)
  /-- RAW_WRITE (R344). -/
  | rawWrite (ini : Ini) (b : IntBlk) (vf : List Bool)
  /-- RAW_GET (R344). -/
  | rawGet (ini : Ini) (b : IntBlk)
  /-- RAW_PUT (R344). -/
  | rawPut (ini : Ini) (b : IntBlk)
  /-- REFRESH_RATE_POLL (R337). -/
  | refreshRatePoll (m rate : Fin 4) (hot : Bool)
  /- Power domains, bands, sensors, the power policy and Hardground (R351 to R370). -/
  /-- VOTE_WRITE (R353). -/
  | voteWrite (ini : Ini) (cl : Fin 32) (w : Fin 8) (v : Word)
  /-- DOMAIN_RAISE (R357). -/
  | domainRaise (i : Fin 127)
  /-- WAKE_STEP_READY (R357). -/
  | wakeStepReady (i : Fin 127)
  /-- WAKE_STEP_TIMEOUT (R357). -/
  | wakeStepTimeout (i : Fin 127)
  /-- LOWER_HOLD_EXPIRE (R354). -/
  | lowerHoldExpire (i : Fin 127)
  /-- DOMAIN_ISOLATE (R355). -/
  | domainIsolate (i : Fin 127)
  /-- DRAIN_LIMIT_EXPIRE (R355). -/
  | drainLimitExpire (i : Fin 127)
  /-- FORCED_LOWER_TIMEOUT (R356). -/
  | forcedLowerTimeout (i : Fin 127)
  /-- SENSOR_SAMPLE (R362). -/
  | sensorSample (i : Fin 16) (reading : Option (BitVec 16))
  /-- RAIL_SAMPLE (R363). -/
  | railSample (r : Fin 9) (mw : BitVec 32)
  /-- CAUSE_CLEAR (R367). -/
  | causeClear (cause : Fin 5)
  /-- HG_KICK (R367). -/
  | hgKick (ini : Ini)
  /-- HG_RELEASE (R367). -/
  | hgRelease (ini : Ini)
  /-- HG_CFG_WRITE (R369). -/
  | hgCfgWrite (ini : Ini) (v : Word)
  /- Reset and boot (R387 to R405, R526). -/
  /-- RESET_ASSERT (R387). -/
  | resetAssert (cut : List (Fin 4))
  /-- RESET_RELEASE (R387). -/
  | resetRelease (cut : List (Fin 4))
  /-- BOOT_ROM (R387). -/
  | bootRom (selfOk flashOk : Bool)
  /-- BOOT_VERIFY (R388). -/
  | bootVerify (readOk : Bool)
  /-- BOOT_BIST (R389). -/
  | bootBist (v : Verdict)
  /-- BOOT_LOAD (R394). -/
  | bootLoad (env : LoadEnv)
  /-- REBOOT (R401). -/
  | reboot (ini : Ini)
  /- The I3C target: CCCs, transfers, in-band requests (R406 to R413, R422). -/
  /-- ENEC (R408). -/
  | enec (direct : Bool) (ev : Byte)
  /-- DISEC (R408). -/
  | disec (direct : Bool) (ev : Byte)
  /-- ENTAS (R408). -/
  | entas (direct : Bool)
  /-- ENTDAA (R408). -/
  | entdaa (a : BitVec 7) (won : Bool)
  /-- SETMWL (R408). -/
  | setmwl (direct : Bool) (v : BitVec 16)
  /-- SETMRL (R408). -/
  | setmrl (direct : Bool) (v : BitVec 16)
  /-- RSTACT (R408). -/
  | rstact (direct : Bool) (byte : Option Byte)
  /-- SETDASA (R408). -/
  | setdasa (a : BitVec 7)
  /-- SETNEWDA (R408). -/
  | setnewda (a : BitVec 7)
  /-- UNSUPPORTED_CCC (R408). -/
  | unsupportedCcc (direct : Bool)
  /-- PRIVATE_WRITE (R409). -/
  | privateWrite (ddr : Option Byte) (bytes : List Byte)
  /-- PRIVATE_READ (R409). -/
  | privateRead (ddr : Option Byte) (len : Fin 257)
  /-- I2C_TRANSFER (R410). -/
  | i2cTransfer (wr : List Byte) (rd : Fin 257)
  /-- HOT_JOIN_REQUEST (R413). -/
  | hotJoinRequest (acked : Bool)
  /-- IBI_REQUEST (R422). -/
  | ibiRequest (acked : Bool)
  /- Mailboxes, messages and the indirect port (R416 to R428). -/
  /-- MBOX_LOCK_READ (R417). -/
  | mboxLockRead (ini : Ini) (i : Fin 8) (tied : Bool := false)
  /-- MBOX_LOCK_RELEASE (R417). -/
  | mboxLockRelease (ini : Ini) (i : Fin 8)
  /-- MBOX_SEND (R418). -/
  | mboxSend (ini : Ini) (i : Fin 8) (len : BitVec 7)
  /-- MBOX_WITHDRAW (R418). -/
  | mboxWithdraw (ini : Ini) (i : Fin 8)
  /-- MBOX_TAKE (R418). -/
  | mboxTake (ini : Ini) (i : Fin 8)
  /-- MBOX_TIMEOUT_EXPIRE (R418). -/
  | mboxTimeoutExpire (i : Fin 8)
  /-- IND_READ (R428). -/
  | indRead (autoinc : Bool)
  /-- IND_WRITE (R428). -/
  | indWrite (autoinc : Bool)
  /-- IND_AUTOINC_WRITE (R428). -/
  | indAutoincWrite (v : Word)
  /- Attestation, tokens, JTAG and provisioning (R435 to R445). -/
  /-- ATT_GO (R445). -/
  | attGo (ini : Ini)
  /-- ATT_NEW_NONCE (R440). -/
  | attNewNonce (ini : Ini)
  /-- KS_TOKEN_SUBMIT (R440). -/
  | ksTokenSubmit (ini : Ini)
  /-- KS_NEW_NONCE (R440). -/
  | ksNewNonce (ini : Ini)
  /-- SAMPLE_PRELOAD (R442). -/
  | samplePreload (pins load : BitVec 74)
  /-- EXTEST (R442). -/
  | extest (pins load : BitVec 74)
  /-- TOKEN (R442). -/
  | token (t : BitVec 3552)
  /-- PROVISION (R435). -/
  | provision (hash : BitVec 512)
  /-- PROVISION_VERIFY (R435). -/
  | provisionVerify (ok : Bool)
  /-- JTAG_DEBUG (R443). -/
  | jtagDebug (op : DebugOp) (tied : Bool := false)
  /- Redundant pair operation (R449 to R465). -/
  /-- PAIR_KICK (R451). -/
  | pairKick (ini : Ini)
  /-- PAIR_RESYNC_CMD (R465). -/
  | pairResyncCmd (ini : Ini)
  /-- DEMOTE (R465). -/
  | demote (ini : Ini)
  /-- LEAVE (R465). -/
  | leave (ini : Ini)
  /- TIMEBASE and the timers (R467 to R479). -/
  /-- TIMEBASE_TICK (R467). -/
  | timebaseTick (ticks : BitVec 32) (trig : BitVec 4)
  /-- TIMER_COUNT_TICK (R470). -/
  | timerCountTick (i : Fin 8)
  /-- TB_LO_READ (R468). -/
  | tbLoRead (ini : Ini)
  /-- TB_HI_READ (R468). -/
  | tbHiRead (ini : Ini)
  /-- TIMER_COUNT_WRITE (R471). -/
  | timerCountWrite (ini : Ini) (i : Fin 8) (v : Word)
  /-- TIMER_PERIOD_WRITE (R471). -/
  | timerPeriodWrite (ini : Ini) (i : Fin 8) (v : Word)
  /-- LINKED_LOW_READ (R473). -/
  | linkedLowRead (ini : Ini) (i : Fin 8) (which : Fin 3)
  /-- GSTART (R475). -/
  | gstart (ini : Ini) (mask : BitVec 8)
  /-- CAPTURE_EDGE (R477). -/
  | captureEdge (i : Fin 8) (rise : Bool)
  /-- CAPQ_VAL_READ (R478). -/
  | capqValRead (ini : Ini) (i : Fin 8)
  /-- TRIG_PULSE_END (R479). -/
  | trigPulseEnd (j : Fin 2)
  /- The Proof log, faults and recovery (R484 to R512). -/
  /-- RECORD_COMMIT (R484). -/
  | recordCommit (vf : List Bool)
  /-- CLEAR_PAGE_ZERO (R495). -/
  | clearPageZero (vf : List Bool)
  /-- HG_DECLARE (R504). -/
  | hgDeclare (ini : Ini) (party : Fin 128) (tied : Bool := false)
  /-- DECLARE_SWEEP_DONE (R509). -/
  | declareSweepDone (party : Fin 128)
  /-- SCRIBE_WD_EXPIRE (R510). -/
  | scribeWdExpire (n : Fin 4)
  /-- SCRIBE_RESTART (R510). -/
  | scribeRestart (n : Fin 4)
  /-- SCRIBE_KICK (R510). -/
  | scribeKick (ini : Ini) (mask : BitVec 4)
  /-- SCRIBE_RESTART_TIMEOUT (R510). -/
  | scribeRestartTimeout (n : Fin 4)
  /-- PART_RESTART (R512). -/
  | partRestart (ini : Ini)
  /- Commands without operands, in the same order of families. -/
  /-- STEP_ADVANCE (R157). -/
  | stepAdvance
  /-- DELAY_UNIT_INJECT (R162). -/
  | delayUnitInject
  /-- STIPPLE_STOPPED (R167). -/
  | stippleStopped
  /-- HATCH_FRAME_START (R241). -/
  | hatchFrameStart
  /-- FRAME_COMPLETE (R242). -/
  | frameComplete
  /-- ABORT_COMPLETE (R248). -/
  | abortComplete
  /-- REWIND_TIMEOUT (R248). -/
  | rewindTimeout
  /-- RH_IN_RECORD (R317). -/
  | rhInRecord
  /-- RH_OUT_RECORD (R317). -/
  | rhOutRecord
  /-- RACK_RUNNING (R323). -/
  | rackRunning
  /-- RACK_STOPPED (R323). -/
  | rackStopped
  /-- I3C_ADDRESS_WAKE (R360). -/
  | i3cAddressWake
  /-- BAND_CHANGE_START (R361). -/
  | bandChangeStart
  /-- BAND_CHANGE_END (R361). -/
  | bandChangeEnd
  /-- POWER_POLICY_STEP (R366). -/
  | powerPolicyStep
  /-- CAP_EXCEEDED (R367). -/
  | capExceeded
  /-- THERMAL_WARN (R367). -/
  | thermalWarn
  /-- THERMAL_TRIP (R367). -/
  | thermalTrip
  /-- TRIP_LIMIT_TIMER (R367). -/
  | tripLimitTimer
  /-- MC_HOT_CAUSE (R367). -/
  | mcHotCause
  /-- SENSOR_CAUSE (R367). -/
  | sensorCause
  /-- WATCHDOG_EXPIRE (R367). -/
  | watchdogExpire
  /-- REGULATOR_FLOOR_TIMEOUT (R368). -/
  | regulatorFloorTimeout
  /-- THERMAL_SHUTDOWN (R370). -/
  | thermalShutdown
  /-- POR_ASSERT (R387). -/
  | porAssert
  /-- AON_BROWNOUT (R526). -/
  | aonBrownout
  /-- BOOT_FUSE (R387). -/
  | bootFuse
  /-- BOOT_WAVES (R393). -/
  | bootWaves
  /-- BOOT_READY (R387). -/
  | bootReady
  /-- BOOT_TIME_LIMIT (R397). -/
  | bootTimeLimit
  /-- IMAGE_LOAD_WRITE (R400). -/
  | imageLoadWrite
  /-- IMAGE_LOAD_ERASE (R400). -/
  | imageLoadErase
  /-- IMAGE_LOAD_END (R400). -/
  | imageLoadEnd
  /-- FLASH_OPERATION_DONE (R400). -/
  | flashOperationDone
  /-- FLASH_SESSION_REVOKE (R399). -/
  | flashSessionRevoke
  /-- RSTDAA (R408). -/
  | rstdaa
  /-- ENTHDR0 (R408). -/
  | enthdr0
  /-- TARGET_RESET_PATTERN (R408). -/
  | targetResetPattern
  /-- GETMWL (R408). -/
  | getmwl
  /-- GETMRL (R408). -/
  | getmrl
  /-- GETPID (R407). -/
  | getpid
  /-- GETBCR (R407). -/
  | getbcr
  /-- GETDCR (R407). -/
  | getdcr
  /-- GETSTATUS (R408). -/
  | getstatus
  /-- GETMXDS (R408). -/
  | getmxds
  /-- GETCAPS (R408). -/
  | getcaps
  /-- I3C_PROTOCOL_ERROR (R408). -/
  | i3cProtocolError
  /-- PING (R425). -/
  | ping
  /-- GET_VERSION (R425). -/
  | getVersion
  /-- GET_STATE (R425). -/
  | getState
  /-- READ_FAULTS (R425). -/
  | readFaults
  /-- OPEN_WINDOW (R427). -/
  | openWindow
  /-- CLOSE_WINDOW (R425). -/
  | closeWindow
  /-- FLASH_ERASE (R425). -/
  | flashErase
  /-- FLASH_WRITE (R425). -/
  | flashWrite
  /-- FLASH_END (R425). -/
  | flashEnd
  /-- PROOF_CLEAR (R425). -/
  | proofClear
  /-- MESSAGE_PART (R424). -/
  | messagePart
  /-- IND_AUTOINC_READ (R428). -/
  | indAutoincRead
  /-- IND_ACCESS_DONE (R428). -/
  | indAccessDone
  /-- ATT_REPORT_DONE (R444). -/
  | attReportDone
  /-- TOKEN_CHECK_DONE (R440). -/
  | tokenCheckDone
  /-- BYPASS (R442). -/
  | bypass
  /-- IDCODE (R442). -/
  | idcode
  /-- CLAMP (R442). -/
  | clamp
  /-- HIGHZ (R442). -/
  | highz
  /-- CHALLENGE (R442). -/
  | challenge
  /-- JTAG_STATUS (R442). -/
  | jtagStatus
  /-- RELOCK (R443). -/
  | relock
  /-- JTAG_SCAN (R442). -/
  | jtagScan
  /-- TEST_LOGIC_RESET (R442). -/
  | testLogicReset
  /-- HELLO (R449). -/
  | hello
  /-- JOIN_WAIT_EXPIRE (R449). -/
  | joinWaitExpire
  /-- DRAFT (R453). -/
  | draft
  /-- KEEPALIVE (R452). -/
  | keepalive
  /-- FORCED (R453). -/
  | forced
  /-- DIVERGE (R460). -/
  | diverge
  /-- DECIDE (R460). -/
  | decideMsg
  /-- RESYNC_REQ (R462). -/
  | resyncReq
  /-- JOIN (R462). -/
  | join
  /-- CUTOVER (R462). -/
  | cutover
  /-- NACK (R462). -/
  | nack
  /-- STATE_BLOCK (R461). -/
  | stateBlock
  /-- RESYNC_BLOCK_SEND (R462). -/
  | resyncBlockSend
  /-- STEP_DIGEST (R457). -/
  | stepDigest
  /-- FRAME_DIGEST (R457). -/
  | frameDigest
  /-- SUSPECT_WAIT_EXPIRE (R460). -/
  | suspectWaitExpire
  /-- HB_TOGGLE (R451). -/
  | hbToggle
  /-- MIRROR_KEEPALIVE_DUE (R451). -/
  | mirrorKeepaliveDue
  /-- PARTNER_HB_LOST (R458). -/
  | partnerHbLost
  /-- MIRROR_SILENT (R458). -/
  | mirrorSilent
  /-- MATE_HB_IN_EDGE (R451). -/
  | mateHbInEdge
  /-- PAIR_KICK_EXPIRE (R451). -/
  | pairKickExpire
  /-- RECORD_STAGE (R493). -/
  | recordStage
  /-- TIME_RECORD (R488). -/
  | timeRecord
  /-- BUCKET_REFILL (R491). -/
  | bucketRefill
  deriving DecidableEq, Repr

end Sys2Proof
end

