-- ==== Sys2Proof/Decode.lean ====
section
/-! DEFINITION. Commands as words.  No row of spec/opcode_table.json gives bits: a command is what reaches the part on a
pin, a link or the register path, or an event of its own, and none has an encoding. -/

namespace Sys2Proof

/-- The command that a word spells by the table's bits: none, since the table gives no row any bits. -/
def decodeTableWord (_nbits _w : Nat) : Option Instr := none

end Sys2Proof
end

