-- ==== Sys2Proof/Machine/Crypto.lean ====
section
/-! DEFINITION. The hash and signature functions that the image names (R378): SHA-512 (FIPS 180-4), and the
verification of ECDSA signatures over P-521 (FIPS 186-5). -/

namespace Sys2Proof.Machine

/-! ### SHA-512 -/

/-- Rotation of a 64-bit word to the right. -/
def rotr64 (x k : Nat) : Nat := (x >>> k ||| x <<< (64 - k)) % 2 ^ 64

/-- The 80 round constants. -/
def shaK : List Nat :=
  [0x428A2F98D728AE22, 0x7137449123EF65CD, 0xB5C0FBCFEC4D3B2F,
   0xE9B5DBA58189DBBC, 0x3956C25BF348B538, 0x59F111F1B605D019,
   0x923F82A4AF194F9B, 0xAB1C5ED5DA6D8118, 0xD807AA98A3030242,
   0x12835B0145706FBE, 0x243185BE4EE4B28C, 0x550C7DC3D5FFB4E2,
   0x72BE5D74F27B896F, 0x80DEB1FE3B1696B1, 0x9BDC06A725C71235,
   0xC19BF174CF692694, 0xE49B69C19EF14AD2, 0xEFBE4786384F25E3,
   0x0FC19DC68B8CD5B5, 0x240CA1CC77AC9C65, 0x2DE92C6F592B0275,
   0x4A7484AA6EA6E483, 0x5CB0A9DCBD41FBD4, 0x76F988DA831153B5,
   0x983E5152EE66DFAB, 0xA831C66D2DB43210, 0xB00327C898FB213F,
   0xBF597FC7BEEF0EE4, 0xC6E00BF33DA88FC2, 0xD5A79147930AA725,
   0x06CA6351E003826F, 0x142929670A0E6E70, 0x27B70A8546D22FFC,
   0x2E1B21385C26C926, 0x4D2C6DFC5AC42AED, 0x53380D139D95B3DF,
   0x650A73548BAF63DE, 0x766A0ABB3C77B2A8, 0x81C2C92E47EDAEE6,
   0x92722C851482353B]
  ++ [0xA2BFE8A14CF10364, 0xA81A664BBC423001, 0xC24B8B70D0F89791,
   0xC76C51A30654BE30, 0xD192E819D6EF5218, 0xD69906245565A910,
   0xF40E35855771202A, 0x106AA07032BBD1B8, 0x19A4C116B8D2D0C8,
   0x1E376C085141AB53, 0x2748774CDF8EEB99, 0x34B0BCB5E19B48A8,
   0x391C0CB3C5C95A63, 0x4ED8AA4AE3418ACB, 0x5B9CCA4F7763E373,
   0x682E6FF3D6B2B8A3, 0x748F82EE5DEFB2FC, 0x78A5636F43172F60,
   0x84C87814A1F0AB72, 0x8CC702081A6439EC, 0x90BEFFFA23631E28,
   0xA4506CEBDE82BDE9, 0xBEF9A3F7B2C67915, 0xC67178F2E372532B,
   0xCA273ECEEA26619C, 0xD186B8C721C0C207, 0xEADA7DD6CDE0EB1E,
   0xF57D4F7FEE6ED178, 0x06F067AA72176FBA, 0x0A637DC5A2C898A6,
   0x113F9804BEF90DAE, 0x1B710B35131C471B, 0x28DB77F523047D84,
   0x32CAAB7B40C72493, 0x3C9EBE0A15C9BEBC, 0x431D67C49C100D4C,
   0x4CC5D4BECB3E42B6, 0x597F299CFC657E2A, 0x5FCB6FAB3AD6FAEC,
   0x6C44198C4A475817]

/-- The initial hash value. -/
def shaH : List Nat :=
  [0x6A09E667F3BCC908, 0xBB67AE8584CAA73B, 0x3C6EF372FE94F82B,
   0xA54FF53A5F1D36F1, 0x510E527FADE682D1, 0x9B05688C2B3E6C1F,
   0x1F83D9ABFB41BD6B, 0x5BE0CD19137E2179]

/-- The big-endian number of a byte list. -/
def beNat (l : List Byte) : Nat := l.foldl (fun a b => 256 * a + b.toNat) 0

/-- The n big-endian bytes of a number. -/
def beBytes (n x : Nat) : List Byte := (leBytes n x).reverse

/-- A message padded to blocks of 128 bytes. -/
def shaPad (l : List Byte) : List Byte :=
  l ++ [0x80] ++ List.replicate ((239 - l.length % 128) % 128) 0 ++ beBytes 16 (8 * l.length)

/-- The message schedule as its last 16 words, newest first, and all of it, newest first. -/
def shaSched : Nat → List Nat → List Nat
  | 0, w => w
  | k + 1, w =>
    let s0 (x : Nat) : Nat := rotr64 x 1 ^^^ rotr64 x 8 ^^^ (x >>> 7)
    let s1 (x : Nat) : Nat := rotr64 x 19 ^^^ rotr64 x 61 ^^^ (x >>> 6)
    shaSched k (((s1 (w.getD 1 0) + w.getD 6 0 + s0 (w.getD 14 0) + w.getD 15 0) % 2 ^ 64) :: w)

/-- One round on the working variables a to h. -/
def shaRound (v : List Nat) (kw : Nat × Nat) : List Nat :=
  match v with
  | [a, b, c, d, e, f, g, h] =>
    let t1 := h + (rotr64 e 14 ^^^ rotr64 e 18 ^^^ rotr64 e 41) + ((e &&& f) ^^^ ((2 ^ 64 - 1 - e) &&& g)) + kw.1 + kw.2
    let t2 := (rotr64 a 28 ^^^ rotr64 a 34 ^^^ rotr64 a 39) + ((a &&& b) ^^^ (a &&& c) ^^^ (b &&& c))
    [(t1 + t2) % 2 ^ 64, a, b, c, (d + t1) % 2 ^ 64, e, f, g]
  | _ => v

/-- One block of 128 bytes compressed into the hash value. -/
def shaBlock (hv : List Nat) (blk : List Byte) : List Nat :=
  let w0 := ((List.range 16).map (fun i => beNat ((blk.drop (8 * i)).take 8))).reverse
  let w := (shaSched 64 w0).reverse
  let v := (shaK.zip w).foldl shaRound hv
  (hv.zip v).map (fun p => (p.1 + p.2) % 2 ^ 64)

/-- SHA-512 of a byte string. -/
def sha512 (l : List Byte) : List Byte :=
  let m := shaPad l
  ((List.range (m.length / 128)).foldl (fun hv i => shaBlock hv ((m.drop (128 * i)).take 128)) shaH).flatMap (beBytes 8)

/-! ### ECDSA over P-521 -/

/-- The prime of the field, the order of the base point, and the curve's b and base point; its a is -3. -/
def ecP : Nat := 2 ^ 521 - 1
def ecN : Nat :=
  0x01FFFFFFFFFFFFFFFFFFFFFFFFFFFFFFFFFFFFFFFFFFFFFFFFFFFFFFFFFFFFFFFFFA51868783BF2F966B7FCC0148F709A5D03BB5C9B8899C47AEBB6FB71E91386409
def ecB : Nat :=
  0x0051953EB9618E1C9A1F929A21A0B68540EEA2DA725B99B315F3B8B489918EF109E156193951EC7E937B1652C0BD3BB1BF073573DF883D2C34F1EF451FD46B503F00
def ecGx : Nat :=
  0x00C6858E06B70404E9CD9E3ECB662395B4429C648139053FB521F828AF606B4D3DBAA14B5E77EFE75928FE1DC127A2FFA8DE3348B3C1856A429BF97E7E31C2E5BD66
def ecGy : Nat :=
  0x011839296A789A3BC0045C8A5FB42C7D1BD998F54449579B446817AFBD17273E662C97EE72995EF42640C550B9013FAD0761353C7086A272C24088BE94769FD16650

/-- x^k mod m, the exponent's bits taken from bit 0 of a number of at most fuel bits. -/
def powMod (m : Nat) : Nat → Nat → Nat → Nat
  | 0, _, _ => 1 % m
  | fuel + 1, x, k =>
    let r := powMod m fuel (x * x % m) (k / 2)
    if k % 2 = 1 then x * r % m else r

/-- The inverse modulo a prime of at most 521 bits. -/
def invMod (m x : Nat) : Nat := powMod m 521 x (m - 2)

/-- A point of the curve: none is the point at infinity. -/
abbrev EcPoint := Option (Nat × Nat)

/-- The sum of two points. -/
def ecAdd (x y : EcPoint) : EcPoint :=
  match x, y with
  | none, q => q
  | q, none => q
  | some p, some q =>
    let line (l : Nat) : EcPoint :=
      let x3 := (l * l + 2 * ecP - p.1 - q.1) % ecP
      some (x3, (l * (p.1 + ecP - x3) + ecP - p.2) % ecP)
    if p.1 = q.1 then
      (if (p.2 + q.2) % ecP = 0 then none
       else line ((3 * p.1 * p.1 + ecP - 3) * invMod ecP (2 * p.2 % ecP) % ecP))
    else line ((q.2 + ecP - p.2) * invMod ecP ((q.1 + ecP - p.1) % ecP) % ecP)

/-- A multiple of a point by a number of at most fuel bits. -/
def ecMul : Nat → Nat → EcPoint → EcPoint
  | 0, _, _ => none
  | fuel + 1, k, q =>
    let r := ecMul fuel (k / 2) (ecAdd q q)
    if k % 2 = 1 then ecAdd q r else r

/-- The point that a public key names: 133 bytes, 0x04, X, Y, on the curve. -/
def ecKey (pub : List Byte) : EcPoint :=
  let x := beNat ((pub.drop 1).take 66)
  let y := beNat ((pub.drop 67).take 66)
  if pub.length = 133 ∧ pub.headD 0 = 0x04 ∧ x < ecP ∧ y < ecP ∧
      y * y % ecP = (x * x * x + (ecP - 3) * x + ecB) % ecP then some (x, y) else none

/-- Whether a signature, r then s, of a message verifies under a public key. -/
def ecdsaVerify (pub msg sig : List Byte) : Bool :=
  match ecKey pub with
  | none => false
  | some q =>
    let r := beNat (sig.take 66)
    let s := beNat (sig.drop 66)
    let e := beNat (sha512 msg)
    let w := invMod ecN s
    decide (sig.length = 132) && decide (0 < r) && decide (r < ecN) && decide (0 < s) && decide (s < ecN) &&
    (match ecAdd (ecMul 521 (e * w % ecN) (some (ecGx, ecGy))) (ecMul 521 (r * w % ecN) (some q)) with
      | none => false
      | some v => decide (v.1 % ecN = r))

end Sys2Proof.Machine
end

