-- ==== Sys2Proof/Config.lean ====
section
/-! DEFINITION. What an implementation fixes and the spec leaves open: free values and functions without a
body.  Nothing in Lean can evaluate them or prove a value of them; a statement that holds, holds for every
choice of them. -/

namespace Sys2Proof

/-- The free values of the model (log entry 2): the n-th value that the spec leaves open.
(DESIGN CHOICE, log entry 2.) -/
opaque Config.freeValue : Nat → BitVec 256

/-- ECDSA signing by the device key (R432, R444): the key has no address (R35) and is not state of the model.
(DESIGN CHOICE, log entry 82.) -/
opaque Config.ecdsaSign : List Byte → List Byte

/-- The BCH check field of an SRAM word (R326): strength, 256 data bits as 32 bytes.
(DEDUCED, log entry 10; DESIGN CHOICE, log entry 82.) -/
opaque Config.bchSram : Nat → List Byte → BitVec 27

/-- The check bytes of a plate page (R329): strength, 512 data bytes. -/
opaque Config.bchPlate : Nat → List Byte → List Byte

/-- The check bytes of an LPDDR4X page (R332): strength, 1,024 data bytes. -/
opaque Config.bchPage : Nat → List Byte → List Byte

/-- What a raw content with more than t + 1 bit errors decodes to (R325): none when it is reported
uncorrectable, otherwise the data it is miscorrected to. (DEDUCED, log entry 13.) -/
opaque Config.beyondCode : List Byte → Option (List Byte)

/-- The contents of the boot ROM (R32), which the spec does not list. (DESIGN CHOICE, log entry 82.) -/
opaque Config.bootRom : Nat → Byte

/-- The SHA-512 of the Lemrid debug key, and those of the Lemrid firmware keys, in the boot ROM (R434). -/
opaque Config.debugKeyHash : List Byte
opaque Config.firmwareKeyHashes : List (List Byte)

/-- The ROM version that GET_VERSION reports (R425). -/
opaque Config.romVersion : BitVec 32

end Sys2Proof
end

