-- ==== Sys2Proof/Machine/Fields.lean ====
section
/-! DEFINITION. The names of the spec's register fields: a field is the device address of its register, its low
bit and its width.  A register with one field bears the register's name alone.  Registers banked per initiator
(R318) take the initiator's number as last argument and lie at their address plus 2^40 times that number.
Integrity blocks (R346) take the address of their block as first argument. -/

namespace Sys2Proof.Machine

/-- A register field: device address of the register, low bit, width (R8). -/
structure Fld where
  addr : Nat
  lo : Nat
  len : Nat
  deriving DecidableEq, Repr

/-- The address distance between the banks of two initiators (R318). -/
abbrev bankStride : Nat := 0x10000000000

namespace F

/-! TOPO (01_organisation.md) -/
def TOPO_ID_PART : Fld := ⟨0x0010200000, 16, 16⟩
def TOPO_ID_REV : Fld := ⟨0x0010200000, 8, 8⟩
def TOPO_ID_GRADE : Fld := ⟨0x0010200000, 0, 2⟩
def TOPO_SITE_EN_GRAVER_SPARE_COL (r : Nat) : Fld := ⟨0x0010200100 + 4 * r, 18, 4⟩
def TOPO_SITE_EN_ETCH_SPARE_COL (r : Nat) : Fld := ⟨0x0010200100 + 4 * r, 14, 4⟩
def TOPO_SITE_EN_EN (r : Nat) : Fld := ⟨0x0010200100 + 4 * r, 0, 14⟩
def TOPO_SITE_STATUS_BIST_FAIL (r : Nat) : Fld := ⟨0x0010200200 + 4 * r, 16, 14⟩
def TOPO_SITE_STATUS_FUSE_DIS (r : Nat) : Fld := ⟨0x0010200200 + 4 * r, 0, 14⟩
def TOPO_ETCH_SITE_VALID (n : Nat) : Fld := ⟨0x0010200400 + 4 * n, 31, 1⟩
def TOPO_ETCH_SITE_ROW (n : Nat) : Fld := ⟨0x0010200400 + 4 * n, 4, 3⟩
def TOPO_ETCH_SITE_COL (n : Nat) : Fld := ⟨0x0010200400 + 4 * n, 0, 4⟩
def TOPO_GRAVER_SITE_VALID (n : Nat) : Fld := ⟨0x0010200500 + 4 * n, 31, 1⟩
def TOPO_GRAVER_SITE_ROW (n : Nat) : Fld := ⟨0x0010200500 + 4 * n, 4, 3⟩
def TOPO_GRAVER_SITE_COL (n : Nat) : Fld := ⟨0x0010200500 + 4 * n, 0, 4⟩

/-! BOOT (14_boot_and_configuration.md) -/
def BOOT_STATUS_STATE : Fld := ⟨0x0010200800, 28, 4⟩
def BOOT_STATUS_IMAGE_OK : Fld := ⟨0x0010200800, 27, 1⟩
def BOOT_STATUS_CAUSE : Fld := ⟨0x0010200800, 0, 16⟩
def BOOT_CTRL_REBOOT : Fld := ⟨0x0010200804, 1, 1⟩
def BOOT_CTRL_RECOVERY_HOLD : Fld := ⟨0x0010200804, 0, 1⟩
def BOOT_READY_TIME : Fld := ⟨0x0010200808, 0, 32⟩
def BOOT_IMAGE_LEN : Fld := ⟨0x001020080C, 0, 32⟩
def BOOT_FW_VERSION : Fld := ⟨0x0010200810, 0, 32⟩
def BOOT_LOAD_STATS_ROUNDS : Fld := ⟨0x0010200814, 30, 2⟩
def BOOT_LOAD_STATS_SUBST : Fld := ⟨0x0010200814, 16, 8⟩
def BOOT_LOAD_STATS_RESENT : Fld := ⟨0x0010200814, 0, 16⟩
def BOOT_XSPI_MODE_8D : Fld := ⟨0x0010200818, 31, 1⟩
def BOOT_XSPI_CS1_PRESENT : Fld := ⟨0x0010200818, 30, 1⟩
def BOOT_XSPI_MHZ : Fld := ⟨0x0010200818, 16, 8⟩
def BOOT_XSPI_CS0_LOG2 : Fld := ⟨0x0010200818, 8, 8⟩
def BOOT_XSPI_CS1_LOG2 : Fld := ⟨0x0010200818, 0, 8⟩
def BOOT_FLASH_SESSION_ACTIVE : Fld := ⟨0x001020081C, 31, 1⟩
def BOOT_FLASH_SESSION_OWNER : Fld := ⟨0x001020081C, 16, 5⟩
def BOOT_NEXT_SEQ : Fld := ⟨0x0010200820, 0, 32⟩
def BOOT_IMGLOAD_ERR : Fld := ⟨0x0010200824, 0, 32⟩
def BOOT_ERR_INFO_SECTION : Fld := ⟨0x0010200828, 24, 8⟩
def BOOT_ERR_INFO_RECORD : Fld := ⟨0x0010200828, 0, 24⟩

/-! CONTRACT (02_execution_model.md) -/
def CONTRACT_STATUS_TRANSITION : Fld := ⟨0x0010080000, 15, 1⟩
def CONTRACT_STATUS_VB_TARGET : Fld := ⟨0x0010080000, 12, 3⟩
def CONTRACT_STATUS_VB : Fld := ⟨0x0010080000, 8, 3⟩
def CONTRACT_STATUS_TB : Fld := ⟨0x0010080000, 4, 2⟩
def CONTRACT_STATUS_DRAFT : Fld := ⟨0x0010080000, 0, 2⟩
def CONTRACT_TB_CFG_HYST : Fld := ⟨0x0010080004, 8, 8⟩
def CONTRACT_TB_CFG_GUARD : Fld := ⟨0x0010080004, 0, 8⟩
def CONTRACT_MARGIN : Fld := ⟨0x0010080008, 0, 16⟩
def CONTRACT_OVERRUN : Fld := ⟨0x0010080010, 0, 32⟩
def CONTRACT_ARB_TIES : Fld := ⟨0x0010080014, 0, 32⟩
def CONTRACT_LAST_EXCESS : Fld := ⟨0x0010080018, 0, 32⟩

/-! PWR (13_power_and_thermal.md) -/
def PWR_CTRL_AON_SLEEP : Fld := ⟨0x0010000000, 31, 1⟩
def PWR_CTRL_HOLD : Fld := ⟨0x0010000000, 0, 16⟩
def PWR_DRAIN_LIMIT : Fld := ⟨0x0010000004, 0, 32⟩
def PWR_BAND_REQ : Fld := ⟨0x0010000008, 0, 3⟩
def PWR_ARR_HOLD : Fld := ⟨0x001000000C, 0, 32⟩
def PWR_FAULT_FORCED_DISCARD : Fld := ⟨0x0010000010, 3, 1⟩
def PWR_FAULT_WAKE : Fld := ⟨0x0010000010, 2, 1⟩
def PWR_FAULT_NO_BOUND : Fld := ⟨0x0010000010, 1, 1⟩
def PWR_FAULT_DRAIN : Fld := ⟨0x0010000010, 0, 1⟩
def PWR_STATE (w : Nat) : Fld := ⟨0x0010000040 + 4 * w, 0, 32⟩
def PWR_WAKES : Fld := ⟨0x0010000080, 0, 32⟩
def PWR_DRAIN_FAIL : Fld := ⟨0x0010000084, 0, 32⟩
def PWR_BAND_CHANGES : Fld := ⟨0x0010000088, 0, 32⟩
def PWR_TS_VALID (i : Nat) : Fld := ⟨0x0010000400 + 4 * i, 31, 1⟩
def PWR_TS_TEMP (i : Nat) : Fld := ⟨0x0010000400 + 4 * i, 0, 16⟩
def PWR_TS_MAX_VALID : Fld := ⟨0x0010000440, 31, 1⟩
def PWR_TS_MAX_INDEX : Fld := ⟨0x0010000440, 16, 4⟩
def PWR_TS_MAX_TEMP : Fld := ⟨0x0010000440, 0, 16⟩
def PWR_RAIL_POWER (r : Nat) : Fld := ⟨0x0010000500 + 16 * r, 0, 32⟩
def PWR_RAIL_ENERGY_LO (r : Nat) : Fld := ⟨0x0010000504 + 16 * r, 0, 32⟩
def PWR_RAIL_ENERGY_HI (r : Nat) : Fld := ⟨0x0010000508 + 16 * r, 0, 32⟩
def PWR_PKG_POWER : Fld := ⟨0x0010000600, 0, 32⟩
def PWR_PKG_ENERGY_LO : Fld := ⟨0x0010000604, 0, 32⟩
def PWR_PKG_ENERGY_HI : Fld := ⟨0x0010000608, 0, 32⟩
def PWR_VOTE (c w : Nat) : Fld := ⟨0x0010001000 + 32 * c + 4 * w, 0, 32⟩

/-! HG (13_power_and_thermal.md) -/
def HG_STATUS_FORCED : Fld := ⟨0x0010100000, 31, 1⟩
def HG_STATUS_LIMITING : Fld := ⟨0x0010100000, 30, 1⟩
def HG_STATUS_SHUTDOWN : Fld := ⟨0x0010100000, 29, 1⟩
def HG_STATUS_SENSOR : Fld := ⟨0x0010100000, 4, 1⟩
def HG_STATUS_MC_HOT : Fld := ⟨0x0010100000, 3, 1⟩
def HG_STATUS_WATCHDOG : Fld := ⟨0x0010100000, 2, 1⟩
def HG_STATUS_TRIP : Fld := ⟨0x0010100000, 1, 1⟩
def HG_STATUS_CAP : Fld := ⟨0x0010100000, 0, 1⟩
def HG_CFG_CAP : Fld := ⟨0x0010100004, 24, 8⟩
def HG_CFG_WARN : Fld := ⟨0x0010100004, 16, 8⟩
def HG_CFG_WD_MS : Fld := ⟨0x0010100004, 0, 16⟩
def HG_KICK : Fld := ⟨0x0010100008, 0, 1⟩
def HG_RELEASE : Fld := ⟨0x001010000C, 0, 1⟩
def HG_FAULT_SENSOR : Fld := ⟨0x0010100010, 5, 1⟩
def HG_FAULT_WATCHDOG : Fld := ⟨0x0010100010, 4, 1⟩
def HG_FAULT_SHUTDOWN : Fld := ⟨0x0010100010, 3, 1⟩
def HG_FAULT_TRIP : Fld := ⟨0x0010100010, 2, 1⟩
def HG_FAULT_WARN : Fld := ⟨0x0010100010, 1, 1⟩
def HG_FAULT_CAP : Fld := ⟨0x0010100010, 0, 1⟩
def HG_TRIPS : Fld := ⟨0x0010100020, 0, 32⟩
def HG_LIMIT_TIME : Fld := ⟨0x0010100024, 0, 32⟩
def HG_MAX_TEMP : Fld := ⟨0x0010100028, 0, 16⟩
def HG_DECLARE : Fld := ⟨0x0010100100, 0, 7⟩
def HG_DECLARED (w : Nat) : Fld := ⟨0x0010100104 + 4 * w, 0, 32⟩
def HG_SCRIBE_KICK : Fld := ⟨0x0010100120, 0, 4⟩
def HG_SCRIBE_WD : Fld := ⟨0x0010100124, 0, 16⟩
def HG_SCRIBE_STATE_S3 : Fld := ⟨0x0010100128, 6, 2⟩
def HG_SCRIBE_STATE_S2 : Fld := ⟨0x0010100128, 4, 2⟩
def HG_SCRIBE_STATE_S1 : Fld := ⟨0x0010100128, 2, 2⟩
def HG_SCRIBE_STATE_S0 : Fld := ⟨0x0010100128, 0, 2⟩
def HG_CMD : Fld := ⟨0x001010012C, 0, 2⟩
def HG_RETIRE (r : Nat) : Fld := ⟨0x0010100140 + 4 * r, 0, 14⟩
def HG_FR_NEWEST_VALID : Fld := ⟨0x0010100180, 31, 1⟩
def HG_FR_NEWEST_UNIT : Fld := ⟨0x0010100180, 16, 8⟩
def HG_FR_NEWEST_CODE : Fld := ⟨0x0010100180, 0, 16⟩
def HG_FR_RAISED : Fld := ⟨0x0010100184, 0, 32⟩
def HG_FR_FAULT_RESTART_FAIL : Fld := ⟨0x0010100188, 3, 1⟩
def HG_FR_FAULT_BANK_REVOKED : Fld := ⟨0x0010100188, 2, 1⟩
def HG_FR_FAULT_SCRIBE_WD : Fld := ⟨0x0010100188, 1, 1⟩
def HG_FR_FAULT_DECLARE : Fld := ⟨0x0010100188, 0, 1⟩
def HG_FR_HIST_VALID (i : Nat) : Fld := ⟨0x0010100200 + 4 * i, 31, 1⟩
def HG_FR_HIST_UNIT (i : Nat) : Fld := ⟨0x0010100200 + 4 * i, 16, 8⟩
def HG_FR_HIST_CODE (i : Nat) : Fld := ⟨0x0010100200 + 4 * i, 0, 16⟩

/-! PAIR (17_redundant_pair.md) -/
def PAIR_CFG_EN : Fld := ⟨0x00100A0000, 31, 1⟩
def PAIR_CFG_OUT_MODE : Fld := ⟨0x00100A0000, 30, 1⟩
def PAIR_CFG_ROLE_CFG : Fld := ⟨0x00100A0000, 28, 2⟩
def PAIR_CFG_MTRACER : Fld := ⟨0x00100A0000, 24, 3⟩
def PAIR_CFG_MPRESS : Fld := ⟨0x00100A0000, 20, 2⟩
def PAIR_CFG_VC : Fld := ⟨0x00100A0000, 13, 5⟩
def PAIR_STATUS_ROLE : Fld := ⟨0x00100A0004, 30, 2⟩
def PAIR_STATUS_STATE : Fld := ⟨0x00100A0004, 27, 3⟩
def PAIR_STATUS_HB_LIVE : Fld := ⟨0x00100A0004, 26, 1⟩
def PAIR_STATUS_MIRROR_LIVE : Fld := ⟨0x00100A0004, 25, 1⟩
def PAIR_STATUS_DIVERGE : Fld := ⟨0x00100A0004, 24, 1⟩
def PAIR_STATUS_ALIVE : Fld := ⟨0x00100A0004, 23, 1⟩
def PAIR_STATUS_PROMOTED : Fld := ⟨0x00100A0004, 22, 1⟩
def PAIR_TIMING_HB_HALF : Fld := ⟨0x00100A0008, 16, 16⟩
def PAIR_TIMING_HB_TIMEOUT : Fld := ⟨0x00100A0008, 0, 16⟩
def PAIR_JOIN_WAIT : Fld := ⟨0x00100A000C, 0, 32⟩
def PAIR_CUT_BLOCKS : Fld := ⟨0x00100A0010, 0, 16⟩
def PAIR_KICK : Fld := ⟨0x00100A0014, 0, 1⟩
def PAIR_CMD : Fld := ⟨0x00100A0018, 0, 2⟩
def PAIR_LAST_DIV_VALID : Fld := ⟨0x00100A001C, 31, 1⟩
def PAIR_LAST_DIV_KIND : Fld := ⟨0x00100A001C, 30, 1⟩
def PAIR_LAST_DIV_NUM : Fld := ⟨0x00100A0020, 0, 32⟩
def PAIR_JOIN_STEP : Fld := ⟨0x00100A0024, 0, 32⟩
def PAIR_FAULT_IMAGE : Fld := ⟨0x00100A0040, 10, 1⟩
def PAIR_FAULT_ROLE : Fld := ⟨0x00100A0040, 9, 1⟩
def PAIR_FAULT_RESYNC : Fld := ⟨0x00100A0040, 8, 1⟩
def PAIR_FAULT_DRAFT : Fld := ⟨0x00100A0040, 7, 1⟩
def PAIR_FAULT_LAG : Fld := ⟨0x00100A0040, 6, 1⟩
def PAIR_FAULT_MIRROR : Fld := ⟨0x00100A0040, 5, 1⟩
def PAIR_FAULT_HB : Fld := ⟨0x00100A0040, 4, 1⟩
def PAIR_FAULT_LOST : Fld := ⟨0x00100A0040, 3, 1⟩
def PAIR_FAULT_UNRESOLVED : Fld := ⟨0x00100A0040, 2, 1⟩
def PAIR_FAULT_FRAME_DIV : Fld := ⟨0x00100A0040, 1, 1⟩
def PAIR_FAULT_STEP_DIV : Fld := ⟨0x00100A0040, 0, 1⟩
def PAIR_STEP_CMP : Fld := ⟨0x00100A0060, 0, 32⟩
def PAIR_FRAME_CMP : Fld := ⟨0x00100A0064, 0, 32⟩
def PAIR_LAG_DROP : Fld := ⟨0x00100A0068, 0, 32⟩
def PAIR_SEQ_GAP : Fld := ⟨0x00100A006C, 0, 32⟩
def PAIR_RESYNC_BLOCKS : Fld := ⟨0x00100A0070, 0, 32⟩
def PAIR_PROMOTIONS : Fld := ⟨0x00100A0074, 0, 32⟩
def PAIR_RESYNCS : Fld := ⟨0x00100A0078, 0, 32⟩

/-! TMR (18_timers.md) -/
def TMR_TB_LO : Fld := ⟨0x0010300000, 0, 32⟩
def TMR_TB_HI : Fld := ⟨0x0010300004, 0, 32⟩
def TMR_GSTART : Fld := ⟨0x0010300008, 0, 8⟩
def TMR_TRIG_STATUS_OUT : Fld := ⟨0x001030000C, 8, 2⟩
def TMR_TRIG_STATUS_IN : Fld := ⟨0x001030000C, 0, 4⟩
def TMR_OUT_CFG_PW (j : Nat) : Fld := ⟨0x0010300010 + 4 * j, 24, 8⟩
def TMR_OUT_CFG_LEVEL (j : Nat) : Fld := ⟨0x0010300010 + 4 * j, 8, 1⟩
def TMR_OUT_CFG_MODE (j : Nat) : Fld := ⟨0x0010300010 + 4 * j, 4, 2⟩
def TMR_OUT_CFG_SRC (j : Nat) : Fld := ⟨0x0010300010 + 4 * j, 0, 3⟩

/-! TIMER (18_timers.md) -/
def TIMER_CTRL_EN (u : Nat) : Fld := ⟨0x0010300100 + 0x40 * u, 31, 1⟩
def TIMER_CTRL_MODE (u : Nat) : Fld := ⟨0x0010300100 + 0x40 * u, 30, 1⟩
def TIMER_CTRL_LINK (u : Nat) : Fld := ⟨0x0010300100 + 0x40 * u, 29, 1⟩
def TIMER_CTRL_DIR (u : Nat) : Fld := ⟨0x0010300100 + 0x40 * u, 28, 1⟩
def TIMER_CTRL_PRESCALE (u : Nat) : Fld := ⟨0x0010300100 + 0x40 * u, 16, 8⟩
def TIMER_CTRL_GATE_EN (u : Nat) : Fld := ⟨0x0010300100 + 0x40 * u, 15, 1⟩
def TIMER_CTRL_GATE_POL (u : Nat) : Fld := ⟨0x0010300100 + 0x40 * u, 14, 1⟩
def TIMER_CTRL_GATE_SRC (u : Nat) : Fld := ⟨0x0010300100 + 0x40 * u, 11, 3⟩
def TIMER_COUNT (u : Nat) : Fld := ⟨0x0010300104 + 0x40 * u, 0, 32⟩
def TIMER_PERIOD (u : Nat) : Fld := ⟨0x0010300108 + 0x40 * u, 0, 32⟩
def TIMER_CMP (u : Nat) : Fld := ⟨0x001030010C + 0x40 * u, 0, 32⟩
def TIMER_CAP_CFG_CAP_EN (u : Nat) : Fld := ⟨0x0010300110 + 0x40 * u, 31, 1⟩
def TIMER_CAP_CFG_RST_RISE (u : Nat) : Fld := ⟨0x0010300110 + 0x40 * u, 30, 1⟩
def TIMER_CAP_CFG_QEDGE (u : Nat) : Fld := ⟨0x0010300110 + 0x40 * u, 28, 2⟩
def TIMER_CAP_CFG_SRC (u : Nat) : Fld := ⟨0x0010300110 + 0x40 * u, 24, 3⟩
def TIMER_CAP_CFG_FILT (u : Nat) : Fld := ⟨0x0010300110 + 0x40 * u, 20, 4⟩
def TIMER_CAP_RISE (u : Nat) : Fld := ⟨0x0010300114 + 0x40 * u, 0, 32⟩
def TIMER_CAP_FALL (u : Nat) : Fld := ⟨0x0010300118 + 0x40 * u, 0, 32⟩
def TIMER_STATUS_CAPQ_OVF (u : Nat) : Fld := ⟨0x001030011C + 0x40 * u, 3, 1⟩
def TIMER_STATUS_PERIOD_SHORT (u : Nat) : Fld := ⟨0x001030011C + 0x40 * u, 2, 1⟩
def TIMER_STATUS_CAP (u : Nat) : Fld := ⟨0x001030011C + 0x40 * u, 1, 1⟩
def TIMER_STATUS_WRAP (u : Nat) : Fld := ⟨0x001030011C + 0x40 * u, 0, 1⟩
def TIMER_CAPQ_VAL (u : Nat) : Fld := ⟨0x0010300120 + 0x40 * u, 0, 32⟩
def TIMER_CAPQ_INFO_VALID (u : Nat) : Fld := ⟨0x0010300124 + 0x40 * u, 31, 1⟩
def TIMER_CAPQ_INFO_EDGE (u : Nat) : Fld := ⟨0x0010300124 + 0x40 * u, 30, 1⟩
def TIMER_CAPQ_INFO_TB (u : Nat) : Fld := ⟨0x0010300124 + 0x40 * u, 0, 24⟩
def TIMER_CAPQ_LOST (u : Nat) : Fld := ⟨0x0010300128 + 0x40 * u, 0, 32⟩
def TIMER_WRAPS (u : Nat) : Fld := ⟨0x001030012C + 0x40 * u, 0, 32⟩
def TIMER_CAPQ_FILL (u : Nat) : Fld := ⟨0x0010300130 + 0x40 * u, 0, 5⟩

/-! PL (19_proof_log.md) -/
def PL_STATUS_SYNCED : Fld := ⟨0x0010400000, 31, 1⟩
def PL_STATUS_CLEARING : Fld := ⟨0x0010400000, 30, 1⟩
def PL_STATUS_WAIT_DOMAIN : Fld := ⟨0x0010400000, 29, 1⟩
def PL_STATUS_STAGED : Fld := ⟨0x0010400000, 16, 7⟩
def PL_NEXT_SEQ : Fld := ⟨0x0010400004, 0, 32⟩
def PL_FLOOR : Fld := ⟨0x0010400008, 0, 32⟩
def PL_OPSEC : Fld := ⟨0x001040000C, 0, 32⟩
def PL_PCYCLE : Fld := ⟨0x0010400010, 0, 24⟩
def PL_LOST : Fld := ⟨0x0010400014, 0, 32⟩
def PL_SUPPRESSED : Fld := ⟨0x0010400018, 0, 32⟩
def PL_CFG : Fld := ⟨0x001040001C, 0, 16⟩
def PL_RD_SEQ (ini : Nat) : Fld := ⟨0x0010400020 + bankStride * ini, 0, 32⟩
def PL_STAGE_SEL (ini : Nat) : Fld := ⟨0x0010400024 + bankStride * ini, 0, 6⟩
def PL_REC (w : Nat) : Fld := ⟨0x0010400040 + 4 * w, 0, 32⟩
def PL_STAGE (w : Nat) : Fld := ⟨0x0010400080 + 4 * w, 0, 32⟩

/-! MBOX (15_host_interface.md) -/
def MBOX_LOCK (u : Nat) : Fld := ⟨0x0010500400 + 0x80 * u, 0, 5⟩
def MBOX_STATUS_FULL (u : Nat) : Fld := ⟨0x0010500404 + 0x80 * u, 31, 1⟩
def MBOX_STATUS_TMO (u : Nat) : Fld := ⟨0x0010500404 + 0x80 * u, 30, 1⟩
def MBOX_STATUS_RCVR (u : Nat) : Fld := ⟨0x0010500404 + 0x80 * u, 24, 5⟩
def MBOX_STATUS_PRIV (u : Nat) : Fld := ⟨0x0010500404 + 0x80 * u, 16, 5⟩
def MBOX_STATUS_LEN (u : Nat) : Fld := ⟨0x0010500404 + 0x80 * u, 0, 7⟩
def MBOX_CTRL_SEND (u : Nat) : Fld := ⟨0x0010500408 + 0x80 * u, 31, 1⟩
def MBOX_CTRL_WITHDRAW (u : Nat) : Fld := ⟨0x0010500408 + 0x80 * u, 30, 1⟩
def MBOX_CTRL_LEN (u : Nat) : Fld := ⟨0x0010500408 + 0x80 * u, 0, 7⟩
def MBOX_DATA (u w : Nat) : Fld := ⟨0x0010500440 + 0x80 * u + 4 * w, 0, 32⟩

/-! MB (15_host_interface.md) -/
def MB_DB_HOST_SW : Fld := ⟨0x0010500200, 24, 8⟩
def MB_DB_HOST_MBOX_TMO : Fld := ⟨0x0010500200, 16, 8⟩
def MB_DB_HOST_MBOX_DONE : Fld := ⟨0x0010500200, 8, 8⟩
def MB_DB_HOST_MBOX_FULL : Fld := ⟨0x0010500200, 0, 8⟩
def MB_DB_HOST_EN : Fld := ⟨0x0010500204, 0, 32⟩
def MB_DB_SCRIBE_SW (n : Nat) : Fld := ⟨0x0010500208 + 4 * n, 24, 8⟩
def MB_DB_SCRIBE_MBOX_TMO (n : Nat) : Fld := ⟨0x0010500208 + 4 * n, 16, 8⟩
def MB_DB_SCRIBE_MBOX_DONE (n : Nat) : Fld := ⟨0x0010500208 + 4 * n, 8, 8⟩
def MB_DB_SCRIBE_MBOX_FULL (n : Nat) : Fld := ⟨0x0010500208 + 4 * n, 0, 8⟩
def MB_MBOX_CFG_RCVR (i : Nat) : Fld := ⟨0x0010500800 + 4 * i, 8, 5⟩
def MB_MBOX_CFG_PRIV (i : Nat) : Fld := ⟨0x0010500800 + 4 * i, 0, 5⟩
def MB_MBOX_TIMEOUT : Fld := ⟨0x0010500840, 0, 32⟩
def MB_DB_HOST_SET : Fld := ⟨0x0010500844, 24, 8⟩

/-! HOST (15_host_interface.md) -/
def HOST_HSTAT_BOOT_STATE : Fld := ⟨0x001F000000, 28, 4⟩
def HOST_HSTAT_READY : Fld := ⟨0x001F000000, 27, 1⟩
def HOST_HSTAT_FAULT : Fld := ⟨0x001F000000, 26, 1⟩
def HOST_HSTAT_SCRIBE0_ON : Fld := ⟨0x001F000000, 25, 1⟩
def HOST_HSTAT_ACC_ERR : Fld := ⟨0x001F000000, 24, 1⟩
def HOST_HSTAT_DA : Fld := ⟨0x001F000000, 16, 7⟩
def HOST_HSTAT_DA_VALID : Fld := ⟨0x001F000000, 15, 1⟩
def HOST_HSTAT_INST : Fld := ⟨0x001F000000, 0, 4⟩
def HOST_ACC_INFO_VALID : Fld := ⟨0x001F000004, 31, 1⟩
def HOST_ACC_INFO_KIND : Fld := ⟨0x001F000004, 28, 3⟩
def HOST_ACC_INFO_OFFSET : Fld := ⟨0x001F000004, 0, 16⟩
def HOST_HFAULT_IND : Fld := ⟨0x001F000008, 4, 1⟩
def HOST_HFAULT_PROTO : Fld := ⟨0x001F000008, 3, 1⟩
def HOST_HFAULT_REVOKED : Fld := ⟨0x001F000008, 2, 1⟩
def HOST_HFAULT_TMO : Fld := ⟨0x001F000008, 1, 1⟩
def HOST_HFAULT_ACC : Fld := ⟨0x001F000008, 0, 1⟩
def HOST_I3C_ERR : Fld := ⟨0x001F00000C, 0, 32⟩
def HOST_IND_ADDR_LO : Fld := ⟨0x001F001000, 2, 30⟩
def HOST_IND_ADDR_HI : Fld := ⟨0x001F001004, 0, 8⟩
def HOST_IND_DATA : Fld := ⟨0x001F001008, 0, 32⟩
def HOST_IND_CTRL_AUTOINC : Fld := ⟨0x001F00100C, 2, 1⟩
def HOST_IND_CTRL_WRITE : Fld := ⟨0x001F00100C, 1, 1⟩
def HOST_IND_CTRL_GO : Fld := ⟨0x001F00100C, 0, 1⟩
def HOST_IND_STATUS_BUSY : Fld := ⟨0x001F001010, 31, 1⟩
def HOST_IND_STATUS_ERR : Fld := ⟨0x001F001010, 30, 1⟩
def HOST_IND_STATUS_REASON : Fld := ⟨0x001F001010, 0, 3⟩
def HOST_IND_WIN0_VALID (i : Nat) : Fld := ⟨0x001F001020 + 8 * i, 31, 1⟩
def HOST_IND_WIN0_RD (i : Nat) : Fld := ⟨0x001F001020 + 8 * i, 30, 1⟩
def HOST_IND_WIN0_WR (i : Nat) : Fld := ⟨0x001F001020 + 8 * i, 29, 1⟩
def HOST_IND_WIN0_BASE_HI (i : Nat) : Fld := ⟨0x001F001020 + 8 * i, 0, 8⟩
def HOST_IND_WIN1_BASE_LO (i : Nat) : Fld := ⟨0x001F001024 + 8 * i, 12, 20⟩
def HOST_IND_WIN1_SIZE (i : Nat) : Fld := ⟨0x001F001024 + 8 * i, 0, 12⟩
def HOST_ATT_CTRL_NEW_NONCE : Fld := ⟨0x001F002000, 1, 1⟩
def HOST_ATT_CTRL_GO : Fld := ⟨0x001F002000, 0, 1⟩
def HOST_ATT_STATUS_BUSY : Fld := ⟨0x001F002004, 31, 1⟩
def HOST_ATT_STATUS_DONE : Fld := ⟨0x001F002004, 30, 1⟩
def HOST_ATT_STATUS_ERR : Fld := ⟨0x001F002004, 29, 1⟩
def HOST_ATT_STATUS_REASON : Fld := ⟨0x001F002004, 0, 4⟩
def HOST_CERT_SEL : Fld := ⟨0x001F002008, 0, 2⟩
def HOST_CERT_LEN : Fld := ⟨0x001F00200C, 0, 12⟩
def HOST_ATT_NONCE (w : Nat) : Fld := ⟨0x001F002040 + 4 * w, 0, 32⟩
def HOST_TOKEN_NONCE (w : Nat) : Fld := ⟨0x001F002080 + 4 * w, 0, 32⟩
def HOST_PUBKEY (w : Nat) : Fld := ⟨0x001F002100 + 4 * w, 0, 32⟩
def HOST_REPORT (w : Nat) : Fld := ⟨0x001F002400 + 4 * w, 0, 32⟩
def HOST_CERT (w : Nat) : Fld := ⟨0x001F002800 + 4 * w, 0, 32⟩

/-! KS (16_identity_and_security.md) -/
def KS_STATE_JTAG : Fld := ⟨0x0010600000, 30, 2⟩
def KS_STATE_BLANK : Fld := ⟨0x0010600000, 29, 1⟩
def KS_STATE_CERT_OK : Fld := ⟨0x0010600000, 28, 1⟩
def KS_STATE_KILLED : Fld := ⟨0x0010600000, 24, 4⟩
def KS_STATE_PROGRAMMED : Fld := ⟨0x0010600000, 20, 4⟩
def KS_STATE_ACTIVE : Fld := ⟨0x0010600000, 18, 2⟩
def KS_STATE_VENDOR_PERMIT : Fld := ⟨0x0010600000, 17, 1⟩
def KS_FAULT_KS : Fld := ⟨0x0010600004, 3, 1⟩
def KS_FAULT_FUSE : Fld := ⟨0x0010600004, 2, 1⟩
def KS_FAULT_CERT : Fld := ⟨0x0010600004, 1, 1⟩
def KS_FAULT_TOKEN : Fld := ⟨0x0010600004, 0, 1⟩
def KS_TOKEN_CTRL_NEW_NONCE (ini : Nat) : Fld := ⟨0x0010600010 + bankStride * ini, 1, 1⟩
def KS_TOKEN_CTRL_SUBMIT (ini : Nat) : Fld := ⟨0x0010600010 + bankStride * ini, 0, 1⟩
def KS_TOKEN_STATUS_BUSY (ini : Nat) : Fld := ⟨0x0010600014 + bankStride * ini, 31, 1⟩
def KS_TOKEN_STATUS_DONE (ini : Nat) : Fld := ⟨0x0010600014 + bankStride * ini, 30, 1⟩
def KS_TOKEN_STATUS_ERR (ini : Nat) : Fld := ⟨0x0010600014 + bankStride * ini, 29, 1⟩
def KS_TOKEN_STATUS_REASON (ini : Nat) : Fld := ⟨0x0010600014 + bankStride * ini, 0, 4⟩
def KS_NONCE (w ini : Nat) : Fld := ⟨0x0010600040 + 4 * w + bankStride * ini, 0, 32⟩
def KS_TOKEN_BUF (w ini : Nat) : Fld := ⟨0x0010600100 + 4 * w + bankStride * ini, 0, 32⟩
def KS_OWNER_HASH (k w : Nat) : Fld := ⟨0x0010600200 + 64 * k + 4 * w, 0, 32⟩
def KS_PUBKEY (w : Nat) : Fld := ⟨0x0010600300 + 4 * w, 0, 32⟩

/-! ETCH (03_etch_cores.md) -/
def ETCH_CTRL_FLAG_EN (u : Nat) : Fld := ⟨0x0100000000 + 0x1000000 * u, 4, 4⟩
def ETCH_CTRL_PAUSE (u : Nat) : Fld := ⟨0x0100000000 + 0x1000000 * u, 1, 1⟩
def ETCH_CTRL_RUN (u : Nat) : Fld := ⟨0x0100000000 + 0x1000000 * u, 0, 1⟩
def ETCH_STATUS_STATE (u : Nat) : Fld := ⟨0x0100000004 + 0x1000000 * u, 30, 2⟩
def ETCH_STATUS_UPDATING (u : Nat) : Fld := ⟨0x0100000004 + 0x1000000 * u, 8, 1⟩
def ETCH_STATUS_TAG (u : Nat) : Fld := ⟨0x0100000004 + 0x1000000 * u, 0, 4⟩
def ETCH_STEP (u : Nat) : Fld := ⟨0x0100000008 + 0x1000000 * u, 0, 32⟩
def ETCH_CFG (u : Nat) : Fld := ⟨0x010000000C + 0x1000000 * u, 0, 14⟩
def ETCH_OVF_BASE_LO (u : Nat) : Fld := ⟨0x0100000010 + 0x1000000 * u, 12, 20⟩
def ETCH_OVF_BASE_HI (u : Nat) : Fld := ⟨0x0100000014 + 0x1000000 * u, 0, 8⟩
def ETCH_SPIKES (u : Nat) : Fld := ⟨0x0100000020 + 0x1000000 * u, 0, 32⟩
def ETCH_CLIP_CNT (u : Nat) : Fld := ⟨0x0100000024 + 0x1000000 * u, 0, 32⟩
def ETCH_SOPS (u : Nat) : Fld := ⟨0x0100000028 + 0x1000000 * u, 0, 32⟩
def ETCH_EVENTS (u : Nat) : Fld := ⟨0x010000002C + 0x1000000 * u, 0, 32⟩
def ETCH_DELAY_SPILL (u : Nat) : Fld := ⟨0x0100000030 + 0x1000000 * u, 0, 32⟩
def ETCH_REJECTED (u : Nat) : Fld := ⟨0x0100000034 + 0x1000000 * u, 0, 32⟩
def ETCH_EARLY_NEG (u : Nat) : Fld := ⟨0x0100000038 + 0x1000000 * u, 0, 32⟩
def ETCH_FAULT_SPILL_LOST (u : Nat) : Fld := ⟨0x010000003C + 0x1000000 * u, 7, 1⟩
def ETCH_FAULT_SPILL (u : Nat) : Fld := ⟨0x010000003C + 0x1000000 * u, 6, 1⟩
def ETCH_FAULT_REJECT (u : Nat) : Fld := ⟨0x010000003C + 0x1000000 * u, 5, 1⟩
def ETCH_FAULT_UCODE (u : Nat) : Fld := ⟨0x010000003C + 0x1000000 * u, 4, 1⟩
def ETCH_FAULT_EARLY_NEG (u : Nat) : Fld := ⟨0x010000003C + 0x1000000 * u, 3, 1⟩
def ETCH_FAULT_STATE_UE (u : Nat) : Fld := ⟨0x010000003C + 0x1000000 * u, 2, 1⟩
def ETCH_FAULT_SYN_UE (u : Nat) : Fld := ⟨0x010000003C + 0x1000000 * u, 1, 1⟩
def ETCH_FAULT_ACC_OVF (u : Nat) : Fld := ⟨0x010000003C + 0x1000000 * u, 0, 1⟩
def ETCH_ACC_OVF_SLOT_VALID (u : Nat) : Fld := ⟨0x0100000040 + 0x1000000 * u, 31, 1⟩
def ETCH_ACC_OVF_SLOT_SLOT (u : Nat) : Fld := ⟨0x0100000040 + 0x1000000 * u, 0, 13⟩
def ETCH_FLAG_STATUS (u : Nat) : Fld := ⟨0x0100000044 + 0x1000000 * u, 0, 4⟩
def ETCH_RING_FREE (u : Nat) : Fld := ⟨0x0100000048 + 0x1000000 * u, 0, 16⟩
def ETCH_SPILL_LOST (u : Nat) : Fld := ⟨0x010000004C + 0x1000000 * u, 0, 32⟩
def ETCH_BITE_CTRL (u : Nat) : Fld := ⟨0x0100010000 + 0x1000000 * u, 0, 1⟩
def ETCH_BITE_SEED_LO (u : Nat) : Fld := ⟨0x0100010004 + 0x1000000 * u, 0, 32⟩
def ETCH_BITE_SEED_HI (u : Nat) : Fld := ⟨0x0100010008 + 0x1000000 * u, 0, 32⟩
def ETCH_REWARD_CFG_EN (u : Nat) : Fld := ⟨0x010001000C + 0x1000000 * u, 31, 1⟩
def ETCH_REWARD_CFG_MODE (u : Nat) : Fld := ⟨0x010001000C + 0x1000000 * u, 30, 1⟩
def ETCH_REWARD_CFG_AXON (u : Nat) : Fld := ⟨0x010001000C + 0x1000000 * u, 0, 14⟩
def ETCH_REWARD (u : Nat) : Fld := ⟨0x0100010010 + 0x1000000 * u, 0, 8⟩
def ETCH_FIX_CTRL_REQ (u : Nat) : Fld := ⟨0x0100010020 + 0x1000000 * u, 31, 1⟩
def ETCH_FIX_CTRL_NEXT (u : Nat) : Fld := ⟨0x0100010020 + 0x1000000 * u, 30, 1⟩
def ETCH_FIX_CTRL_ERASE (u : Nat) : Fld := ⟨0x0100010020 + 0x1000000 * u, 29, 1⟩
def ETCH_FIX_AT_STEP (u : Nat) : Fld := ⟨0x0100010024 + 0x1000000 * u, 0, 32⟩
def ETCH_FIX_STATUS_STATE (u : Nat) : Fld := ⟨0x0100010028 + 0x1000000 * u, 30, 2⟩
def ETCH_FIX_STATUS_REFUSED_LATE (u : Nat) : Fld := ⟨0x0100010028 + 0x1000000 * u, 8, 1⟩
def ETCH_FIX_STATUS_ABANDONED (u : Nat) : Fld := ⟨0x0100010028 + 0x1000000 * u, 7, 1⟩
def ETCH_FIX_STATUS_WRITE_FAIL (u : Nat) : Fld := ⟨0x0100010028 + 0x1000000 * u, 6, 1⟩
def ETCH_FIX_STATUS_REFUSED_PAIR (u : Nat) : Fld := ⟨0x0100010028 + 0x1000000 * u, 5, 1⟩
def ETCH_FIX_STATUS_REFUSED_BUSY (u : Nat) : Fld := ⟨0x0100010028 + 0x1000000 * u, 4, 1⟩
def ETCH_FIX_STATUS_REFUSED_WEAR (u : Nat) : Fld := ⟨0x0100010028 + 0x1000000 * u, 3, 1⟩
def ETCH_FIX_STATUS_REFUSED_SIZE (u : Nat) : Fld := ⟨0x0100010028 + 0x1000000 * u, 2, 1⟩
def ETCH_FIX_STATUS_ERASED (u : Nat) : Fld := ⟨0x0100010028 + 0x1000000 * u, 1, 1⟩
def ETCH_FIX_STATUS_DONE (u : Nat) : Fld := ⟨0x0100010028 + 0x1000000 * u, 0, 1⟩
def ETCH_FIX_SEQ (u : Nat) : Fld := ⟨0x010001002C + 0x1000000 * u, 0, 32⟩
def ETCH_FIX_STEP (u : Nat) : Fld := ⟨0x0100010030 + 0x1000000 * u, 0, 32⟩
def ETCH_FIX_LOG_HEAD (u : Nat) : Fld := ⟨0x0100010034 + 0x1000000 * u, 16, 11⟩
def ETCH_FIX_LOG_PAGES (u : Nat) : Fld := ⟨0x0100010034 + 0x1000000 * u, 0, 11⟩
def ETCH_WEAR_CFG_DEPTH (u : Nat) : Fld := ⟨0x0100010038 + 0x1000000 * u, 16, 16⟩
def ETCH_WEAR_CFG_RATE (u : Nat) : Fld := ⟨0x0100010038 + 0x1000000 * u, 0, 16⟩
def ETCH_WEAR_TOKENS (u : Nat) : Fld := ⟨0x010001003C + 0x1000000 * u, 0, 16⟩
def ETCH_RESUME_STATUS_VALID (u : Nat) : Fld := ⟨0x0100010044 + 0x1000000 * u, 31, 1⟩
def ETCH_RESUME_STATUS_CHOICE (u : Nat) : Fld := ⟨0x0100010044 + 0x1000000 * u, 29, 2⟩
def ETCH_RESUME_STATUS_OUTCOME (u : Nat) : Fld := ⟨0x0100010044 + 0x1000000 * u, 27, 2⟩
def ETCH_LEARN_UPD (u : Nat) : Fld := ⟨0x0100010050 + 0x1000000 * u, 0, 32⟩
def ETCH_SPROUTS (u : Nat) : Fld := ⟨0x0100010054 + 0x1000000 * u, 0, 32⟩
def ETCH_PRUNES (u : Nat) : Fld := ⟨0x0100010058 + 0x1000000 * u, 0, 32⟩
def ETCH_DELAY_MOVES (u : Nat) : Fld := ⟨0x010001005C + 0x1000000 * u, 0, 32⟩
def ETCH_MULTI_PAYLOAD (u : Nat) : Fld := ⟨0x0100010060 + 0x1000000 * u, 0, 32⟩
def ETCH_FIX_STALL (u : Nat) : Fld := ⟨0x0100010064 + 0x1000000 * u, 0, 32⟩
def ETCH_BITE_FAULT_TRACE_UE (u : Nat) : Fld := ⟨0x010001006C + 0x1000000 * u, 1, 1⟩
def ETCH_BITE_FAULT_MULTI_PAYLOAD (u : Nat) : Fld := ⟨0x010001006C + 0x1000000 * u, 0, 1⟩
def ETCH_TAG_WMIN (u k : Nat) : Fld := ⟨0x0100010100 + 0x1000000 * u + 4 * k, 24, 8⟩
def ETCH_TAG_WMAX (u k : Nat) : Fld := ⟨0x0100010100 + 0x1000000 * u + 4 * k, 16, 8⟩
def ETCH_POSTCFG0_Y1_R (u g : Nat) : Fld := ⟨0x0100010200 + 0x1000000 * u + 8 * g, 16, 16⟩
def ETCH_POSTCFG0_Y2_R (u g : Nat) : Fld := ⟨0x0100010200 + 0x1000000 * u + 8 * g, 0, 16⟩
def ETCH_POSTCFG1_Y1_INC (u g : Nat) : Fld := ⟨0x0100010204 + 0x1000000 * u + 8 * g, 24, 8⟩
def ETCH_POSTCFG1_Y2_INC (u g : Nat) : Fld := ⟨0x0100010204 + 0x1000000 * u + 8 * g, 16, 8⟩
def ETCH_RULE0 (u w : Nat) : Fld := ⟨0x0100011000 + 0x1000000 * u + 4 * w, 0, 32⟩
def ETCH_RULE_W0_SH (u q : Nat) : Fld := ⟨0x0100011040 + 0x1000000 * u + 64 * q, 27, 5⟩
def ETCH_RULE_W0_STOCH (u q : Nat) : Fld := ⟨0x0100011040 + 0x1000000 * u + 64 * q, 26, 1⟩
def ETCH_RULE_W0_DLEARN (u q : Nat) : Fld := ⟨0x0100011040 + 0x1000000 * u + 64 * q, 25, 1⟩
def ETCH_RULE_W0_SPROUT_EN (u q : Nat) : Fld := ⟨0x0100011040 + 0x1000000 * u + 64 * q, 24, 1⟩
def ETCH_RULE_W0_PRUNE_EN (u q : Nat) : Fld := ⟨0x0100011040 + 0x1000000 * u + 64 * q, 23, 1⟩
def ETCH_RULE_W1_X1_R (u q : Nat) : Fld := ⟨0x0100011044 + 0x1000000 * u + 64 * q, 16, 16⟩
def ETCH_RULE_W1_X2_R (u q : Nat) : Fld := ⟨0x0100011044 + 0x1000000 * u + 64 * q, 0, 16⟩
def ETCH_RULE_W2_X1_INC (u q : Nat) : Fld := ⟨0x0100011048 + 0x1000000 * u + 64 * q, 24, 8⟩
def ETCH_RULE_W2_X2_INC (u q : Nat) : Fld := ⟨0x0100011048 + 0x1000000 * u + 64 * q, 16, 8⟩
def ETCH_RULE_W2_DQ (u q : Nat) : Fld := ⟨0x0100011048 + 0x1000000 * u + 64 * q, 0, 16⟩
def ETCH_RULE_W3_SPROUT_X (u q : Nat) : Fld := ⟨0x010001104C + 0x1000000 * u + 64 * q, 24, 8⟩
def ETCH_RULE_W3_SPROUT_Y (u q : Nat) : Fld := ⟨0x010001104C + 0x1000000 * u + 64 * q, 16, 8⟩
def ETCH_RULE_W3_SPROUT_W (u q : Nat) : Fld := ⟨0x010001104C + 0x1000000 * u + 64 * q, 8, 8⟩
def ETCH_RULE_W3_PRUNE_TH (u q : Nat) : Fld := ⟨0x010001104C + 0x1000000 * u + 64 * q, 0, 8⟩
def ETCH_RULE_W4_SPROUT_TAG (u q : Nat) : Fld := ⟨0x0100011050 + 0x1000000 * u + 64 * q, 27, 5⟩
def ETCH_RULE_W4_SPROUT_D (u q : Nat) : Fld := ⟨0x0100011050 + 0x1000000 * u + 64 * q, 21, 6⟩
def ETCH_RULE_W5_CAND_LEN (u q : Nat) : Fld := ⟨0x0100011054 + 0x1000000 * u + 64 * q, 13, 14⟩
def ETCH_RULE_W5_CAND_BASE (u q : Nat) : Fld := ⟨0x0100011054 + 0x1000000 * u + 64 * q, 0, 13⟩
def ETCH_RULE_W67 (u q w : Nat) : Fld := ⟨0x0100011058 + 0x1000000 * u + 64 * q + 4 * w, 0, 32⟩
def ETCH_RULE_TERM_EN (u q t : Nat) : Fld := ⟨0x0100011060 + 0x1000000 * u + 64 * q + 4 * t, 31, 1⟩
def ETCH_RULE_TERM_TGT (u q t : Nat) : Fld := ⟨0x0100011060 + 0x1000000 * u + 64 * q + 4 * t, 30, 1⟩
def ETCH_RULE_TERM_XSEL (u q t : Nat) : Fld := ⟨0x0100011060 + 0x1000000 * u + 64 * q + 4 * t, 27, 3⟩
def ETCH_RULE_TERM_YSEL (u q t : Nat) : Fld := ⟨0x0100011060 + 0x1000000 * u + 64 * q + 4 * t, 24, 3⟩
def ETCH_RULE_TERM_C (u q t : Nat) : Fld := ⟨0x0100011060 + 0x1000000 * u + 64 * q + 4 * t, 0, 8⟩
def ETCH_FIX_BASE_EN (u i : Nat) : Fld := ⟨0x0100012000 + 0x1000000 * u + 8 * i, 31, 1⟩
def ETCH_FIX_BASE_WORD (u i : Nat) : Fld := ⟨0x0100012000 + 0x1000000 * u + 8 * i, 0, 19⟩
def ETCH_FIX_LEN (u i : Nat) : Fld := ⟨0x0100012004 + 0x1000000 * u + 8 * i, 0, 19⟩

/-! STIPPLE (05_stipple_net.md) -/
def STIPPLE_CTRL_STALL_ACTION : Fld := ⟨0x0330000000, 1, 1⟩
def STIPPLE_CTRL_EN : Fld := ⟨0x0330000000, 0, 1⟩
def STIPPLE_STATUS_STATE : Fld := ⟨0x0330000004, 30, 2⟩
def STIPPLE_STATUS_CFG_ERR : Fld := ⟨0x0330000004, 29, 1⟩
def STIPPLE_STATUS_LOSS : Fld := ⟨0x0330000004, 28, 1⟩
def STIPPLE_STATUS_CFG_ERR_CORE : Fld := ⟨0x0330000004, 16, 6⟩
def STIPPLE_STATUS_NCORES : Fld := ⟨0x0330000004, 0, 7⟩
def STIPPLE_STEP : Fld := ⟨0x0330000008, 0, 32⟩
def STIPPLE_STEP_START : Fld := ⟨0x033000000C, 0, 32⟩
def STIPPLE_MIN_PERIOD : Fld := ⟨0x0330000010, 0, 16⟩
def STIPPLE_STEP_LIMIT : Fld := ⟨0x0330000014, 0, 32⟩
def STIPPLE_STEP_TIME_MAX : Fld := ⟨0x0330000018, 0, 32⟩
def STIPPLE_SRC_EN_ETCH (i : Nat) : Fld := ⟨0x0330000020 + 4 * i, 0, 32⟩
def STIPPLE_SRC_EN2 : Fld := ⟨0x0330000028, 0, 32⟩
def STIPPLE_SRC_EN3 : Fld := ⟨0x033000002C, 0, 9⟩
def STIPPLE_FAULT_BUF_UE : Fld := ⟨0x0330000030, 7, 1⟩
def STIPPLE_FAULT_DELAY_LATE : Fld := ⟨0x0330000030, 6, 1⟩
def STIPPLE_FAULT_DISCARD_OFF : Fld := ⟨0x0330000030, 5, 1⟩
def STIPPLE_FAULT_STALL : Fld := ⟨0x0330000030, 4, 1⟩
def STIPPLE_FAULT_OVER_COUNT : Fld := ⟨0x0330000030, 3, 1⟩
def STIPPLE_FAULT_DUP : Fld := ⟨0x0330000030, 2, 1⟩
def STIPPLE_FAULT_TAG : Fld := ⟨0x0330000030, 1, 1⟩
def STIPPLE_FAULT_LINK : Fld := ⟨0x0330000030, 0, 1⟩
def STIPPLE_STEPS : Fld := ⟨0x0330000040, 0, 32⟩
def STIPPLE_LINK_ERR : Fld := ⟨0x0330000044, 0, 32⟩
def STIPPLE_TAG_ERR : Fld := ⟨0x0330000048, 0, 32⟩
def STIPPLE_DUP : Fld := ⟨0x033000004C, 0, 32⟩
def STIPPLE_OVER_COUNT : Fld := ⟨0x0330000050, 0, 32⟩
def STIPPLE_STALLS : Fld := ⟨0x0330000054, 0, 32⟩
def STIPPLE_DISCARD_OFF : Fld := ⟨0x0330000058, 0, 32⟩
def STIPPLE_DELAY_LATE : Fld := ⟨0x033000005C, 0, 32⟩
def STIPPLE_BUF_UE : Fld := ⟨0x0330000060, 0, 32⟩
def STIPPLE_DELAY_EVENTS : Fld := ⟨0x0330000064, 0, 32⟩
def STIPPLE_DELAY0_VALID (i : Nat) : Fld := ⟨0x0330020000 + 16 * i, 31, 1⟩
def STIPPLE_DELAY0_MC (i : Nat) : Fld := ⟨0x0330020000 + 16 * i, 30, 1⟩
def STIPPLE_DELAY0_DCORE (i : Nat) : Fld := ⟨0x0330020000 + 16 * i, 24, 6⟩
def STIPPLE_DELAY0_QUEUE (i : Nat) : Fld := ⟨0x0330020000 + 16 * i, 0, 22⟩
def STIPPLE_DELAY1 (i : Nat) : Fld := ⟨0x0330020004 + 16 * i, 0, 16⟩
def STIPPLE_DELAY2 (i : Nat) : Fld := ⟨0x0330020008 + 16 * i, 0, 32⟩
def STIPPLE_DELAY3 (i : Nat) : Fld := ⟨0x033002000C + 16 * i, 0, 32⟩

/-! PORT (05_stipple_net.md) -/
def PORT_WIN_WIN3 (u i : Nat) : Fld := ⟨0x0330010000 + 0x400 * u + 4 * i, 24, 7⟩
def PORT_WIN_WIN2 (u i : Nat) : Fld := ⟨0x0330010000 + 0x400 * u + 4 * i, 16, 7⟩
def PORT_WIN_WIN1 (u i : Nat) : Fld := ⟨0x0330010000 + 0x400 * u + 4 * i, 8, 7⟩
def PORT_WIN_WIN0 (u i : Nat) : Fld := ⟨0x0330010000 + 0x400 * u + 4 * i, 0, 7⟩
def PORT_WIN26 (u : Nat) : Fld := ⟨0x0330010068 + 0x400 * u, 0, 7⟩
def PORT_STATUS_STALLED (u : Nat) : Fld := ⟨0x0330010080 + 0x400 * u, 31, 1⟩
def PORT_STATUS_WAITING (u : Nat) : Fld := ⟨0x0330010080 + 0x400 * u, 30, 1⟩
def PORT_STATUS_WAIT_SRC (u : Nat) : Fld := ⟨0x0330010080 + 0x400 * u, 16, 7⟩
def PORT_STATUS_BUF_FILL (u : Nat) : Fld := ⟨0x0330010080 + 0x400 * u, 0, 13⟩
def PORT_BUF_PEAK (u : Nat) : Fld := ⟨0x0330010084 + 0x400 * u, 0, 13⟩
def PORT_EVENTS_IN (u : Nat) : Fld := ⟨0x0330010088 + 0x400 * u, 0, 32⟩
def PORT_DISCARD (u : Nat) : Fld := ⟨0x033001008C + 0x400 * u, 0, 32⟩

/-! GRAVER (06_graver_tiles.md) -/
def GRAVER_CTRL (u : Nat) : Fld := ⟨0x0200000000 + 0x1000000 * u, 0, 1⟩
def GRAVER_STATUS_STATE (u : Nat) : Fld := ⟨0x0200000004 + 0x1000000 * u, 30, 2⟩
def GRAVER_STATUS_DRAFT (u : Nat) : Fld := ⟨0x0200000004 + 0x1000000 * u, 28, 2⟩
def GRAVER_STATUS_PC (u : Nat) : Fld := ⟨0x0200000004 + 0x1000000 * u, 0, 15⟩
def GRAVER_FRAME (u : Nat) : Fld := ⟨0x0200000008 + 0x1000000 * u, 0, 32⟩
def GRAVER_PROG_BANK_USE (u d : Nat) : Fld := ⟨0x0200000010 + 0x1000000 * u + 4 * d, 16, 16⟩
def GRAVER_PROG_ENTRY (u d : Nat) : Fld := ⟨0x0200000010 + 0x1000000 * u + 4 * d, 0, 15⟩
def GRAVER_EMIT_CTRL (u : Nat) : Fld := ⟨0x0200000020 + 0x1000000 * u, 0, 1⟩
def GRAVER_EMIT_STEP (u : Nat) : Fld := ⟨0x0200000024 + 0x1000000 * u, 0, 32⟩
def GRAVER_BANK_OWN_PENDING (u k : Nat) : Fld := ⟨0x0200000040 + 0x1000000 * u + 4 * k, 31, 1⟩
def GRAVER_BANK_OWN_REQ (u k : Nat) : Fld := ⟨0x0200000040 + 0x1000000 * u + 4 * k, 8, 5⟩
def GRAVER_BANK_OWN_OWNER (u k : Nat) : Fld := ⟨0x0200000040 + 0x1000000 * u + 4 * k, 0, 5⟩
def GRAVER_FAULT_SCV_UE (u : Nat) : Fld := ⟨0x0200000080 + 0x1000000 * u, 6, 1⟩
def GRAVER_FAULT_EMIT_DISCARD (u : Nat) : Fld := ⟨0x0200000080 + 0x1000000 * u, 5, 1⟩
def GRAVER_FAULT_PROG_UE (u : Nat) : Fld := ⟨0x0200000080 + 0x1000000 * u, 4, 1⟩
def GRAVER_FAULT_PROG (u : Nat) : Fld := ⟨0x0200000080 + 0x1000000 * u, 3, 1⟩
def GRAVER_FAULT_FOREIGN (u : Nat) : Fld := ⟨0x0200000080 + 0x1000000 * u, 2, 1⟩
def GRAVER_FAULT_BUSY (u : Nat) : Fld := ⟨0x0200000080 + 0x1000000 * u, 1, 1⟩
def GRAVER_FAULT_SP_UE (u : Nat) : Fld := ⟨0x0200000080 + 0x1000000 * u, 0, 1⟩
def GRAVER_BUSY_INFO_VALID (u : Nat) : Fld := ⟨0x0200000084 + 0x1000000 * u, 31, 1⟩
def GRAVER_BUSY_INFO_BANK (u : Nat) : Fld := ⟨0x0200000084 + 0x1000000 * u, 27, 4⟩
def GRAVER_BUSY_INFO_WORD (u : Nat) : Fld := ⟨0x0200000084 + 0x1000000 * u, 14, 13⟩
def GRAVER_BUSY_INFO_FIRST (u : Nat) : Fld := ⟨0x0200000084 + 0x1000000 * u, 4, 4⟩
def GRAVER_BUSY_INFO_LATER (u : Nat) : Fld := ⟨0x0200000084 + 0x1000000 * u, 0, 4⟩
def GRAVER_UE_INFO_VALID (u : Nat) : Fld := ⟨0x0200000088 + 0x1000000 * u, 31, 1⟩
def GRAVER_UE_INFO_BANK (u : Nat) : Fld := ⟨0x0200000088 + 0x1000000 * u, 27, 4⟩
def GRAVER_UE_INFO_WORD (u : Nat) : Fld := ⟨0x0200000088 + 0x1000000 * u, 14, 13⟩
def GRAVER_FRAMES_BAD (u : Nat) : Fld := ⟨0x02000000A0 + 0x1000000 * u, 0, 32⟩
def GRAVER_ARRAY_CYCLES (u : Nat) : Fld := ⟨0x02000000A4 + 0x1000000 * u, 0, 32⟩
def GRAVER_STALL (u : Nat) : Fld := ⟨0x02000000A8 + 0x1000000 * u, 0, 32⟩
def GRAVER_BUSY_CNT (u : Nat) : Fld := ⟨0x02000000AC + 0x1000000 * u, 0, 32⟩
def GRAVER_FOREIGN (u : Nat) : Fld := ⟨0x02000000B0 + 0x1000000 * u, 0, 32⟩
def GRAVER_EVENTS (u : Nat) : Fld := ⟨0x02000000B4 + 0x1000000 * u, 0, 32⟩
def GRAVER_EMIT_DISCARD (u : Nat) : Fld := ⟨0x02000000B8 + 0x1000000 * u, 0, 32⟩
def GRAVER_GATED (u : Nat) : Fld := ⟨0x02000000BC + 0x1000000 * u, 0, 32⟩
def GRAVER_LC (u c : Nat) : Fld := ⟨0x02000000C0 + 0x1000000 * u + 4 * c, 0, 32⟩
def GRAVER_QFAULT_Q_UE (u : Nat) : Fld := ⟨0x0200000100 + 0x1000000 * u, 1, 1⟩
def GRAVER_QFAULT_ACC_SAT (u : Nat) : Fld := ⟨0x0200000100 + 0x1000000 * u, 0, 1⟩
def GRAVER_ACC_SAT (u : Nat) : Fld := ⟨0x0200000104 + 0x1000000 * u, 0, 32⟩
def GRAVER_RQ_SAT (u : Nat) : Fld := ⟨0x0200000108 + 0x1000000 * u, 0, 32⟩

/-! SCV (06_graver_tiles.md) -/
def SCV_CFG_EN (u : Nat) : Fld := ⟨0x0348000000 + 0x10 * u, 31, 1⟩
def SCV_CFG_LOG2P (u : Nat) : Fld := ⟨0x0348000000 + 0x10 * u, 24, 4⟩
def SCV_CFG_PHASE (u : Nat) : Fld := ⟨0x0348000000 + 0x10 * u, 8, 15⟩
def SCV_CFG_NTOK (u : Nat) : Fld := ⟨0x0348000000 + 0x10 * u, 0, 7⟩
def SCV_STATUS (u : Nat) : Fld := ⟨0x0348000004 + 0x10 * u, 0, 2⟩
def SCV_LAST_STEP (u : Nat) : Fld := ⟨0x0348000008 + 0x10 * u, 0, 32⟩
def SCV_EXPORT_WAIT (u : Nat) : Fld := ⟨0x034800000C + 0x10 * u, 0, 32⟩

/-! HATCH (08_hatch_mesh.md) -/
def HATCH_CTRL_ABORT : Fld := ⟨0x034F000000, 2, 1⟩
def HATCH_CTRL_MODE : Fld := ⟨0x034F000000, 0, 2⟩
def HATCH_STATUS_FSTATE : Fld := ⟨0x034F000004, 30, 2⟩
def HATCH_STATUS_RELOC : Fld := ⟨0x034F000004, 29, 1⟩
def HATCH_STATUS_SUSPEND : Fld := ⟨0x034F000004, 28, 1⟩
def HATCH_STATUS_DRAFT : Fld := ⟨0x034F000004, 0, 2⟩
def HATCH_FRAME : Fld := ⟨0x034F000008, 0, 32⟩
def HATCH_NEXT_DRAFT_FORCED : Fld := ⟨0x034F00000C, 31, 1⟩
def HATCH_NEXT_DRAFT_DRAFT : Fld := ⟨0x034F00000C, 0, 2⟩
def HATCH_FRAME_CFG_TRACER_MASK : Fld := ⟨0x034F000010, 24, 8⟩
def HATCH_FRAME_CFG_MIN_PERIOD : Fld := ⟨0x034F000010, 0, 16⟩
def HATCH_STALL_LIMIT : Fld := ⟨0x034F000014, 0, 32⟩
def HATCH_ABORT_TIME : Fld := ⟨0x034F000018, 0, 32⟩
def HATCH_STALL_CHAN_VALID1 (i : Nat) : Fld := ⟨0x034F000020 + 4 * i, 31, 1⟩
def HATCH_STALL_CHAN_CHAN1 (i : Nat) : Fld := ⟨0x034F000020 + 4 * i, 16, 12⟩
def HATCH_STALL_CHAN_VALID0 (i : Nat) : Fld := ⟨0x034F000020 + 4 * i, 15, 1⟩
def HATCH_STALL_CHAN_CHAN0 (i : Nat) : Fld := ⟨0x034F000020 + 4 * i, 0, 12⟩
def HATCH_FAULT_POLICY_ABORT : Fld := ⟨0x034F000040, 5, 1⟩
def HATCH_FAULT_REWIND : Fld := ⟨0x034F000040, 4, 1⟩
def HATCH_FAULT_STALL : Fld := ⟨0x034F000040, 3, 1⟩
def HATCH_FAULT_LOAD_HDR : Fld := ⟨0x034F000040, 2, 1⟩
def HATCH_FAULT_LOAD_CRC : Fld := ⟨0x034F000040, 1, 1⟩
def HATCH_ABORTS : Fld := ⟨0x034F000060, 0, 32⟩
def HATCH_LINK_ERR : Fld := ⟨0x034F000064, 0, 32⟩
def HATCH_LOAD_CRC : Fld := ⟨0x034F000068, 0, 32⟩
def HATCH_LOAD_CTRL : Fld := ⟨0x034F000080, 0, 16⟩

/-! HR (08_hatch_mesh.md) -/
def HR_OUT_START_EN (u p d : Nat) : Fld := ⟨0x0340000000 + 0x40000 * u + 16 * p + 4 * d, 31, 1⟩
def HR_OUT_START_ENTRY (u p d : Nat) : Fld := ⟨0x0340000000 + 0x40000 * u + 16 * p + 4 * d, 0, 11⟩
def HR_FAN_START_EN (u p d : Nat) : Fld := ⟨0x0340000100 + 0x40000 * u + 16 * p + 4 * d, 31, 1⟩
def HR_FAN_START_ENTRY (u p d : Nat) : Fld := ⟨0x0340000100 + 0x40000 * u + 16 * p + 4 * d, 0, 11⟩
def HR_MEM_START_EN (u d : Nat) : Fld := ⟨0x0340000180 + 0x40000 * u + 4 * d, 31, 1⟩
def HR_MEM_START_ENTRY (u d : Nat) : Fld := ⟨0x0340000180 + 0x40000 * u + 4 * d, 0, 8⟩
def HR_OUT_STATUS_WAITING (u p : Nat) : Fld := ⟨0x0340000200 + 0x40000 * u + 4 * p, 31, 1⟩
def HR_OUT_STATUS_DONE (u p : Nat) : Fld := ⟨0x0340000200 + 0x40000 * u + 4 * p, 30, 1⟩
def HR_OUT_STATUS_ERR (u p : Nat) : Fld := ⟨0x0340000200 + 0x40000 * u + 4 * p, 29, 1⟩
def HR_OUT_STATUS_FILL (u p : Nat) : Fld := ⟨0x0340000200 + 0x40000 * u + 4 * p, 26, 3⟩
def HR_OUT_STATUS_ENTRY (u p : Nat) : Fld := ⟨0x0340000200 + 0x40000 * u + 4 * p, 13, 11⟩
def HR_OUT_STATUS_CHAN (u p : Nat) : Fld := ⟨0x0340000200 + 0x40000 * u + 4 * p, 0, 12⟩
def HR_IN_STATUS_WAITING (u p : Nat) : Fld := ⟨0x0340000220 + 0x40000 * u + 4 * p, 31, 1⟩
def HR_IN_STATUS_DONE (u p : Nat) : Fld := ⟨0x0340000220 + 0x40000 * u + 4 * p, 30, 1⟩
def HR_IN_STATUS_ERR (u p : Nat) : Fld := ⟨0x0340000220 + 0x40000 * u + 4 * p, 29, 1⟩
def HR_IN_STATUS_FILL (u p : Nat) : Fld := ⟨0x0340000220 + 0x40000 * u + 4 * p, 26, 3⟩
def HR_IN_STATUS_ENTRY (u p : Nat) : Fld := ⟨0x0340000220 + 0x40000 * u + 4 * p, 13, 11⟩
def HR_IN_STATUS_CHAN (u p : Nat) : Fld := ⟨0x0340000220 + 0x40000 * u + 4 * p, 0, 12⟩
def HR_FAULT_TABLE_UE (u : Nat) : Fld := ⟨0x0340000240 + 0x40000 * u, 2, 1⟩
def HR_FAULT_TABLE (u : Nat) : Fld := ⟨0x0340000240 + 0x40000 * u, 1, 1⟩
def HR_FAULT_LINK (u : Nat) : Fld := ⟨0x0340000240 + 0x40000 * u, 0, 1⟩
def HR_RELOC_SHIFT (u : Nat) : Fld := ⟨0x0340000244 + 0x40000 * u, 31, 1⟩
def HR_RELOC_CLOSED (u : Nat) : Fld := ⟨0x0340000244 + 0x40000 * u, 30, 1⟩
def HR_TOKENS (u p : Nat) : Fld := ⟨0x0340000250 + 0x40000 * u + 4 * p, 0, 32⟩
def HR_LINK_ERR (u : Nat) : Fld := ⟨0x0340000270 + 0x40000 * u, 0, 32⟩
def HR_LOAD_MAP (u i : Nat) : Fld := ⟨0x0340000400 + 0x40000 * u + 4 * i, 0, 32⟩

/-! TRACER (09_csi2_ports.md) -/
def TRACER_LINK_CTRL_EN (u : Nat) : Fld := ⟨0x0300000000 + 0x1000000 * u, 31, 1⟩
def TRACER_LINK_CTRL_PHY_MODE (u : Nat) : Fld := ⟨0x0300000000 + 0x1000000 * u, 30, 1⟩
def TRACER_LINK_CTRL_WIDTH (u : Nat) : Fld := ⟨0x0300000000 + 0x1000000 * u, 28, 2⟩
def TRACER_LINK_CTRL_VCX_EN (u : Nat) : Fld := ⟨0x0300000000 + 0x1000000 * u, 27, 1⟩
def TRACER_LINK_CTRL_SCRAMBLE (u : Nat) : Fld := ⟨0x0300000000 + 0x1000000 * u, 26, 1⟩
def TRACER_LINK_CTRL_CONT_CLK (u : Nat) : Fld := ⟨0x0300000000 + 0x1000000 * u, 25, 1⟩
def TRACER_LINK_CTRL_LANE_MAP (u : Nat) : Fld := ⟨0x0300000000 + 0x1000000 * u, 16, 8⟩
def TRACER_LINK_CTRL_POL (u : Nat) : Fld := ⟨0x0300000000 + 0x1000000 * u, 12, 4⟩
def TRACER_LINK_CTRL_CLK_POL (u : Nat) : Fld := ⟨0x0300000000 + 0x1000000 * u, 11, 1⟩
def TRACER_LINK_RATE (u : Nat) : Fld := ⟨0x0300000004 + 0x1000000 * u, 0, 16⟩
def TRACER_LINK_STATUS_ENABLED (u : Nat) : Fld := ⟨0x0300000008 + 0x1000000 * u, 31, 1⟩
def TRACER_LINK_STATUS_CFG_ERR (u : Nat) : Fld := ⟨0x0300000008 + 0x1000000 * u, 30, 1⟩
def TRACER_LINK_STATUS_HS (u : Nat) : Fld := ⟨0x0300000008 + 0x1000000 * u, 29, 1⟩
def TRACER_LINK_STATUS_DESKEWED (u : Nat) : Fld := ⟨0x0300000008 + 0x1000000 * u, 28, 1⟩
def TRACER_LINK_STATUS_STOP (u : Nat) : Fld := ⟨0x0300000008 + 0x1000000 * u, 24, 4⟩
def TRACER_LINK_STATUS_RATE_ACTUAL (u : Nat) : Fld := ⟨0x0300000008 + 0x1000000 * u, 0, 16⟩
def TRACER_LINK_TIMING (u : Nat) : Fld := ⟨0x030000000C + 0x1000000 * u, 0, 32⟩
def TRACER_LINK_ERR_WAKE (u : Nat) : Fld := ⟨0x0300000010 + 0x1000000 * u, 7, 1⟩
def TRACER_LINK_ERR_CFG (u : Nat) : Fld := ⟨0x0300000010 + 0x1000000 * u, 6, 1⟩
def TRACER_LINK_ERR_SYNC (u : Nat) : Fld := ⟨0x0300000010 + 0x1000000 * u, 5, 1⟩
def TRACER_LINK_ERR_DT (u : Nat) : Fld := ⟨0x0300000010 + 0x1000000 * u, 4, 1⟩
def TRACER_LINK_ERR_WC (u : Nat) : Fld := ⟨0x0300000010 + 0x1000000 * u, 3, 1⟩
def TRACER_LINK_ERR_CRC (u : Nat) : Fld := ⟨0x0300000010 + 0x1000000 * u, 2, 1⟩
def TRACER_LINK_ERR_HDR (u : Nat) : Fld := ⟨0x0300000010 + 0x1000000 * u, 1, 1⟩
def TRACER_LINK_ERR_PHY (u : Nat) : Fld := ⟨0x0300000010 + 0x1000000 * u, 0, 1⟩
def TRACER_LAST_HDR_VC (u : Nat) : Fld := ⟨0x0300000014 + 0x1000000 * u, 27, 5⟩
def TRACER_LAST_HDR_DT (u : Nat) : Fld := ⟨0x0300000014 + 0x1000000 * u, 21, 6⟩
def TRACER_LAST_HDR_WC (u : Nat) : Fld := ⟨0x0300000014 + 0x1000000 * u, 0, 16⟩
def TRACER_ERR_HDR_VALID (u : Nat) : Fld := ⟨0x0300000018 + 0x1000000 * u, 31, 1⟩
def TRACER_ERR_HDR_VC (u : Nat) : Fld := ⟨0x0300000018 + 0x1000000 * u, 26, 5⟩
def TRACER_ERR_HDR_DT (u : Nat) : Fld := ⟨0x0300000018 + 0x1000000 * u, 20, 6⟩
def TRACER_ERR_HDR_CODE (u : Nat) : Fld := ⟨0x0300000018 + 0x1000000 * u, 16, 4⟩
def TRACER_ERR_HDR_WC (u : Nat) : Fld := ⟨0x0300000018 + 0x1000000 * u, 0, 16⟩
def TRACER_FRAME_OPEN (u : Nat) : Fld := ⟨0x030000001C + 0x1000000 * u, 0, 32⟩
def TRACER_LONG_PKTS (u : Nat) : Fld := ⟨0x0300000020 + 0x1000000 * u, 0, 32⟩
def TRACER_SHORT_PKTS (u : Nat) : Fld := ⟨0x0300000024 + 0x1000000 * u, 0, 32⟩
def TRACER_BYTES (u : Nat) : Fld := ⟨0x0300000028 + 0x1000000 * u, 0, 32⟩
def TRACER_FRAMES (u : Nat) : Fld := ⟨0x030000002C + 0x1000000 * u, 0, 32⟩
def TRACER_ECC_CORR (u : Nat) : Fld := ⟨0x0300000030 + 0x1000000 * u, 0, 32⟩
def TRACER_HDR_ERR (u : Nat) : Fld := ⟨0x0300000034 + 0x1000000 * u, 0, 32⟩
def TRACER_CRC_ERR (u : Nat) : Fld := ⟨0x0300000038 + 0x1000000 * u, 0, 32⟩
def TRACER_WC_ERR (u : Nat) : Fld := ⟨0x030000003C + 0x1000000 * u, 0, 32⟩
def TRACER_DT_ERR (u : Nat) : Fld := ⟨0x0300000040 + 0x1000000 * u, 0, 32⟩
def TRACER_SYNC_ERR (u : Nat) : Fld := ⟨0x0300000044 + 0x1000000 * u, 0, 32⟩
def TRACER_PHY_ERR (u : Nat) : Fld := ⟨0x0300000048 + 0x1000000 * u, 0, 32⟩
def TRACER_WAKE_LOST (u : Nat) : Fld := ⟨0x030000004C + 0x1000000 * u, 0, 32⟩
def TRACER_RX_VCMAP_EN (u v : Nat) : Fld := ⟨0x0300000080 + 0x1000000 * u + 4 * v, 31, 1⟩
def TRACER_RX_VCMAP_ROLE (u v : Nat) : Fld := ⟨0x0300000080 + 0x1000000 * u + 4 * v, 29, 2⟩
def TRACER_RX_VCMAP_STREAM (u v : Nat) : Fld := ⟨0x0300000080 + 0x1000000 * u + 4 * v, 0, 4⟩
def TRACER_STREAM_CFG_EN (u s : Nat) : Fld := ⟨0x0300000100 + 0x1000000 * u + 64 * s, 31, 1⟩
def TRACER_STREAM_CFG_PLACE_EN (u s : Nat) : Fld := ⟨0x0300000100 + 0x1000000 * u + 64 * s, 30, 1⟩
def TRACER_STREAM_CFG_READY_WHOLE (u s : Nat) : Fld := ⟨0x0300000100 + 0x1000000 * u + 64 * s, 29, 1⟩
def TRACER_STREAM_CFG_STEP_SRC (u s : Nat) : Fld := ⟨0x0300000100 + 0x1000000 * u + 64 * s, 28, 1⟩
def TRACER_STREAM_CFG_FRAME_SRC (u s : Nat) : Fld := ⟨0x0300000100 + 0x1000000 * u + 64 * s, 26, 2⟩
def TRACER_STREAM_CFG_OVF (u s : Nat) : Fld := ⟨0x0300000100 + 0x1000000 * u + 64 * s, 25, 1⟩
def TRACER_STREAM_CFG_QUOTA (u s : Nat) : Fld := ⟨0x0300000100 + 0x1000000 * u + 64 * s, 18, 7⟩
def TRACER_STREAM_PACE_STEP_EVERY (u s : Nat) : Fld := ⟨0x0300000104 + 0x1000000 * u + 64 * s, 16, 16⟩
def TRACER_STREAM_PACE_FRAME_EVERY (u s : Nat) : Fld := ⟨0x0300000104 + 0x1000000 * u + 64 * s, 0, 16⟩
def TRACER_STREAM_ENC_CFG0_TYPE (u s : Nat) : Fld := ⟨0x0300000108 + 0x1000000 * u + 64 * s, 30, 2⟩
def TRACER_STREAM_ENC_CFG0_COMP (u s : Nat) : Fld := ⟨0x0300000108 + 0x1000000 * u + 64 * s, 28, 2⟩
def TRACER_STREAM_ENC_CFG0_SHIFT (u s : Nat) : Fld := ⟨0x0300000108 + 0x1000000 * u + 64 * s, 23, 5⟩
def TRACER_STREAM_ENC_CFG0_MC (u s : Nat) : Fld := ⟨0x0300000108 + 0x1000000 * u + 64 * s, 22, 1⟩
def TRACER_STREAM_ENC_CFG0_DCORE_BASE (u s : Nat) : Fld := ⟨0x0300000108 + 0x1000000 * u + 64 * s, 16, 6⟩
def TRACER_STREAM_ENC_CFG0_TH (u s : Nat) : Fld := ⟨0x0300000108 + 0x1000000 * u + 64 * s, 0, 16⟩
def TRACER_STREAM_ENC_CFG1_AXON_BASE (u s : Nat) : Fld := ⟨0x030000010C + 0x1000000 * u + 64 * s, 18, 14⟩
def TRACER_STREAM_ENC_CFG1_FIRST (u s : Nat) : Fld := ⟨0x030000010C + 0x1000000 * u + 64 * s, 6, 12⟩
def TRACER_STREAM_ENC_CFG1_RMAX (u s : Nat) : Fld := ⟨0x030000010C + 0x1000000 * u + 64 * s, 2, 4⟩
def TRACER_STREAM_ENC_CFG1_DECIM (u s : Nat) : Fld := ⟨0x030000010C + 0x1000000 * u + 64 * s, 0, 2⟩
def TRACER_STREAM_ENC_CFG2_COUNT (u s : Nat) : Fld := ⟨0x0300000110 + 0x1000000 * u + 64 * s, 20, 12⟩
def TRACER_STREAM_ENC_CFG2_JPC (u s : Nat) : Fld := ⟨0x0300000110 + 0x1000000 * u + 64 * s, 8, 12⟩
def TRACER_STREAM_MASK_LO (u s : Nat) : Fld := ⟨0x0300000114 + 0x1000000 * u + 64 * s, 0, 32⟩
def TRACER_STREAM_MASK_HI (u s : Nat) : Fld := ⟨0x0300000118 + 0x1000000 * u + 64 * s, 0, 32⟩
def TRACER_STREAM_STEP (u s : Nat) : Fld := ⟨0x030000011C + 0x1000000 * u + 64 * s, 0, 32⟩
def TRACER_STREAM_FRAME (u s : Nat) : Fld := ⟨0x0300000120 + 0x1000000 * u + 64 * s, 0, 32⟩
def TRACER_STREAM_FILL (u s : Nat) : Fld := ⟨0x0300000124 + 0x1000000 * u + 64 * s, 0, 19⟩
def TRACER_STREAM_UNITS (u s : Nat) : Fld := ⟨0x0300000128 + 0x1000000 * u + 64 * s, 0, 32⟩
def TRACER_STREAM_DROPS (u s : Nat) : Fld := ⟨0x030000012C + 0x1000000 * u + 64 * s, 0, 32⟩
def TRACER_STREAM_EVENTS (u s : Nat) : Fld := ⟨0x0300000130 + 0x1000000 * u + 64 * s, 0, 32⟩
def TRACER_STREAM_UNPLACED (u s : Nat) : Fld := ⟨0x0300000134 + 0x1000000 * u + 64 * s, 0, 32⟩
def TRACER_STREAM_SEQ_GAP (u s : Nat) : Fld := ⟨0x0300000138 + 0x1000000 * u + 64 * s, 0, 32⟩
def TRACER_STREAM_ENC_REJECT (u s : Nat) : Fld := ⟨0x030000013C + 0x1000000 * u + 64 * s, 0, 32⟩
def TRACER_PD_START_EN (u d : Nat) : Fld := ⟨0x0300000200 + 0x1000000 * u + 4 * d, 31, 1⟩
def TRACER_PD_START_ENTRY (u d : Nat) : Fld := ⟨0x0300000200 + 0x1000000 * u + 4 * d, 0, 6⟩
def TRACER_TR_LAST_STAMP_LO (u : Nat) : Fld := ⟨0x0300000214 + 0x1000000 * u, 0, 32⟩
def TRACER_TR_LAST_STAMP_HI (u : Nat) : Fld := ⟨0x0300000218 + 0x1000000 * u, 0, 32⟩
def TRACER_TR_FAULT_UE (u : Nat) : Fld := ⟨0x0300000220 + 0x1000000 * u, 3, 1⟩
def TRACER_TR_FAULT_ENC (u : Nat) : Fld := ⟨0x0300000220 + 0x1000000 * u, 2, 1⟩
def TRACER_TR_FAULT_MALFORMED (u : Nat) : Fld := ⟨0x0300000220 + 0x1000000 * u, 1, 1⟩
def TRACER_TR_FAULT_DROP (u : Nat) : Fld := ⟨0x0300000220 + 0x1000000 * u, 0, 1⟩
def TRACER_PD0_LAST (u i : Nat) : Fld := ⟨0x0300001000 + 0x1000000 * u + 8 * i, 31, 1⟩
def TRACER_PD0_STREAM (u i : Nat) : Fld := ⟨0x0300001000 + 0x1000000 * u + 8 * i, 29, 2⟩
def TRACER_PD0_OFFSET (u i : Nat) : Fld := ⟨0x0300001000 + 0x1000000 * u + 8 * i, 0, 20⟩
def TRACER_PD1 (u i : Nat) : Fld := ⟨0x0300001004 + 0x1000000 * u + 8 * i, 12, 20⟩

/-! PRESS (09_csi2_ports.md) -/
def PRESS_LINK_CTRL_EN (u : Nat) : Fld := ⟨0x0310000000 + 0x1000000 * u, 31, 1⟩
def PRESS_LINK_CTRL_PHY_MODE (u : Nat) : Fld := ⟨0x0310000000 + 0x1000000 * u, 30, 1⟩
def PRESS_LINK_CTRL_WIDTH (u : Nat) : Fld := ⟨0x0310000000 + 0x1000000 * u, 28, 2⟩
def PRESS_LINK_CTRL_VCX_EN (u : Nat) : Fld := ⟨0x0310000000 + 0x1000000 * u, 27, 1⟩
def PRESS_LINK_CTRL_SCRAMBLE (u : Nat) : Fld := ⟨0x0310000000 + 0x1000000 * u, 26, 1⟩
def PRESS_LINK_CTRL_CONT_CLK (u : Nat) : Fld := ⟨0x0310000000 + 0x1000000 * u, 25, 1⟩
def PRESS_LINK_CTRL_LANE_MAP (u : Nat) : Fld := ⟨0x0310000000 + 0x1000000 * u, 16, 8⟩
def PRESS_LINK_CTRL_POL (u : Nat) : Fld := ⟨0x0310000000 + 0x1000000 * u, 12, 4⟩
def PRESS_LINK_CTRL_CLK_POL (u : Nat) : Fld := ⟨0x0310000000 + 0x1000000 * u, 11, 1⟩
def PRESS_LINK_RATE (u : Nat) : Fld := ⟨0x0310000004 + 0x1000000 * u, 0, 16⟩
def PRESS_LINK_STATUS_ENABLED (u : Nat) : Fld := ⟨0x0310000008 + 0x1000000 * u, 31, 1⟩
def PRESS_LINK_STATUS_CFG_ERR (u : Nat) : Fld := ⟨0x0310000008 + 0x1000000 * u, 30, 1⟩
def PRESS_LINK_STATUS_HS (u : Nat) : Fld := ⟨0x0310000008 + 0x1000000 * u, 29, 1⟩
def PRESS_LINK_STATUS_DESKEWED (u : Nat) : Fld := ⟨0x0310000008 + 0x1000000 * u, 28, 1⟩
def PRESS_LINK_STATUS_STOP (u : Nat) : Fld := ⟨0x0310000008 + 0x1000000 * u, 24, 4⟩
def PRESS_LINK_STATUS_RATE_ACTUAL (u : Nat) : Fld := ⟨0x0310000008 + 0x1000000 * u, 0, 16⟩
def PRESS_LINK_TIMING_DESKEW_PERIOD (u : Nat) : Fld := ⟨0x031000000C + 0x1000000 * u, 16, 16⟩
def PRESS_LINK_TIMING_PREP_EXTRA (u : Nat) : Fld := ⟨0x031000000C + 0x1000000 * u, 8, 8⟩
def PRESS_LINK_TIMING_TRAIL_EXTRA (u : Nat) : Fld := ⟨0x031000000C + 0x1000000 * u, 0, 8⟩
def PRESS_LINK_ERR (u : Nat) : Fld := ⟨0x0310000010 + 0x1000000 * u, 6, 1⟩
def PRESS_LONG_PKTS (u : Nat) : Fld := ⟨0x0310000020 + 0x1000000 * u, 0, 32⟩
def PRESS_SHORT_PKTS (u : Nat) : Fld := ⟨0x0310000024 + 0x1000000 * u, 0, 32⟩
def PRESS_BYTES (u : Nat) : Fld := ⟨0x0310000028 + 0x1000000 * u, 0, 32⟩
def PRESS_FRAMES (u : Nat) : Fld := ⟨0x031000002C + 0x1000000 * u, 0, 32⟩
def PRESS_ZERO (u i : Nat) : Fld := ⟨0x0310000030 + 0x1000000 * u + 4 * i, 0, 32⟩
def PRESS_RES_CFG_EN (u c : Nat) : Fld := ⟨0x0310000100 + 0x1000000 * u + 4 * c, 31, 1⟩
def PRESS_RES_CFG_VC (u c : Nat) : Fld := ⟨0x0310000100 + 0x1000000 * u + 4 * c, 26, 5⟩
def PRESS_OD_START_EN (u d : Nat) : Fld := ⟨0x0310000110 + 0x1000000 * u + 4 * d, 31, 1⟩
def PRESS_OD_START_ENTRY (u d : Nat) : Fld := ⟨0x0310000110 + 0x1000000 * u + 4 * d, 0, 6⟩
def PRESS_RO_CFG_EN (u : Nat) : Fld := ⟨0x0310000120 + 0x1000000 * u, 31, 1⟩
def PRESS_RO_CFG_VC (u : Nat) : Fld := ⟨0x0310000120 + 0x1000000 * u, 26, 5⟩
def PRESS_RO_CFG_LOG2G (u : Nat) : Fld := ⟨0x0310000120 + 0x1000000 * u, 22, 4⟩
def PRESS_RO_CFG_MAXB (u : Nat) : Fld := ⟨0x0310000120 + 0x1000000 * u, 0, 6⟩
def PRESS_ANN_CFG_EN (u : Nat) : Fld := ⟨0x0310000124 + 0x1000000 * u, 31, 1⟩
def PRESS_ANN_CFG_VC (u : Nat) : Fld := ⟨0x0310000124 + 0x1000000 * u, 26, 5⟩
def PRESS_HB_CFG_EN (u : Nat) : Fld := ⟨0x0310000128 + 0x1000000 * u, 31, 1⟩
def PRESS_HB_CFG_VC (u : Nat) : Fld := ⟨0x0310000128 + 0x1000000 * u, 26, 5⟩
def PRESS_HB_CFG_PERIOD (u : Nat) : Fld := ⟨0x0310000128 + 0x1000000 * u, 0, 16⟩
def PRESS_RO_BIND_VALID (u i : Nat) : Fld := ⟨0x0310000130 + 0x1000000 * u + 4 * i, 31, 1⟩
def PRESS_RO_BIND_QUEUE (u i : Nat) : Fld := ⟨0x0310000130 + 0x1000000 * u + 4 * i, 0, 22⟩
def PRESS_REPEAT_EN (u : Nat) : Fld := ⟨0x0310000150 + 0x1000000 * u, 31, 1⟩
def PRESS_REPEAT_TRACER (u : Nat) : Fld := ⟨0x0310000150 + 0x1000000 * u, 28, 3⟩
def PRESS_PR_STATUS (u : Nat) : Fld := ⟨0x0310000154 + 0x1000000 * u, 0, 4⟩
def PRESS_PR_FAULT_REPEAT_CUT (u : Nat) : Fld := ⟨0x0310000158 + 0x1000000 * u, 3, 1⟩
def PRESS_PR_FAULT_UE (u : Nat) : Fld := ⟨0x0310000158 + 0x1000000 * u, 2, 1⟩
def PRESS_PR_FAULT_READOUT (u : Nat) : Fld := ⟨0x0310000158 + 0x1000000 * u, 1, 1⟩
def PRESS_PR_FAULT_DESC (u : Nat) : Fld := ⟨0x0310000158 + 0x1000000 * u, 0, 1⟩
def PRESS_FRAMES_INVALID (u : Nat) : Fld := ⟨0x0310000160 + 0x1000000 * u, 0, 32⟩
def PRESS_RO_RECORDS (u : Nat) : Fld := ⟨0x0310000164 + 0x1000000 * u, 0, 32⟩
def PRESS_ANN_LOST (u : Nat) : Fld := ⟨0x0310000168 + 0x1000000 * u, 0, 32⟩
def PRESS_HB_SKIP (u : Nat) : Fld := ⟨0x031000016C + 0x1000000 * u, 0, 32⟩
def PRESS_DISCARD_TOK (u : Nat) : Fld := ⟨0x0310000170 + 0x1000000 * u, 0, 32⟩
def PRESS_REPEAT_PKTS (u : Nat) : Fld := ⟨0x0310000174 + 0x1000000 * u, 0, 32⟩
def PRESS_REPEAT_CUT (u : Nat) : Fld := ⟨0x0310000178 + 0x1000000 * u, 0, 32⟩
def PRESS_OD0_LAST (u i : Nat) : Fld := ⟨0x0310001000 + 0x1000000 * u + 8 * i, 31, 1⟩
def PRESS_OD0_STREAM (u i : Nat) : Fld := ⟨0x0310001000 + 0x1000000 * u + 8 * i, 29, 2⟩
def PRESS_OD0_ID (u i : Nat) : Fld := ⟨0x0310001000 + 0x1000000 * u + 8 * i, 21, 8⟩
def PRESS_OD1_TOKENS (u i : Nat) : Fld := ⟨0x0310001004 + 0x1000000 * u + 8 * i, 12, 20⟩
def PRESS_OD1_PKT_TOKENS (u i : Nat) : Fld := ⟨0x0310001004 + 0x1000000 * u + 8 * i, 0, 12⟩

/-! RACK (11_rack_queues.md) -/
def RACK_CTRL_FLUSH : Fld := ⟨0x0320000000, 1, 1⟩
def RACK_CTRL_EN : Fld := ⟨0x0320000000, 0, 1⟩
def RACK_STATUS_STATE : Fld := ⟨0x0320000004, 30, 2⟩
def RACK_STATUS_DIRTY : Fld := ⟨0x0320000004, 0, 16⟩
def RACK_DESC_BASE_LO : Fld := ⟨0x0320000008, 26, 6⟩
def RACK_DESC_BASE_HI : Fld := ⟨0x032000000C, 0, 8⟩
def RACK_RSV_LIMIT : Fld := ⟨0x0320000010, 0, 32⟩
def RACK_FAULT_ENDPOINT : Fld := ⟨0x0320000040, 7, 1⟩
def RACK_FAULT_REVOKED : Fld := ⟨0x0320000040, 6, 1⟩
def RACK_FAULT_REC_UE : Fld := ⟨0x0320000040, 5, 1⟩
def RACK_FAULT_DESC_UE : Fld := ⟨0x0320000040, 4, 1⟩
def RACK_FAULT_INVALID : Fld := ⟨0x0320000040, 3, 1⟩
def RACK_FAULT_CLAIM : Fld := ⟨0x0320000040, 2, 1⟩
def RACK_FAULT_OVERSIZE : Fld := ⟨0x0320000040, 1, 1⟩
def RACK_FAULT_DROP : Fld := ⟨0x0320000040, 0, 1⟩
def RACK_LAST_Q_VALID : Fld := ⟨0x0320000044, 31, 1⟩
def RACK_LAST_Q_QUEUE : Fld := ⟨0x0320000044, 0, 22⟩
def RACK_RECORDS_IN : Fld := ⟨0x0320000050, 0, 32⟩
def RACK_RECORDS_OUT : Fld := ⟨0x0320000054, 0, 32⟩
def RACK_PADS : Fld := ⟨0x0320000058, 0, 32⟩
def RACK_DROPS : Fld := ⟨0x032000005C, 0, 32⟩
def RACK_REJECTS : Fld := ⟨0x0320000060, 0, 32⟩
def RACK_BLOCK_WAIT : Fld := ⟨0x0320000064, 0, 32⟩
def RACK_CACHE_MISS : Fld := ⟨0x0320000068, 0, 32⟩
def RACK_TRUNC : Fld := ⟨0x032000006C, 0, 32⟩
def RACK_DQ_SEL (ini : Nat) : Fld := ⟨0x0320000100 + bankStride * ini, 0, 22⟩
def RACK_DQ_CMD (ini : Nat) : Fld := ⟨0x0320000104 + bankStride * ini, 0, 4⟩
def RACK_DQ_DATA (w ini : Nat) : Fld := ⟨0x0320000108 + 4 * w + bankStride * ini, 0, 32⟩
def RACK_DQ_STATUS_BUSY (ini : Nat) : Fld := ⟨0x0320000118 + bankStride * ini, 31, 1⟩
def RACK_DQ_STATUS_ERR (ini : Nat) : Fld := ⟨0x0320000118 + bankStride * ini, 30, 1⟩
def RACK_DQ_STATUS_REASON (ini : Nat) : Fld := ⟨0x0320000118 + bankStride * ini, 0, 4⟩
def RACK_SW_CMD (ini : Nat) : Fld := ⟨0x0320000120 + bankStride * ini, 0, 3⟩
def RACK_SW_LEN (ini : Nat) : Fld := ⟨0x0320000124 + bankStride * ini, 0, 17⟩
def RACK_SW_ADDR_LO (ini : Nat) : Fld := ⟨0x0320000128 + bankStride * ini, 0, 32⟩
def RACK_SW_ADDR_HI (ini : Nat) : Fld := ⟨0x032000012C + bankStride * ini, 0, 8⟩
def RACK_SW_HDR0 (ini : Nat) : Fld := ⟨0x0320000130 + bankStride * ini, 0, 32⟩
def RACK_SW_HDR1 (ini : Nat) : Fld := ⟨0x0320000134 + bankStride * ini, 0, 32⟩
def RACK_SW_STATUS_BUSY (ini : Nat) : Fld := ⟨0x0320000138 + bankStride * ini, 31, 1⟩
def RACK_SW_STATUS_ERR (ini : Nat) : Fld := ⟨0x0320000138 + bankStride * ini, 30, 1⟩
def RACK_SW_STATUS_EMPTY (ini : Nat) : Fld := ⟨0x0320000138 + bankStride * ini, 29, 1⟩
def RACK_SW_STATUS_FULL (ini : Nat) : Fld := ⟨0x0320000138 + bankStride * ini, 28, 1⟩
def RACK_SW_STATUS_OPEN (ini : Nat) : Fld := ⟨0x0320000138 + bankStride * ini, 27, 1⟩
def RACK_SW_STATUS_REASON (ini : Nat) : Fld := ⟨0x0320000138 + bankStride * ini, 0, 4⟩
def RACK_RH_IN_START_EN (d : Nat) : Fld := ⟨0x0320000200 + 4 * d, 31, 1⟩
def RACK_RH_IN_START_ENTRY (d : Nat) : Fld := ⟨0x0320000200 + 4 * d, 0, 6⟩
def RACK_RH_OUT_START_EN (d : Nat) : Fld := ⟨0x0320000210 + 4 * d, 31, 1⟩
def RACK_RH_OUT_START_ENTRY (d : Nat) : Fld := ⟨0x0320000210 + 4 * d, 0, 6⟩
def RACK_RH_IN (i w : Nat) : Fld := ⟨0x0320001000 + 8 * i + 4 * w, 0, 32⟩
def RACK_RH_OUT (i w : Nat) : Fld := ⟨0x0320001400 + 8 * i + 4 * w, 0, 32⟩

/-! INT (12_memory_integrity.md) -/
def INT_CTRL_REMAP_TH (b : Nat) : Fld := ⟨b, 24, 8⟩
def INT_CTRL_AUTO_REMAP (b : Nat) : Fld := ⟨b, 1, 1⟩
def INT_CTRL_SCRUB_EN (b : Nat) : Fld := ⟨b, 0, 1⟩
def INT_ECC_T_LO (b : Nat) : Fld := ⟨b + 0x4, 0, 32⟩
def INT_ECC_T_HI (b : Nat) : Fld := ⟨b + 0x8, 0, 32⟩
def INT_SCRUB_PERIOD (b : Nat) : Fld := ⟨b + 0xC, 0, 32⟩
def INT_SCRUB_POS_BANK (b : Nat) : Fld := ⟨b + 0x10, 26, 5⟩
def INT_SCRUB_POS_WORD (b : Nat) : Fld := ⟨b + 0x10, 0, 13⟩
def INT_UE_INFO_VALID (b : Nat) : Fld := ⟨b + 0x14, 31, 1⟩
def INT_UE_INFO_BANK (b : Nat) : Fld := ⟨b + 0x14, 26, 5⟩
def INT_UE_INFO_WORD (b : Nat) : Fld := ⟨b + 0x14, 0, 13⟩
def INT_FAULT_PLATE_FULL (b : Nat) : Fld := ⟨b + 0x18, 7, 1⟩
def INT_FAULT_PLATE_UE (b : Nat) : Fld := ⟨b + 0x18, 6, 1⟩
def INT_FAULT_RAW (b : Nat) : Fld := ⟨b + 0x18, 4, 1⟩
def INT_FAULT_REMAP_FULL (b : Nat) : Fld := ⟨b + 0x18, 3, 1⟩
def INT_FAULT_SCRUB_UE (b : Nat) : Fld := ⟨b + 0x18, 2, 1⟩
def INT_FAULT_LOG_FULL (b : Nat) : Fld := ⟨b + 0x18, 1, 1⟩
def INT_FAULT_CE_REPEAT (b : Nat) : Fld := ⟨b + 0x18, 0, 1⟩
def INT_LOG_CLEAR (b : Nat) : Fld := ⟨b + 0x1C, 0, 1⟩
def INT_CE_COUNT (b : Nat) : Fld := ⟨b + 0x20, 0, 32⟩
def INT_UE_COUNT (b : Nat) : Fld := ⟨b + 0x24, 0, 32⟩
def INT_LOG_LOST (b : Nat) : Fld := ⟨b + 0x28, 0, 32⟩
def INT_SCRUB_PASSES (b : Nat) : Fld := ⟨b + 0x2C, 0, 32⟩
def INT_REMAPS (b : Nat) : Fld := ⟨b + 0x30, 0, 32⟩
def INT_LOG0_VALID (b i : Nat) : Fld := ⟨b + 0x40 + 8 * i, 31, 1⟩
def INT_LOG0_BANK (b i : Nat) : Fld := ⟨b + 0x40 + 8 * i, 26, 5⟩
def INT_LOG0_NBITS (b i : Nat) : Fld := ⟨b + 0x40 + 8 * i, 24, 2⟩
def INT_LOG0_WORD (b i : Nat) : Fld := ⟨b + 0x40 + 8 * i, 0, 13⟩
def INT_LOG1 (b i : Nat) : Fld := ⟨b + 0x44 + 8 * i, 24, 8⟩
def INT_RAW_SEL_PLATE (b : Nat) : Fld := ⟨b + 0xC0, 31, 1⟩
def INT_RAW_SEL_BANK (b : Nat) : Fld := ⟨b + 0xC0, 26, 5⟩
def INT_RAW_SEL_WORD (b : Nat) : Fld := ⟨b + 0xC0, 0, 13⟩
def INT_RAW_CMD (b : Nat) : Fld := ⟨b + 0xC4, 0, 3⟩
def INT_RAW_STATUS_BUSY (b : Nat) : Fld := ⟨b + 0xC8, 31, 1⟩
def INT_RAW_STATUS_ERR (b : Nat) : Fld := ⟨b + 0xC8, 30, 1⟩
def INT_RAW_CHECK (b : Nat) : Fld := ⟨b + 0xCC, 0, 32⟩
def INT_RAW_DATA (b l : Nat) : Fld := ⟨b + 0xE0 + 4 * l, 0, 32⟩
def INT_REMAP_VALID (b k e : Nat) : Fld := ⟨b + 0x400 + 32 * k + 4 * e, 31, 1⟩
def INT_REMAP_WORD (b k e : Nat) : Fld := ⟨b + 0x400 + 32 * k + 4 * e, 0, 13⟩

/-! PLATE (12_memory_integrity.md) -/
def PLATE_STATUS_T (b : Nat) : Fld := ⟨b + 0x100, 8, 3⟩
def PLATE_STATUS_FREE (b : Nat) : Fld := ⟨b + 0x100, 0, 8⟩
def PLATE_SCRUB_EN (b : Nat) : Fld := ⟨b + 0x104, 31, 1⟩
def PLATE_SCRUB_PERIOD (b : Nat) : Fld := ⟨b + 0x104, 0, 31⟩
def PLATE_UE_INFO_VALID (b : Nat) : Fld := ⟨b + 0x108, 31, 1⟩
def PLATE_UE_INFO_PAGE (b : Nat) : Fld := ⟨b + 0x108, 0, 11⟩
def PLATE_CE_COUNT (b : Nat) : Fld := ⟨b + 0x10C, 0, 32⟩
def PLATE_REMAPS (b : Nat) : Fld := ⟨b + 0x110, 0, 32⟩
def PLATE_LOG0_VALID (b i : Nat) : Fld := ⟨b + 0x140 + 8 * i, 31, 1⟩
def PLATE_LOG0_NBITS (b i : Nat) : Fld := ⟨b + 0x140 + 8 * i, 25, 6⟩
def PLATE_LOG0_PAGE (b i : Nat) : Fld := ⟨b + 0x140 + 8 * i, 0, 11⟩
def PLATE_LOG1 (b i : Nat) : Fld := ⟨b + 0x144 + 8 * i, 24, 8⟩
def PLATE_REMAP_VALID (b e : Nat) : Fld := ⟨b + 0x1C0 + 4 * e, 31, 1⟩
def PLATE_REMAP_PAGE (b e : Nat) : Fld := ⟨b + 0x1C0 + 4 * e, 0, 11⟩

/-! MC (12_memory_integrity.md) -/
def MC_CTRL_REMAP_TH (u : Nat) : Fld := ⟨0x0350000000 + 0x1000000 * u, 24, 8⟩
def MC_CTRL_T (u : Nat) : Fld := ⟨0x0350000000 + 0x1000000 * u, 4, 3⟩
def MC_CTRL_AUTO_REMAP (u : Nat) : Fld := ⟨0x0350000000 + 0x1000000 * u, 1, 1⟩
def MC_CTRL_SCRUB_EN (u : Nat) : Fld := ⟨0x0350000000 + 0x1000000 * u, 0, 1⟩
def MC_STATUS_REFRATE (u : Nat) : Fld := ⟨0x0350000004 + 0x1000000 * u, 2, 2⟩
def MC_STATUS_HOT (u : Nat) : Fld := ⟨0x0350000004 + 0x1000000 * u, 1, 1⟩
def MC_STATUS_TRAINED (u : Nat) : Fld := ⟨0x0350000004 + 0x1000000 * u, 0, 1⟩
def MC_SCRUB_PERIOD (u : Nat) : Fld := ⟨0x0350000008 + 0x1000000 * u, 0, 32⟩
def MC_SCRUB_POS_CH (u : Nat) : Fld := ⟨0x035000000C + 0x1000000 * u, 20, 2⟩
def MC_SCRUB_POS_PAGE (u : Nat) : Fld := ⟨0x035000000C + 0x1000000 * u, 0, 20⟩
def MC_INVAL_BASE (u : Nat) : Fld := ⟨0x0350000010 + 0x1000000 * u, 0, 32⟩
def MC_INVAL_LEN (u : Nat) : Fld := ⟨0x0350000014 + 0x1000000 * u, 0, 32⟩
def MC_INVAL_CMD_BUSY (u : Nat) : Fld := ⟨0x0350000018 + 0x1000000 * u, 31, 1⟩
def MC_INVAL_CMD_GO (u : Nat) : Fld := ⟨0x0350000018 + 0x1000000 * u, 0, 1⟩
def MC_CE_COUNT (u : Nat) : Fld := ⟨0x0350000020 + 0x1000000 * u, 0, 32⟩
def MC_UE_COUNT (u : Nat) : Fld := ⟨0x0350000024 + 0x1000000 * u, 0, 32⟩
def MC_LOG_LOST (u : Nat) : Fld := ⟨0x0350000028 + 0x1000000 * u, 0, 32⟩
def MC_SCRUB_PASSES (u : Nat) : Fld := ⟨0x035000002C + 0x1000000 * u, 0, 32⟩
def MC_REMAPS (u : Nat) : Fld := ⟨0x0350000030 + 0x1000000 * u, 0, 32⟩
def MC_FAULT_RAW (u : Nat) : Fld := ⟨0x0350000040 + 0x1000000 * u, 8, 1⟩
def MC_FAULT_LOG_FULL (u : Nat) : Fld := ⟨0x0350000040 + 0x1000000 * u, 7, 1⟩
def MC_FAULT_CE_REPEAT (u : Nat) : Fld := ⟨0x0350000040 + 0x1000000 * u, 6, 1⟩
def MC_FAULT_HOT (u : Nat) : Fld := ⟨0x0350000040 + 0x1000000 * u, 5, 1⟩
def MC_FAULT_BITMAP_UE (u : Nat) : Fld := ⟨0x0350000040 + 0x1000000 * u, 4, 1⟩
def MC_FAULT_REMAP_FULL (u : Nat) : Fld := ⟨0x0350000040 + 0x1000000 * u, 3, 1⟩
def MC_FAULT_SCRUB_UE (u : Nat) : Fld := ⟨0x0350000040 + 0x1000000 * u, 2, 1⟩
def MC_FAULT_UE (u : Nat) : Fld := ⟨0x0350000040 + 0x1000000 * u, 1, 1⟩
def MC_LOG_CLEAR (u : Nat) : Fld := ⟨0x0350000044 + 0x1000000 * u, 0, 1⟩
def MC_UE_INFO_VALID (u : Nat) : Fld := ⟨0x0350000048 + 0x1000000 * u, 31, 1⟩
def MC_UE_INFO_CH (u : Nat) : Fld := ⟨0x0350000048 + 0x1000000 * u, 20, 2⟩
def MC_UE_INFO_PAGE (u : Nat) : Fld := ⟨0x0350000048 + 0x1000000 * u, 0, 20⟩
def MC_LOG0_VALID (u i : Nat) : Fld := ⟨0x0350000100 + 0x1000000 * u + 8 * i, 31, 1⟩
def MC_LOG0_CH (u i : Nat) : Fld := ⟨0x0350000100 + 0x1000000 * u + 8 * i, 29, 2⟩
def MC_LOG0_NBITS (u i : Nat) : Fld := ⟨0x0350000100 + 0x1000000 * u + 8 * i, 20, 6⟩
def MC_LOG0_PAGE (u i : Nat) : Fld := ⟨0x0350000100 + 0x1000000 * u + 8 * i, 0, 20⟩
def MC_LOG1 (u i : Nat) : Fld := ⟨0x0350000104 + 0x1000000 * u + 8 * i, 24, 8⟩
def MC_REMAP_VALID (u c e : Nat) : Fld := ⟨0x0350000400 + 0x1000000 * u + 128 * c + 4 * e, 31, 1⟩
def MC_REMAP_PAGE (u c e : Nat) : Fld := ⟨0x0350000400 + 0x1000000 * u + 128 * c + 4 * e, 0, 20⟩
def MC_RAW_SEL_CHUNK (u : Nat) : Fld := ⟨0x0350000600 + 0x1000000 * u, 22, 6⟩
def MC_RAW_SEL_CH (u : Nat) : Fld := ⟨0x0350000600 + 0x1000000 * u, 20, 2⟩
def MC_RAW_SEL_PAGE (u : Nat) : Fld := ⟨0x0350000600 + 0x1000000 * u, 0, 20⟩
def MC_RAW_CMD (u : Nat) : Fld := ⟨0x0350000604 + 0x1000000 * u, 0, 3⟩
def MC_RAW_STATUS_BUSY (u : Nat) : Fld := ⟨0x0350000608 + 0x1000000 * u, 31, 1⟩
def MC_RAW_STATUS_ERR (u : Nat) : Fld := ⟨0x0350000608 + 0x1000000 * u, 30, 1⟩
def MC_RAW_DATA (u l : Nat) : Fld := ⟨0x0350000620 + 0x1000000 * u + 4 * l, 0, 32⟩

end F

end Sys2Proof.Machine
end

