-- ==== Sys2Proof/Machine/Regs.lean ====
section
/-! DEFINITION. The register tables of the spec (R11, R12): for each block, its registers by offset, and for
each register its fields with access code and reset value.  Reserved bits have no field: they read as zero
(R14).  A reset value that the spec takes from a strap, a fuse, the key store or a directory stands here as 0
and is set by the operation that senses it. -/

namespace Sys2Proof.Machine

/-- The access codes of R12. -/
inductive Acc where
  | ro | rw | w1c | w1s | rc | wo
  deriving DecidableEq, Repr

/-- One field of a register: low bit, width, access code, reset value, and whether RESET_N keeps it (R11). -/
structure FieldRow where
  lo : Nat
  len : Nat
  acc : Acc
  reset : Nat
  kept : Bool
  deriving DecidableEq, Repr

/-- One register, or an array of registers: offset in its block, the counts and strides of at most two
indices, whether it is banked per initiator (R318), and its fields. -/
structure RegRow where
  off : Nat
  s1 : Nat
  n1 : Nat
  s2 : Nat
  n2 : Nat
  banked : Bool
  fields : List FieldRow
  deriving DecidableEq, Repr

/-- The register blocks of the address map (R32, R33, R346). -/
inductive Blk where
  | topo | boot | contract | pwr | hg | pair | tmr | timer | pl | mbox | mb | host | ks | etch | stipple | port | graver | scv | hatch | hr | tracer | press | rack | int | plate | mc
  deriving DecidableEq, Repr

/-- TOPO registers (01_organisation.md R25). -/
def topoRows : List RegRow :=
  [⟨0x0, 4, 1, 4, 1, false, [⟨16, 16, .ro, 36964, false⟩, ⟨8, 8, .ro, 177, false⟩, ⟨0, 2, .ro, 0, false⟩]⟩,
   ⟨0x100, 4, 8, 4, 1, false, [⟨18, 4, .ro, 0, false⟩, ⟨14, 4, .ro, 0, false⟩, ⟨0, 14, .ro, 0, false⟩]⟩,
   ⟨0x200, 4, 8, 4, 1, false, [⟨16, 14, .ro, 0, false⟩, ⟨0, 14, .ro, 0, false⟩]⟩,
   ⟨0x400, 4, 64, 4, 1, false, [⟨31, 1, .ro, 0, false⟩, ⟨4, 3, .ro, 0, false⟩, ⟨0, 4, .ro, 0, false⟩]⟩,
   ⟨0x500, 4, 32, 4, 1, false, [⟨31, 1, .ro, 0, false⟩, ⟨4, 3, .ro, 0, false⟩, ⟨0, 4, .ro, 0, false⟩]⟩]

/-- BOOT registers (14_boot_and_configuration.md R405). -/
def bootRows : List RegRow :=
  [⟨0x0, 4, 1, 4, 1, false, [⟨28, 4, .ro, 0, false⟩, ⟨27, 1, .ro, 0, false⟩, ⟨0, 16, .ro, 0, false⟩]⟩,
   ⟨0x4, 4, 1, 4, 1, false, [⟨1, 1, .wo, 0, false⟩, ⟨0, 1, .rw, 0, true⟩]⟩,
   ⟨0x8, 4, 1, 4, 1, false, [⟨0, 32, .ro, 0, false⟩]⟩,
   ⟨0xC, 4, 1, 4, 1, false, [⟨0, 32, .ro, 0, false⟩]⟩,
   ⟨0x10, 4, 1, 4, 1, false, [⟨0, 32, .ro, 0, false⟩]⟩,
   ⟨0x14, 4, 1, 4, 1, false, [⟨30, 2, .ro, 0, false⟩, ⟨16, 8, .ro, 0, false⟩, ⟨0, 16, .ro, 0, false⟩]⟩,
   ⟨0x18, 4, 1, 4, 1, false, [⟨31, 1, .ro, 0, false⟩, ⟨30, 1, .ro, 0, false⟩, ⟨16, 8, .ro, 0, false⟩, ⟨8, 8, .ro, 0, false⟩, ⟨0, 8, .ro, 0, false⟩]⟩,
   ⟨0x1C, 4, 1, 4, 1, false, [⟨31, 1, .ro, 0, false⟩, ⟨16, 5, .ro, 0, false⟩]⟩,
   ⟨0x20, 4, 1, 4, 1, false, [⟨0, 32, .ro, 0, false⟩]⟩,
   ⟨0x24, 4, 1, 4, 1, false, [⟨0, 32, .rc, 0, false⟩]⟩,
   ⟨0x28, 4, 1, 4, 1, false, [⟨24, 8, .ro, 0, false⟩, ⟨0, 24, .ro, 0, false⟩]⟩]

/-- CONTRACT registers (02_execution_model.md R64). -/
def contractRows : List RegRow :=
  [⟨0x0, 4, 1, 4, 1, false, [⟨15, 1, .ro, 0, false⟩, ⟨12, 3, .ro, 5, false⟩, ⟨8, 3, .ro, 5, false⟩, ⟨4, 2, .ro, 3, false⟩, ⟨0, 2, .ro, 0, false⟩]⟩,
   ⟨0x4, 4, 1, 4, 1, false, [⟨8, 8, .rw, 2, false⟩, ⟨0, 8, .rw, 3, false⟩]⟩,
   ⟨0x8, 4, 1, 4, 1, false, [⟨0, 16, .rw, 1, false⟩]⟩,
   ⟨0x10, 4, 1, 4, 1, false, [⟨0, 32, .rc, 0, false⟩]⟩,
   ⟨0x14, 4, 1, 4, 1, false, [⟨0, 32, .rc, 0, false⟩]⟩,
   ⟨0x18, 4, 1, 4, 1, false, [⟨0, 32, .ro, 0, false⟩]⟩]

/-- PWR registers (13_power_and_thermal.md R373). -/
def pwrRows : List RegRow :=
  [⟨0x0, 4, 1, 4, 1, false, [⟨31, 1, .rw, 0, false⟩, ⟨0, 16, .rw, 1000, false⟩]⟩,
   ⟨0x4, 4, 1, 4, 1, false, [⟨0, 32, .rw, 10000, false⟩]⟩,
   ⟨0x8, 4, 1, 4, 1, false, [⟨0, 3, .rw, 5, false⟩]⟩,
   ⟨0xC, 4, 1, 4, 1, false, [⟨0, 32, .rw, 1000, false⟩]⟩,
   ⟨0x10, 4, 1, 4, 1, false, [⟨3, 1, .w1c, 0, false⟩, ⟨2, 1, .w1c, 0, false⟩, ⟨1, 1, .w1c, 0, false⟩, ⟨0, 1, .w1c, 0, false⟩]⟩,
   ⟨0x40, 4, 8, 4, 1, false, [⟨0, 32, .ro, 0, false⟩]⟩,
   ⟨0x80, 4, 1, 4, 1, false, [⟨0, 32, .rc, 0, false⟩]⟩,
   ⟨0x84, 4, 1, 4, 1, false, [⟨0, 32, .rc, 0, false⟩]⟩,
   ⟨0x88, 4, 1, 4, 1, false, [⟨0, 32, .rc, 0, false⟩]⟩,
   ⟨0x400, 4, 16, 4, 1, false, [⟨31, 1, .ro, 0, false⟩, ⟨0, 16, .ro, 0, false⟩]⟩,
   ⟨0x440, 4, 1, 4, 1, false, [⟨31, 1, .ro, 0, false⟩, ⟨16, 4, .ro, 0, false⟩, ⟨0, 16, .ro, 0, false⟩]⟩,
   ⟨0x500, 16, 9, 4, 1, false, [⟨0, 32, .ro, 0, false⟩]⟩,
   ⟨0x504, 16, 9, 4, 1, false, [⟨0, 32, .ro, 0, true⟩]⟩,
   ⟨0x508, 16, 9, 4, 1, false, [⟨0, 32, .ro, 0, true⟩]⟩,
   ⟨0x600, 4, 1, 4, 1, false, [⟨0, 32, .ro, 0, false⟩]⟩,
   ⟨0x604, 4, 1, 4, 1, false, [⟨0, 32, .ro, 0, true⟩]⟩]
  ++ [⟨0x608, 4, 1, 4, 1, false, [⟨0, 32, .ro, 0, true⟩]⟩,
   ⟨0x1000, 32, 32, 4, 8, false, [⟨0, 32, .rw, 0, false⟩]⟩]

/-- HG registers (13_power_and_thermal.md R374). -/
def hgRows : List RegRow :=
  [⟨0x0, 4, 1, 4, 1, false, [⟨31, 1, .ro, 0, true⟩, ⟨30, 1, .ro, 0, true⟩, ⟨29, 1, .ro, 0, true⟩, ⟨4, 1, .ro, 0, true⟩, ⟨3, 1, .ro, 0, true⟩, ⟨2, 1, .ro, 0, true⟩, ⟨1, 1, .ro, 0, true⟩, ⟨0, 1, .ro, 0, true⟩]⟩,
   ⟨0x4, 4, 1, 4, 1, false, [⟨24, 8, .rw, 130, true⟩, ⟨16, 8, .rw, 105, true⟩, ⟨0, 16, .rw, 0, true⟩]⟩,
   ⟨0x8, 4, 1, 4, 1, false, [⟨0, 1, .wo, 0, true⟩]⟩,
   ⟨0xC, 4, 1, 4, 1, false, [⟨0, 1, .wo, 0, true⟩]⟩,
   ⟨0x10, 4, 1, 4, 1, false, [⟨5, 1, .w1c, 0, true⟩, ⟨4, 1, .w1c, 0, true⟩, ⟨3, 1, .w1c, 0, true⟩, ⟨2, 1, .w1c, 0, true⟩, ⟨1, 1, .w1c, 0, true⟩, ⟨0, 1, .w1c, 0, true⟩]⟩,
   ⟨0x20, 4, 1, 4, 1, false, [⟨0, 32, .rc, 0, true⟩]⟩,
   ⟨0x24, 4, 1, 4, 1, false, [⟨0, 32, .rc, 0, true⟩]⟩,
   ⟨0x28, 4, 1, 4, 1, false, [⟨0, 16, .ro, 32768, true⟩]⟩,
   ⟨0x100, 4, 1, 4, 1, false, [⟨0, 7, .wo, 0, false⟩]⟩,
   ⟨0x104, 4, 4, 4, 1, false, [⟨0, 32, .ro, 0, false⟩]⟩,
   ⟨0x120, 4, 1, 4, 1, false, [⟨0, 4, .wo, 0, false⟩]⟩,
   ⟨0x124, 4, 1, 4, 1, false, [⟨0, 16, .rw, 50, true⟩]⟩,
   ⟨0x128, 4, 1, 4, 1, false, [⟨6, 2, .ro, 0, false⟩, ⟨4, 2, .ro, 0, false⟩, ⟨2, 2, .ro, 0, false⟩, ⟨0, 2, .ro, 0, false⟩]⟩,
   ⟨0x12C, 4, 1, 4, 1, false, [⟨0, 2, .wo, 0, false⟩]⟩,
   ⟨0x140, 4, 8, 4, 1, false, [⟨0, 14, .w1s, 0, true⟩]⟩,
   ⟨0x180, 4, 1, 4, 1, false, [⟨31, 1, .ro, 0, false⟩, ⟨16, 8, .ro, 0, false⟩, ⟨0, 16, .ro, 0, false⟩]⟩]
  ++ [⟨0x184, 4, 1, 4, 1, false, [⟨0, 32, .rc, 0, false⟩]⟩,
   ⟨0x188, 4, 1, 4, 1, false, [⟨3, 1, .w1c, 0, false⟩, ⟨2, 1, .w1c, 0, false⟩, ⟨1, 1, .w1c, 0, false⟩, ⟨0, 1, .w1c, 0, false⟩]⟩,
   ⟨0x200, 4, 24, 4, 1, false, [⟨31, 1, .ro, 0, false⟩, ⟨16, 8, .ro, 0, false⟩, ⟨0, 16, .ro, 0, false⟩]⟩]

/-- PAIR registers (17_redundant_pair.md R465). -/
def pairRows : List RegRow :=
  [⟨0x0, 4, 1, 4, 1, false, [⟨31, 1, .rw, 0, false⟩, ⟨30, 1, .rw, 0, false⟩, ⟨28, 2, .rw, 0, false⟩, ⟨24, 3, .rw, 0, false⟩, ⟨20, 2, .rw, 0, false⟩, ⟨13, 5, .rw, 0, false⟩]⟩,
   ⟨0x4, 4, 1, 4, 1, false, [⟨30, 2, .ro, 0, false⟩, ⟨27, 3, .ro, 1, false⟩, ⟨26, 1, .ro, 0, false⟩, ⟨25, 1, .ro, 0, false⟩, ⟨24, 1, .ro, 0, false⟩, ⟨23, 1, .ro, 0, false⟩, ⟨22, 1, .ro, 0, false⟩]⟩,
   ⟨0x8, 4, 1, 4, 1, false, [⟨16, 16, .rw, 1000, false⟩, ⟨0, 16, .rw, 10000, false⟩]⟩,
   ⟨0xC, 4, 1, 4, 1, false, [⟨0, 32, .rw, 10000000, false⟩]⟩,
   ⟨0x10, 4, 1, 4, 1, false, [⟨0, 16, .rw, 64, false⟩]⟩,
   ⟨0x14, 4, 1, 4, 1, false, [⟨0, 1, .wo, 0, false⟩]⟩,
   ⟨0x18, 4, 1, 4, 1, false, [⟨0, 2, .wo, 0, false⟩]⟩,
   ⟨0x1C, 4, 1, 4, 1, false, [⟨31, 1, .ro, 0, false⟩, ⟨30, 1, .ro, 0, false⟩]⟩,
   ⟨0x20, 4, 1, 4, 1, false, [⟨0, 32, .ro, 0, false⟩]⟩,
   ⟨0x24, 4, 1, 4, 1, false, [⟨0, 32, .ro, 0, false⟩]⟩,
   ⟨0x40, 4, 1, 4, 1, false, [⟨10, 1, .w1c, 0, true⟩, ⟨9, 1, .w1c, 0, true⟩, ⟨8, 1, .w1c, 0, true⟩, ⟨7, 1, .w1c, 0, true⟩, ⟨6, 1, .w1c, 0, true⟩, ⟨5, 1, .w1c, 0, true⟩, ⟨4, 1, .w1c, 0, true⟩, ⟨3, 1, .w1c, 0, true⟩, ⟨2, 1, .w1c, 0, true⟩, ⟨1, 1, .w1c, 0, true⟩, ⟨0, 1, .w1c, 0, true⟩]⟩,
   ⟨0x60, 4, 1, 4, 1, false, [⟨0, 32, .rc, 0, true⟩]⟩,
   ⟨0x64, 4, 1, 4, 1, false, [⟨0, 32, .rc, 0, true⟩]⟩,
   ⟨0x68, 4, 1, 4, 1, false, [⟨0, 32, .rc, 0, true⟩]⟩,
   ⟨0x6C, 4, 1, 4, 1, false, [⟨0, 32, .rc, 0, true⟩]⟩,
   ⟨0x70, 4, 1, 4, 1, false, [⟨0, 32, .rc, 0, true⟩]⟩]
  ++ [⟨0x74, 4, 1, 4, 1, false, [⟨0, 32, .rc, 0, true⟩]⟩,
   ⟨0x78, 4, 1, 4, 1, false, [⟨0, 32, .rc, 0, true⟩]⟩]

/-- TMR registers (18_timers.md R481). -/
def tmrRows : List RegRow :=
  [⟨0x0, 4, 1, 4, 1, false, [⟨0, 32, .ro, 0, true⟩]⟩,
   ⟨0x4, 4, 1, 4, 1, false, [⟨0, 32, .ro, 0, true⟩]⟩,
   ⟨0x8, 4, 1, 4, 1, false, [⟨0, 8, .wo, 0, false⟩]⟩,
   ⟨0xC, 4, 1, 4, 1, false, [⟨8, 2, .ro, 0, false⟩, ⟨0, 4, .ro, 0, false⟩]⟩,
   ⟨0x10, 4, 2, 4, 1, false, [⟨24, 8, .rw, 0, false⟩, ⟨8, 1, .rw, 0, false⟩, ⟨4, 2, .rw, 0, false⟩, ⟨0, 3, .rw, 0, false⟩]⟩]

/-- TIMER registers (18_timers.md R482). -/
def timerRows : List RegRow :=
  [⟨0x0, 4, 1, 4, 1, false, [⟨31, 1, .rw, 0, false⟩, ⟨30, 1, .rw, 0, false⟩, ⟨29, 1, .rw, 0, false⟩, ⟨28, 1, .ro, 0, false⟩, ⟨16, 8, .rw, 0, false⟩, ⟨15, 1, .rw, 0, false⟩, ⟨14, 1, .rw, 0, false⟩, ⟨11, 3, .rw, 0, false⟩]⟩,
   ⟨0x4, 4, 1, 4, 1, false, [⟨0, 32, .rw, 0, false⟩]⟩,
   ⟨0x8, 4, 1, 4, 1, false, [⟨0, 32, .rw, 4294967295, false⟩]⟩,
   ⟨0xC, 4, 1, 4, 1, false, [⟨0, 32, .rw, 0, false⟩]⟩,
   ⟨0x10, 4, 1, 4, 1, false, [⟨31, 1, .rw, 0, false⟩, ⟨30, 1, .rw, 0, false⟩, ⟨28, 2, .rw, 0, false⟩, ⟨24, 3, .rw, 0, false⟩, ⟨20, 4, .rw, 0, false⟩]⟩,
   ⟨0x14, 4, 1, 4, 1, false, [⟨0, 32, .ro, 0, false⟩]⟩,
   ⟨0x18, 4, 1, 4, 1, false, [⟨0, 32, .ro, 0, false⟩]⟩,
   ⟨0x1C, 4, 1, 4, 1, false, [⟨3, 1, .w1c, 0, false⟩, ⟨2, 1, .w1c, 0, false⟩, ⟨1, 1, .w1c, 0, false⟩, ⟨0, 1, .w1c, 0, false⟩]⟩,
   ⟨0x20, 4, 1, 4, 1, false, [⟨0, 32, .ro, 0, false⟩]⟩,
   ⟨0x24, 4, 1, 4, 1, false, [⟨31, 1, .ro, 0, false⟩, ⟨30, 1, .ro, 0, false⟩, ⟨0, 24, .ro, 0, false⟩]⟩,
   ⟨0x28, 4, 1, 4, 1, false, [⟨0, 32, .rc, 0, false⟩]⟩,
   ⟨0x2C, 4, 1, 4, 1, false, [⟨0, 32, .rc, 0, false⟩]⟩,
   ⟨0x30, 4, 1, 4, 1, false, [⟨0, 5, .ro, 0, false⟩]⟩]

/-- PL registers (19_proof_log.md R496). -/
def plRows : List RegRow :=
  [⟨0x0, 4, 1, 4, 1, false, [⟨31, 1, .ro, 0, true⟩, ⟨30, 1, .ro, 0, true⟩, ⟨29, 1, .ro, 0, true⟩, ⟨16, 7, .ro, 0, true⟩]⟩,
   ⟨0x4, 4, 1, 4, 1, false, [⟨0, 32, .ro, 0, true⟩]⟩,
   ⟨0x8, 4, 1, 4, 1, false, [⟨0, 32, .ro, 0, true⟩]⟩,
   ⟨0xC, 4, 1, 4, 1, false, [⟨0, 32, .ro, 0, true⟩]⟩,
   ⟨0x10, 4, 1, 4, 1, false, [⟨0, 24, .ro, 0, true⟩]⟩,
   ⟨0x14, 4, 1, 4, 1, false, [⟨0, 32, .rc, 0, false⟩]⟩,
   ⟨0x18, 4, 1, 4, 1, false, [⟨0, 32, .rc, 0, false⟩]⟩,
   ⟨0x1C, 4, 1, 4, 1, false, [⟨0, 16, .rw, 3600, true⟩]⟩,
   ⟨0x20, 4, 1, 4, 1, true, [⟨0, 32, .rw, 0, false⟩]⟩,
   ⟨0x24, 4, 1, 4, 1, true, [⟨0, 6, .rw, 0, false⟩]⟩,
   ⟨0x40, 4, 16, 4, 1, false, [⟨0, 32, .ro, 0, false⟩]⟩,
   ⟨0x80, 4, 16, 4, 1, false, [⟨0, 32, .ro, 0, false⟩]⟩]

/-- MBOX registers (15_host_interface.md R416). -/
def mboxRows : List RegRow :=
  [⟨0x0, 4, 1, 4, 1, false, [⟨0, 5, .rw, 0, false⟩]⟩,
   ⟨0x4, 4, 1, 4, 1, false, [⟨31, 1, .ro, 0, false⟩, ⟨30, 1, .w1c, 0, false⟩, ⟨24, 5, .ro, 0, false⟩, ⟨16, 5, .ro, 0, false⟩, ⟨0, 7, .ro, 0, false⟩]⟩,
   ⟨0x8, 4, 1, 4, 1, false, [⟨31, 1, .wo, 0, false⟩, ⟨30, 1, .wo, 0, false⟩, ⟨0, 7, .wo, 0, false⟩]⟩,
   ⟨0x40, 4, 16, 4, 1, false, [⟨0, 32, .rw, 0, false⟩]⟩]

/-- MB registers (15_host_interface.md R419). -/
def mbRows : List RegRow :=
  [⟨0x200, 4, 1, 4, 1, false, [⟨24, 8, .w1c, 0, false⟩, ⟨16, 8, .w1c, 0, false⟩, ⟨8, 8, .w1c, 0, false⟩, ⟨0, 8, .w1c, 0, false⟩]⟩,
   ⟨0x204, 4, 1, 4, 1, false, [⟨0, 32, .rw, 4294967295, false⟩]⟩,
   ⟨0x208, 4, 4, 4, 1, false, [⟨24, 8, .w1s, 0, false⟩, ⟨16, 8, .w1s, 0, false⟩, ⟨8, 8, .w1s, 0, false⟩, ⟨0, 8, .w1s, 0, false⟩]⟩,
   ⟨0x800, 4, 8, 4, 1, false, [⟨8, 5, .rw, 0, false⟩, ⟨0, 5, .rw, 0, false⟩]⟩,
   ⟨0x840, 4, 1, 4, 1, false, [⟨0, 32, .rw, 1000000, false⟩]⟩,
   ⟨0x844, 4, 1, 4, 1, false, [⟨24, 8, .w1s, 0, false⟩]⟩]

/-- HOST registers (15_host_interface.md R415). -/
def hostRows : List RegRow :=
  [⟨0x0, 4, 1, 4, 1, false, [⟨28, 4, .ro, 0, false⟩, ⟨27, 1, .ro, 0, false⟩, ⟨26, 1, .ro, 0, false⟩, ⟨25, 1, .ro, 0, false⟩, ⟨24, 1, .ro, 0, false⟩, ⟨16, 7, .ro, 0, false⟩, ⟨15, 1, .ro, 0, false⟩, ⟨0, 4, .ro, 0, false⟩]⟩,
   ⟨0x4, 4, 1, 4, 1, false, [⟨31, 1, .ro, 0, false⟩, ⟨28, 3, .ro, 0, false⟩, ⟨0, 16, .ro, 0, false⟩]⟩,
   ⟨0x8, 4, 1, 4, 1, false, [⟨4, 1, .w1c, 0, false⟩, ⟨3, 1, .w1c, 0, false⟩, ⟨2, 1, .w1c, 0, false⟩, ⟨1, 1, .w1c, 0, false⟩, ⟨0, 1, .w1c, 0, false⟩]⟩,
   ⟨0xC, 4, 1, 4, 1, false, [⟨0, 32, .rc, 0, false⟩]⟩,
   ⟨0x1000, 4, 1, 4, 1, false, [⟨2, 30, .rw, 0, false⟩]⟩,
   ⟨0x1004, 4, 1, 4, 1, false, [⟨0, 8, .rw, 0, false⟩]⟩,
   ⟨0x1008, 4, 1, 4, 1, false, [⟨0, 32, .rw, 0, false⟩]⟩,
   ⟨0x100C, 4, 1, 4, 1, false, [⟨2, 1, .rw, 0, false⟩, ⟨1, 1, .wo, 0, false⟩, ⟨0, 1, .wo, 0, false⟩]⟩,
   ⟨0x1010, 4, 1, 4, 1, false, [⟨31, 1, .ro, 0, false⟩, ⟨30, 1, .ro, 0, false⟩, ⟨0, 3, .ro, 0, false⟩]⟩,
   ⟨0x1020, 8, 8, 4, 1, false, [⟨31, 1, .ro, 0, false⟩, ⟨30, 1, .ro, 0, false⟩, ⟨29, 1, .ro, 0, false⟩, ⟨0, 8, .ro, 0, false⟩]⟩,
   ⟨0x1024, 8, 8, 4, 1, false, [⟨12, 20, .ro, 0, false⟩, ⟨0, 12, .ro, 0, false⟩]⟩,
   ⟨0x2000, 4, 1, 4, 1, false, [⟨1, 1, .wo, 0, false⟩, ⟨0, 1, .wo, 0, false⟩]⟩,
   ⟨0x2004, 4, 1, 4, 1, false, [⟨31, 1, .ro, 0, false⟩, ⟨30, 1, .w1c, 0, false⟩, ⟨29, 1, .w1c, 0, false⟩, ⟨0, 4, .ro, 0, false⟩]⟩,
   ⟨0x2008, 4, 1, 4, 1, false, [⟨0, 2, .rw, 0, false⟩]⟩,
   ⟨0x200C, 4, 1, 4, 1, false, [⟨0, 12, .ro, 0, false⟩]⟩,
   ⟨0x2040, 4, 16, 4, 1, false, [⟨0, 32, .rw, 0, false⟩]⟩]
  ++ [⟨0x2080, 4, 8, 4, 1, false, [⟨0, 32, .ro, 0, false⟩]⟩,
   ⟨0x2100, 4, 34, 4, 1, false, [⟨0, 32, .ro, 0, false⟩]⟩,
   ⟨0x2400, 4, 129, 4, 1, false, [⟨0, 32, .ro, 0, false⟩]⟩,
   ⟨0x2800, 4, 512, 4, 1, false, [⟨0, 32, .ro, 0, false⟩]⟩]

/-- KS registers (16_identity_and_security.md R446). -/
def ksRows : List RegRow :=
  [⟨0x0, 4, 1, 4, 1, false, [⟨30, 2, .ro, 0, false⟩, ⟨29, 1, .ro, 0, false⟩, ⟨28, 1, .ro, 0, false⟩, ⟨24, 4, .ro, 0, false⟩, ⟨20, 4, .ro, 0, false⟩, ⟨18, 2, .ro, 0, false⟩, ⟨17, 1, .ro, 0, false⟩]⟩,
   ⟨0x4, 4, 1, 4, 1, false, [⟨3, 1, .w1c, 0, false⟩, ⟨2, 1, .w1c, 0, false⟩, ⟨1, 1, .w1c, 0, false⟩, ⟨0, 1, .w1c, 0, false⟩]⟩,
   ⟨0x10, 4, 1, 4, 1, true, [⟨1, 1, .wo, 0, false⟩, ⟨0, 1, .wo, 0, false⟩]⟩,
   ⟨0x14, 4, 1, 4, 1, true, [⟨31, 1, .ro, 0, false⟩, ⟨30, 1, .ro, 0, false⟩, ⟨29, 1, .ro, 0, false⟩, ⟨0, 4, .ro, 0, false⟩]⟩,
   ⟨0x40, 4, 8, 4, 1, true, [⟨0, 32, .ro, 0, false⟩]⟩,
   ⟨0x100, 4, 111, 4, 1, true, [⟨0, 32, .rw, 0, false⟩]⟩,
   ⟨0x200, 64, 4, 4, 16, false, [⟨0, 32, .ro, 0, false⟩]⟩,
   ⟨0x300, 4, 34, 4, 1, false, [⟨0, 32, .ro, 0, false⟩]⟩]

/-- ETCH registers (03_etch_cores.md R98). (DEDUCED, log entry 33.) -/
def etchRows : List RegRow :=
  [⟨0x0, 4, 1, 4, 1, false, [⟨4, 4, .rw, 0, false⟩, ⟨1, 1, .rw, 0, false⟩, ⟨0, 1, .rw, 0, false⟩]⟩,
   ⟨0x4, 4, 1, 4, 1, false, [⟨30, 2, .ro, 0, false⟩, ⟨8, 1, .ro, 0, false⟩, ⟨0, 4, .ro, 0, false⟩]⟩,
   ⟨0x8, 4, 1, 4, 1, false, [⟨0, 32, .ro, 0, false⟩]⟩,
   ⟨0xC, 4, 1, 4, 1, false, [⟨0, 14, .rw, 0, false⟩]⟩,
   ⟨0x10, 4, 1, 4, 1, false, [⟨12, 20, .rw, 0, false⟩]⟩,
   ⟨0x14, 4, 1, 4, 1, false, [⟨0, 8, .rw, 0, false⟩]⟩,
   ⟨0x20, 4, 1, 4, 1, false, [⟨0, 32, .rc, 0, false⟩]⟩,
   ⟨0x24, 4, 1, 4, 1, false, [⟨0, 32, .rc, 0, false⟩]⟩,
   ⟨0x28, 4, 1, 4, 1, false, [⟨0, 32, .rc, 0, false⟩]⟩,
   ⟨0x2C, 4, 1, 4, 1, false, [⟨0, 32, .rc, 0, false⟩]⟩,
   ⟨0x30, 4, 1, 4, 1, false, [⟨0, 32, .rc, 0, false⟩]⟩,
   ⟨0x34, 4, 1, 4, 1, false, [⟨0, 32, .rc, 0, false⟩]⟩,
   ⟨0x38, 4, 1, 4, 1, false, [⟨0, 32, .rc, 0, false⟩]⟩,
   ⟨0x3C, 4, 1, 4, 1, false, [⟨7, 1, .w1c, 0, false⟩, ⟨6, 1, .w1c, 0, false⟩, ⟨5, 1, .w1c, 0, false⟩, ⟨4, 1, .w1c, 0, false⟩, ⟨3, 1, .w1c, 0, false⟩, ⟨2, 1, .w1c, 0, false⟩, ⟨1, 1, .w1c, 0, false⟩, ⟨0, 1, .w1c, 0, false⟩]⟩,
   ⟨0x40, 4, 1, 4, 1, false, [⟨31, 1, .ro, 0, false⟩, ⟨0, 13, .ro, 0, false⟩]⟩,
   ⟨0x44, 4, 1, 4, 1, false, [⟨0, 4, .ro, 0, false⟩]⟩]
  ++ [⟨0x48, 4, 1, 4, 1, false, [⟨0, 16, .ro, 32768, false⟩]⟩,
   ⟨0x4C, 4, 1, 4, 1, false, [⟨0, 32, .rc, 0, false⟩]⟩,
   ⟨0x10000, 4, 1, 4, 1, false, [⟨0, 1, .rw, 0, false⟩]⟩,
   ⟨0x10004, 4, 1, 4, 1, false, [⟨0, 32, .rw, 0, false⟩]⟩,
   ⟨0x10008, 4, 1, 4, 1, false, [⟨0, 32, .rw, 0, false⟩]⟩,
   ⟨0x1000C, 4, 1, 4, 1, false, [⟨31, 1, .rw, 0, false⟩, ⟨30, 1, .rw, 0, false⟩, ⟨0, 14, .rw, 0, false⟩]⟩,
   ⟨0x10010, 4, 1, 4, 1, false, [⟨0, 8, .rw, 0, false⟩]⟩,
   ⟨0x10020, 4, 1, 4, 1, false, [⟨31, 1, .wo, 0, false⟩, ⟨30, 1, .wo, 0, false⟩, ⟨29, 1, .wo, 0, false⟩]⟩,
   ⟨0x10024, 4, 1, 4, 1, false, [⟨0, 32, .rw, 0, false⟩]⟩,
   ⟨0x10028, 4, 1, 4, 1, false, [⟨30, 2, .ro, 0, false⟩, ⟨8, 1, .w1c, 0, false⟩, ⟨7, 1, .w1c, 0, false⟩, ⟨6, 1, .w1c, 0, false⟩, ⟨5, 1, .w1c, 0, false⟩, ⟨4, 1, .w1c, 0, false⟩, ⟨3, 1, .w1c, 0, false⟩, ⟨2, 1, .w1c, 0, false⟩, ⟨1, 1, .w1c, 0, false⟩, ⟨0, 1, .w1c, 0, false⟩]⟩,
   ⟨0x1002C, 4, 1, 4, 1, false, [⟨0, 32, .ro, 0, false⟩]⟩,
   ⟨0x10030, 4, 1, 4, 1, false, [⟨0, 32, .ro, 0, false⟩]⟩,
   ⟨0x10034, 4, 1, 4, 1, false, [⟨16, 11, .ro, 0, false⟩, ⟨0, 11, .ro, 0, false⟩]⟩,
   ⟨0x10038, 4, 1, 4, 1, false, [⟨16, 16, .rw, 65535, false⟩, ⟨0, 16, .rw, 640, false⟩]⟩,
   ⟨0x1003C, 4, 1, 4, 1, false, [⟨0, 16, .ro, 0, false⟩]⟩,
   ⟨0x10044, 4, 1, 4, 1, false, [⟨31, 1, .ro, 0, false⟩, ⟨29, 2, .ro, 0, false⟩, ⟨27, 2, .ro, 0, false⟩]⟩]
  ++ [⟨0x10050, 4, 1, 4, 1, false, [⟨0, 32, .rc, 0, false⟩]⟩,
   ⟨0x10054, 4, 1, 4, 1, false, [⟨0, 32, .rc, 0, false⟩]⟩,
   ⟨0x10058, 4, 1, 4, 1, false, [⟨0, 32, .rc, 0, false⟩]⟩,
   ⟨0x1005C, 4, 1, 4, 1, false, [⟨0, 32, .rc, 0, false⟩]⟩,
   ⟨0x10060, 4, 1, 4, 1, false, [⟨0, 32, .rc, 0, false⟩]⟩,
   ⟨0x10064, 4, 1, 4, 1, false, [⟨0, 32, .rc, 0, false⟩]⟩,
   ⟨0x1006C, 4, 1, 4, 1, false, [⟨1, 1, .w1c, 0, false⟩, ⟨0, 1, .w1c, 0, false⟩]⟩]

/-- The Bite unit's tables, which are memory (R67, R136, R325): the bits of each word that it holds. -/
def etchTables : List RegRow :=
  [⟨0x10100, 4, 32, 4, 1, false, [⟨24, 8, .rw, 0, false⟩, ⟨16, 8, .rw, 0, false⟩]⟩,
   ⟨0x10200, 8, 64, 4, 1, false, [⟨16, 16, .rw, 0, false⟩, ⟨0, 16, .rw, 0, false⟩]⟩,
   ⟨0x10204, 8, 64, 4, 1, false, [⟨24, 8, .rw, 0, false⟩, ⟨16, 8, .rw, 0, false⟩]⟩,
   ⟨0x11000, 4, 16, 4, 1, false, [⟨0, 32, .ro, 0, false⟩]⟩,
   ⟨0x11040, 64, 7, 4, 1, false, [⟨27, 5, .rw, 0, false⟩, ⟨26, 1, .rw, 0, false⟩, ⟨25, 1, .rw, 0, false⟩, ⟨24, 1, .rw, 0, false⟩, ⟨23, 1, .rw, 0, false⟩]⟩,
   ⟨0x11044, 64, 7, 4, 1, false, [⟨16, 16, .rw, 0, false⟩, ⟨0, 16, .rw, 0, false⟩]⟩,
   ⟨0x11048, 64, 7, 4, 1, false, [⟨24, 8, .rw, 0, false⟩, ⟨16, 8, .rw, 0, false⟩, ⟨0, 16, .rw, 0, false⟩]⟩,
   ⟨0x1104C, 64, 7, 4, 1, false, [⟨24, 8, .rw, 0, false⟩, ⟨16, 8, .rw, 0, false⟩, ⟨8, 8, .rw, 0, false⟩, ⟨0, 8, .rw, 0, false⟩]⟩,
   ⟨0x11050, 64, 7, 4, 1, false, [⟨27, 5, .rw, 0, false⟩, ⟨21, 6, .rw, 0, false⟩]⟩]
  ++ [⟨0x11054, 64, 7, 4, 1, false, [⟨13, 14, .rw, 0, false⟩, ⟨0, 13, .rw, 0, false⟩]⟩,
   ⟨0x11058, 64, 7, 4, 2, false, [⟨0, 32, .ro, 0, false⟩]⟩,
   ⟨0x11060, 64, 7, 4, 8, false, [⟨31, 1, .rw, 0, false⟩, ⟨30, 1, .rw, 0, false⟩, ⟨27, 3, .rw, 0, false⟩, ⟨24, 3, .rw, 0, false⟩, ⟨0, 8, .rw, 0, false⟩]⟩,
   ⟨0x12000, 8, 32, 4, 1, false, [⟨31, 1, .rw, 0, false⟩, ⟨0, 19, .rw, 0, false⟩]⟩,
   ⟨0x12004, 8, 32, 4, 1, false, [⟨0, 19, .rw, 0, false⟩]⟩]

/-- STIPPLE registers (05_stipple_net.md R170). -/
def stippleRows : List RegRow :=
  [⟨0x0, 4, 1, 4, 1, false, [⟨1, 1, .rw, 1, false⟩, ⟨0, 1, .rw, 0, false⟩]⟩,
   ⟨0x4, 4, 1, 4, 1, false, [⟨30, 2, .ro, 0, false⟩, ⟨29, 1, .ro, 0, false⟩, ⟨28, 1, .ro, 0, false⟩, ⟨16, 6, .ro, 0, false⟩, ⟨0, 7, .ro, 0, false⟩]⟩,
   ⟨0x8, 4, 1, 4, 1, false, [⟨0, 32, .ro, 0, false⟩]⟩,
   ⟨0xC, 4, 1, 4, 1, false, [⟨0, 32, .rw, 0, false⟩]⟩,
   ⟨0x10, 4, 1, 4, 1, false, [⟨0, 16, .rw, 0, false⟩]⟩,
   ⟨0x14, 4, 1, 4, 1, false, [⟨0, 32, .rw, 2000, false⟩]⟩,
   ⟨0x18, 4, 1, 4, 1, false, [⟨0, 32, .rc, 0, false⟩]⟩,
   ⟨0x20, 4, 2, 4, 1, false, [⟨0, 32, .ro, 4294967295, false⟩]⟩,
   ⟨0x28, 4, 1, 4, 1, false, [⟨0, 32, .rw, 0, false⟩]⟩,
   ⟨0x2C, 4, 1, 4, 1, false, [⟨0, 9, .rw, 0, false⟩]⟩,
   ⟨0x30, 4, 1, 4, 1, false, [⟨7, 1, .w1c, 0, false⟩, ⟨6, 1, .w1c, 0, false⟩, ⟨5, 1, .w1c, 0, false⟩, ⟨4, 1, .w1c, 0, false⟩, ⟨3, 1, .w1c, 0, false⟩, ⟨2, 1, .w1c, 0, false⟩, ⟨1, 1, .w1c, 0, false⟩, ⟨0, 1, .w1c, 0, false⟩]⟩,
   ⟨0x40, 4, 1, 4, 1, false, [⟨0, 32, .rc, 0, false⟩]⟩,
   ⟨0x44, 4, 1, 4, 1, false, [⟨0, 32, .rc, 0, false⟩]⟩,
   ⟨0x48, 4, 1, 4, 1, false, [⟨0, 32, .rc, 0, false⟩]⟩,
   ⟨0x4C, 4, 1, 4, 1, false, [⟨0, 32, .rc, 0, false⟩]⟩,
   ⟨0x50, 4, 1, 4, 1, false, [⟨0, 32, .rc, 0, false⟩]⟩]
  ++ [⟨0x54, 4, 1, 4, 1, false, [⟨0, 32, .rc, 0, false⟩]⟩,
   ⟨0x58, 4, 1, 4, 1, false, [⟨0, 32, .rc, 0, false⟩]⟩,
   ⟨0x5C, 4, 1, 4, 1, false, [⟨0, 32, .rc, 0, false⟩]⟩,
   ⟨0x60, 4, 1, 4, 1, false, [⟨0, 32, .rc, 0, false⟩]⟩,
   ⟨0x64, 4, 1, 4, 1, false, [⟨0, 32, .rc, 0, false⟩]⟩,
   ⟨0x20000, 16, 256, 4, 1, false, [⟨31, 1, .rw, 0, false⟩, ⟨30, 1, .rw, 0, false⟩, ⟨24, 6, .rw, 0, false⟩, ⟨0, 22, .rw, 0, false⟩]⟩,
   ⟨0x20004, 16, 256, 4, 1, false, [⟨0, 16, .rw, 0, false⟩]⟩,
   ⟨0x20008, 16, 256, 4, 1, false, [⟨0, 32, .rw, 0, false⟩]⟩,
   ⟨0x2000C, 16, 256, 4, 1, false, [⟨0, 32, .rw, 0, false⟩]⟩]

/-- PORT registers (05_stipple_net.md R171). -/
def portRows : List RegRow :=
  [⟨0x0, 4, 26, 4, 1, false, [⟨24, 7, .rw, 0, false⟩, ⟨16, 7, .rw, 0, false⟩, ⟨8, 7, .rw, 0, false⟩, ⟨0, 7, .rw, 0, false⟩]⟩,
   ⟨0x68, 4, 1, 4, 1, false, [⟨0, 7, .rw, 0, false⟩]⟩,
   ⟨0x80, 4, 1, 4, 1, false, [⟨31, 1, .ro, 0, false⟩, ⟨30, 1, .ro, 0, false⟩, ⟨16, 7, .ro, 0, false⟩, ⟨0, 13, .ro, 0, false⟩]⟩,
   ⟨0x84, 4, 1, 4, 1, false, [⟨0, 13, .rc, 0, false⟩]⟩,
   ⟨0x88, 4, 1, 4, 1, false, [⟨0, 32, .rc, 0, false⟩]⟩,
   ⟨0x8C, 4, 1, 4, 1, false, [⟨0, 32, .rc, 0, false⟩]⟩]

/-- GRAVER registers (06_graver_tiles.md R201). -/
def graverRows : List RegRow :=
  [⟨0x0, 4, 1, 4, 1, false, [⟨0, 1, .rw, 0, false⟩]⟩,
   ⟨0x4, 4, 1, 4, 1, false, [⟨30, 2, .ro, 0, false⟩, ⟨28, 2, .ro, 0, false⟩, ⟨0, 15, .ro, 0, false⟩]⟩,
   ⟨0x8, 4, 1, 4, 1, false, [⟨0, 32, .ro, 0, false⟩]⟩,
   ⟨0x10, 4, 4, 4, 1, false, [⟨16, 16, .rw, 0, false⟩, ⟨0, 15, .rw, 0, false⟩]⟩,
   ⟨0x20, 4, 1, 4, 1, false, [⟨0, 1, .rw, 0, false⟩]⟩,
   ⟨0x24, 4, 1, 4, 1, false, [⟨0, 32, .ro, 0, false⟩]⟩,
   ⟨0x40, 4, 16, 4, 1, false, [⟨31, 1, .ro, 0, false⟩, ⟨8, 5, .rw, 0, false⟩, ⟨0, 5, .ro, 0, false⟩]⟩,
   ⟨0x80, 4, 1, 4, 1, false, [⟨6, 1, .w1c, 0, false⟩, ⟨5, 1, .w1c, 0, false⟩, ⟨4, 1, .w1c, 0, false⟩, ⟨3, 1, .w1c, 0, false⟩, ⟨2, 1, .w1c, 0, false⟩, ⟨1, 1, .w1c, 0, false⟩, ⟨0, 1, .w1c, 0, false⟩]⟩,
   ⟨0x84, 4, 1, 4, 1, false, [⟨31, 1, .ro, 0, false⟩, ⟨27, 4, .ro, 0, false⟩, ⟨14, 13, .ro, 0, false⟩, ⟨4, 4, .ro, 0, false⟩, ⟨0, 4, .ro, 0, false⟩]⟩,
   ⟨0x88, 4, 1, 4, 1, false, [⟨31, 1, .ro, 0, false⟩, ⟨27, 4, .ro, 0, false⟩, ⟨14, 13, .ro, 0, false⟩]⟩,
   ⟨0xA0, 4, 1, 4, 1, false, [⟨0, 32, .rc, 0, false⟩]⟩,
   ⟨0xA4, 4, 1, 4, 1, false, [⟨0, 32, .rc, 0, false⟩]⟩,
   ⟨0xA8, 4, 1, 4, 1, false, [⟨0, 32, .rc, 0, false⟩]⟩,
   ⟨0xAC, 4, 1, 4, 1, false, [⟨0, 32, .rc, 0, false⟩]⟩,
   ⟨0xB0, 4, 1, 4, 1, false, [⟨0, 32, .rc, 0, false⟩]⟩,
   ⟨0xB4, 4, 1, 4, 1, false, [⟨0, 32, .rc, 0, false⟩]⟩]
  ++ [⟨0xB8, 4, 1, 4, 1, false, [⟨0, 32, .rc, 0, false⟩]⟩,
   ⟨0xBC, 4, 1, 4, 1, false, [⟨0, 32, .rc, 0, false⟩]⟩,
   ⟨0xC0, 4, 8, 4, 1, false, [⟨0, 32, .ro, 0, false⟩]⟩,
   ⟨0x100, 4, 1, 4, 1, false, [⟨1, 1, .w1c, 0, false⟩, ⟨0, 1, .w1c, 0, false⟩]⟩,
   ⟨0x104, 4, 1, 4, 1, false, [⟨0, 32, .rc, 0, false⟩]⟩,
   ⟨0x108, 4, 1, 4, 1, false, [⟨0, 32, .rc, 0, false⟩]⟩]

/-- SCV registers (06_graver_tiles.md R197). -/
def scvRows : List RegRow :=
  [⟨0x0, 4, 1, 4, 1, false, [⟨31, 1, .rw, 0, false⟩, ⟨24, 4, .rw, 0, false⟩, ⟨8, 15, .rw, 0, false⟩, ⟨0, 7, .rw, 0, false⟩]⟩,
   ⟨0x4, 4, 1, 4, 1, false, [⟨0, 2, .ro, 0, false⟩]⟩,
   ⟨0x8, 4, 1, 4, 1, false, [⟨0, 32, .ro, 0, false⟩]⟩,
   ⟨0xC, 4, 1, 4, 1, false, [⟨0, 32, .rc, 0, false⟩]⟩]

/-- HATCH registers (08_hatch_mesh.md R253). -/
def hatchRows : List RegRow :=
  [⟨0x0, 4, 1, 4, 1, false, [⟨2, 1, .wo, 0, false⟩, ⟨0, 2, .rw, 0, false⟩]⟩,
   ⟨0x4, 4, 1, 4, 1, false, [⟨30, 2, .ro, 0, false⟩, ⟨29, 1, .ro, 0, false⟩, ⟨28, 1, .ro, 0, false⟩, ⟨0, 2, .ro, 0, false⟩]⟩,
   ⟨0x8, 4, 1, 4, 1, false, [⟨0, 32, .ro, 0, false⟩]⟩,
   ⟨0xC, 4, 1, 4, 1, false, [⟨31, 1, .ro, 0, false⟩, ⟨0, 2, .rw, 0, false⟩]⟩,
   ⟨0x10, 4, 1, 4, 1, false, [⟨24, 8, .rw, 0, false⟩, ⟨0, 16, .rw, 0, false⟩]⟩,
   ⟨0x14, 4, 1, 4, 1, false, [⟨0, 32, .rw, 2000, false⟩]⟩,
   ⟨0x18, 4, 1, 4, 1, false, [⟨0, 32, .ro, 0, false⟩]⟩,
   ⟨0x20, 4, 8, 4, 1, false, [⟨31, 1, .ro, 0, false⟩, ⟨16, 12, .ro, 0, false⟩, ⟨15, 1, .ro, 0, false⟩, ⟨0, 12, .ro, 0, false⟩]⟩,
   ⟨0x40, 4, 1, 4, 1, false, [⟨5, 1, .w1c, 0, false⟩, ⟨4, 1, .w1c, 0, false⟩, ⟨3, 1, .w1c, 0, false⟩, ⟨2, 1, .w1c, 0, false⟩, ⟨1, 1, .w1c, 0, false⟩]⟩,
   ⟨0x60, 4, 1, 4, 1, false, [⟨0, 32, .rc, 0, false⟩]⟩,
   ⟨0x64, 4, 1, 4, 1, false, [⟨0, 32, .rc, 0, false⟩]⟩,
   ⟨0x68, 4, 1, 4, 1, false, [⟨0, 32, .rc, 0, false⟩]⟩,
   ⟨0x80, 4, 1, 4, 1, false, [⟨0, 16, .rw, 0, false⟩]⟩]

/-- HR registers (08_hatch_mesh.md R254). -/
def hrRows : List RegRow :=
  [⟨0x0, 16, 5, 4, 4, false, [⟨31, 1, .rw, 0, false⟩, ⟨0, 11, .rw, 0, false⟩]⟩,
   ⟨0x100, 16, 5, 4, 4, false, [⟨31, 1, .rw, 0, false⟩, ⟨0, 11, .rw, 0, false⟩]⟩,
   ⟨0x180, 4, 4, 4, 1, false, [⟨31, 1, .rw, 0, false⟩, ⟨0, 8, .rw, 0, false⟩]⟩,
   ⟨0x200, 4, 5, 4, 1, false, [⟨31, 1, .ro, 0, false⟩, ⟨30, 1, .ro, 0, false⟩, ⟨29, 1, .ro, 0, false⟩, ⟨26, 3, .ro, 0, false⟩, ⟨13, 11, .ro, 0, false⟩, ⟨0, 12, .ro, 0, false⟩]⟩,
   ⟨0x220, 4, 5, 4, 1, false, [⟨31, 1, .ro, 0, false⟩, ⟨30, 1, .ro, 0, false⟩, ⟨29, 1, .ro, 0, false⟩, ⟨26, 3, .ro, 0, false⟩, ⟨13, 11, .ro, 0, false⟩, ⟨0, 12, .ro, 0, false⟩]⟩,
   ⟨0x240, 4, 1, 4, 1, false, [⟨2, 1, .w1c, 0, false⟩, ⟨1, 1, .w1c, 0, false⟩, ⟨0, 1, .w1c, 0, false⟩]⟩,
   ⟨0x244, 4, 1, 4, 1, false, [⟨31, 1, .ro, 0, false⟩, ⟨30, 1, .ro, 0, false⟩]⟩,
   ⟨0x250, 4, 5, 4, 1, false, [⟨0, 32, .rc, 0, false⟩]⟩,
   ⟨0x270, 4, 1, 4, 1, false, [⟨0, 32, .rc, 0, false⟩]⟩,
   ⟨0x400, 4, 64, 4, 1, false, [⟨0, 32, .ro, 0, false⟩]⟩]

/-- TRACER registers (09_csi2_ports.md R270). -/
def tracerRows : List RegRow :=
  [⟨0x0, 4, 1, 4, 1, false, [⟨31, 1, .rw, 0, true⟩, ⟨30, 1, .rw, 0, true⟩, ⟨28, 2, .rw, 0, true⟩, ⟨27, 1, .rw, 0, true⟩, ⟨26, 1, .rw, 0, true⟩, ⟨25, 1, .rw, 0, true⟩, ⟨16, 8, .rw, 228, true⟩, ⟨12, 4, .rw, 0, true⟩, ⟨11, 1, .rw, 0, true⟩]⟩,
   ⟨0x4, 4, 1, 4, 1, false, [⟨0, 16, .rw, 1500, true⟩]⟩,
   ⟨0x8, 4, 1, 4, 1, false, [⟨31, 1, .ro, 0, false⟩, ⟨30, 1, .ro, 0, false⟩, ⟨29, 1, .ro, 0, false⟩, ⟨28, 1, .ro, 0, false⟩, ⟨24, 4, .ro, 0, false⟩, ⟨0, 16, .ro, 0, false⟩]⟩,
   ⟨0xC, 4, 1, 4, 1, false, [⟨0, 32, .ro, 0, false⟩]⟩,
   ⟨0x10, 4, 1, 4, 1, false, [⟨7, 1, .w1c, 0, false⟩, ⟨6, 1, .w1c, 0, false⟩, ⟨5, 1, .w1c, 0, false⟩, ⟨4, 1, .w1c, 0, false⟩, ⟨3, 1, .w1c, 0, false⟩, ⟨2, 1, .w1c, 0, false⟩, ⟨1, 1, .w1c, 0, false⟩, ⟨0, 1, .w1c, 0, false⟩]⟩,
   ⟨0x14, 4, 1, 4, 1, false, [⟨27, 5, .ro, 0, false⟩, ⟨21, 6, .ro, 0, false⟩, ⟨0, 16, .ro, 0, false⟩]⟩,
   ⟨0x18, 4, 1, 4, 1, false, [⟨31, 1, .ro, 0, false⟩, ⟨26, 5, .ro, 0, false⟩, ⟨20, 6, .ro, 0, false⟩, ⟨16, 4, .ro, 0, false⟩, ⟨0, 16, .ro, 0, false⟩]⟩,
   ⟨0x1C, 4, 1, 4, 1, false, [⟨0, 32, .ro, 0, false⟩]⟩,
   ⟨0x20, 4, 1, 4, 1, false, [⟨0, 32, .rc, 0, false⟩]⟩,
   ⟨0x24, 4, 1, 4, 1, false, [⟨0, 32, .rc, 0, false⟩]⟩,
   ⟨0x28, 4, 1, 4, 1, false, [⟨0, 32, .rc, 0, false⟩]⟩,
   ⟨0x2C, 4, 1, 4, 1, false, [⟨0, 32, .rc, 0, false⟩]⟩,
   ⟨0x30, 4, 1, 4, 1, false, [⟨0, 32, .rc, 0, false⟩]⟩,
   ⟨0x34, 4, 1, 4, 1, false, [⟨0, 32, .rc, 0, false⟩]⟩,
   ⟨0x38, 4, 1, 4, 1, false, [⟨0, 32, .rc, 0, false⟩]⟩,
   ⟨0x3C, 4, 1, 4, 1, false, [⟨0, 32, .rc, 0, false⟩]⟩]
  ++ [⟨0x40, 4, 1, 4, 1, false, [⟨0, 32, .rc, 0, false⟩]⟩,
   ⟨0x44, 4, 1, 4, 1, false, [⟨0, 32, .rc, 0, false⟩]⟩,
   ⟨0x48, 4, 1, 4, 1, false, [⟨0, 32, .rc, 0, false⟩]⟩,
   ⟨0x4C, 4, 1, 4, 1, false, [⟨0, 32, .rc, 0, true⟩]⟩,
   ⟨0x80, 4, 32, 4, 1, false, [⟨31, 1, .rw, 0, true⟩, ⟨29, 2, .rw, 0, true⟩, ⟨0, 4, .rw, 0, true⟩]⟩,
   ⟨0x100, 64, 4, 4, 1, false, [⟨31, 1, .rw, 0, false⟩, ⟨30, 1, .rw, 0, false⟩, ⟨29, 1, .rw, 0, false⟩, ⟨28, 1, .rw, 0, false⟩, ⟨26, 2, .rw, 0, false⟩, ⟨25, 1, .rw, 0, false⟩, ⟨18, 7, .rw, 0, false⟩]⟩,
   ⟨0x104, 64, 4, 4, 1, false, [⟨16, 16, .rw, 0, false⟩, ⟨0, 16, .rw, 0, false⟩]⟩,
   ⟨0x108, 64, 4, 4, 1, false, [⟨30, 2, .rw, 0, false⟩, ⟨28, 2, .rw, 0, false⟩, ⟨23, 5, .rw, 0, false⟩, ⟨22, 1, .rw, 0, false⟩, ⟨16, 6, .rw, 0, false⟩, ⟨0, 16, .rw, 0, false⟩]⟩,
   ⟨0x10C, 64, 4, 4, 1, false, [⟨18, 14, .rw, 0, false⟩, ⟨6, 12, .rw, 0, false⟩, ⟨2, 4, .rw, 0, false⟩, ⟨0, 2, .rw, 0, false⟩]⟩,
   ⟨0x110, 64, 4, 4, 1, false, [⟨20, 12, .rw, 0, false⟩, ⟨8, 12, .rw, 0, false⟩]⟩,
   ⟨0x114, 64, 4, 4, 1, false, [⟨0, 32, .rw, 0, false⟩]⟩,
   ⟨0x118, 64, 4, 4, 1, false, [⟨0, 32, .rw, 0, false⟩]⟩,
   ⟨0x11C, 64, 4, 4, 1, false, [⟨0, 32, .ro, 0, false⟩]⟩,
   ⟨0x120, 64, 4, 4, 1, false, [⟨0, 32, .ro, 0, false⟩]⟩,
   ⟨0x124, 64, 4, 4, 1, false, [⟨0, 19, .ro, 0, false⟩]⟩,
   ⟨0x128, 64, 4, 4, 1, false, [⟨0, 32, .rc, 0, false⟩]⟩]
  ++ [⟨0x12C, 64, 4, 4, 1, false, [⟨0, 32, .rc, 0, false⟩]⟩,
   ⟨0x130, 64, 4, 4, 1, false, [⟨0, 32, .rc, 0, false⟩]⟩,
   ⟨0x134, 64, 4, 4, 1, false, [⟨0, 32, .rc, 0, false⟩]⟩,
   ⟨0x138, 64, 4, 4, 1, false, [⟨0, 32, .rc, 0, false⟩]⟩,
   ⟨0x13C, 64, 4, 4, 1, false, [⟨0, 32, .rc, 0, false⟩]⟩,
   ⟨0x200, 4, 4, 4, 1, false, [⟨31, 1, .rw, 0, false⟩, ⟨0, 6, .rw, 0, false⟩]⟩,
   ⟨0x214, 4, 1, 4, 1, false, [⟨0, 32, .ro, 0, false⟩]⟩,
   ⟨0x218, 4, 1, 4, 1, false, [⟨0, 32, .ro, 0, false⟩]⟩,
   ⟨0x220, 4, 1, 4, 1, false, [⟨3, 1, .w1c, 0, false⟩, ⟨2, 1, .w1c, 0, false⟩, ⟨1, 1, .w1c, 0, false⟩, ⟨0, 1, .w1c, 0, false⟩]⟩,
   ⟨0x1000, 8, 64, 4, 1, false, [⟨31, 1, .rw, 0, false⟩, ⟨29, 2, .rw, 0, false⟩, ⟨0, 20, .rw, 0, false⟩]⟩,
   ⟨0x1004, 8, 64, 4, 1, false, [⟨12, 20, .rw, 0, false⟩]⟩]

/-- PRESS registers (09_csi2_ports.md R270). -/
def pressRows : List RegRow :=
  [⟨0x0, 4, 1, 4, 1, false, [⟨31, 1, .rw, 0, true⟩, ⟨30, 1, .rw, 0, true⟩, ⟨28, 2, .rw, 0, true⟩, ⟨27, 1, .rw, 0, true⟩, ⟨26, 1, .rw, 0, true⟩, ⟨25, 1, .rw, 0, true⟩, ⟨16, 8, .rw, 228, true⟩, ⟨12, 4, .rw, 0, true⟩, ⟨11, 1, .rw, 0, true⟩]⟩,
   ⟨0x4, 4, 1, 4, 1, false, [⟨0, 16, .rw, 1500, true⟩]⟩,
   ⟨0x8, 4, 1, 4, 1, false, [⟨31, 1, .ro, 0, false⟩, ⟨30, 1, .ro, 0, false⟩, ⟨29, 1, .ro, 0, false⟩, ⟨28, 1, .ro, 0, false⟩, ⟨24, 4, .ro, 0, false⟩, ⟨0, 16, .ro, 0, false⟩]⟩,
   ⟨0xC, 4, 1, 4, 1, false, [⟨16, 16, .rw, 0, true⟩, ⟨8, 8, .rw, 0, true⟩, ⟨0, 8, .rw, 0, true⟩]⟩,
   ⟨0x10, 4, 1, 4, 1, false, [⟨6, 1, .w1c, 0, false⟩]⟩,
   ⟨0x20, 4, 1, 4, 1, false, [⟨0, 32, .rc, 0, false⟩]⟩,
   ⟨0x24, 4, 1, 4, 1, false, [⟨0, 32, .rc, 0, false⟩]⟩,
   ⟨0x28, 4, 1, 4, 1, false, [⟨0, 32, .rc, 0, false⟩]⟩,
   ⟨0x2C, 4, 1, 4, 1, false, [⟨0, 32, .rc, 0, false⟩]⟩,
   ⟨0x30, 4, 8, 4, 1, false, [⟨0, 32, .ro, 0, false⟩]⟩,
   ⟨0x100, 4, 4, 4, 1, false, [⟨31, 1, .rw, 0, false⟩, ⟨26, 5, .rw, 0, false⟩]⟩,
   ⟨0x110, 4, 4, 4, 1, false, [⟨31, 1, .rw, 0, false⟩, ⟨0, 6, .rw, 0, false⟩]⟩,
   ⟨0x120, 4, 1, 4, 1, false, [⟨31, 1, .rw, 0, false⟩, ⟨26, 5, .rw, 0, false⟩, ⟨22, 4, .rw, 0, false⟩, ⟨0, 6, .rw, 0, false⟩]⟩,
   ⟨0x124, 4, 1, 4, 1, false, [⟨31, 1, .rw, 0, false⟩, ⟨26, 5, .rw, 0, false⟩]⟩,
   ⟨0x128, 4, 1, 4, 1, false, [⟨31, 1, .rw, 0, false⟩, ⟨26, 5, .rw, 0, false⟩, ⟨0, 16, .rw, 0, false⟩]⟩,
   ⟨0x130, 4, 8, 4, 1, false, [⟨31, 1, .rw, 0, false⟩, ⟨0, 22, .rw, 0, false⟩]⟩]
  ++ [⟨0x150, 4, 1, 4, 1, false, [⟨31, 1, .rw, 0, true⟩, ⟨28, 3, .rw, 0, true⟩]⟩,
   ⟨0x154, 4, 1, 4, 1, false, [⟨0, 4, .ro, 0, false⟩]⟩,
   ⟨0x158, 4, 1, 4, 1, false, [⟨3, 1, .w1c, 0, true⟩, ⟨2, 1, .w1c, 0, false⟩, ⟨1, 1, .w1c, 0, false⟩, ⟨0, 1, .w1c, 0, false⟩]⟩,
   ⟨0x160, 4, 1, 4, 1, false, [⟨0, 32, .rc, 0, false⟩]⟩,
   ⟨0x164, 4, 1, 4, 1, false, [⟨0, 32, .rc, 0, false⟩]⟩,
   ⟨0x168, 4, 1, 4, 1, false, [⟨0, 32, .rc, 0, false⟩]⟩,
   ⟨0x16C, 4, 1, 4, 1, false, [⟨0, 32, .rc, 0, false⟩]⟩,
   ⟨0x170, 4, 1, 4, 1, false, [⟨0, 32, .rc, 0, false⟩]⟩,
   ⟨0x174, 4, 1, 4, 1, false, [⟨0, 32, .rc, 0, true⟩]⟩,
   ⟨0x178, 4, 1, 4, 1, false, [⟨0, 32, .rc, 0, true⟩]⟩,
   ⟨0x1000, 8, 64, 4, 1, false, [⟨31, 1, .rw, 0, false⟩, ⟨29, 2, .rw, 0, false⟩, ⟨21, 8, .rw, 0, false⟩]⟩,
   ⟨0x1004, 8, 64, 4, 1, false, [⟨12, 20, .rw, 0, false⟩, ⟨0, 12, .rw, 0, false⟩]⟩]

/-- RACK registers (11_rack_queues.md R322). -/
def rackRows : List RegRow :=
  [⟨0x0, 4, 1, 4, 1, false, [⟨1, 1, .wo, 0, false⟩, ⟨0, 1, .rw, 0, false⟩]⟩,
   ⟨0x4, 4, 1, 4, 1, false, [⟨30, 2, .ro, 0, false⟩, ⟨0, 16, .ro, 0, false⟩]⟩,
   ⟨0x8, 4, 1, 4, 1, false, [⟨26, 6, .rw, 0, false⟩]⟩,
   ⟨0xC, 4, 1, 4, 1, false, [⟨0, 8, .rw, 0, false⟩]⟩,
   ⟨0x10, 4, 1, 4, 1, false, [⟨0, 32, .rw, 100000, false⟩]⟩,
   ⟨0x40, 4, 1, 4, 1, false, [⟨7, 1, .w1c, 0, false⟩, ⟨6, 1, .w1c, 0, false⟩, ⟨5, 1, .w1c, 0, false⟩, ⟨4, 1, .w1c, 0, false⟩, ⟨3, 1, .w1c, 0, false⟩, ⟨2, 1, .w1c, 0, false⟩, ⟨1, 1, .w1c, 0, false⟩, ⟨0, 1, .w1c, 0, false⟩]⟩,
   ⟨0x44, 4, 1, 4, 1, false, [⟨31, 1, .ro, 0, false⟩, ⟨0, 22, .ro, 0, false⟩]⟩,
   ⟨0x50, 4, 1, 4, 1, false, [⟨0, 32, .rc, 0, false⟩]⟩,
   ⟨0x54, 4, 1, 4, 1, false, [⟨0, 32, .rc, 0, false⟩]⟩,
   ⟨0x58, 4, 1, 4, 1, false, [⟨0, 32, .rc, 0, false⟩]⟩,
   ⟨0x5C, 4, 1, 4, 1, false, [⟨0, 32, .rc, 0, false⟩]⟩,
   ⟨0x60, 4, 1, 4, 1, false, [⟨0, 32, .rc, 0, false⟩]⟩,
   ⟨0x64, 4, 1, 4, 1, false, [⟨0, 32, .rc, 0, false⟩]⟩,
   ⟨0x68, 4, 1, 4, 1, false, [⟨0, 32, .rc, 0, false⟩]⟩,
   ⟨0x6C, 4, 1, 4, 1, false, [⟨0, 32, .rc, 0, false⟩]⟩,
   ⟨0x100, 4, 1, 4, 1, true, [⟨0, 22, .rw, 0, false⟩]⟩]
  ++ [⟨0x104, 4, 1, 4, 1, true, [⟨0, 4, .wo, 0, false⟩]⟩,
   ⟨0x108, 4, 4, 4, 1, true, [⟨0, 32, .rw, 0, false⟩]⟩,
   ⟨0x118, 4, 1, 4, 1, true, [⟨31, 1, .ro, 0, false⟩, ⟨30, 1, .ro, 0, false⟩, ⟨0, 4, .ro, 0, false⟩]⟩,
   ⟨0x120, 4, 1, 4, 1, true, [⟨0, 3, .wo, 0, false⟩]⟩,
   ⟨0x124, 4, 1, 4, 1, true, [⟨0, 17, .rw, 0, false⟩]⟩,
   ⟨0x128, 4, 1, 4, 1, true, [⟨0, 32, .ro, 0, false⟩]⟩,
   ⟨0x12C, 4, 1, 4, 1, true, [⟨0, 8, .ro, 0, false⟩]⟩,
   ⟨0x130, 4, 1, 4, 1, true, [⟨0, 32, .ro, 0, false⟩]⟩,
   ⟨0x134, 4, 1, 4, 1, true, [⟨0, 32, .ro, 0, false⟩]⟩,
   ⟨0x138, 4, 1, 4, 1, true, [⟨31, 1, .ro, 0, false⟩, ⟨30, 1, .ro, 0, false⟩, ⟨29, 1, .ro, 0, false⟩, ⟨28, 1, .ro, 0, false⟩, ⟨27, 1, .ro, 0, false⟩, ⟨0, 4, .ro, 0, false⟩]⟩,
   ⟨0x200, 4, 4, 4, 1, false, [⟨31, 1, .rw, 0, false⟩, ⟨0, 6, .rw, 0, false⟩]⟩,
   ⟨0x210, 4, 4, 4, 1, false, [⟨31, 1, .rw, 0, false⟩, ⟨0, 6, .rw, 0, false⟩]⟩,
   ⟨0x1000, 8, 64, 4, 2, false, [⟨0, 32, .rw, 0, false⟩]⟩,
   ⟨0x1400, 8, 64, 4, 2, false, [⟨0, 32, .rw, 0, false⟩]⟩]

/-- INT registers (12_memory_integrity.md R346). -/
def intRows : List RegRow :=
  [⟨0x0, 4, 1, 4, 1, false, [⟨24, 8, .rw, 3, false⟩, ⟨1, 1, .rw, 1, false⟩, ⟨0, 1, .rw, 1, false⟩]⟩,
   ⟨0x4, 4, 1, 4, 1, false, [⟨0, 32, .rw, 2863311530, false⟩]⟩,
   ⟨0x8, 4, 1, 4, 1, false, [⟨0, 32, .rw, 2863311530, false⟩]⟩,
   ⟨0xC, 4, 1, 4, 1, false, [⟨0, 32, .rw, 100, false⟩]⟩,
   ⟨0x10, 4, 1, 4, 1, false, [⟨26, 5, .ro, 0, false⟩, ⟨0, 13, .ro, 0, false⟩]⟩,
   ⟨0x14, 4, 1, 4, 1, false, [⟨31, 1, .ro, 0, false⟩, ⟨26, 5, .ro, 0, false⟩, ⟨0, 13, .ro, 0, false⟩]⟩,
   ⟨0x18, 4, 1, 4, 1, false, [⟨7, 1, .w1c, 0, false⟩, ⟨6, 1, .w1c, 0, false⟩, ⟨4, 1, .w1c, 0, false⟩, ⟨3, 1, .w1c, 0, false⟩, ⟨2, 1, .w1c, 0, false⟩, ⟨1, 1, .w1c, 0, false⟩, ⟨0, 1, .w1c, 0, false⟩]⟩,
   ⟨0x1C, 4, 1, 4, 1, false, [⟨0, 1, .wo, 0, false⟩]⟩,
   ⟨0x20, 4, 1, 4, 1, false, [⟨0, 32, .rc, 0, false⟩]⟩,
   ⟨0x24, 4, 1, 4, 1, false, [⟨0, 32, .rc, 0, false⟩]⟩,
   ⟨0x28, 4, 1, 4, 1, false, [⟨0, 32, .rc, 0, false⟩]⟩,
   ⟨0x2C, 4, 1, 4, 1, false, [⟨0, 32, .rc, 0, false⟩]⟩,
   ⟨0x30, 4, 1, 4, 1, false, [⟨0, 32, .rc, 0, false⟩]⟩,
   ⟨0x40, 8, 16, 4, 1, false, [⟨31, 1, .ro, 0, false⟩, ⟨26, 5, .ro, 0, false⟩, ⟨24, 2, .ro, 0, false⟩, ⟨0, 13, .ro, 0, false⟩]⟩,
   ⟨0x44, 8, 16, 4, 1, false, [⟨24, 8, .ro, 0, false⟩]⟩,
   ⟨0xC0, 4, 1, 4, 1, false, [⟨31, 1, .rw, 0, false⟩, ⟨26, 5, .rw, 0, false⟩, ⟨0, 13, .rw, 0, false⟩]⟩]
  ++ [⟨0xC4, 4, 1, 4, 1, false, [⟨0, 3, .wo, 0, false⟩]⟩,
   ⟨0xC8, 4, 1, 4, 1, false, [⟨31, 1, .ro, 0, false⟩, ⟨30, 1, .ro, 0, false⟩]⟩,
   ⟨0xCC, 4, 1, 4, 1, false, [⟨0, 32, .rw, 0, false⟩]⟩,
   ⟨0xE0, 4, 8, 4, 1, false, [⟨0, 32, .rw, 0, false⟩]⟩,
   ⟨0x400, 32, 32, 4, 8, false, [⟨31, 1, .rw, 0, false⟩, ⟨0, 13, .rw, 0, false⟩]⟩]

/-- PLATE registers (12_memory_integrity.md R346). (PRESUMED, log entry 58.) -/
def plateRows : List RegRow :=
  [⟨0x100, 4, 1, 4, 1, false, [⟨8, 3, .ro, 2, false⟩, ⟨0, 8, .ro, 16, false⟩]⟩,
   ⟨0x104, 4, 1, 4, 1, false, [⟨31, 1, .rw, 1, false⟩, ⟨0, 31, .rw, 3600, false⟩]⟩,
   ⟨0x108, 4, 1, 4, 1, false, [⟨31, 1, .ro, 0, false⟩, ⟨0, 11, .ro, 0, false⟩]⟩,
   ⟨0x10C, 4, 1, 4, 1, false, [⟨0, 32, .rc, 0, false⟩]⟩,
   ⟨0x110, 4, 1, 4, 1, false, [⟨0, 32, .rc, 0, false⟩]⟩,
   ⟨0x140, 8, 16, 4, 1, false, [⟨31, 1, .ro, 0, false⟩, ⟨25, 6, .ro, 0, false⟩, ⟨0, 11, .ro, 0, false⟩]⟩,
   ⟨0x144, 8, 16, 4, 1, false, [⟨24, 8, .ro, 0, false⟩]⟩,
   ⟨0x1C0, 4, 16, 4, 1, false, [⟨31, 1, .ro, 0, true⟩, ⟨0, 11, .ro, 0, true⟩]⟩]

/-- MC registers (12_memory_integrity.md R347). -/
def mcRows : List RegRow :=
  [⟨0x0, 4, 1, 4, 1, false, [⟨24, 8, .rw, 3, false⟩, ⟨4, 3, .rw, 1, false⟩, ⟨1, 1, .rw, 1, false⟩, ⟨0, 1, .rw, 1, false⟩]⟩,
   ⟨0x4, 4, 1, 4, 1, false, [⟨2, 2, .ro, 0, false⟩, ⟨1, 1, .ro, 0, false⟩, ⟨0, 1, .ro, 0, false⟩]⟩,
   ⟨0x8, 4, 1, 4, 1, false, [⟨0, 32, .rw, 3600, false⟩]⟩,
   ⟨0xC, 4, 1, 4, 1, false, [⟨20, 2, .ro, 0, false⟩, ⟨0, 20, .ro, 0, false⟩]⟩,
   ⟨0x10, 4, 1, 4, 1, false, [⟨0, 32, .rw, 0, false⟩]⟩,
   ⟨0x14, 4, 1, 4, 1, false, [⟨0, 32, .rw, 0, false⟩]⟩,
   ⟨0x18, 4, 1, 4, 1, false, [⟨31, 1, .ro, 0, false⟩, ⟨0, 1, .wo, 0, false⟩]⟩,
   ⟨0x20, 4, 1, 4, 1, false, [⟨0, 32, .rc, 0, false⟩]⟩,
   ⟨0x24, 4, 1, 4, 1, false, [⟨0, 32, .rc, 0, false⟩]⟩,
   ⟨0x28, 4, 1, 4, 1, false, [⟨0, 32, .rc, 0, false⟩]⟩,
   ⟨0x2C, 4, 1, 4, 1, false, [⟨0, 32, .rc, 0, false⟩]⟩,
   ⟨0x30, 4, 1, 4, 1, false, [⟨0, 32, .rc, 0, false⟩]⟩,
   ⟨0x40, 4, 1, 4, 1, false, [⟨8, 1, .w1c, 0, false⟩, ⟨7, 1, .w1c, 0, false⟩, ⟨6, 1, .w1c, 0, false⟩, ⟨5, 1, .w1c, 0, false⟩, ⟨4, 1, .w1c, 0, false⟩, ⟨3, 1, .w1c, 0, false⟩, ⟨2, 1, .w1c, 0, false⟩, ⟨1, 1, .w1c, 0, false⟩]⟩,
   ⟨0x44, 4, 1, 4, 1, false, [⟨0, 1, .wo, 0, false⟩]⟩,
   ⟨0x48, 4, 1, 4, 1, false, [⟨31, 1, .ro, 0, false⟩, ⟨20, 2, .ro, 0, false⟩, ⟨0, 20, .ro, 0, false⟩]⟩,
   ⟨0x100, 8, 64, 4, 1, false, [⟨31, 1, .ro, 0, false⟩, ⟨29, 2, .ro, 0, false⟩, ⟨20, 6, .ro, 0, false⟩, ⟨0, 20, .ro, 0, false⟩]⟩]
  ++ [⟨0x104, 8, 64, 4, 1, false, [⟨24, 8, .ro, 0, false⟩]⟩,
   ⟨0x400, 128, 4, 4, 32, false, [⟨31, 1, .rw, 0, false⟩, ⟨0, 20, .rw, 0, false⟩]⟩,
   ⟨0x600, 4, 1, 4, 1, false, [⟨22, 6, .rw, 0, false⟩, ⟨20, 2, .rw, 0, false⟩, ⟨0, 20, .rw, 0, false⟩]⟩,
   ⟨0x604, 4, 1, 4, 1, false, [⟨0, 3, .wo, 0, false⟩]⟩,
   ⟨0x608, 4, 1, 4, 1, false, [⟨31, 1, .ro, 0, false⟩, ⟨30, 1, .ro, 0, false⟩]⟩,
   ⟨0x620, 4, 8, 4, 1, false, [⟨0, 32, .rw, 0, false⟩]⟩]

/-- The register table of a block. -/
def Blk.rows : Blk → List RegRow
  | .topo => topoRows
  | .boot => bootRows
  | .contract => contractRows
  | .pwr => pwrRows
  | .hg => hgRows
  | .pair => pairRows
  | .tmr => tmrRows
  | .timer => timerRows
  | .pl => plRows
  | .mbox => mboxRows
  | .mb => mbRows
  | .host => hostRows
  | .ks => ksRows
  | .etch => etchRows
  | .stipple => stippleRows
  | .port => portRows
  | .graver => graverRows
  | .scv => scvRows
  | .hatch => hatchRows
  | .hr => hrRows
  | .tracer => tracerRows
  | .press => pressRows
  | .rack => rackRows
  | .int => intRows
  | .plate => plateRows
  | .mc => mcRows

end Sys2Proof.Machine
end

