-- ==== Sys2Proof/Machine/Sparse.lean ====
section
/-! DEFINITION. Sparse maps in one canonical form: pairs of a key and a value, keys strictly rising, no entry
equal to what an unlisted key reads as.  Memory and the register file are such maps. -/

namespace Sys2Proof.Machine

/-- What a key reads as: its first entry, else the default. -/
def mapGet {α : Type} (dflt : Nat → α) : List (Nat × α) → Nat → α
  | [], k => dflt k
  | e :: t, k => if e.1 = k then e.2 else mapGet dflt t k

/-- Insertion before the first larger key. -/
def mapIns {α : Type} (k : Nat) (v : α) : List (Nat × α) → List (Nat × α)
  | [] => [(k, v)]
  | e :: t => if k < e.1 then (k, v) :: e :: t else e :: mapIns k v t

/-- Removal of a key. -/
def mapDel {α : Type} (k : Nat) : List (Nat × α) → List (Nat × α)
  | [] => []
  | e :: t => if e.1 = k then mapDel k t else e :: mapDel k t

/-- Writing a key: the default value removes the entry. -/
def mapPut {α : Type} [DecidableEq α] (dflt : Nat → α) (m : List (Nat × α)) (k : Nat) (v : α) :
    List (Nat × α) :=
  if v = dflt k then mapDel k m else mapIns k v (mapDel k m)

/-- The canonical form: keys strictly rising, no entry equal to the default. -/
def mapWf {α : Type} [DecidableEq α] (dflt : Nat → α) : List (Nat × α) → Bool
  | [] => true
  | e :: t => decide (e.2 ≠ dflt e.1) && t.all (fun f => decide (e.1 < f.1)) && mapWf dflt t

/-- The canonical form of any list of entries, the first entry of a key deciding. -/
def mapNorm {α : Type} [DecidableEq α] (dflt : Nat → α) (m : List (Nat × α)) : List (Nat × α) :=
  m.foldr (fun e acc => mapPut dflt acc e.1 e.2) []

/-- Removing every key of a range [lo, lo + len): each then reads as the default. -/
def mapClear {α : Type} (lo len : Nat) (m : List (Nat × α)) : List (Nat × α) :=
  m.filter (fun e => !(decide (lo ≤ e.1) && decide (e.1 < lo + len)))

end Sys2Proof.Machine
end

