-- ==== Sys2Proof/Machine/Operands.lean ====
section
/-! DEFINITION. Operand forms: how a 40-bit device address names a register or a memory (R32, R33 and the
window map of each unit), the power domain it lies in (R37, R349), and the value each register resets to. -/

namespace Sys2Proof.Machine

/-! Domain indices (R349). -/
def domAon : Nat := 0
def domEtch (n : Nat) : Nat := 1 + n
def domGraver (n : Nat) : Nat := 65 + n
def domHatch (r : Nat) : Nat := 97 + r
def domStipple : Nat := 105
def domRack : Nat := 106
def domTracer (n : Nat) : Nat := 107 + n
def domPress (k : Nat) : Nat := 115 + k
def domMc (m : Nat) : Nat := 119 + m
def domScribe (n : Nat) : Nat := 123 + n

/-! Initiator numbers (R61). -/
def iniHg : Nat := 1
def iniScribe (n : Nat) : Nat := 2 + n
def iniJtag : Nat := 6
def iniHost : Nat := 7
def iniPress (k : Nat) : Nat := 16 + k
def iniRack : Nat := 20

/-- A Scribe, or JTAG debug access after unlock, which reaches what a Scribe reaches (R34). -/
def isScribeOrJtag (ini : Nat) : Bool := decide (2 ≤ ini) && decide (ini ≤ 6)

/-! Window bases (R32). -/
def etchBase (n : Nat) : Nat := 0x0100000000 + 0x1000000 * n
def graverBase (n : Nat) : Nat := 0x0200000000 + 0x1000000 * n
def tracerBase (n : Nat) : Nat := 0x0300000000 + 0x1000000 * n
def pressBase (k : Nat) : Nat := 0x0310000000 + 0x1000000 * k
def rackBase : Nat := 0x0320000000
def stippleBase : Nat := 0x0330000000
def hrBase (s : Nat) : Nat := 0x0340000000 + 0x40000 * s
def mcBase (m : Nat) : Nat := 0x0350000000 + 0x1000000 * m
def plateBase (n : Nat) : Nat := 0x0400000000 + 0x100000 * n
def scribeBase (n : Nat) : Nat := 0x0020000000 + 0x100000 * n
def lpBase : Nat := 0x1000000000
def lpEnd : Nat := 0x13C0000000
def hostBase : Nat := 0x001F000000

/-! Integrity blocks (R346). -/
def intEtch (n : Nat) : Nat := etchBase n + 0x800
def intGraver (n : Nat) : Nat := graverBase n + 0x800
def intTracer (n : Nat) : Nat := tracerBase n + 0x800
def intPress (k : Nat) : Nat := pressBase k + 0x800
def intRack : Nat := rackBase + 0x800
def intScribe (n : Nat) : Nat := 0x0358000000 + 0x1000 * n

/-- Whether a lies in [lo, lo + len). -/
def inRange (a lo len : Nat) : Bool := decide (lo ≤ a) && decide (a < lo + len)

/-- A place in a register block: the block, its index, the offset, and the address of its offset 0. -/
structure Loc where
  blk : Blk
  idx : Nat
  off : Nat
  deriving DecidableEq, Repr

/-- The integrity part of a unit's register page: offsets 0x800 to 0xFFF, of which 0x900 to 0x9FF are the
plate registers of an Etch block (R346). (DEDUCED, log entry 8.) -/
def intLoc (etch : Bool) (idx off : Nat) : Loc :=
  if etch && inRange off 0x900 0x100 then ⟨.plate, idx, off - 0x800⟩ else ⟨.int, idx, off - 0x800⟩

/-- The register block and offset of a device address, where one exists (R32, R33). (DEDUCED, log entries 8, 105.) -/
def regLoc (a : Nat) : Option Loc :=
  if a < 0x0010000000 then none
  else if a < 0x0010080000 then some ⟨.pwr, 0, a - 0x0010000000⟩
  else if a < 0x00100A0000 then some ⟨.contract, 0, a - 0x0010080000⟩
  else if a < 0x0010100000 then some ⟨.pair, 0, a - 0x00100A0000⟩
  else if a < 0x0010200000 then some ⟨.hg, 0, a - 0x0010100000⟩
  else if a < 0x0010200800 then some ⟨.topo, 0, a - 0x0010200000⟩
  else if a < 0x0010300000 then some ⟨.boot, 0, a - 0x0010200800⟩
  else if a < 0x0010300100 then some ⟨.tmr, 0, a - 0x0010300000⟩
  else if a < 0x0010300300 then
    some ⟨.timer, (a - 0x0010300100) / 0x40, (a - 0x0010300100) % 0x40⟩
  else if inRange a 0x0010400000 0x100000 then some ⟨.pl, 0, a - 0x0010400000⟩
  else if inRange a 0x0010500400 0x400 then
    some ⟨.mbox, (a - 0x0010500400) / 0x80, (a - 0x0010500400) % 0x80⟩
  else if inRange a 0x0010500000 0x100000 then some ⟨.mb, 0, a - 0x0010500000⟩
  else if inRange a 0x0010600000 0x100000 then some ⟨.ks, 0, a - 0x0010600000⟩
  else if inRange a hostBase 0x10000 then some ⟨.host, 0, a - hostBase⟩
  else if inRange a 0x0100000000 0x40000000 then
    let n := (a - 0x0100000000) / 0x1000000
    let o := a % 0x1000000
    if inRange o 0x800 0x800 then some (intLoc true n o)
    else if decide (o < 0x800) || inRange o 0x10000 0x10000 then some ⟨.etch, n, o⟩
    else none
  else if inRange a 0x0200000000 0x20000000 then
    let n := (a - 0x0200000000) / 0x1000000
    let o := a % 0x1000000
    if inRange o 0x800 0x800 then some (intLoc false n o)
    else if o < 0x800 then some ⟨.graver, n, o⟩
    else none
  else if inRange a 0x0300000000 0x8000000 then
    let n := (a - 0x0300000000) / 0x1000000
    let o := a % 0x1000000
    if inRange o 0x800 0x800 then some (intLoc false n o)
    else if o < 0x10000 then some ⟨.tracer, n, o⟩
    else none
  else if inRange a 0x0310000000 0x4000000 then
    let n := (a - 0x0310000000) / 0x1000000
    let o := a % 0x1000000
    if inRange o 0x800 0x800 then some (intLoc false n o) else some ⟨.press, n, o⟩
  else if inRange a rackBase 0x10000000 then
    let o := a - rackBase
    if inRange o 0x800 0x800 then some (intLoc false 0 o) else some ⟨.rack, 0, o⟩
  else if inRange a (stippleBase + 0x10000) 0x10000 then
    let o := a - (stippleBase + 0x10000)
    some ⟨.port, o / 0x400, o % 0x400⟩
  else if inRange a stippleBase 0x10000000 then some ⟨.stipple, 0, a - stippleBase⟩
  else if inRange a 0x0340000000 0x1C00000 then
    let o := (a - 0x0340000000) % 0x40000
    if o < 0x1000 then some ⟨.hr, (a - 0x0340000000) / 0x40000, o⟩ else none
  else if inRange a 0x0348000000 0x400 then
    some ⟨.scv, (a - 0x0348000000) / 0x10, (a - 0x0348000000) % 0x10⟩
  else if inRange a 0x034F000000 0x1000000 then some ⟨.hatch, 0, a - 0x034F000000⟩
  else if inRange a 0x0350000000 0x4000000 then
    some ⟨.mc, (a - 0x0350000000) / 0x1000000, a % 0x1000000⟩
  else if inRange a 0x0358000000 0x4000 then
    some ⟨.int, (a - 0x0358000000) / 0x1000, a % 0x1000⟩
  else none

/-- Whether a row holds the offset. -/
def RegRow.covers (r : RegRow) (off : Nat) : Bool :=
  decide (r.off ≤ off) &&
  (let o := off - r.off
   let i := if r.n1 = 1 then 0 else if r.s1 < r.s2 then (o % r.s2) / r.s1 else o / r.s1
   let rest := o - i * r.s1
   decide (i < r.n1) && decide (i * r.s1 ≤ o) && decide (rest % r.s2 = 0) && decide (rest / r.s2 < r.n2))

/-- The register row at an offset of a block, where one exists. -/
def findRow (rows : List RegRow) (off : Nat) : Option RegRow := rows.find? (fun r => r.covers off)

/-- The reset value of a row: its fields' reset values in place (R11). -/
def RegRow.resetVal (r : RegRow) : Nat := r.fields.foldl (fun acc f => acc + f.reset <<< f.lo) 0

/-- The bits of a row that RESET_N keeps (R11). (DEDUCED, log entry 11.) -/
def RegRow.keptMask (r : RegRow) : Nat :=
  r.fields.foldl (fun acc f => if f.kept then acc + (2 ^ f.len - 1) <<< f.lo else acc) 0

/-- The register row at a device address, bank bits aside. -/
def regRow (a : Nat) : Option RegRow :=
  match regLoc (a % bankStride) with
  | some l => findRow l.blk.rows l.off
  | none => none

/-- The value a register resets to (R11): its row's, with the values of R373 and R419 that depend on the
index. -/
def resetWord (a : Nat) : Word :=
  if a = 0x001000103C then 0x00800000
  else if a = 0x0010000040 then 0x00000002
  else if a = 0x0010500800 then 0x00000207
  else if inRange a 0x0010500804 12 then 0x00000200
  else if a = 0x0010500810 then 0x00000702
  else if inRange a 0x0010500814 12 then 0x00000700
  else match regRow a with
    | some r => BitVec.ofNat 32 r.resetVal
    | none => 0

/-- What a memory holds (R325): SRAM words of 32 bytes, plate pages of 512 bytes, LPDDR4X pages of 1 KiB. -/
inductive MemKind where
  | sram | plate | lp | rom
  deriving DecidableEq, Repr

/-- The memory a device address names. -/
structure MemAt where
  kind : MemKind
  dom : Nat
  deriving DecidableEq, Repr

/-- Whether router s is a memory edge site (R29): the north edge sites (0, 3), (0, 4), (0, 9), (0, 10) and the
south edge sites (7, 3), (7, 4), (7, 9), (7, 10). -/
def isMemSite (s : Nat) : Bool := [3, 4, 9, 10, 101, 102, 107, 108].contains s

/-- The place of a Bite table's word among the 32-byte words of bank 10 (R136, R325): tags, POSTCFG, rules, fix
regions, in the order of their offsets after the memories at 0x1000. (DEDUCED, log entry 10.) -/
def biteWord (o : Nat) : Option Nat :=
  if inRange o 0x10100 0x80 then some (256 + (o - 0x10100) / 32)
  else if inRange o 0x10200 0x200 then some (260 + (o - 0x10200) / 32)
  else if inRange o 0x11000 0x200 then some (276 + (o - 0x11000) / 32)
  else if inRange o 0x12000 0x100 then some (292 + (o - 0x12000) / 32)
  else none

/-- The offset of such a word. -/
def biteOff (k : Nat) : Option Nat :=
  if k < 256 then none
  else if k < 260 then some (0x10100 + 32 * (k - 256))
  else if k < 276 then some (0x10200 + 32 * (k - 260))
  else if k < 292 then some (0x11000 + 32 * (k - 276))
  else if k < 300 then some (0x12000 + 32 * (k - 292))
  else none

/-- The Etch window's memories by offset (R66, R136). -/
def etchMemOff (o : Nat) : Bool :=
  inRange o 0x1000 0x2000 || inRange o 0x40000 0xC0000 || inRange o 0x100000 0x180000 || (biteWord o).isSome

/-- The Graver window's memories by offset (R200, R222), the aliases aside. -/
def graverMemOff (o : Nat) : Bool :=
  inRange o 0x1000 0x100 || inRange o 0x20000 0x11000 ||
  (inRange o 0x31000 0x1000 && decide ((o - 0x31000) % 0x400 < 0x240)) ||
  inRange o 0x40000 0x40000 || inRange o 0x400000 0x400000

/-- A Hatch router window's memories by offset (R254). -/
def hrMemOff (s o : Nat) : Bool :=
  inRange o 0x10000 0xA000 || inRange o 0x20000 0x2800 || inRange o 0x30000 0x400 ||
  (isMemSite s && inRange o 0x31000 0x800)

/-- The memory at a device address, where one exists (R32). (DEDUCED, log entry 105.) -/
def memAt (a : Nat) : Option MemAt :=
  if a < 0x40000 then some ⟨.rom, domAon⟩
  else if inRange a 0x0020000000 0x400000 then
    if (a - 0x0020000000) % 0x100000 < 0x80000 then
      some ⟨.sram, domScribe ((a - 0x0020000000) / 0x100000)⟩ else none
  else if inRange a 0x0100000000 0x40000000 then
    if etchMemOff (a % 0x1000000) then some ⟨.sram, domEtch ((a - 0x0100000000) / 0x1000000)⟩ else none
  else if inRange a 0x0200000000 0x20000000 then
    if graverMemOff (a % 0x1000000) then some ⟨.sram, domGraver ((a - 0x0200000000) / 0x1000000)⟩ else none
  else if inRange a 0x0300000000 0x8000000 then
    if inRange (a % 0x1000000) 0x10000 0x10000 then
      some ⟨.sram, domTracer ((a - 0x0300000000) / 0x1000000)⟩ else none
  else if inRange a 0x0340000000 0x1C00000 then
    let s := (a - 0x0340000000) / 0x40000
    if hrMemOff s ((a - 0x0340000000) % 0x40000) then some ⟨.sram, domHatch (s / 14)⟩ else none
  else if inRange a 0x0400000000 0x4000000 then
    some ⟨.plate, domEtch ((a - 0x0400000000) / 0x100000)⟩
  else if inRange a lpBase 0x3C0000000 then
    some ⟨.lp, domMc ((a - lpBase) / 0xF0000000)⟩
  else none

/-- The bits that a 32-bit word of memory holds: all of them, but in a Bite table its fields (R14, R136). -/
def memMask (a : Nat) : Nat :=
  if inRange a 0x0100000000 0x40000000 && (biteWord (a % 0x1000000)).isSome then
    match findRow etchTables (a % 0x1000000) with
    | some r => r.fields.foldl (fun m f => if f.acc = .rw then m + (2 ^ f.len - 1) <<< f.lo else m) 0
    | none => 0
  else 2 ^ 32 - 1

/-- The power domain of a register place (R37). (DEDUCED, log entry 9.) -/
def Loc.dom (l : Loc) (a : Nat) : Nat :=
  match l.blk with
  | .etch | .plate => domEtch l.idx
  | .graver => domGraver l.idx
  | .tracer => if l.off = 0x4C then domAon else domTracer l.idx   -- WAKE_LOST lies in AON (R267)
  | .press => domPress l.idx
  | .rack => domRack
  | .stipple | .port => domStipple
  | .hr => domHatch (l.idx / 14)
  | .mc => domMc l.idx
  | .scv => domHatch (l.idx / 8)
  | .int =>
      if a < 0x0200000000 then domEtch l.idx
      else if a < 0x0300000000 then domGraver l.idx
      else if a < 0x0310000000 then domTracer l.idx
      else if a < 0x0320000000 then domPress l.idx
      else if a < 0x0330000000 then domRack
      else domScribe l.idx
  | _ => domAon

/-- The first address of the word or page that holds an address: the unit in which the check codes count
(R325). -/
def codeUnit (a : Nat) : Nat :=
  if lpBase ≤ a then a / 1024 * 1024
  else if inRange a 0x0400000000 0x4000000 then a / 512 * 512
  else a / 32 * 32

/-- The controller, channel and page of a usable LPDDR4X address (R331). -/
def lpPlace (a : Nat) : Nat × Nat × Nat :=
  let o := a - lpBase
  let p := (o % 0xF0000000) / 1024
  (o / 0xF0000000, p % 4, p / 4)

/-- The address of page q of channel ch of controller m (R331). -/
def lpAddr (m ch q : Nat) : Nat := lpBase + m * 0xF0000000 + 1024 * (4 * q + ch)

end Sys2Proof.Machine
end

