-- ==== Sys2Proof/Machine/StateBoot.lean ====
section
/-! DEFINITION. What boot and the host's view of flash need beside registers (R376 to R405): the flash devices and
their contents, fuses and straps as they stand outside the part, and the boot firmware's own state. -/

namespace Sys2Proof.Machine

/-- A flash device as its SFDP describes it (R376, R377): log2 of its size (0: absent), whether SFDP is readable
and reports an 8D-8D-8D read, and the erase sizes it reports. -/
structure FlashDev where
  log2 : Nat := 0
  sfdp : Bool := true
  octal : Bool := true
  erases : List Nat := []
  deriving DecidableEq, Repr

/-- The boot flash: two devices, and the bytes programmed, by 2^32 x device + offset; an erased byte is 0xFF.
(DESIGN CHOICE, log entry 5.) -/
structure Flash where
  cs0 : FlashDev := {}
  cs1 : FlashDev := {}
  bytes : List (Nat × Byte) := []
  deriving DecidableEq, Repr

/-- Fuses and straps: the 512-byte fuse map and whether its majority check passes, sites disabled by row, grade,
PAIR_ROLE and INST straps. (DESIGN CHOICE, log entry 5.) -/
structure Fuses where
  map : List Byte := []
  majority : Bool := true
  siteDis : List Nat := []
  grade : Nat := 1
  pairRole : Nat := 0
  inst : Nat := 0
  deriving DecidableEq, Repr

/-- A flash operation of R400: kind 0 ERASE, 1 WRITE, 2 END; load sequence, device, offset, AUX, data or hash. -/
structure FlashOp where
  kind : Nat
  seq : Nat
  cs : Nat
  off : Nat
  aux : Nat
  data : List Byte
  deriving DecidableEq, Repr

/-- A delegated key (R437). -/
structure DelegKey where
  pub : List Byte
  auth : Nat
  deriving DecidableEq, Repr

/-- Boot: which reset pins are asserted, TIMEBASE at the last release, the straps latched, the header read and
whether its owner signature has passed, the FW copy, a session's erased ranges and its operation in progress with
its path, delegated keys, the owner's certificate, the host-access ranges of POLICY, whether this
boot's lateness has been recorded, a restart or reboot that a register write has asked for, whether LOAD has
completed. -/
structure BootCtl where
  por : Bool := true
  rst : Bool := false
  releasedAt : Nat := 0
  pairRole : Nat := 0
  inst : Nat := 0
  latched : Bool := false
  fuseMap : List Byte := []
  header : List Byte := []
  trusted : Bool := false
  fw : List Byte := []
  erased : List (Nat × Nat × Nat) := []
  op : Option (FlashOp × Nat) := none
  keys : List DelegKey := []
  ownerCert : List Byte := []
  ranges : List (Nat × Nat × Nat) := []
  late : Bool := false
  restart : Bool := false
  reboot : Bool := false
  loaded : Bool := false
  deriving DecidableEq, Repr

end Sys2Proof.Machine
end

