-- ==== Sys2Proof/Machine/StateHost.lean ====
section
/-! DEFINITION. Hidden state of the host interface (R406 to R430): the I3C target, mailbox timers, the message
server, the indirect access in progress. -/

namespace Sys2Proof.Machine

/-- The I3C target: dynamic address, MWL, MRL, ENINT and ENHJ, the RSTACT byte, HDR-DDR mode, the window offset in
force, whether a protocol error stands for GETSTATUS, an IBI request, a Hot-Join request and when it was last
made, whether the last transfer was acknowledged, and the bytes it returned. -/
structure I3c where
  da : Option Nat := none
  mwl : Nat := 260
  mrl : Nat := 256
  enInt : Bool := true
  enHj : Bool := true
  rstAct : Nat := 0
  hdr : Bool := false
  offset : Nat := 0
  protoErr : Bool := false
  ibi : Bool := false
  hj : Bool := false
  hjAt : Option Nat := none
  acked : Bool := true
  reply : List Byte := []
  deriving DecidableEq, Repr

/-- The host side: the target, when FULL of each mailbox was set, the tag and bytes of a multi-part request,
replies that wait for MBOX[4], the header of a PROOF_CLEAR that awaits its token check, the indirect access in
progress (address, whether a write), the header of a flash command in progress, and whether the request standing in
MBOX[0] was lost with a declaration of SCRIBE[0] (R510). -/
structure HostUnit where
  i3c : I3c := {}
  fullAt : List (Nat × Nat) := []
  tag : Option Nat := none
  parts : List Byte := []
  replies : List (List Byte) := []
  clearTag : Option (List Byte) := none
  ind : Option (Nat × Bool) := none
  flashTag : Option (List Byte) := none
  lost : Bool := false
  deriving DecidableEq, Repr

end Sys2Proof.Machine
end

