-- ==== Sys2Proof/Machine/StatePair.lean ====
section
/-! DEFINITION. Hidden state of redundant pair operation (R447 to R466). -/

namespace Sys2Proof.Machine

/-- A digest of a step or a frame: its number, the draft level of a frame, the value. -/
structure Digest where
  num : Nat
  draft : Nat
  val : Nat
  deriving DecidableEq, Repr

/-- A mismatch that awaits a decision (R460): kind, number, when, own SUSPECT, the partner's. -/
structure Diverged where
  kind : Nat
  num : Nat
  at_ : Nat
  own : Bool
  other : Option Bool
  deriving DecidableEq, Repr

/-- A part of the state set (R461): its address, its bytes, what it is (0 plain memory or registers, 1 a delay ring,
2 the descriptor of queue q, 3 the ring of queue q), and whether it is sent at the cutover only. -/
structure SyncItem where
  addr : Nat
  len : Nat
  kind : Nat
  q : Nat
  late : Bool
  deriving DecidableEq, Repr

/-- A resynchronisation (R462).  At the LEAD: the blocks of the state set, the next block of the bulk, the dirty
blocks, the rounds begun and the blocks left of the round, the JOINs sent, the next block of the cutover.  At both:
CUT_FN, and T and I of each listed channel at its cut.  At the LEAD: T_c and I_c of a valid cut. -/
structure Resync where
  set : List SyncItem := []
  next : Nat := 0
  dirty : List Nat := []
  rounds : Nat := 0
  left : Nat := 0
  tries : Nat := 0
  lateNext : Nat := 0
  cutFn : Option Nat := none
  latch : List (Nat × Nat × Nat) := []
  cut : Option (Nat × Nat) := none
  deriving DecidableEq, Repr

/-- The pair logic: listed channels and carried ranges of the pair record (R466), the last KICK, the heartbeat
output and its last edge, the last heartbeat edge seen and whether the partner heartbeat or the mirror link is lost,
the last mirror packet received and sent, the mirror sequences, what the partner last said of its promotion, STATE and
FORCED, whether its image hash agrees, when the wait for a LEAD began, the DRAFT received, digests held, the first
step and frame compared, steps and frames in which this part was SUSPECT, a divergence that awaits a decision, the
decision in force with its effective frame, who asserts DIVERGE_N, the resynchronisation, the step and input frame
held, whether a former LEAD sends no more output, whether a MATE asks for a resynchronisation when it can. -/
structure PairUnit where
  chans : List Nat := []
  carry : List (Nat × Nat) := []
  kickAt : Option Nat := none
  hbOut : Bool := false
  hbOutAt : Nat := 0
  hbInAt : Nat := 0
  hbGone : Bool := false
  mirrorAt : Nat := 0
  mirGone : Bool := false
  sentAt : Nat := 0
  txSeq : Nat := 0
  rxSeq : Nat := 0
  partPromoted : Bool := false
  partState : Nat := 0
  partForced : Bool := false
  imageOk : Bool := true
  joinAt : Option Nat := none
  draft : Option (Nat × Nat × Nat) := none
  ownSteps : List Digest := []
  prtSteps : List Digest := []
  ownFrames : List Digest := []
  prtFrames : List Digest := []
  lockStep : Nat := 0
  lockFrame : Nat := 0
  suspStep : List Nat := []
  suspFrame : List Nat := []
  div : Option Diverged := none
  decided : Option (Nat × Nat) := none
  demoting : Bool := false
  driving : Bool := false
  partDriving : Bool := false
  resync : Option Resync := none
  holdStep : Option Nat := none
  holdFrame : Option Nat := none
  swapped : Bool := false
  wantSync : Bool := false
  deriving DecidableEq, Repr

end Sys2Proof.Machine
end

