-- ==== Sys2Proof/Machine/StateRack.lean ====
section
/-! DEFINITION. Hidden state of the Rack queue engine (R303 to R323): the descriptor cache, record sequences,
open reservations, waiting produces and peeked records. -/

namespace Sys2Proof.Machine

/-- A queue descriptor's four words (R304). -/
structure Desc where
  w0 : Nat
  w1 : Nat
  w2 : Nat
  w3 : Nat
  deriving DecidableEq, Repr

/-- A cached descriptor and whether it is dirty (R306). -/
structure CacheLine where
  desc : Desc
  dirty : Bool
  deriving DecidableEq, Repr

/-- An open reservation (R319): its holder, the PAD bytes before the ring's end (0: none), the position and
payload length of the record, and when it was opened. (DEDUCED, log entry 55.) -/
structure Resv where
  queue : Nat
  ini : Nat
  padLen : Nat
  pos : Nat
  len : Nat
  at_ : Nat
  deriving DecidableEq, Repr

/-- A produce that waits (R309, R319): its claimant, length and payload, and whether it is a RESERVE. -/
structure Waiting where
  queue : Nat
  claimant : Nat
  len : Nat
  payload : List Byte
  reserve : Bool
  deriving DecidableEq, Repr

/-- An endpoint list in progress at the Rack's Hatch port (R317): whether it runs, the entry, the records of the
entry that are done, the tokens gathered or still to offer, and whether it has ended in error or BAD. -/
structure Endpoint where
  active : Bool := false
  entry : Nat := 0
  recs : Nat := 0
  toks : List Nat := []
  bad : Bool := false
  deriving DecidableEq, Repr

/-- The Rack. -/
structure RackUnit where
  cache : List (Nat × CacheLine) := []
  seqs : List (Nat × Nat) := []
  resvs : List Resv := []
  waits : List Waiting := []
  peeks : List (Nat × Nat) := []
  started : Bool := false
  blockRest : Nat := 0
  rhIn : Endpoint := {}
  rhOut : Endpoint := {}
  sweeping : List Nat := []
  deriving DecidableEq, Repr

end Sys2Proof.Machine
end

