-- ==== Sys2Proof/Machine/StateSec.lean ====
section
/-! DEFINITION. Hidden state of the key store, the token engine and JTAG (R431 to R446). -/

namespace Sys2Proof.Machine

/-- The key store's contents: public key, certificates, owner key hashes, the programmed and killed slots, whether
the private and public key are readable, and whether the certificate is readable and names the public key.
(DESIGN CHOICE, log entry 5.) -/
structure KeyStore where
  pubKey : List Byte := []
  cert : List Byte := []
  caCert : List Byte := []
  hashes : List (List Byte) := [[], [], [], []]
  programmed : Nat := 0
  killed : Nat := 0
  keyOk : Bool := true
  certOk : Bool := true
  deriving DecidableEq, Repr

/-- A request of the engine: a token with the initiator of its path, or a report over a nonce. -/
structure TokenReq where
  report : Bool
  ini : Nat
  bytes : List Byte
  deriving DecidableEq, Repr

/-- The TAP: instruction register, the bits last shifted out, boundary-scan register, whether outputs come from it
or are in high impedance, REASON of the last request. -/
structure Jtag where
  ir : Nat := 0x01
  out : List Bool := []
  bsr : BitVec 74 := 0
  extest : Bool := false
  highz : Bool := false
  reason : Nat := 0
  deriving DecidableEq, Repr

/-- Security: the engine's requests in order, the nonce of each path by initiator number, the slot that a
programming waits for with its hash, and the JTAG port. -/
structure Security where
  store : KeyStore := {}
  reqs : List TokenReq := []
  nonces : List (Nat × List Byte) := []
  prov : Option (Nat × List Byte) := none
  jtag : Jtag := {}
  deriving DecidableEq, Repr

end Sys2Proof.Machine
end

