-- ==== Sys2Proof/Machine/StateTimer.lean ====
section
/-! DEFINITION. Hidden state of the timer unit (R467 to R482). -/

namespace Sys2Proof.Machine

/-- A queued capture (R478): the count, whether a rise, TIMEBASE bits [23:0]. -/
structure Capture where
  count : Nat
  rise : Bool
  tb : Nat
  deriving DecidableEq, Repr

/-- A timer channel beside its registers: ticks of the prescaler, a COUNT write that waits for its tick, the level of its
capture source last accepted (R476), the capture queue, and the high half removed last (R478). -/
structure TimerCh where
  pres : Nat := 0
  wr : Option Nat := none
  accepted : Bool := false
  capq : List Capture := []
  hiLast : Nat := 0
  deriving DecidableEq, Repr

/-- A TRIG_OUT pin: whether OUT_CFG has been written, and when its pulse last began (R479). -/
structure TrigOut where
  on : Bool := false
  pulseAt : Option Nat := none
  deriving DecidableEq, Repr

/-- A gate and capture source (R476): its synchronised level, and the ticks for which it has stood. -/
structure TimerSrc where
  level : Bool := false
  stood : Nat := 0
  deriving DecidableEq, Repr

/-- The timer unit. -/
structure TimerUnit where
  src : Vector TimerSrc 8 := Vector.replicate 8 {}
  ch : Vector TimerCh 8 := Vector.replicate 8 {}
  out : Vector TrigOut 2 := Vector.replicate 2 {}
  deriving DecidableEq, Repr

end Sys2Proof.Machine
end

