-- ==== Sys2Proof/Machine/State.lean ====
section
/-! DEFINITION. The state of the part: the register file and memories, the hidden state of every unit, and the
queue of the commands that wait. -/

namespace Sys2Proof.Machine

/-- The part without its command queue. (DESIGN CHOICE, log entry 6.) -/
structure Device where
  /-- The register file: device address (with the bank of the initiator above bit 40 for banked registers) to
  word; an unlisted register reads as its reset value. -/
  regs : List (Nat × Word) := []
  /-- Every addressed memory, by device address; an unlisted byte reads as zero (R327, R330, R333). -/
  mem : List Host.Cell := []
  /-- The valid bits of SRAM words and LPDDR4X pages, by the address of the word or page (R326, R333). -/
  valid : List (Nat × Bool) := []
  /-- The words and pages whose stored bits are not the codeword of their data (R325). -/
  damage : List (Nat × Damage) := []
  /-- The ACK levels of the links from attachments into routers and of the Burin ports, by link number (R40). -/
  acks : List (Nat × Nat) := []
  /-- Correction queues by the address of their integrity block or controller (R338). -/
  corrQ : List (Nat × List Nat) := []
  /-- Raw buffers of plate memories and controllers, by block address (R344). -/
  rawBuf : List (Nat × List Byte) := []
  /-- Where the Burnisher of a plate memory stands (R341), by core. -/
  platePos : List (Nat × Nat) := []
  /-- Page invalidations in progress (R333): controller, first page, pages. -/
  inval : List (Nat × Nat × Nat) := []
  /-- Scribes whose own SRAM read uncorrectable in the command in progress (R343). -/
  scribeUe : List Nat := []
  /-- High halves latched for an initiator by a read of a low half (R363, R468, R473). -/
  hiLatch : List (Nat × Option Nat) := []
  /-- Codes tied to the reading of a counter: true once raised since the last read or clear (R542). -/
  spent : List (Nat × Bool) := []
  /-- Access errors recorded per initiator (R10). -/
  accErr : List (Nat × Nat) := []
  /-- The value returned by the last register read, and the bytes returned by the last bus read. -/
  rdata : Word := 0
  rbytes : List Byte := []
  timebase : Nat := 0
  /-- The model's own: how many free values have been drawn (log entry 2). -/
  freeCtr : Nat := 0
  /-- Codes raised by the command in progress, not yet delivered to the collector (R497). -/
  raising : List (Nat × Nat) := []
  /-- Verify results of the plate page writes of the command in progress, true for a failed one; writes beyond
  the list verify (R330). -/
  verifyFails : List Bool := []
  routers : Vector SRouter 112 := Vector.replicate 112 {}
  ports : Vector SPort 64 := Vector.replicate 64 {}
  sources : Vector SSource 105 := Vector.replicate 105 {}
  seq : Sequencer := {}
  etch : Vector EtchCore 64 := Vector.replicate 64 {}
  doms : Vector Domain 127 := Vector.replicate 127 {}
  power : Power := {}
  proof : Proof := {}
  scribes : Vector Scribe 4 := Vector.replicate 4 {}
  rack : RackUnit := {}
  tiles : Vector Tile 32 := Vector.replicate 32 {}
  hrs : Vector HRouter 112 := Vector.replicate 112 {}
  hatch : HatchCtl := {}
  tracers : Vector TracerUnit 8 := Vector.replicate 8 {}
  presses : Vector PressUnit 4 := Vector.replicate 4 {}
  /-- Accepted packets of MIRROR and IMAGE_LOAD channels, oldest first, with the Tracer that received them. -/
  mirrorRx : List (Nat × List Byte) := []
  imageRx : List (Nat × List Byte) := []
  timers : TimerUnit := {}
  flash : Flash := {}
  fuses : Fuses := {}
  bootc : BootCtl := {}
  host : HostUnit := {}
  sec : Security := {}
  pair : PairUnit := {}
  /-- The FAULT_N output: true while asserted (R500). -/
  faultN : Bool := false
  /-- The first 32 bytes of the SHA-512 of the NET section loaded (R124). -/
  netHash : List Byte := []
  deriving DecidableEq, Repr

/-- No command of this model faults: the part reports an error in its own registers (R10, R498). -/
inductive Fault where
  deriving DecidableEq, Repr

/-- Why a command has no meaning yet. -/
inductive Refusal where
  /-- A command not modelled yet, by its mnemonic; raised by its arm of exec.  Safe: the run stops. -/
  | notModelled (mnemonic : String)
  deriving DecidableEq, Repr

/-- The whole machine: the part, and the commands that wait, first in, first out. -/
structure State where
  dev : Device
  pending : List Instr
  deriving DecidableEq, Repr

/-- The machine while POR_N is asserted (R387): every register at its reset value, memories zero, every link
empty, no command waiting. (DESIGN CHOICE, log entries 5, 6.) -/
def State.reset : State := { dev := {}, pending := [] }

end Sys2Proof.Machine
end

