-- ==== Sys2Proof/Machine/Ops.lean ====
section
/-! DEFINITION. The named operations over registers, memory, hidden arrays and free values that every meaning
uses. -/

namespace Sys2Proof.Machine

/-! ### Arrays and counters -/

/-- Element i of an array, or the given value outside it. -/
def vget {α : Type} {n : Nat} (v : Vector α n) (i : Nat) (dflt : α) : α :=
  if h : i < n then v[i] else dflt

/-- The array with element i changed; unchanged outside it. -/
def vmod {α : Type} {n : Nat} (v : Vector α n) (i : Nat) (f : α → α) : Vector α n :=
  if h : i < n then v.set i (f v[i]) else v

/-- A sparse array of numbers, zero where unlisted. -/
def nget (m : List (Nat × Nat)) (k : Nat) : Nat := mapGet (fun _ => 0) m k

/-- Writing a sparse array of numbers. -/
def nput (m : List (Nat × Nat)) (k v : Nat) : List (Nat × Nat) := mapPut (fun _ => 0) m k v

/-! ### Registers (R9, R12) -/

/-- The word a register holds. -/
def Device.word (d : Device) (a : Nat) : Word := mapGet resetWord d.regs a

/-- The value of a register field. -/
def Device.fld (d : Device) (f : Fld) : Nat := bits (d.word f.addr).toNat f.lo f.len

/-- Whether a one-bit field is set. -/
def Device.flag (d : Device) (f : Fld) : Bool := d.fld f != 0

/-- A register written whole, by hardware. -/
def Device.putWord (d : Device) (a : Nat) (w : Word) : Device :=
  { d with regs := mapPut resetWord d.regs a w }

/-- A field written by hardware or under its access code. -/
def Device.put (d : Device) (f : Fld) (v : Nat) : Device :=
  d.putWord f.addr (setBits (d.word f.addr) f.lo f.len v)

/-- A counter increased by n, holding at its largest value. -/
def Device.bumpBy (d : Device) (f : Fld) (n : Nat) : Device :=
  d.put f (min (2 ^ f.len - 1) (d.fld f + n))

/-- A counter increased by one, holding at its largest value. -/
def Device.bump (d : Device) (f : Fld) : Device := d.bumpBy f 1

/-- A 64-bit quantity in two registers, bits [31:0] at the lower address (R9). -/
def Device.put64 (d : Device) (lo hi : Fld) (v : Nat) : Device := (d.put lo v).put hi (v >>> 32)

/-! ### Memory (R327, R330, R333, R334, R343) -/

/-- Whether the word or page that holds an address decodes as uncorrectable (R325). -/
def Device.ueAt (d : Device) (a : Nat) : Bool :=
  match d.damage.find? (fun e => e.1 = codeUnit a) with
  | some e => e.2.ue
  | none => false

/-- One byte of memory as stored. (DESIGN CHOICE, log entry 57.) -/
def Device.byte (d : Device) (a : Nat) : Byte := mapGet (fun _ => (0 : Byte)) d.mem a

/-- One byte as read: zero where the word or page is uncorrectable, since uncorrectable data is never passed
on as data. -/
def Device.rdByte (d : Device) (a : Nat) : Byte := if d.ueAt a then 0 else d.byte a

/-- n bytes as read. -/
def Device.rdBytes (d : Device) (a n : Nat) : List Byte := (List.range n).map (fun i => d.rdByte (a + i))

/-- The little-endian number of n bytes as read (R9). -/
def Device.ld (d : Device) (a n : Nat) : Nat := leNat (d.rdBytes a n)

/-- The same as a two's-complement number. -/
def Device.ldS (d : Device) (a n : Nat) : Int := sgn (8 * n) (d.ld a n)

/-- One byte stored. -/
def Device.setByte (d : Device) (a : Nat) (b : Byte) : Device :=
  { d with mem := mapPut (fun _ => (0 : Byte)) d.mem a b }

/-- Bytes stored from an address on. -/
def Device.setBytes (d : Device) (a : Nat) : List Byte → Device
  | [] => d
  | b :: t => (d.setByte a b).setBytes (a + 1) t

/-- The valid bit of the word or page that holds an address set (R327, R333), its damage gone: a write
re-encodes. -/
def Device.reencode (d : Device) (a : Nat) : Device :=
  { d with
    valid := mapPut (fun _ => false) d.valid (codeUnit a) true
    damage := mapDel (codeUnit a) d.damage }

/-- The size of the word or page that holds an address. -/
def codeSize (a : Nat) : Nat :=
  if lpBase ≤ a then 1024 else if inRange a 0x0400000000 0x4000000 then 512 else 32

/-- A write inside one word or page: a write of the whole unit replaces it, a partial write to an uncorrectable
unit is discarded (R327, R334). -/
def Device.st (d : Device) (a : Nat) (l : List Byte) : Device :=
  if l.isEmpty || (d.ueAt a && decide (l.length < codeSize a)) then d
  else (d.setBytes a l).reencode a

/-- A write of the n-byte little-endian number v inside one word or page. -/
def Device.stN (d : Device) (a n v : Nat) : Device := d.st a (leBytes n v)

/-- Bytes as a memory holds them from an address on: in a Bite table only its fields (R14, R136). -/
def heldBytes (a : Nat) (l : List Byte) : List Byte :=
  (List.range l.length).map (fun i =>
    l.getD i 0 &&& BitVec.ofNat 8 (memMask ((a + i) / 4 * 4) >>> (8 * ((a + i) % 4))))

/-- A write of any length, cut at the bounds of words and pages; fuel bounds the number of pieces. -/
def Device.stAll (fuel : Nat) (d : Device) (a : Nat) (l : List Byte) : Device :=
  match fuel with
  | 0 => d
  | k + 1 =>
    if l.isEmpty then d
    else
      let room := codeSize a - (a - codeUnit a)
      (d.st a (l.take room)).stAll k (a + room) (l.drop room)

/-- A write of any length. -/
def Device.stMany (d : Device) (a : Nat) (l : List Byte) : Device := d.stAll (l.length + 1) a l

/-- Memory cleared over a range: bytes, valid bits and damage (R327, R333). -/
def Device.clearMem (d : Device) (lo len : Nat) : Device :=
  { d with
    mem := mapClear lo len d.mem
    valid := mapClear lo len d.valid
    damage := mapClear lo len d.damage }

/-- Registers of a range back at their reset values, bank bits aside. -/
def Device.clearRegs (d : Device) (lo len : Nat) : Device :=
  { d with regs := d.regs.filter (fun e => !(inRange (e.1 % bankStride) lo len)) }

/-! ### Links that a queue feeds (R40) -/

/-- The number of the link from Stipple source i, of the Rack's responses, of the link into port p of Hatch router s
from an attachment, and of port p (A, W, S, P, O) of tile n. -/
def linkStipple (i : Nat) : Nat := i
def linkRackOut : Nat := 105
def linkHatch (s p : Nat) : Nat := 128 + 5 * s + p
def linkBurin (n p : Nat) : Nat := 1024 + 5 * n + p

/-- k units accepted over such a link: ACK toggles for each. -/
def Device.ackLink (d : Device) (id k : Nat) : Device := { d with acks := nput d.acks id ((nget d.acks id + k) % 2) }

/-- A link whose sender holds a queue: DATA is its head, offered as soon as REQ = ACK, so that REQ differs from ACK
while the queue is not empty (R40, R42). (DEDUCED, log entry 112.) -/
def Device.fedLink (d : Device) (id : Nat) (queue : List (List Nat)) : Link :=
  let a := decide (nget d.acks id = 1)
  { req := a != !queue.isEmpty, ack := a, data := queue.headD [] }

/-! ### Free values (log entry 2) -/

/-- The next free value and the device that has drawn it. (DESIGN CHOICE, log entry 2.) -/
def Device.draw (d : Device) : BitVec 256 × Device :=
  (Config.freeValue d.freeCtr, { d with freeCtr := d.freeCtr + 1 })

/-! ### Power domains, binding and time -/

/-- The state of a domain: 0 OFF, 1 RET, 2 ON, 3 changing (R349, R373). -/
def Device.domState (d : Device) (i : Nat) : Nat :=
  bits (d.word (0x0010000040 + 4 * (i / 16))).toNat (2 * (i % 16)) 2

/-- Whether logical core ETCH[n] is bound (R28). -/
def Device.etchBound (d : Device) (n : Nat) : Bool := d.flag (F.TOPO_ETCH_SITE_VALID n)

/-- How many logical cores are bound: the NCORES of the barrier (R157). -/
def Device.ncores (d : Device) : Nat := ((List.range 64).filter (fun n => d.etchBound n)).length

/-- Writing a domain's PWR.STATE field.  The sequencer that comes ON knows its count of cores (R157). -/
def Device.setDom (d : Device) (i v : Nat) : Device :=
  let d := d.put ⟨0x0010000040 + 4 * (i / 16), 2 * (i % 16), 2⟩ v
  if i = domStipple ∧ v = 2 then d.put F.STIPPLE_STATUS_NCORES d.ncores else d

def Device.dom (d : Device) (i : Nat) : Domain := vget d.doms i {}
def Device.modDom (d : Device) (i : Nat) (f : Domain → Domain) : Device :=
  { d with doms := vmod d.doms i f }

/-- Whether a domain quiesces on its way out of ON, isolation still open (R355 steps 1 and 2). -/
def DomPhase.open_ : DomPhase → Bool
  | .quiesce _ _ _ => true
  | _ => false

/-- Whether a domain's unit works: it is ON, or is leaving ON and isolation has not closed (R355). -/
def Device.isOn (d : Device) (i : Nat) : Bool := d.domState i == 2 || (d.dom i).phase.open_

/-- Whether logical tile GRAVER[n] is bound (R28). -/
def Device.graverBound (d : Device) (n : Nat) : Bool := d.flag (F.TOPO_GRAVER_SITE_VALID n)

/-- The site number 14r + c of ETCH[n] (R20). -/
def Device.etchSite (d : Device) (n : Nat) : Nat :=
  14 * d.fld (F.TOPO_ETCH_SITE_ROW n) + d.fld (F.TOPO_ETCH_SITE_COL n)

/-- The site number of GRAVER[n]. -/
def Device.graverSite (d : Device) (n : Nat) : Nat :=
  14 * d.fld (F.TOPO_GRAVER_SITE_ROW n) + d.fld (F.TOPO_GRAVER_SITE_COL n)

/-- The logical core bound at a site, if any. -/
def Device.etchAtSite (d : Device) (s : Nat) : Option Nat :=
  (List.range 64).find? (fun n => d.etchBound n && d.etchSite n == s)

/-- The logical tile bound at a site, if any. -/
def Device.graverAtSite (d : Device) (s : Nat) : Option Nat :=
  (List.range 32).find? (fun n => d.graverBound n && d.graverSite n == s)

/-! ### Sites and attachments (R24, R29, R237, R244) -/

/-- Router ports: 0 local, 1 north, 2 east, 3 south, 4 west (R61). -/
def pLocal : Nat := 0
def pNorth : Nat := 1
def pEast : Nat := 2
def pSouth : Nat := 3
def pWest : Nat := 4

/-- The columns of each type (R24). -/
def gravCols : List Nat := [1, 4, 7, 10, 12]
def etchCols : List Nat := [0, 2, 3, 5, 6, 8, 9, 11, 13]

/-- The next site of the same type to the east in its row (R19). -/
def nextSite (s : Nat) : Option Nat :=
  let l := if gravCols.contains (s % 14) then gravCols else etchCols
  (l.find? (fun c => s % 14 < c)).map (fun c => s / 14 * 14 + c)

/-- The site bound to the logical unit whose default site is s (R24). -/
def Device.unitSite (d : Device) (s : Nat) : Option Nat :=
  let etch := !gravCols.contains (s % 14)
  let n := (if etch then 8 else 4) * (s / 14) + (if etch then etchCols else gravCols).idxOf (s % 14)
  if etch then (if d.etchBound n then some (d.etchSite n) else none)
  else if d.graverBound n then some (d.graverSite n) else none

/-- The site whose tile the local port of router s serves (R244): through the shift link that of the unit whose
default site this is, its own, or none where the connection is closed. -/
def Device.servedSite (d : Device) (s : Nat) : Option Nat :=
  if d.flag (F.HR_RELOC_SHIFT s) then d.unitSite s
  else if d.flag (F.HR_RELOC_CLOSED s) then none
  else some s
def Device.servedTile (d : Device) (s : Nat) : Option Nat := (d.servedSite s).bind d.graverAtSite
def Device.servedCore (d : Device) (s : Nat) : Option Nat := (d.servedSite s).bind d.etchAtSite

/-- The controller at a memory edge site (R29). -/
def memCtl (s : Nat) : Nat :=
  if s = 3 ∨ s = 4 then 0 else if s = 9 ∨ s = 10 then 1 else if s = 101 ∨ s = 102 then 2 else 3

/-- The edge port at which Scribe n attaches. -/
def scribeSite (n : Nat) : Nat := if n < 2 then 98 + n else 108 + n

/-- Ticks of TIMEBASE since an earlier value (R467: 10 ns each). (DESIGN CHOICE, log entry 100.) -/
def Device.since (d : Device) (t : Nat) : Nat := d.timebase - t

/-- The boot state (R387): 0 POR, 1 FUSE, 2 ROM, 3 VERIFY, 4 BIST, 5 WAVES, 6 LOAD, 7 READY, 8 RUN,
9 RECOVERY, 10 FAULT. -/
def Device.boot (d : Device) : Nat := d.fld F.BOOT_STATUS_STATE

/-! ### Hidden units -/

def Device.core (d : Device) (n : Nat) : EtchCore := vget d.etch n {}
def Device.modCore (d : Device) (n : Nat) (f : EtchCore → EtchCore) : Device :=
  { d with etch := vmod d.etch n f }
def Device.port (d : Device) (n : Nat) : SPort := vget d.ports n {}
def Device.modPort (d : Device) (n : Nat) (f : SPort → SPort) : Device :=
  { d with ports := vmod d.ports n f }
def Device.source (d : Device) (i : Nat) : SSource := vget d.sources i {}
def Device.modSource (d : Device) (i : Nat) (f : SSource → SSource) : Device :=
  { d with sources := vmod d.sources i f }
def Device.router (d : Device) (s : Nat) : SRouter := vget d.routers s {}
def Device.modRouter (d : Device) (s : Nat) (f : SRouter → SRouter) : Device :=
  { d with routers := vmod d.routers s f }
def Device.modSeq (d : Device) (f : Sequencer → Sequencer) : Device := { d with seq := f d.seq }
def Device.tile (d : Device) (n : Nat) : Tile := vget d.tiles n {}
def Device.modTile (d : Device) (n : Nat) (f : Tile → Tile) : Device := { d with tiles := vmod d.tiles n f }
def Device.modRack (d : Device) (f : RackUnit → RackUnit) : Device := { d with rack := f d.rack }
def Device.hr (d : Device) (s : Nat) : HRouter := vget d.hrs s {}
def Device.modHr (d : Device) (s : Nat) (f : HRouter → HRouter) : Device := { d with hrs := vmod d.hrs s f }
def Device.modHatch (d : Device) (f : HatchCtl → HatchCtl) : Device := { d with hatch := f d.hatch }
/-- An instance of progress restarts the stall sentinel (R247). -/
def Device.progress (d : Device) : Device := d.modHatch (fun h => { h with idle := 0 })
def Device.tracer (d : Device) (n : Nat) : TracerUnit := vget d.tracers n {}
def Device.modTracer (d : Device) (n : Nat) (f : TracerUnit → TracerUnit) : Device :=
  { d with tracers := vmod d.tracers n f }
def Device.stream (d : Device) (n s : Nat) : TStream := vget (d.tracer n).streams s {}
def Device.modStream (d : Device) (n s : Nat) (f : TStream → TStream) : Device :=
  d.modTracer n (fun t => { t with streams := vmod t.streams s f })
def Device.press (d : Device) (k : Nat) : PressUnit := vget d.presses k {}
def Device.modPress (d : Device) (k : Nat) (f : PressUnit → PressUnit) : Device :=
  { d with presses := vmod d.presses k f }
def Device.modPower (d : Device) (f : Power → Power) : Device := { d with power := f d.power }
def Device.modProof (d : Device) (f : Proof → Proof) : Device := { d with proof := f d.proof }

def Device.modBoot (d : Device) (f : BootCtl → BootCtl) : Device := { d with bootc := f d.bootc }
def Device.modI3c (d : Device) (f : I3c → I3c) : Device := { d with host := { d.host with i3c := f d.host.i3c } }
def Device.modHost (d : Device) (f : HostUnit → HostUnit) : Device := { d with host := f d.host }
def Device.modSec (d : Device) (f : Security → Security) : Device := { d with sec := f d.sec }
def Device.modJtag (d : Device) (f : Jtag → Jtag) : Device := { d with sec := { d.sec with jtag := f d.sec.jtag } }
def Device.modPair (d : Device) (f : PairUnit → PairUnit) : Device := { d with pair := f d.pair }

/-- A command's effect repeated over a list. -/
def Device.each {α : Type} (d : Device) (l : List α) (f : Device → α → Device) : Device := l.foldl f d

/-- The effect where a condition holds, nothing otherwise: an event whose condition does not hold does not
occur (log entry 3). (DESIGN CHOICE, log entry 3.) -/
def Device.when (d : Device) (c : Bool) (f : Device → Device) : Device := if c then f d else d

end Sys2Proof.Machine
end

