-- ==== Sys2Proof/Machine/Flags.lean ====
section
/-! DEFINITION. Fault flags and fault codes: raising a code (R497, R542), fault bits, counters whose first event
since a read raises a code, access errors (R10, R35), and the severity of every code (R499). -/

namespace Sys2Proof.Machine

/-- The severities of R497. -/
inductive Sev where
  | record | note | alert | fatal
  deriving DecidableEq, Repr

/-- The severity of a code (R499). -/
def sev (c : Nat) : Sev :=
  if c = 0x0705 ∨ c = 0x0807 then .fatal
  else if c < 0x0100 ∨ c ∈ [0x0104, 0x0111, 0x0122, 0x0713, 0x0715, 0x0716, 0x0808, 0x080D, 0x0902, 0x0904,
      0x0A10, 0x0A11] then .record
  else if c ∈ [0x0101, 0x0102, 0x0106, 0x0108, 0x0113, 0x0126, 0x0127, 0x0180, 0x0181, 0x0182, 0x0183, 0x0187,
      0x0205, 0x0206, 0x0212, 0x0302, 0x0303, 0x0306, 0x0404, 0x0406, 0x0409, 0x0412, 0x0413, 0x0415, 0x0417,
      0x0506, 0x0510, 0x0601, 0x0602, 0x0603, 0x0604, 0x0605, 0x0606, 0x0608, 0x0611, 0x0612, 0x0615, 0x0617,
      0x0702, 0x0703, 0x0810, 0x0811, 0x0812, 0x0901, 0x0A05, 0x0A07, 0x0B01, 0x0B02, 0x0B05, 0x0B06] then .note
  else .alert

/-- The unit index of device-wide codes (R489). (PRESUMED, log entry 18.) -/
def wholeDevice : Nat := 0xFF

/-- A code raised, to be delivered to the collector when the command completes (R497, R498).
(PRESUMED, log entry 18.) -/
def Device.raise (d : Device) (code unit : Nat) : Device :=
  { d with raising := d.raising ++ [(code, unit)] }

/-- A code with a fault bit: raised when the bit changes from 0 to 1, and not again while it stands (R542).
(DEDUCED, log entry 19.) -/
def Device.raiseBit (d : Device) (f : Fld) (code unit : Nat) : Device :=
  if d.flag f then d else (d.put f 1).raise code unit

/-- A code tied to the reading of a counter or the clearing of a log: raised at the first event since (R542). -/
def Device.raiseFirst (d : Device) (ctr : Fld) (code unit : Nat) : Device :=
  if mapGet (fun _ => false) d.spent ctr.addr then d
  else ({ d with spent := mapPut (fun _ => false) d.spent ctr.addr true } : Device).raise code unit

/-- The read or clear that lets such a code be raised again. -/
def Device.rearm (d : Device) (a : Nat) : Device :=
  { d with spent := mapPut (fun _ => false) d.spent a false }

/-- An access error recorded by its issuing path (R10).  For the host it stands in HFAULT.ACC and ACC_INFO
(R415), with KIND and window offset, and raises 0x0B01. (DEDUCED, log entry 7.) -/
def Device.accError (d : Device) (ini kind off : Nat) : Device :=
  let d1 := { d with accErr := nput d.accErr ini (nget d.accErr ini + 1) }
  if ini = iniHost then
    let d2 := if d1.flag F.HOST_ACC_INFO_VALID then d1
      else ((d1.put F.HOST_ACC_INFO_VALID 1).put F.HOST_ACC_INFO_KIND kind).put F.HOST_ACC_INFO_OFFSET off
    d2.raiseBit F.HOST_HFAULT_ACC 0x0B01 wholeDevice
  else d1

end Sys2Proof.Machine
end

