-- ==== Sys2Proof/Machine/Check.lean ====
section
/-! DEFINITION. What a read of a damaged word or page leaves behind (R338, R339, R343): the correction queue,
the log, the counters and the record of the first uncorrectable location; and the places of words in the
integrity banks of R325. -/

namespace Sys2Proof.Machine

/-- A location as the integrity registers name it: block address, index of the unit, bank, word. -/
structure IntPlace where
  base : Nat
  unit : Nat
  bank : Nat
  word : Nat
  deriving DecidableEq, Repr

/-- The integrity bank and word of an SRAM address (R325, R188); none for memories without an integrity block. -/
def intPlace (a : Nat) : Option IntPlace :=
  if inRange a 0x0100000000 0x40000000 then
    let n := (a - 0x0100000000) / 0x1000000
    let o := a % 0x1000000
    let mk (k lo : Nat) : Option IntPlace :=
      some ⟨intEtch n, n, k + (o - lo) / 32 / 8192, (o - lo) / 32 % 8192⟩
    if inRange o 0x40000 0x40000 then mk 0 0x40000
    else if inRange o 0x100000 0x180000 then mk 1 0x100000
    else if inRange o 0x80000 0x20000 then mk 7 0x80000
    else if inRange o 0xA0000 0x20000 then mk 8 0xA0000
    else if inRange o 0xC0000 0x40000 then mk 9 0xC0000
    else if inRange o 0x1000 0x2000 then mk 10 0x1000
    else (biteWord o).map (fun w => ⟨intEtch n, n, 10, w⟩)
  else if inRange a 0x0200000000 0x20000000 then
    let n := (a - 0x0200000000) / 0x1000000
    let o := a % 0x1000000
    let mk (k lo : Nat) : Option IntPlace :=
      some ⟨intGraver n, n, k + (o - lo) / 32 / 8192, (o - lo) / 32 % 8192⟩
    if inRange o 0x400000 0x400000 then mk 0 0x400000
    else if inRange o 0x40000 0x40000 then mk 16 0x40000
    else if inRange o 0x20000 0x12000 then mk 17 0x20000
    else if inRange o 0x1000 0x100 then mk 18 0x1000
    else none
  else if inRange a 0x0300000000 0x8000000 then
    let n := (a - 0x0300000000) / 0x1000000
    let o := a % 0x1000000
    if inRange o 0x10000 0x10000 then some ⟨intTracer n, n, 2, (o - 0x10000) / 32⟩ else none
  else if inRange a 0x0020000000 0x400000 then
    let n := (a - 0x0020000000) / 0x100000
    let o := a % 0x100000
    if o < 0x80000 then some ⟨intScribe n, n, o / 32 / 8192, o / 32 % 8192⟩ else none
  else none

/-- The device address of a bank's word in the integrity block at base, where the bank is addressed.
(DEDUCED, log entry 10.) -/
def bankAddr (base bank word : Nat) : Option Nat :=
  if inRange base 0x0100000000 0x40000000 then
    let w := base - 0x800
    if bank = 0 then some (w + 0x40000 + 32 * word)
    else if bank ≤ 6 then some (w + 0x100000 + 32 * (8192 * (bank - 1) + word))
    else if bank = 7 ∧ word < 4096 then some (w + 0x80000 + 32 * word)
    else if bank = 8 ∧ word < 4096 then some (w + 0xA0000 + 32 * word)
    else if bank = 9 then some (w + 0xC0000 + 32 * word)
    else if bank = 10 ∧ word < 256 then some (w + 0x1000 + 32 * word)
    else if bank = 10 then (biteOff word).map (fun o => w + o)
    else none
  else if inRange base 0x0200000000 0x20000000 then
    let w := base - 0x800
    if bank < 16 then some (w + 0x400000 + 32 * (8192 * bank + word))
    else if bank = 16 then some (w + 0x40000 + 32 * word)
    else if bank = 17 ∧ graverMemOff (0x20000 + 32 * word) then some (w + 0x20000 + 32 * word)
    else if bank = 18 ∧ word < 8 then some (w + 0x1000 + 32 * word)
    else none
  else if inRange base 0x0300000000 0x8000000 then
    if bank = 2 ∧ word < 2048 then some (base - 0x800 + 0x10000 + 32 * word) else none
  else if inRange base 0x0358000000 0x4000 then
    if bank < 2 then some (scribeBase ((base - 0x0358000000) / 0x1000) + 32 * (8192 * bank + word)) else none
  else none

/-- The damage of the word or page at an address. -/
def Device.damageAt (d : Device) (a : Nat) : Option Damage :=
  (d.damage.find? (fun e => e.1 = codeUnit a)).map (·.2)

/-- The correction queue of a block (R338). -/
def Device.corr (d : Device) (base : Nat) : List Nat := mapGet (fun _ => []) d.corrQ base

/-- A location placed in the correction queue of 8 entries, unless it is there or the queue is full (R338). -/
def Device.corrPush (d : Device) (base a : Nat) : Device :=
  let q := d.corr base
  if q.contains a || decide (8 ≤ q.length) then d
  else { d with corrQ := mapPut (fun _ => []) d.corrQ base (q ++ [a]) }

/-- The log entry of an SRAM block that holds a location, if any. -/
def Device.sramLogAt (d : Device) (p : IntPlace) : Option Nat :=
  (List.range 16).find? (fun i => d.flag (F.INT_LOG0_VALID p.base i)
    && d.fld (F.INT_LOG0_BANK p.base i) == p.bank && d.fld (F.INT_LOG0_WORD p.base i) == p.word)

/-- A correctable detection in an SRAM word (R339). (DEDUCED, log entry 15.) -/
def Device.sramCe (d : Device) (a : Nat) (p : IntPlace) (nbits : Nat) : Device :=
  let d := (d.bump (F.INT_CE_COUNT p.base)).corrPush p.base (codeUnit a)
  match d.sramLogAt p with
  | some i =>
    if d.fld (F.INT_LOG0_NBITS p.base i) < nbits then d.put (F.INT_LOG0_NBITS p.base i) nbits else d
  | none =>
    match (List.range 16).find? (fun i => !d.flag (F.INT_LOG0_VALID p.base i)) with
    | some i =>
      (((d.put (F.INT_LOG0_VALID p.base i) 1).put (F.INT_LOG0_BANK p.base i) p.bank).put
        (F.INT_LOG0_WORD p.base i) p.word).put (F.INT_LOG0_NBITS p.base i) nbits
    | none =>
      ((d.bump (F.INT_LOG_LOST p.base)).put (F.INT_FAULT_LOG_FULL p.base) 1).raiseFirst
        (F.INT_LOG_CLEAR p.base) 0x0102 p.unit

/-- An uncorrectable detection in an SRAM word: counted, the first recorded (R339, R346). -/
def Device.sramUe (d : Device) (p : IntPlace) : Device :=
  let d := d.bump (F.INT_UE_COUNT p.base)
  if d.flag (F.INT_UE_INFO_VALID p.base) then d
  else ((d.put (F.INT_UE_INFO_VALID p.base) 1).put (F.INT_UE_INFO_BANK p.base) p.bank).put
    (F.INT_UE_INFO_WORD p.base) p.word

/-- A correctable detection in an LPDDR4X page (R339). -/
def Device.lpCe (d : Device) (a nbits : Nat) : Device :=
  let (m, ch, q) := lpPlace a
  let d := (d.bump (F.MC_CE_COUNT m)).corrPush (mcBase m) (codeUnit a)
  match (List.range 64).find? (fun i => d.flag (F.MC_LOG0_VALID m i)
      && d.fld (F.MC_LOG0_CH m i) == ch && d.fld (F.MC_LOG0_PAGE m i) == q) with
  | some i =>
    if d.fld (F.MC_LOG0_NBITS m i) < nbits then d.put (F.MC_LOG0_NBITS m i) nbits else d
  | none =>
    match (List.range 64).find? (fun i => !d.flag (F.MC_LOG0_VALID m i)) with
    | some i =>
      (((d.put (F.MC_LOG0_VALID m i) 1).put (F.MC_LOG0_CH m i) ch).put (F.MC_LOG0_PAGE m i) q).put
        (F.MC_LOG0_NBITS m i) nbits
    | none =>
      ((d.bump (F.MC_LOG_LOST m)).put (F.MC_FAULT_LOG_FULL m) 1).raiseFirst (F.MC_LOG_CLEAR m) 0x0127 m

/-- An uncorrectable LPDDR4X page: counted, the first recorded (R339, R347). -/
def Device.lpUeMark (d : Device) (a : Nat) : Device :=
  let (m, ch, q) := lpPlace a
  let d := d.bump (F.MC_UE_COUNT m)
  if d.flag (F.MC_UE_INFO_VALID m) then d
  else ((d.put (F.MC_UE_INFO_VALID m) 1).put (F.MC_UE_INFO_CH m) ch).put (F.MC_UE_INFO_PAGE m) q

/-- An uncorrectable LPDDR4X page on a demand read or a discarded partial write: 0x0120 (R345). -/
def Device.lpUe (d : Device) (a : Nat) : Device :=
  (d.lpUeMark a).raiseBit (F.MC_FAULT_UE (lpPlace a).1) 0x0120 (lpPlace a).1

/-- The core whose plate memory holds an address, and the page. -/
def platePlace (a : Nat) : Nat × Nat := ((a - 0x0400000000) / 0x100000, (a % 0x100000) / 512)

/-- A correctable detection in a plate page (R339). -/
def Device.plateCe (d : Device) (a nbits : Nat) : Device :=
  let (n, pg) := platePlace a
  let b := intEtch n
  let d := d.bump (F.PLATE_CE_COUNT b)
  match (List.range 16).find? (fun i => d.flag (F.PLATE_LOG0_VALID b i)
      && d.fld (F.PLATE_LOG0_PAGE b i) == pg) with
  | some i =>
    if d.fld (F.PLATE_LOG0_NBITS b i) < nbits then d.put (F.PLATE_LOG0_NBITS b i) nbits else d
  | none =>
    match (List.range 16).find? (fun i => !d.flag (F.PLATE_LOG0_VALID b i)) with
    | some i =>
      ((d.put (F.PLATE_LOG0_VALID b i) 1).put (F.PLATE_LOG0_PAGE b i) pg).put (F.PLATE_LOG0_NBITS b i) nbits
    | none =>
      ((d.bump (F.INT_LOG_LOST b)).put (F.INT_FAULT_LOG_FULL b) 1).raiseFirst (F.INT_LOG_CLEAR b) 0x0102 n

/-- An uncorrectable plate page: the first is recorded (R345). -/
def Device.plateUeMark (d : Device) (a : Nat) : Device :=
  let (n, pg) := platePlace a
  let b := intEtch n
  if d.flag (F.PLATE_UE_INFO_VALID b) then d
  else (d.put (F.PLATE_UE_INFO_VALID b) 1).put (F.PLATE_UE_INFO_PAGE b) pg

/-- What a unit's read of a word or page leaves behind when it is damaged (R338, R339, R343).  The user's own
code is raised by the user. (DEDUCED, log entry 15.) -/
def Device.note (d : Device) (a : Nat) : Device :=
  match d.damageAt a with
  | none => d
  | some dm =>
    if !dm.ue && decide (dm.nbits = 0) then d
    else if lpBase ≤ a then (if dm.ue then d.lpUe a else d.lpCe a dm.nbits)
    else if inRange a 0x0400000000 0x4000000 then
      (if dm.ue then d.plateUeMark a else d.plateCe a dm.nbits)
    else match intPlace a with
      | none => d
      | some p => if dm.ue then d.sramUe p else d.sramCe a p dm.nbits

/-- A unit's read of words from lo on, within one row or block: every 32-byte word or page once (R338). -/
def Device.noteRun (d : Device) (first a : Nat) : Device := if a = first ∨ codeUnit a = a then d.note a else d

/-- A word of a memory without a device address, such as a unit's buffer, that its unit finds uncorrectable: counted
and recorded in the integrity block at base.  Where in the bank it stands is not fixed by the spec.
(DESIGN CHOICE, log entry 113.) -/
def Device.bufferUe (d : Device) (base unit bank : Nat) : Device :=
  let r := d.draw
  r.2.sramUe ⟨base, unit, bank, r.1.toNat % 8192⟩

/-- A field of a Bite table as its word reads: zero where the word is uncorrectable (R343). (DESIGN CHOICE, log
entry 114.) -/
def Device.tbl (d : Device) (f : Fld) : Nat := bits (d.ld f.addr 4) f.lo f.len

/-- DESC_BASE. -/
def Device.descBase (d : Device) : Nat :=
  d.fld F.RACK_DESC_BASE_LO <<< 26 + d.fld F.RACK_DESC_BASE_HI <<< 32

/-- Whether an address lies in the Rack's descriptor table while the Rack is enabled (R303): every access but the Rack's
own is refused. -/
def Device.inTable (d : Device) (a : Nat) : Bool :=
  d.flag F.RACK_CTRL_EN && inRange a d.descBase 0x4000000

end Sys2Proof.Machine
end

