-- ==== Sys2Proof/Machine/Neuron.lean ====
section
/-! DEFINITION. The neuron models of an Etch core as functions of a slot's words and its group's words (R68 to
R86): LIF and ALIF, complex resonate-and-fire, sigma-delta, custom microcode, and the multi-fire policies. -/

namespace Sys2Proof.Machine

/-- The parameters of a group record (R68). -/
structure Group where
  model : Nat
  policy : Nat
  flagMode : Nat
  flagPin : Nat
  refrac : Nat
  learn : Bool
  yshift : Nat
  ucStart : Nat
  th : Int
  bias : Int
  dv : Nat
  da : Nat
  dth : Nat
  vreset : Int
  cr : Int
  ci : Int
  vmin : Int
  adelta : Int
  g4 : Int
  g5 : Int
  g6 : Int
  g7 : Int
  deriving DecidableEq, Repr

/-- The group record that eight words hold (R68).  MODEL 5 to 7 act as LIF. -/
def groupOf (w : Nat → Nat) : Group :=
  let g0 := w 0
  let g3 := w 3
  let m := bits g0 29 3
  { model := if m ≤ 4 then m else 0
    policy := if bits g0 27 2 = 3 then 0 else bits g0 27 2
    flagMode := if bits g0 25 2 = 3 then 0 else bits g0 25 2
    flagPin := bits g0 23 2
    refrac := bits g0 17 6
    learn := bit g0 16
    yshift := bits g0 8 5
    ucStart := bits g0 0 8
    th := sgn 32 (w 1)
    bias := sgn 32 (w 2)
    dv := bits g3 20 12
    da := bits g3 8 12
    dth := bits g3 0 8
    vreset := sgn 32 (w 4)
    cr := sgn 16 (bits (w 4) 16 16)
    ci := sgn 16 (bits (w 4) 0 16)
    vmin := sgn 32 (w 5)
    adelta := sgn 32 (w 6)
    g4 := sgn 32 (w 4)
    g5 := sgn 32 (w 5)
    g6 := sgn 32 (w 6)
    g7 := sgn 32 (w 7) }

/-- sat32 (R85). -/
def sat32 (x : Int) : Int := satS 32 x

/-- What the policy makes of a firing potential (R80, R86): the new potential, the payload, whether CLIP_CNT
counts. -/
def applyPolicy (g : Group) (v theta : Int) : Int × Nat × Bool :=
  if g.policy = 1 then (g.vreset, 1, decide (2 * theta ≤ v))
  else if g.policy = 2 then
    let p := min 255 (max 1 (v.fdiv theta))
    (sat32 (v - p * theta), p.toNat, false)
  else (sat32 (v - theta), 1, false)

/-- The result of a LIF or ALIF update (R79). -/
structure LifOut where
  v : Int
  a : Int
  h : Int
  refrac : Nat
  spike : Bool
  payload : Nat
  clip : Bool
  deriving DecidableEq, Repr

/-- The flag headroom H of a LIF or ALIF slot with potential v, adaptation a and refractory count r (R79). -/
def headroom (g : Group) (v a : Int) (r : Nat) : Int :=
  if 0 < r then 2 ^ 31 - 1
  else sat32 (max 1 (g.th + a - rhu (a * g.da) 12) - (v - rhu (v * g.dv) 12) - g.bias)

/-- The update of a LIF or ALIF slot (R79); for LIF the adaptation is taken as 0. -/
def lifUpdate (g : Group) (v acc a : Int) (r : Nat) : LifOut :=
  let a0 := if g.model = 1 then a else 0
  let aDec := a0 - rhu (a0 * g.da) 12
  let theta := max 1 (sat32 (g.th + aDec))
  if 0 < r then
    { v := v, a := aDec, h := headroom g v aDec (r - 1), refrac := r - 1, spike := false, payload := 0,
      clip := false }
  else
    let vDec := v - rhu (v * g.dv) 12
    let vNew := max g.vmin (sat32 (vDec + acc + g.bias))
    if theta ≤ vNew then
      let (v', p, c) := applyPolicy g vNew theta
      let a' := if g.model = 1 then sat32 (aDec + g.adelta) else 0
      { v := v', a := a', h := headroom g v' a' g.refrac, refrac := g.refrac, spike := true, payload := p,
        clip := c }
    else
      { v := vNew, a := aDec, h := headroom g vNew aDec 0, refrac := 0, spike := false, payload := 0,
        clip := false }

/-- The update of a resonate-and-fire pair (R81, R82): RE, IM, refractory count, spike, payload. -/
def rfUpdate (g : Group) (re im accRe accIm : Int) (r : Nat) : Int × Int × Nat × Bool × Nat :=
  let re' := sat32 (rhu (g.cr * re - g.ci * im) 14 + accRe)
  let im' := sat32 (rhu (g.ci * re + g.cr * im) 14 + accIm)
  let theta := max 1 g.th
  let spike := decide (r = 0) && decide (im < theta) && decide (theta ≤ im')
  let r' := if spike then g.refrac else r - 1
  let p := if g.policy = 2 then (min 255 (im'.fdiv theta)).toNat else 1
  (re', im', r', spike, p)

/-- The update of a sigma-delta slot (R83): V, YL, whether it emits, the payload d. -/
def sdUpdate (g : Group) (v acc yl : Int) : Int × Int × Bool × Int :=
  let vDec := v - rhu (v * g.dv) 12
  let v' := sat32 (vDec + acc + g.bias)
  let y := sat (asr v' g.yshift) (-32768) 32767
  let dd := sat (y - yl) (-127) 127
  let emit := decide (max 1 (g.dth : Int) ≤ (dd.natAbs : Int))
  (v', if emit then yl + dd else yl, emit, dd)

/-! ### Custom microcode (R84 to R86) -/

/-- A microcode program's state: registers V, W3 to W5 and T0 to T3 as written, ACC, and the fire flag. -/
structure Ucode where
  v : Int
  acc : Int
  w3 : Int
  w4 : Int
  w5 : Int
  t0 : Int := 0
  t1 : Int := 0
  t2 : Int := 0
  t3 : Int := 0
  fire : Bool := false
  deriving DecidableEq, Repr

/-- Reading microcode register r with immediate imm (R84). -/
def Ucode.get (u : Ucode) (g : Group) (imm : Int) (r : Nat) : Int :=
  match r with
  | 0 => u.v | 1 => u.acc | 2 => u.w3 | 3 => u.w4 | 4 => u.w5
  | 5 => g.g4 | 6 => g.g5 | 7 => g.g6 | 8 => g.g7
  | 9 => u.t0 | 10 => u.t1 | 11 => u.t2 | 12 => u.t3
  | 13 => max 1 g.th | 14 => g.bias | _ => imm

/-- Writing microcode register r; writes to read-only registers are ignored (R84). -/
def Ucode.set (u : Ucode) (r : Nat) (x : Int) : Ucode :=
  match r with
  | 0 => { u with v := x } | 2 => { u with w3 := x } | 3 => { u with w4 := x } | 4 => { u with w5 := x }
  | 9 => { u with t0 := x } | 10 => { u with t1 := x } | 11 => { u with t2 := x } | 12 => { u with t3 := x }
  | _ => u

/-- One microcode instruction (R85): the state after it, or none where its OP is reserved. -/
def ucodeStep (g : Group) (u : Ucode) (w : Nat) : Option Ucode :=
  let op := bits w 28 4
  let rd := bits w 24 4
  let k := bits w 0 5
  let imm := if op = 3 ∨ op = 4 then 0 else sgn 16 (bits w 0 16)
  let a := u.get g imm (bits w 20 4)
  let b := u.get g imm (bits w 16 4)
  match op with
  | 1 => some (u.set rd (sat32 (a + b)))
  | 2 => some (u.set rd (sat32 (a - b)))
  | 3 => some (u.set rd (sat32 (rhu (a * b) k)))
  | 4 => some (u.set rd (asr a k))
  | 5 => some (u.set rd (max a b))
  | 6 => some (u.set rd (min a b))
  | 7 => some (u.set rd imm)
  | 8 => some { u with fire := u.fire || decide (b ≤ a) }
  | 9 => some (if u.fire then u.set rd a else u)
  | _ => none

/-- A microcode program from address pc with at most fuel instructions (R86): the state at its end, and whether
it ended in an error, which clears the fire flag. (DEDUCED, log entry 30.) -/
def ucodeRun (g : Group) (code : Nat → Nat) : Nat → Nat → Ucode → Ucode × Bool
  | 0, _, u => ({ u with fire := false }, true)
  | fuel + 1, pc, u =>
    let w := code pc
    if bits w 28 4 = 0 then (u, false)
    else match ucodeStep g u w with
      | none => ({ u with fire := false }, true)
      | some u' => ucodeRun g code fuel ((pc + 1) % 256) u'

/-- How many instruction words such a run reads, the one that ends it among them. -/
def ucodeCount (g : Group) (code : Nat → Nat) : Nat → Nat → Ucode → Nat
  | 0, _, _ => 0
  | fuel + 1, pc, u =>
    let w := code pc
    if bits w 28 4 = 0 then 1
    else match ucodeStep g u w with
      | none => 1
      | some u' => 1 + ucodeCount g code fuel ((pc + 1) % 256) u'

/-- The 32-byte words of the store that a run of n instructions from pc reads. -/
def ucodeUnits (n pc : Nat) : List Nat :=
  (List.range 32).filter (fun k => (List.range n).any (fun i => (pc + i) % 256 / 8 = k))

/-! ### Traces (R107, R119) -/

/-- decay(x, e, r) of R107. -/
def decay (x e r : Nat) : Nat :=
  if e = 0 then x
  else if 65536 ≤ e ∨ r = 0 then 0
  else
    let step (s : Nat × Nat) (j : Nat) : Nat × Nat :=
      let p := if bit e j then (s.1 * s.2 + 32768) / 65536 else s.1
      (p, (s.2 * s.2 + 32768) / 65536)
    (x * ((List.range 16).foldl step (65536, r)).1) / 65536

/-- The deterministic generator gen(t, a, j, purpose) of R119. -/
def gen (seed t a j purpose : Nat) : Nat :=
  let m := 2 ^ 64
  let z := seed ^^^ (t <<< 32) ^^^ (a <<< 18) ^^^ (j <<< 4) ^^^ purpose
  let z := ((z ^^^ (z >>> 30)) * 0xBF58476D1CE4E5B9) % m
  let z := ((z ^^^ (z >>> 27)) * 0x94D049BB133111EB) % m
  (z ^^^ (z >>> 31)) % 2 ^ 32

/-- wrap(x - y, 32) of step numbers. -/
def stepDiff (x y : Nat) : Nat := wrapU 32 ((x : Int) - (y : Int))

end Sys2Proof.Machine
end

