-- ==== Sys2Proof/Machine/Votes.lean ====
section
/-! DEFINITION. Votes for power domains (R351 to R354): each client's votes, the resolved state, and the hold that
begins when a lower resolved state stands. -/

namespace Sys2Proof.Machine

/-- The clients that vote, client 31 aside (R351). -/
def voters : List Nat := [0, 1, 2, 3, 4, 8, 9, 10, 11, 12, 13, 14, 15, 16, 17, 18, 19, 24, 25]

/-- The vote of client c for domain i (R349, R351). -/
def voteFld (c i : Nat) : Fld := ⟨(F.PWR_VOTE c (i / 16)).addr, 2 * (i % 16), 2⟩
def Device.vote (d : Device) (c i : Nat) : Nat := d.fld (voteFld c i)

/-- The resolved state of a domain (R351): the override of client 31, else ON if any vote is ON, else RET if any
is RET, else OFF.  AON is always ON; a domain held OFF, or whose wake failed, ignores votes (R357). -/
def Device.resolved (d : Device) (i : Nat) : Nat :=
  if i = domAon then 2
  else if (d.dom i).held || (d.dom i).ignored then 0
  else match d.vote 31 i with
    | 1 => 1
    | 2 => 2
    | 3 => 0
    | _ => if voters.any (fun c => decide (2 ≤ d.vote c i)) then 2
      else if voters.any (fun c => decide (d.vote c i = 1)) then 1 else 0

/-- Whether Hardground overrides a domain to RET or OFF (R351, R356). -/
def Device.overridden (d : Device) (i : Nat) : Bool := decide (d.vote 31 i = 1) || decide (d.vote 31 i = 3)

/-- What a change of the resolved state does at once to a domain: a lower state begins its hold (R354), one that
changes begins it anew, and a raise ends a hold or abandons a lowering not yet isolated (R359).  An override that
meets a lowering in progress makes it a forced one (R356). (DEDUCED, log entry 59.) -/
def Device.settle (d : Device) (i : Nat) : Device :=
  let r := d.resolved i
  let s := d.domState i
  let enter (d : Device) (p : DomPhase) : Device := d.modDom i (fun x => { x with phase := p })
  match (d.dom i).phase with
  | .steady => if r < s ∧ s ≤ 2 then enter d (.hold r d.timebase) else d
  | .hold t _ => if s ≤ r then enter d .steady else if r = t then d else enter d (.hold r d.timebase)
  | .quiesce t _ forced =>
    if r = 2 then enter (d.setDom i 2) .steady
    else if d.overridden i then (if forced && decide (r = t) then d else enter d (.quiesce r d.timebase true))
    else if r = t then d else enter (d.setDom i 2) (.hold r d.timebase)
  | _ => d

/-- A vote of a client set (R352). -/
def Device.setVote (d : Device) (c i v : Nat) : Device :=
  if d.vote c i = v % 4 then d else (d.put (voteFld c i) v).settle i

end Sys2Proof.Machine
end

