-- ==== Sys2Proof/Machine/Net.lean ====
section
/-! DEFINITION. The Stipple net's flit formats (R140 to R143, R164), the source side and the destination side of
its port interfaces (R148 to R157). -/

namespace Sys2Proof.Machine

/-! ### Flits -/

/-- CHK of a flit (R141): CRC-8, polynomial 0x07, over bits [63:8]. -/
def flitChk (x : Nat) : Nat := crcBits 8 0x07 56 (x >>> 8) 0

/-- MCHK of a MASK flit (R141): CRC-6, polynomial 0x03. -/
def maskChk (m : Nat) : Nat := crcBits 6 0x03 64 m 0

/-- PCHK of two payload flits (R164): CRC-16, polynomial 0x1021, initial value 0xFFFF. -/
def payChk (a b : Nat) : Nat := crcBits 16 0x1021 64 b (crcBits 16 0x1021 64 a 0xFFFF)

/-- A header with its CHK in bits [7:0]. -/
def sealFlit (x : Nat) : Nat := x + flitChk x

def fType (x : Nat) : Nat := bits x 60 4
def fTag (x : Nat) : Nat := bits x 56 4

/-- A unicast event (R142). -/
def mkUnicast (step dest src sq axon payload : Nat) : FlitUnit :=
  [sealFlit (1 <<< 60 + (step % 16) <<< 56 + dest <<< 50 + src <<< 43 + (sq % 4096) <<< 31
    + axon <<< 17 + payload <<< 9)]

/-- A multicast header and its MASK flit (R142). -/
def mkMulticast (step src sq axon payload mask : Nat) : FlitUnit :=
  [sealFlit (2 <<< 60 + (step % 16) <<< 56 + (maskChk mask) <<< 50 + src <<< 43 + (sq % 4096) <<< 31
    + axon <<< 17 + payload <<< 9), mask]

/-- A close (R143). -/
def mkClose (step dest src count : Nat) : FlitUnit :=
  [sealFlit (4 <<< 60 + (step % 16) <<< 56 + dest <<< 50 + src <<< 43 + (count % 2 ^ 32) <<< 8)]

/-- An acknowledgement (R143). -/
def mkAck (src dcore freed : Nat) : FlitUnit :=
  [sealFlit (5 <<< 60 + src <<< 49 + dcore <<< 43 + freed <<< 36)]

/-- DONE (R143). -/
def mkDone (step n : Nat) : FlitUnit := [sealFlit (8 <<< 60 + (step % 16) <<< 56 + n <<< 40)]

/-- OPEN (R143). -/
def mkOpen (step : Nat) : FlitUnit := [sealFlit (9 <<< 60 + (step % 16) <<< 56 + (step % 2 ^ 32) <<< 8)]

/-- A Rack request (R164): a produce with its payload, or a consume-due. -/
def mkRackReq (r : RackReq) (core : Nat) : FlitUnit :=
  if r.due then [sealFlit (6 <<< 60 + 1 <<< 59 + r.queue <<< 37 + core <<< 30 + (r.step % 65536) <<< 8)]
  else
    let a := leNat (r.payload.take 8)
    let b := leNat ((r.payload.drop 8).take 8)
    [sealFlit (6 <<< 60 + r.queue <<< 37 + core <<< 30 + (payChk a b) <<< 8), a, b]

/-- A Rack response (R164): KIND 0 with DROPPED, KIND 1 with 16 payload bytes, KIND 2. -/
def mkRackResp (kind core queue : Nat) (dropped : Bool) (payload : List Byte) : FlitUnit :=
  let base := 7 <<< 60 + kind <<< 58 + core <<< 52 + queue <<< 30 + (b2n dropped) <<< 29
  if kind = 1 then
    let a := leNat (payload.take 8)
    let b := leNat ((payload.drop 8).take 8)
    [sealFlit (base + (payChk a b) <<< 8), a, b]
  else [sealFlit base]

/-- Whether a unit passes the checks every router makes on input (R141): CHK, MCHK, a known TYPE.
(DEDUCED, log entry 24.) -/
def unitOk (u : FlitUnit) : Bool :=
  match u with
  | [] => false
  | h :: rest =>
    decide (flitChk h = bits h 0 8) && [1, 2, 4, 5, 6, 7, 8, 9].contains (fType h) &&
    (if fType h = 2 then
      match rest with
      | [m] => decide (maskChk m = bits h 50 6)
      | _ => false
    else true)

/-! ### Registers of the net -/

/-- The size of source s's partition at destination n (R148, R171): values above 64 act as 64. -/
def Device.win (d : Device) (n s : Nat) : Nat :=
  min 64 (bits (d.word (0x0330010000 + 0x400 * n + 4 * (s / 4))).toNat (8 * (s % 4)) 7)

/-- Whether a source is enabled (R170). -/
def Device.srcEn (d : Device) (s : Nat) : Bool :=
  bit (d.word (0x0330000020 + 4 * (s / 32))).toNat (s % 32)

/-- STIPPLE.STATUS.STATE: 0 STOPPED, 1 STARTING, 2 RUNNING, 3 STOPPING. -/
def Device.stState (d : Device) : Nat := d.fld F.STIPPLE_STATUS_STATE

/-- S, the open step (R153). -/
def Device.openStep (d : Device) : Nat := d.fld F.STIPPLE_STEP

/-- t_d, the step in progress at destination n (R153, R99). -/
def Device.tOf (d : Device) (n : Nat) : Nat :=
  if (d.core n).follows then (d.fld (F.ETCH_STEP n) + 1) % 2 ^ 32 else d.openStep

/-- The bound logical cores. -/
def Device.boundCores (d : Device) : List Nat := (List.range 64).filter d.etchBound

/-- Whether destination n expects a close from source s (R154). -/
def Device.expects (d : Device) (n s : Nat) : Bool :=
  decide (1 ≤ d.win n s) && d.srcEn s && (decide (64 ≤ s) || d.etchBound s)

/-- A flit discarded under 0x0301 (R141, R159, R169). -/
def Device.linkLoss (d : Device) : Device :=
  (((d.bump F.STIPPLE_LINK_ERR).put F.STIPPLE_STATUS_LOSS 1).modSeq (fun s =>
    { s with lossStep := some d.openStep, lossAt := d.timebase })).raiseBit F.STIPPLE_FAULT_LINK 0x0301
    wholeDevice

/-! ### Source side -/

/-- A unit queued for the router behind the attachment of source i. -/
def Device.inject (d : Device) (i : Nat) (u : FlitUnit) : Device :=
  d.modSource i (fun s => { s with outq := s.outq ++ [u] })

/-- The events of step u that source i has sent to core k. -/
def SSource.sent (s : SSource) (u k : Nat) : Nat := nget (if u % 2 = 0 then s.sent0 else s.sent1) k

/-- One more event of step u sent to core k. -/
def SSource.countSent (s : SSource) (u k : Nat) : SSource :=
  if u % 2 = 0 then { s with sent0 := nput s.sent0 k (nget s.sent0 k + 1) }
  else { s with sent1 := nput s.sent1 k (nget s.sent1 k + 1) }

/-- The counts of step u cleared. -/
def SSource.clearSent (s : SSource) (u : Nat) : SSource :=
  if u % 2 = 0 then { s with sent0 := [] } else { s with sent1 := [] }

/-- The closes of step u from source i to every logical core (R154); none to an absent core (R165). -/
def Device.sendCloses (d : Device) (i u : Nat) : Device :=
  let s := d.source i
  (d.each d.boundCores (fun d k => d.inject i (mkClose u k i (s.sent u k)))).modSource i
    (fun s => s.clearSent u)

/-- The acknowledgement of destination n to source s (R151): all of FREE, which becomes 0. -/
def Device.sendAck (d : Device) (n s : Nat) : Device :=
  let f := nget (d.port n).freed s
  if f = 0 then d
  else (d.inject n (mkAck s n f)).modPort n (fun p => { p with freed := nput p.freed s 0 })

/-- Entries freed for source s; an acknowledgement goes at min(32, ceil(WIN / 2)) (R151). -/
def Device.freeEntry (d : Device) (n s k : Nat) : Device :=
  let d := d.modPort n (fun p => { p with freed := nput p.freed s (nget p.freed s + k) })
  if min 32 (ceilDiv (d.win n s) 2) ≤ nget (d.port n).freed s then d.sendAck n s else d

/-- The acknowledgements to every source with FREE at least 1 (R151). -/
def Device.sendAcks (d : Device) (n : Nat) : Device :=
  d.each (List.range 105) (fun d s => d.sendAck n s)

/-- The buffer's fill and its peak (R171). -/
def Device.portFill (d : Device) (n : Nat) : Device :=
  let f := (d.port n).buf.length
  let d := d.put (F.PORT_STATUS_BUF_FILL n) f
  if d.fld (F.PORT_BUF_PEAK n) < f then d.put (F.PORT_BUF_PEAK n) f else d

/-- Events in a port's buffer taken and freed unread: their credit returns, and DISCARD counts them (R165).
(DEDUCED, log entry 22.) -/
def Device.freeUnread (d : Device) (n : Nat) : Device :=
  ((d.each (d.port n).buf (fun d e => (d.freeEntry n e.src 1).bump (F.PORT_DISCARD n))).modPort n
    (fun p => { p with buf := [] })).portFill n

/-- The port at the end of a step: the counts of the next step become those of the step in progress. -/
def SPort.shift (p : SPort) : SPort :=
  { p with rcv0 := p.rcv1, rcv1 := [], cls0 := p.cls1, cls1 := [], over0 := p.over1, over1 := [], allIn := false,
           waitAt := none, closesAt := none, declared := false }

/-- The same taken back, when a core becomes IDLE while its last step is still the open one (R153). -/
def SPort.unshift (p : SPort) : SPort :=
  { p with rcv1 := p.rcv0, rcv0 := [], cls1 := p.cls0, cls0 := [], over1 := p.over0, over0 := [], allIn := false,
           waitAt := none, closesAt := none }
def Device.unshiftIf (d : Device) (n : Nat) : Device :=
  if d.openStep = d.fld (F.ETCH_STEP n) ∧ d.stState ≠ 0 then d.modPort n SPort.unshift else d

/-- The update pass of step t completed: STEP, with which the port goes on to step t + 1 (R153), the flag lines
that may now fall (R95), the vote of client 24 (R165), the pass that a NEXT fix awaits (R127). -/
def Device.passDone (d : Device) (n t : Nat) : Device :=
  let d := (d.put (F.ETCH_STEP n) t).setVote 24 (domEtch n) 0
  let d := d.modCore n (fun c => { c with
    follows := true
    flagDone := bitsSet 4 (d.fld (F.ETCH_FLAG_STATUS n))
    fix := { c.fix with reached := true } })
  (d.put (F.PORT_STATUS_STALLED n) 0).modPort n SPort.shift

/-- A core's report of completion, its closes and acknowledgements sent (R99, R100, R156): the state it enters.
A core that becomes IDLE frees what its buffer holds. -/
def Device.etchComplete (d : Device) (n : Nat) : Device :=
  let run := d.flag (F.ETCH_CTRL_RUN n)
  let pause := d.flag (F.ETCH_CTRL_PAUSE n)
  let d := d.put (F.ETCH_STATUS_STATE n) (if run then (if pause then 2 else 1) else 0)
  let d := d.modCore n (fun c => { c with
    phase := if run then .waiting else .idle
    paused := run && pause
    follows := run
    primed := run && c.primed })
  if run then d else (d.unshiftIf n).freeUnread n

/-- Whether an event or a close of step u may be offered: S has reached u - 1, so that every destination holds
u as its step or its next (R153, R154). -/
def Device.mayOffer (d : Device) (u : Nat) : Bool := decide (stepDiff d.openStep (stepDiff u 1) < 2 ^ 31)

/-- The closes and the DONE that stand at the head of a source's queue go out at once; with its DONE an Etch
core completes its step. -/
def Device.flushGo (i : Nat) : List OutItem → Device → Device
  | [], d => d.modSource i (fun s => { s with sendQ := [] })
  | .close u :: rest, d =>
      if d.mayOffer u then Device.flushGo i rest (d.sendCloses i u)
      else d.modSource i (fun s => { s with sendQ := .close u :: rest })
  | .done t :: rest, d =>
      Device.flushGo i rest (((d.sendAcks i).etchComplete i).inject i (mkDone t 1))
  | q, d => d.modSource i (fun s => { s with sendQ := q })

def Device.flushQ (d : Device) (i : Nat) : Device := Device.flushGo i (d.source i).sendQ d

/-- Something queued at a source for sending. -/
def Device.queueOut (d : Device) (i : Nat) (o : OutItem) : Device :=
  (d.modSource i (fun s => { s with sendQ := s.sendQ ++ [o] })).flushQ i

/-- Destinations that an absent core takes away before credit (R165): each is counted and raises 0x0306. -/
def Device.dropAbsent (d : Device) (l : List Nat) : Device :=
  d.each l (fun d k => if d.etchBound k then d
    else (d.bump F.STIPPLE_DISCARD_OFF).raiseBit F.STIPPLE_FAULT_DISCARD_OFF 0x0306 wholeDevice)

/-- Whether source i holds credit for every core of a list (R149). -/
def Device.hasCredit (d : Device) (i : Nat) (l : List Nat) : Bool :=
  l.all (fun k => decide (1 ≤ nget (d.source i).credit k))

/-- A mask of cores as a list. -/
def maskOf (l : List Nat) : Nat := l.foldl (fun m k => m ||| 1 <<< k) 0

/-- The event at place k of source i's queue sent (R149, R152): absent cores removed, credit taken at every
destination, the sequence number advanced, the event counted for its close. -/
def Device.sendAt (d : Device) (i k : Nat) : Device :=
  match (d.source i).sendQ[k]? with
  | some (.event step axon payload mc dests) =>
    let rest := (d.source i).sendQ.eraseIdx k
    let live := dests.filter d.etchBound
    if d.hasCredit i live && d.mayOffer step then
      let d := (d.dropAbsent dests).modSource i (fun s => { s with sendQ := rest })
      let s := d.source i
      let d := if live.isEmpty then d
        else if mc then
          (d.inject i (mkMulticast step i s.seqM axon payload (maskOf live))).modSource i
            (fun s => { s with seqM := (s.seqM + 1) % 4096 })
        else d.each live (fun d k =>
          (d.inject i (mkUnicast step k i (nget s.seqU k) axon payload)).modSource i
            (fun s => { s with seqU := nput s.seqU k ((nget s.seqU k + 1) % 4096) }))
      let d := d.each live (fun d k => d.modSource i (fun s =>
        ({ s with credit := nput s.credit k (nget s.credit k - 1) }).countSent step k))
      d.flushQ i
    else d
  | _ => d

/-- The event at the head of source i's queue sent. -/
def Device.sendEvent (d : Device) (i : Nat) : Device := d.sendAt i 0

/-! ### Destination side -/

/-- The received count of source s for the step in progress or the next. -/
def SPort.rcv (p : SPort) (next : Bool) (s : Nat) : Nat := nget (if next then p.rcv1 else p.rcv0) s

/-- The COUNT of the close from source s, if it has arrived. -/
def SPort.cls (p : SPort) (s : Nat) : Option Nat := (p.cls0.find? (fun e => e.1 = s)).map (·.2)

/-- The expected sources of destination n. -/
def Device.expected (d : Device) (n : Nat) : List Nat := (List.range 105).filter (d.expects n)

/-- Sources whose close of step t_d is missing. -/
def Device.missing (d : Device) (n : Nat) : List Nat :=
  (d.expected n).filter (fun s => ((d.port n).cls s).isNone)

/-- Sources whose received count does not match its COUNT (R155): a count above COUNT is taken as matched. -/
def Device.unmatched (d : Device) (n : Nat) : List Nat :=
  (d.expected n).filter (fun s =>
    match (d.port n).cls s with
    | none => true
    | some c => decide ((d.port n).rcv false s < c))

/-- Received events above COUNT, each counted once (R155, R170): 0x0304.  A step declared all-in takes no more events
(R159). -/
def Device.overCounts (d : Device) (n : Nat) : Device :=
  if (d.port n).declared then d
  else
    let p := d.port n
    let excess (cls rcv done : List (Nat × Nat)) (s : Nat) : Nat :=
      match cls.find? (fun e => e.1 = s) with
      | some c => nget rcv s - c.2 - nget done s
      | none => 0
    d.each (d.expected n) (fun d s =>
      let k0 := excess p.cls0 p.rcv0 p.over0 s
      let k1 := excess p.cls1 p.rcv1 p.over1 s
      if k0 + k1 = 0 then d
      else ((d.modPort n (fun q => { q with
          over0 := nput q.over0 s (nget q.over0 s + k0), over1 := nput q.over1 s (nget q.over1 s + k1) })).bumpBy
        F.STIPPLE_OVER_COUNT (k0 + k1)).raiseBit F.STIPPLE_FAULT_OVER_COUNT 0x0304 n)

/-- The port's declaration of all-in, the beginning of its waits and its status register (R155, R159, R171).
(DEDUCED, log entry 23.) -/
def Device.portCheck (d : Device) (n : Nat) : Device :=
  let d := d.overCounts n
  if !(d.core n).follows || (d.port n).allIn then
    d.put (F.PORT_STATUS_WAITING n) 0
  else
    if (d.unmatched n).isEmpty then
      (d.modPort n (fun p => { p with allIn := true })).put (F.PORT_STATUS_WAITING n) 0
    else
      let closesIn := (d.missing n).isEmpty
      let now := d.timebase
      (d.put (F.PORT_STATUS_WAITING n) (b2n closesIn)).modPort n (fun p => { p with
        waitAt := some (p.waitAt.getD now)
        closesAt := if closesIn then some (p.closesAt.getD now) else none })

/-- The port's part for a core that is IDLE, OFF or unbound on receipt of OPEN(t) (R154, R156): the closes of
step t + 1 with COUNT 0, and DONE(t). (DEDUCED, log entry 22.) -/
def Device.proxyStep (d : Device) (n t : Nat) : Device :=
  ((d.modSource n (fun s => { s with sent0 := [], sent1 := [] })).sendCloses n ((t + 1) % 2 ^ 32)).inject n
    (mkDone t 1)

end Sys2Proof.Machine
end

