-- ==== Sys2Proof/Machine/Quant.lean ====
section
/-! DEFINITION. Number formats and quantisation (R203 to R224): operand elements, codebooks, the accumulation of an
MMA, rotation (R187), requantisation and the activation LUT, as functions of operand words. -/

namespace Sys2Proof.Machine

/-! ### Elements (R204, R208) -/

/-- The group size of GSIZE (R205). -/
def groupSize (gsize : Nat) : Nat := if gsize = 0 then 32 else if gsize = 1 then 64 else 128

/-- Activation of element k, row i (R204): a holds the A words in element order. -/
def actElem (mode : Nat) (asign : Bool) (a : List Nat) (k i : Nat) : Int :=
  if mode = 4 then sgn 16 (bits (a.getD (2 * k + i / 16) 0) (16 * (i % 16)) 16)
  else
    let b := bits (a.getD k 0) (8 * i) 8
    if asign then sgn 8 b else b

/-- A codebook value (R208): entry c of the codebook words, which begin with S-port word 2. -/
def codeVal (cb : List Nat) (c : Nat) : Int :=
  let e := bits (cb.getD (c / 16) 0) (16 * (c % 16)) 16
  sgn 8 (bits e 8 8) * 2 ^ bits e 0 3

/-- The weight words a group of g elements takes (R213). -/
def weightWords (mode g : Nat) : Nat := if mode = 1 ∨ mode = 2 then ceilDiv g 2 else g

/-- The number of W words of an MMA (R204, R213). -/
def wCount (mode k : Nat) (gs : Bool) (g : Nat) : Nat :=
  if gs then weightWords mode g * (k / g) + (if k % g = 0 then 0 else weightWords mode (k % g)) + ceilDiv k g
  else weightWords mode k

/-- The number of A words of an MMA, both streams together in I4 and C4 (R204). -/
def aCount (mode k : Nat) : Nat :=
  if mode = 1 ∨ mode = 2 then 2 * ceilDiv k 2 else if mode = 4 then 2 * k else k

/-- Where element k's weight word stands in the W stream. -/
def wIndex (mode : Nat) (gs : Bool) (g k : Nat) : Nat :=
  if gs then (k / g) * (1 + weightWords mode g) + 1 + (if mode = 1 ∨ mode = 2 then k % g / 2 else k % g)
  else if mode = 1 ∨ mode = 2 then k / 2 else k

/-- Weight value of element k, column j (R203, R204). -/
def weightVal (mode : Nat) (gs : Bool) (g : Nat) (w cb : List Nat) (k j : Nat) : Int :=
  let word := w.getD (wIndex mode gs g k) 0
  let nib := bits word (8 * j + (if k % 2 = 0 then 0 else 4)) 4
  let byte := bits word (8 * j) 8
  match mode with
  | 1 => sgn 4 nib
  | 2 => codeVal cb nib
  | 3 => codeVal cb byte
  | _ => sgn 8 byte

/-- The group-scale value of group g0, column j (R211). -/
def scaleVal (mode g : Nat) (w : List Nat) (g0 j : Nat) : Int :=
  bits (w.getD (g0 * (1 + weightWords mode g)) 0) (8 * j) 8

/-! ### Accumulation (R211, R212, R215) -/

/-- The S-port configuration word (R205). -/
structure SCfg where
  asign : Bool
  gsEn : Bool
  g : Nat
  sg : Nat
  npriv : Nat
  mt : Nat
  pscale : Bool
  stShift : Nat
  lane2 : Nat
  lane3 : Nat
  lane4 : Nat
  deriving DecidableEq, Repr

def sCfgOf (w : Nat) : SCfg :=
  let l0 := bits w 0 32
  let l1 := bits w 32 32
  { asign := bit l0 31, gsEn := bit l0 30, g := groupSize (bits l0 28 2), sg := bits l0 24 4,
    npriv := min 16 (bits l0 19 5), mt := bits l1 16 16, pscale := bit l1 15, stShift := min 47 (bits l1 0 6),
    lane2 := bits w 64 32, lane3 := bits w 96 32, lane4 := bits w 128 32 }

/-- The operands of one array's MMA. -/
structure MmaIn where
  mode : Nat
  k : Nat
  cfg : SCfg
  priv : Nat
  cb : List Nat
  a : List Nat
  w : List Nat
  deriving DecidableEq, Repr

/-- Whether element k is on the privileged list in force (R215). -/
def MmaIn.isPriv (m : MmaIn) (k : Nat) : Bool :=
  decide (m.mode ≤ 3) && (List.range m.cfg.npriv).any (fun e => decide (bits m.priv (16 * e) 16 = k))

/-- Whether the W stream carries group-scale words. -/
def MmaIn.gs (m : MmaIn) : Bool := m.cfg.gsEn && decide (m.mode ≤ 3)

/-- The product of element k at (i, j), zero for a privileged element (R210, R211). -/
def MmaIn.prod (m : MmaIn) (i j k : Nat) : Int :=
  if m.isPriv k then 0
  else actElem m.mode m.cfg.asign m.a k i * weightVal m.mode m.gs m.cfg.g m.w m.cb k j

/-- One group's term t (R211). -/
def MmaIn.term (m : MmaIn) (i j g0 : Nat) : Int :=
  let scaled := m.gs || (decide (m.mode = 4) && m.cfg.pscale)
  let g := if m.gs then m.cfg.g else if decide (m.mode = 4) && m.cfg.pscale then 32 else 1
  let p := ((List.range (min m.k ((g0 + 1) * g) - g0 * g)).map (fun x => m.prod i j (g0 * g + x))).foldl
    (· + ·) 0
  if scaled then
    let mul : Int := if m.mode = 4 then (m.cfg.mt : Int) else scaleVal m.mode m.cfg.g m.w g0 j
    let s := if m.mode = 4 then m.cfg.stShift else m.cfg.sg
    rhu (p * mul) s
  else p

/-- Accumulator (i, j) after an MMA, and whether it clamped (R211, R212). -/
def MmaIn.accum (m : MmaIn) (init : Int) (i j : Nat) : Int × Bool :=
  let g := if m.gs then m.cfg.g else if decide (m.mode = 4) && m.cfg.pscale then 32 else 1
  (List.range (ceilDiv m.k g)).foldl (fun s g0 =>
    let x := s.1 + m.term i j g0
    (satS 32 x, s.2 || decide (satS 32 x ≠ x))) (init, false)

/-- The array cycles an MMA occupies an array (R184). -/
def MmaIn.cycles (m : MmaIn) (pEn : Bool) : Nat :=
  (if m.mode = 1 ∨ m.mode = 2 then ceilDiv m.k 2 else if m.mode = 4 then 2 * m.k else m.k)
    + (if m.gs then ceilDiv m.k m.cfg.g else 0) + (if pEn then 128 else 0)

/-! ### Rotation (R187) -/

/-- Point i of the rotation of the points x with shift k. -/
def rotate (x : List Int) (rshift i : Nat) : Int :=
  let z := (x.mapIdx (fun j v => if popCount 8 (i &&& j) % 2 = 0 then v else -v)).foldl (· + ·) 0
  satS 32 (rhu z rshift)

/-! ### Requantisation and LUT (R217, R219) -/

/-- A value requantised (R217): q, and whether sat clamped it. -/
def requant (y m z : Int) (sh ofmt : Nat) (osign : Bool) : Int × Bool :=
  let r := rhu (y * m) (min sh 47) + z
  let q := if ofmt = 1 then sat r (-32768) 32767 else if osign then sat r (-128) 127 else sat r 0 255
  (q, decide (q ≠ r))

/-- The interpolated LUT of OFMT 1 (R219), l giving entry e as s16. -/
def lutInterp (l : Nat → Int) (q : Int) : Int :=
  let u := (q + 32768).toNat
  let i := u / 256
  let lo := l i
  let hi := if i = 255 then lo else l (i + 1)
  lo + rhu ((hi - lo) * (u % 256 : Nat)) 8

end Sys2Proof.Machine
end

