-- ==== Sys2Proof/Machine/Synapse.lean ====
section
/-! DEFINITION. The accumulation side of an Etch core (R66 to R92): slots, contributions, the delay ring and its
spills, synapse rows, and the Bite unit's row transaction (R103 to R121) with the copy-first rule of a fix
(R128). -/

namespace Sys2Proof.Machine

/-! ### Places in the core window (R66) -/

def slotA (n s : Nat) : Nat := etchBase n + 0x40000 + 32 * s
def groupA (n g : Nat) : Nat := etchBase n + 0x1000 + 32 * g
def axonA (n a : Nat) : Nat := etchBase n + 0x80000 + 8 * a
def outA (n e : Nat) : Nat := etchBase n + 0xA0000 + 4 * e
def ringA (n e : Nat) : Nat := etchBase n + 0xC0000 + 8 * e
/-- An address that no memory has. -/
def nowhere : Nat := 0x2000000000
/-- Synapse word w; words past the memory's 393,216 are nowhere, read as zero and are not written.
(DESIGN CHOICE, log entry 115.) -/
def synA (n w : Nat) : Nat := if w < 393216 then etchBase n + 0x100000 + 4 * w else nowhere
/-- Byte k of a row of bytes from synapse word w on. -/
def synB (n w k : Nat) : Nat := synA n (w + k / 4) + k % 4
/-- (DEDUCED, log entry 106.) -/
def bindA (n b : Nat) : Nat := etchBase n + 0x2400 + 4 * b
def maskA (n m : Nat) : Nat := etchBase n + 0x1C00 + 8 * m
def countA (n i : Nat) : Nat := etchBase n + 0x2800 + 2 * i

/-- Word k of slot s. -/
def Device.slotW (d : Device) (n s k : Nat) : Nat := d.ld (slotA n s + 4 * k) 4

/-- Word k of slot s as s32. -/
def Device.slotS (d : Device) (n s k : Nat) : Int := d.ldS (slotA n s + 4 * k) 4

/-- Word k of slot s written. -/
def Device.setSlot (d : Device) (n s k : Nat) (x : Int) : Device := d.stN (slotA n s + 4 * k) 4 (pat 32 x)

/-- The group of a slot (R68, R69). -/
def Device.groupAt (d : Device) (n g : Nat) : Group := groupOf (fun k => d.ld (groupA n g + 4 * k) 4)
def Device.slotGroup (d : Device) (n s : Nat) : Group := d.groupAt n (bits (d.slotW n s 0) 26 6)

/-- Whether an odd slot is the second half of an RF pair (R71). -/
def Device.isRfHalf (d : Device) (n s : Nat) : Bool :=
  decide (s % 2 = 1) && decide ((d.slotGroup n (s - 1)).model = 2)

/-- The model a slot is updated by (R71): an odd slot whose own group is RF and whose partner is not is LIF. -/
def Device.slotModel (d : Device) (n s : Nat) : Nat :=
  if d.isRfHalf n s then 2
  else
    let m := (d.slotGroup n s).model
    if s % 2 = 1 ∧ m = 2 then 0 else m

/-- An uncorrectable slot word (R97): 0x0403, and the word rewritten as zero. (DEDUCED, log entry 30.) -/
def Device.slotUe (d : Device) (n s : Nat) : Device :=
  ((d.note (slotA n s)).raiseBit (F.ETCH_FAULT_STATE_UE n) 0x0403 n).stMany (slotA n s)
    (List.replicate 32 0)

/-- A unit's read of a slot word (R97, R338): a damaged one is corrected and noted, or rewritten as zero. -/
def Device.slotSeen (d : Device) (n s : Nat) : Device :=
  if d.ueAt (slotA n s) then d.slotUe n s else d.note (slotA n s)

/-- A unit's read of a slot and of the record of its group. -/
def Device.groupSeen (d : Device) (n s : Nat) : Device :=
  let d := d.slotSeen n s
  d.note (groupA n (bits (d.slotW n s 0) 26 6))

/-- Counted in REJECTED; 0x0406 the first time after REJECTED is read (R87). -/
def Device.etchReject (d : Device) (n : Nat) : Device :=
  ((d.bump (F.ETCH_REJECTED n)).put (F.ETCH_FAULT_REJECT n) 1).raiseFirst (F.ETCH_REJECTED n) 0x0406 n

/-- Synapse operations counted in units of 1,024 (R91, R98). -/
def Device.countSops (d : Device) (n k : Nat) : Device :=
  let t := (d.core n).sopRest + k
  (d.modCore n (fun c => { c with sopRest := t % 1024 })).bumpBy (F.ETCH_SOPS n) (t / 1024)

/-! ### Flag lines (R95, R96) -/

/-- Whether the core may drive a pin. -/
def Device.flagEn (d : Device) (n pin : Nat) : Bool := bit (d.fld (F.ETCH_CTRL_FLAG_EN n)) pin

/-- A core's flag line for a pin asserts. -/
def Device.flagAssert (d : Device) (n pin : Nat) : Device :=
  if d.flagEn n pin then
    (d.put (F.ETCH_FLAG_STATUS n) (d.fld (F.ETCH_FLAG_STATUS n) ||| 1 <<< pin)).modCore n (fun c =>
      { c with flagAt := nput c.flagAt pin d.timebase, flagDone := c.flagDone.filter (· != pin) })
  else d

/-- Whether a slot is of an EARLY group of the models that honour EARLY (R96): those it is updated by (R71).
(DEDUCED, log entries 29, 116.) -/
def Device.isEarly (d : Device) (n s : Nat) : Bool :=
  decide ((d.slotGroup n s).flagMode = 2) && decide (d.slotModel n s ≤ 1)

/-- An EARLY slot whose ACC has reached H asserts its line, once per step (R95).  A slot that takes no part in
update passes never spikes, so it asserts nothing. -/
def Device.earlyCheck (d : Device) (n s : Nat) : Device :=
  if d.isEarly n s && bit (d.slotW n s 0) 19 && decide (s < min 8192 (d.fld (F.ETCH_CFG n)))
      && !(d.core n).early.contains s && decide (d.slotS n s 5 ≤ d.slotS n s 2) then
    (d.flagAssert n (d.slotGroup n s).flagPin).modCore n (fun c => { c with early := c.early ++ [s] })
  else d

/-! ### Contributions (R74 to R78) -/

/-- A contribution added to a slot's accumulator (R75), with the overflow detector, the EARLY check and the
report of a negative contribution to an EARLY slot (R96). -/
def Device.accAdd (d : Device) (n s : Nat) (c : Int) : Device :=
  if d.ueAt (slotA n s) then d.slotUe n s
  else
    let d := d.note (slotA n s)
    let x := d.slotS n s 2 + c
    let d := d.setSlot n s 2 (wrapS 32 x)
    let d := if wrapS 32 x = x then d
      else
        let d := if d.flag (F.ETCH_ACC_OVF_SLOT_VALID n) then d
          else (d.put (F.ETCH_ACC_OVF_SLOT_VALID n) 1).put (F.ETCH_ACC_OVF_SLOT_SLOT n) s
        d.raiseBit (F.ETCH_FAULT_ACC_OVF n) 0x0401 n
    let d := if c < 0 && d.isEarly n s then
        (d.bump (F.ETCH_EARLY_NEG n)).raiseBit (F.ETCH_FAULT_EARLY_NEG n) 0x0404 n
      else d
    d.earlyCheck n s

/-- The lowest number not in a list. (DEDUCED, log entry 29.) -/
def firstFree (used : List Nat) : Nat :=
  ((List.range (used.length + 1)).find? (fun i => !used.contains i)).getD 0

/-- A spill that cannot be kept (R78): counted in SPILL_LOST, 0x040A. (DEDUCED, log entry 28.) -/
def Device.spillLost (d : Device) (n : Nat) : Device :=
  (d.bump (F.ETCH_SPILL_LOST n)).raiseBit (F.ETCH_FAULT_SPILL_LOST n) 0x040A n

/-- The 16 payload bytes of a spill record (R316). -/
def spillBytes (due s : Nat) (c : Int) : List Byte :=
  leBytes 4 due ++ leBytes 4 s ++ leBytes 4 (pat 32 c) ++ leBytes 4 0

/-- A contribution that finds no free delay-ring entry is spilled to the queue of its due step (R78). -/
def Device.spill (d : Device) (n s due : Nat) (c : Int) : Device :=
  let a := bindA n 255
  let b := d.ld a 4
  let d := d.note a
  if d.ueAt a then (d.raiseBit (F.ETCH_FAULT_STATE_UE n) 0x0408 n).spillLost n
  else if bit b 31 then
    let d := ((d.bump (F.ETCH_DELAY_SPILL n)).put (F.ETCH_FAULT_SPILL n) 1).raiseFirst
      (F.ETCH_DELAY_SPILL n) 0x0409 n
    d.modCore n (fun k => { k with rackQ := k.rackQ ++
      [{ due := false, queue := bits b 0 22 + due % 64, step := due, spill := true,
         payload := spillBytes due s c }] })
  else d.spillLost n

/-- A contribution of step t with delay dl (R72, R77): at once, or into the bucket of its due step. -/
def Device.deliver (d : Device) (n t s dl : Nat) (c : Int) : Device :=
  if dl = 0 then d.accAdd n s c
  else
    let due := (t + dl) % 2 ^ 32
    if (d.core n).ring.length < 32768 then
      let e := firstFree ((d.core n).ring.map (·.2))
      ((d.stN (ringA n e) 8 (s <<< 51 + pat 32 c)).modCore n (fun k =>
        { k with ring := k.ring ++ [(due % 64, e)] })).put (F.ETCH_RING_FREE n)
          (32768 - ((d.core n).ring.length + 1))
    else d.spill n s due c

/-! ### Synapse rows (R88 to R92) -/

/-- An axon entry (R87). -/
structure Axon where
  fmt : Nat
  wexp : Nat
  psign : Bool
  valid : Bool
  silent : Bool
  rule : Nat
  len : Nat
  base : Nat
  page : Nat
  tbase : Nat
  dd : Nat
  deriving DecidableEq, Repr

def axonOf (x : Nat) : Axon :=
  { fmt := bits x 62 2, wexp := bits x 58 4, psign := bit x 57, valid := bit x 56, silent := bit x 55,
    rule := bits x 52 3, len := bits x 38 14, base := bits x 19 19, page := bits x 18 20,
    tbase := bits x 6 13, dd := bits x 0 6 }

/-- The contribution w x 2^WEXP x P (R74). -/
def contribution (w : Int) (wexp : Nat) (p : Int) : Int := w * 2 ^ wexp * p

/-- A row whose word reads uncorrectable (R97): 0x0402, and the row silenced. -/
def Device.silence (d : Device) (n a : Nat) : Device :=
  let x := d.ld (axonA n a) 8
  (d.stN (axonA n a) 8 (x ||| 1 <<< 55)).raiseBit (F.ETCH_FAULT_SYN_UE n) 0x0402 n

/-- An uncorrectable axon word (R97): 0x0407, and its four entries rewritten VALID and SILENT. -/
def Device.axonUe (d : Device) (n a : Nat) : Device :=
  ((d.note (axonA n a)).raiseBit (F.ETCH_FAULT_SYN_UE n) 0x0407 n).stMany (codeUnit (axonA n a))
    ((List.replicate 4 (leBytes 8 0x0180000000000000)).flatten)

/-- The SPARSE entries at the given addresses applied in ascending order (R88, R91), stopping at an
uncorrectable word; the flag says that one was met.  A vacant entry counts one operation and contributes
nothing (R105).  Entries outside any memory read as zero (R92). -/
def Device.sparseRow (d : Device) (n t wexp : Nat) (p : Int) (addrs : List Nat) : Device × Bool :=
  addrs.foldl (fun (s : Device × Bool) a =>
    if s.2 then s
    else if s.1.ueAt a then (s.1.note a, true)
    else
      let d := (s.1.noteRun (addrs.headD 0) a).countSops n 1
      let w := d.ld a 4
      if bits w 8 5 = 31 then (d, false)
      else (d.deliver n t (bits w 19 13) (bits w 13 6) (contribution (sgn 8 (bits w 0 8)) wexp p), false))
    (d, false)

/-- A DENSE row (R89): weight j to slot TBASE + j, targets above 8,191 rejected. -/
def Device.denseRow (d : Device) (n t : Nat) (ax : Axon) (p : Int) : Device × Bool :=
  (List.range ax.len).foldl (fun (s : Device × Bool) j =>
    let a := synB n ax.base j
    if s.2 then s
    else if s.1.ueAt a then (s.1.note a, true)
    else if 8191 < ax.tbase + j then ((s.1.noteRun (synA n ax.base) a).etchReject n, false)
    else
      let d := (s.1.noteRun (synA n ax.base) a).countSops n 1
      (d.deliver n t (ax.tbase + j) ax.dd (contribution (sgn 8 (d.ld a 1)) ax.wexp p), false))
    (d, false)

/-- A SHARED kernel (R90): taps KFIRST to KFIRST + LEN - 1 below KW, each with its channels. -/
def Device.sharedRow (d : Device) (n t : Nat) (ax : Axon) (p : Int) : Device × Bool :=
  let a0 := synA n ax.base
  let a1 := synA n (ax.base + 1)
  if d.ueAt a0 || d.ueAt a1 then ((d.note a0).note a1, true)
  else
    let w0 := d.ld a0 4
    let kw := max 1 (bits w0 26 6)
    let cout := max 1 (bits w0 13 13)
    let dl := bits w0 7 6
    let kstep := sgn 14 (bits (d.ld a1 4) 18 14)
    let taps := (List.range ax.len).map (· + ax.dd) |>.filter (· < kw)
    let items := taps.flatMap (fun k => (List.range cout).map (fun c => (k, c)))
    let at_ (kc : Nat × Nat) : Nat := synB n (ax.base + 2) (kc.1 * cout + kc.2)
    let first := at_ (items.headD (0, 0))
    let d := (d.note a0).noteRun a0 a1
    let first := if codeUnit first = codeUnit a1 then nowhere else first
    items.foldl (fun (s : Device × Bool) kc =>
      let a := at_ kc
      let tgt : Int := ax.tbase + kc.1 * kstep + kc.2
      if s.2 then s
      else if s.1.ueAt a then (s.1.note a, true)
      else if tgt < 0 ∨ 8191 < tgt then ((s.1.noteRun first a).etchReject n, false)
      else
        let d := (s.1.noteRun first a).countSops n 1
        (d.deliver n t tgt.toNat dl (contribution (sgn 8 (d.ld a 1)) ax.wexp p), false))
      (d, false)

/-! ### Fix regions and copy-first (R124, R128) -/

/-- The synapse word that stands at position k of a region stream. -/
def streamWord : List (Nat × Nat) → Nat → Option Nat
  | [], _ => none
  | r :: t, k => if k < r.2 then some (r.1 + k) else streamWord t (k - r.2)

/-- The positions of a synapse word in a region stream. -/
def streamPos (w : Nat) : List (Nat × Nat) → Nat → List Nat
  | [], _ => []
  | r :: t, k =>
    (if decide (r.1 ≤ w) && decide (w < r.1 + r.2) then [k + (w - r.1)] else []) ++ streamPos w t (k + r.2)

/-- The words of a region stream. -/
def streamLen (rs : List (Nat × Nat)) : Nat := rs.foldl (fun t r => t + r.2) 0

/-- Data page i (from 1) of a set as the regions stand: 512 bytes, the last padded with zeros (R124); a word that
is uncorrectable is copied as zero. (DESIGN CHOICE, log entry 117.) -/
def Device.streamPage (d : Device) (n : Nat) (rs : List (Nat × Nat)) (i : Nat) : List Byte :=
  (List.range 128).flatMap (fun k =>
    match streamWord rs (128 * (i - 1) + k) with
    | some w => d.rdBytes (synA n w) 4
    | none => leBytes 4 0)

/-- The next free spare takes a plate page (R330): the directory and FREE, and 0x0111. -/
def Device.takeSpare (d : Device) (n page : Nat) : Device :=
  let b := intEtch n
  let e := ((List.range 16).find? (fun e => !d.flag (F.PLATE_REMAP_VALID b e))).getD 0
  ((((d.put (F.PLATE_REMAP_VALID b e) 1).put (F.PLATE_REMAP_PAGE b e) page).put
    (F.PLATE_STATUS_FREE b) (d.fld (F.PLATE_STATUS_FREE b) - 1)).bump (F.PLATE_REMAPS b)).raise 0x0111 n

/-- A plate page written and verified until a verify holds (R329, R330): each failed one moves the page to the next
free spare, and with none left the write fails.  The flag says that the write was made; fuel bounds the tries. -/
def Device.plateTry (n page : Nat) (l : List Byte) : Nat → Device → Device × Bool
  | 0, d => (d, false)
  | k + 1, d =>
    let fails := d.verifyFails.headD false
    let d := { d with verifyFails := d.verifyFails.tail }
    if !fails then (d.stMany (plateBase n + 512 * page) l, true)
    else if d.fld (F.PLATE_STATUS_FREE (intEtch n)) = 0 then (d, false)
    else Device.plateTry n page l k (d.takeSpare n page)

/-- A plate page written whole (R329, R330): its own place and the 16 spares. (DESIGN CHOICE, log entry 103.) -/
def Device.plateWrite (d : Device) (n page : Nat) (l : List Byte) : Device × Bool := Device.plateTry n page l 17 d

/-- A fix that cannot be written is abandoned (R130): 0x0416, and the set has no commit. -/
def Device.fixAbandon (d : Device) (n : Nat) : Device :=
  ((d.put (F.ETCH_FIX_STATUS_STATE n) 0).raiseBit (F.ETCH_FIX_STATUS_WRITE_FAIL n) 0x0416 n).modCore n
    (fun c => { c with fix := {} })

/-- The number of data pages of a region stream (R124). -/
def dataPages (rs : List (Nat × Nat)) : Nat := ceilDiv (4 * streamLen rs) 512

/-- Data page i written at its place in the set (R127); with the last one the copy ends. -/
def Device.fixPut (d : Device) (n i : Nat) (l : List Byte) : Device :=
  let r := d.plateWrite n (((d.core n).fix.start + i) % 2040) l
  if r.2 then
    let d := r.1.modCore n (fun c => { c with fix := { c.fix with copied := c.fix.copied ++ [i] } })
    if dataPages (d.core n).fix.regions ≤ (d.core n).fix.copied.length then
      d.put (F.ETCH_FIX_STATUS_STATE n) 3
    else d
  else r.1.fixAbandon n

/-- The next staged page goes to its place in the set. -/
def Device.drainStaged (d : Device) (n : Nat) : Device :=
  match (d.core n).fix.staged with
  | [] => d
  | (i, l) :: rest =>
    (d.modCore n (fun c => { c with fix := { c.fix with staged := rest } })).fixPut n i l

/-- A page of the region stream staged before a write changes it (R128), when a copy is in progress and the
page is neither copied nor staged.  A full staging buffer (128 pages) drains a page first, and the cycles
waited, which the spec does not fix, are counted in FIX_STALL as a free value. -/
def Device.stagePage (d : Device) (n i : Nat) : Device :=
  let fx := (d.core n).fix
  if d.fld (F.ETCH_FIX_STATUS_STATE n) ≠ 2 ∨ fx.copied.contains i ∨ (fx.staged.map (·.1)).contains i then d
  else
    let d := if 128 ≤ fx.staged.length then
        let r := (d.drainStaged n).draw
        r.2.bumpBy (F.ETCH_FIX_STALL n) r.1.toNat
      else d
    let l := d.streamPage n fx.regions i
    if d.fld (F.ETCH_FIX_STATUS_STATE n) ≠ 2 then d
    else d.modCore n (fun c => { c with fix := { c.fix with staged := c.fix.staged ++ [(i, l)] } })

/-- Copy-first for a synapse word (R128). -/
def Device.copyFirst (d : Device) (n w : Nat) : Device :=
  d.each ((streamPos w (d.core n).fix.regions 0).map (fun k => 1 + k / 128)) (fun d i => d.stagePage n i)

/-- Copy-first for whatever synapse words a write of len bytes at an address changes (R128). -/
def Device.copyBefore (d : Device) (a len : Nat) : Device :=
  if inRange a 0x0100000000 0x40000000 && inRange (a % 0x1000000) 0x100000 0x180000 then
    d.each (List.range (ceilDiv len 4)) (fun d k =>
      d.copyFirst ((a - 0x0100000000) / 0x1000000) ((a % 0x1000000 - 0x100000) / 4 + k))
  else d

/-- A synapse word written (R66, R128). -/
def Device.synWrite (d : Device) (n w v : Nat) : Device :=
  if w < 393216 then (d.copyFirst n w).stN (synA n w) 4 v else d

/-- A damaged unit of synapse memory rewritten as zero, where a trace block in it is made anew (R117). -/
def Device.synFresh (d : Device) (a : Nat) : Device :=
  if d.ueAt a then (d.copyBefore (codeUnit a) 32).stMany (codeUnit a) (List.replicate 32 0) else d

/-- The words of a trace block read (R104, R117): the uncorrectable raises 0x0411 and its unit is made anew, so that
the block reads as zero there.  The flag says that the block held one. (DESIGN CHOICE, log entry 118.) -/
def Device.traceSeen (d : Device) (n tw seen : Nat) : Device × Bool :=
  let a0 := synA n tw
  let a1 := synA n (tw + 1)
  let ue := d.ueAt a0 || d.ueAt a1
  let d := if codeUnit a0 = seen then d else d.note a0
  let d := if codeUnit a0 = codeUnit a1 then d else d.note a1
  if ue then (((d.raiseBit (F.ETCH_BITE_FAULT_TRACE_UE n) 0x0411 n).synFresh a0).synFresh a1, true) else (d, false)

/-! ### The row transaction (R103 to R120) -/

/-- The value of a term word (R111). -/
def termVal (w : Nat) (x1 x2 xp y1 y2 rew wt : Int) : Int :=
  let var (k : Nat) : Int :=
    match k with
    | 0 => 1 | 1 => x1 | 2 => x2 | 3 => xp | 4 => y1 | 5 => y2 | 6 => rew | _ => wt
  sgn 8 (bits w 0 8) * var (bits w 27 3) * var (bits w 24 3)

/-- The group whose POSTCFG a slot's post-traces follow (R108). -/
def Device.postGroup (d : Device) (n s : Nat) : Nat :=
  bits (d.slotW n (if d.isRfHalf n s then s - 1 else s) 0) 26 6

/-- A read of a slot's post-state for a row (R114). -/
def Device.postSeen (d : Device) (n s : Nat) : Device :=
  let d := d.slotSeen n s
  d.note (F.ETCH_POSTCFG0_Y1_R n (d.postGroup n s)).addr

/-- The decayed post-traces of a slot at step t with its group's factors (R108, R114): y1, y2, PV, T_POST. -/
def Device.postTrace (d : Device) (n s t : Nat) : Nat × Nat × Bool × Nat :=
  let tp := d.slotW n s 6
  let w7 := d.slotW n s 7
  let pv := bit w7 15
  let g := d.postGroup n s
  let e := stepDiff t tp
  (if pv then decay (bits w7 24 8) e (d.tbl (F.ETCH_POSTCFG0_Y1_R n g)) else 0,
   if pv then decay (bits w7 16 8) e (d.tbl (F.ETCH_POSTCFG0_Y2_R n g)) else 0, pv, tp)

/-- Word k of learning rule q of a core (R110, R136). (DEDUCED, log entry 33.) -/
def ruleA (n q k : Nat) : Nat := etchBase n + 0x11000 + 64 * q + 4 * k

/-- What a first transaction makes of one synapse (R114): weight, delay, whether it is pruned. -/
def Device.learnEntry (d : Device) (n q t a j tgt tag : Nat) (wt : Int) (dl : Nat) (sparse : Bool)
    (nread x1r dpre x1raw : Nat) (x1 x2 : Nat) : Int × Nat × Bool :=
  let rw (k : Nat) : Nat := d.ld (ruleA n q k) 4
  let (y1, y2, pv, tp) := d.postTrace n tgt t
  let dpost := stepDiff t tp
  let xp := if pv && decide (nread ≠ 0) && decide (dpost ≤ dpre) then decay x1raw (dpre - dpost) x1r else 0
  let rew := sgn 8 (d.fld (F.ETCH_REWARD n))
  let sum (tgtBit : Bool) : Int :=
    (List.range 8).foldl (fun acc i =>
      let w := rw (8 + i)
      if bit w 31 && (bit w 30 == tgtBit) then acc + termVal w x1 x2 xp y1 y2 rew wt else acc) 0
  let sh := bits (rw 0) 27 5
  let sw := sum false
  let sd := sum true
  let seed := d.fld (F.ETCH_BITE_SEED_LO n) + d.fld (F.ETCH_BITE_SEED_HI n) <<< 32
  let dw := if sh = 0 then sw
    else if bit (rw 0) 26 then asr (sw + (gen seed t a j 1 % 2 ^ sh : Nat)) sh
    else rhu sw sh
  let wmin := sgn 8 (d.tbl (F.ETCH_TAG_WMIN n tag))
  let wmax := sgn 8 (d.tbl (F.ETCH_TAG_WMAX n tag))
  let w' := if wmax < wmin then wt else sat (wt + dw) wmin wmax
  let dq : Int := max 1 (bits (rw 2) 0 16 : Nat)
  let dl' := if sparse && bit (rw 0) 25 then
      (if dq ≤ sd then min 63 (dl + 1) else if sd ≤ -dq then dl - 1 else dl) else dl
  let pruned := sparse && bit (rw 0) 23 && decide (w'.natAbs ≤ bits (rw 3) 0 8)
  (w', dl', pruned)

/-- The sprout of a first transaction (R118): the conditions in the order listed, the candidate drawn only when
the first three hold. -/
def Device.sprout (d : Device) (n q t a : Nat) (ax : Axon) (x1 : Nat) : Device :=
  let rw (k : Nat) : Nat := d.ld (ruleA n q k) 4
  let entry (j : Nat) : Nat := d.ld (synA n (ax.base + j)) 4
  let vacant := (List.range ax.len).find? (fun j => bits (entry j) 8 5 = 31)
  let cl := bits (rw 5) 13 14
  let stag := bits (rw 4) 27 5
  match vacant with
  | none => d
  | some j =>
    if bits (rw 3) 24 8 ≤ x1 ∧ cl ≠ 0 ∧ 1 ≤ stag ∧ stag ≤ 30 then
      let seed := d.fld (F.ETCH_BITE_SEED_LO n) + d.fld (F.ETCH_BITE_SEED_HI n) <<< 32
      let c := bits (rw 5) 0 13 + gen seed t a 0 2 % cl
      let taken := (List.range ax.len).any (fun i =>
        decide (bits (entry i) 8 5 ≠ 31) && decide (bits (entry i) 19 13 = c))
      let d := if c ≤ 8191 ∧ ¬ taken then d.postSeen n c else d
      let (y1, _, pv, _) := d.postTrace n c t
      let sw := sgn 8 (bits (rw 3) 8 8)
      if c ≤ 8191 ∧ ¬ taken ∧ pv ∧ bits (rw 3) 16 8 ≤ y1 ∧
          (¬ bit (rw 0) 23 ∨ bits (rw 3) 0 8 < sw.natAbs) then
        ((d.synWrite n (ax.base + j)
          (c <<< 19 + (bits (rw 4) 21 6) <<< 13 + stag <<< 8 + pat 8 sw)).bump (F.ETCH_SPROUTS n)).modCore n
          (fun k => { k with nSprout := k.nSprout + 1 })
      else d
    else d

/-- The write-back of one SPARSE entry of a first transaction. -/
def Device.learnSparse (d : Device) (n q t a : Nat) (ax : Axon) (nread x1r dpre x1raw x1 x2 j : Nat) : Device :=
  let w := d.ld (synA n (ax.base + j)) 4
  let tag := bits w 8 5
  if tag = 0 ∨ tag = 31 then d
  else
    let d := (d.postSeen n (bits w 19 13)).note (F.ETCH_TAG_WMIN n tag).addr
    let dl := bits w 13 6
    let (w', dl', pruned) := d.learnEntry n q t a j (bits w 19 13) tag (sgn 8 (bits w 0 8)) dl true
      nread x1r dpre x1raw x1 x2
    let d := if dl' ≠ dl ∧ ¬ pruned then d.bump (F.ETCH_DELAY_MOVES n) else d
    let d := if pruned then (d.bump (F.ETCH_PRUNES n)).modCore n (fun c => { c with nPrune := c.nPrune + 1 }) else d
    let v := if pruned then 0x00001F00
      else (bits w 19 13) <<< 19 + dl' <<< 13 + tag <<< 8 + pat 8 w'
    if v = w then d else d.synWrite n (ax.base + j) v

/-- The write-back of one DENSE weight of a first transaction, treated as tag 1 (R105); a weight whose target
lies outside the slots is never changed (R89). -/
def Device.learnDense (d : Device) (n q t a : Nat) (ax : Axon) (nread x1r dpre x1raw x1 x2 j : Nat) : Device :=
  if 8191 < ax.tbase + j then d
  else
    let d := (d.postSeen n (ax.tbase + j)).note (F.ETCH_TAG_WMIN n 1).addr
    let wi := ax.base + j / 4
    let w := d.ld (synA n wi) 4
    let old := sgn 8 (bits w (8 * (j % 4)) 8)
    let (w', _, _) := d.learnEntry n q t a j (ax.tbase + j) 1 old ax.dd false nread x1r dpre x1raw x1 x2
    if w' = old then d
    else d.synWrite n wi (setBits (BitVec.ofNat 32 w) (8 * (j % 4)) 8 (pat 8 w')).toNat

/-- The word at which the trace block of a learnable row stands (R104). -/
def Axon.traceWord (ax : Axon) : Nat := ax.base + (if ax.fmt = 0 then ax.len else ceilDiv ax.len 4)

/-- Everything an event does to a learnable row after the row was delivered without an uncorrectable word
(R114 to R118). -/
def Device.biteRow (d : Device) (n t a : Nat) (ax : Axon) (p : Nat) : Device :=
  let q := ax.rule
  let rw (k : Nat) : Nat := d.ld (ruleA n q k) 4
  let tw := ax.traceWord
  let (d, ue) := d.traceSeen n tw (if ax.len = 0 then nowhere else codeUnit (synA n (tw - 1)))
  let d := (d.note (ruleA n q 0)).note (ruleA n q 8)
  let tLast := if ue then 0 else d.ld (synA n tw) 4
  let w1 := if ue then 0 else d.ld (synA n (tw + 1)) 4
  let nread := bits w1 0 8
  let first := decide (nread = 0) || decide (tLast ≠ t)
  let dpre := stepDiff t tLast
  let x1r := bits (rw 1) 16 16
  let x2r := bits (rw 1) 0 16
  let x1 := if nread = 0 then 0 else decay (bits w1 24 8) dpre x1r
  let x2 := if nread = 0 then 0 else decay (bits w1 16 8) dpre x2r
  let i1 := bits (rw 2) 24 8
  let i2 := bits (rw 2) 16 8
  let learn := first && (d.core n).learnOn
  let d := if learn then
      let d := d.each (List.range ax.len) (fun d j =>
        if ax.fmt = 0 then d.learnSparse n q t a ax nread x1r dpre (bits w1 24 8) x1 x2 j
        else d.learnDense n q t a ax nread x1r dpre (bits w1 24 8) x1 x2 j)
      let d := if ax.fmt = 0 && bit (rw 0) 24 then d.sprout n q t a ax x1 else d
      (d.bump (F.ETCH_LEARN_UPD n)).modCore n (fun c => { c with nTrans := c.nTrans + 1 })
    else d
  let w1' :=
    if first then (min 255 (x1 + i1)) <<< 24 + (min 255 (x2 + i2)) <<< 16 + p <<< 8 + 1
    else (min 255 (bits w1 24 8 + i1)) <<< 24 + (min 255 (bits w1 16 8 + i2)) <<< 16
      + (bits w1 8 8) <<< 8 + min 255 (nread + 1)
  let d := if first || decide (p = bits w1 8 8) then d
    else (d.bump (F.ETCH_MULTI_PAYLOAD n)).raiseBit (F.ETCH_BITE_FAULT_MULTI_PAYLOAD n) 0x0410 n
  (d.synWrite n tw (if first then t else tLast)).synWrite n (tw + 1) w1'

/-- Whether an axon entry names a learnable row (R103). -/
def Axon.learnable (ax : Axon) : Bool :=
  ax.valid && !ax.silent && decide (ax.fmt ≤ 1) && decide (ax.rule ≠ 0)

/-- The row of an event on axon a with payload p (R87 to R92, R114).  An overflow row is fetched: its entries
apply when the fetch returns. -/
def Device.applyRow (d : Device) (n t a p : Nat) : Device :=
  let aa := axonA n a
  if d.ueAt aa then d.axonUe n a
  else
    let d := d.note aa
    let ax := axonOf (d.ld aa 8)
    let pv : Int := if ax.psign then sgn 8 p else p
    if !ax.valid || ax.silent then d.etchReject n
    else if ax.fmt = 3 then
      let base := d.fld (F.ETCH_OVF_BASE_LO n) <<< 12 + d.fld (F.ETCH_OVF_BASE_HI n) <<< 32
      d.modCore n (fun c => { c with fetches := c.fetches ++
        [{ axon := a, wexp := ax.wexp, payload := pv, addr := base + 4096 * ax.page, len := ax.len }] })
    else
      let r := if ax.fmt = 0 then
          d.sparseRow n t ax.wexp pv ((List.range ax.len).map (fun j => synA n (ax.base + j)))
        else if ax.fmt = 1 then d.denseRow n t ax pv
        else d.sharedRow n t ax pv
      if r.2 then r.1.silence n a
      else if ax.learnable then r.1.biteRow n t a ax p
      else r.1

end Sys2Proof.Machine
end

