-- ==== Sys2Proof/Machine/Graver.lean ====
section
/-! DEFINITION. Graver tiles (R173 to R202): the sequencer and its instructions, the arrays, the drain with its
quantisation stages and emitter, the scratchpad with its owners and aliases, and spike-count export. -/

namespace Sys2Proof.Machine

/-! ### The scratchpad as tile ports see it (R188 to R192) -/

def spAddr (n a : Nat) : Nat := graverBase n + 0x400000 + 32 * a

/-- The frame of a tile marked BAD (R192, R199), also after the tile's own report. -/
def Device.tileBad (d : Device) (n : Nat) : Device :=
  let d := if (d.tile n).doneBad = some false then d.bump (F.GRAVER_FRAMES_BAD n) else d
  d.modTile n (fun t => { t with bad := true, doneBad := t.doneBad.map (fun _ => true) })

/-- A same-word conflict counted and recorded (R190). -/
def Device.busy (d : Device) (n : Nat) (c : Clash) : Device :=
  let d := d.bump (F.GRAVER_BUSY_CNT n)
  let d := if d.flag (F.GRAVER_BUSY_INFO_VALID n) then d
    else ((((d.put (F.GRAVER_BUSY_INFO_VALID n) 1).put (F.GRAVER_BUSY_INFO_BANK n) (c.word / 8192)).put
      (F.GRAVER_BUSY_INFO_WORD n) (c.word % 8192)).put (F.GRAVER_BUSY_INFO_FIRST n) c.first).put
      (F.GRAVER_BUSY_INFO_LATER n) c.later
  (d.raiseBit (F.GRAVER_FAULT_BUSY n) 0x0502 n).tileBad n

/-- The owner of the bank that holds word address a (R191). -/
def Device.bankOwner (d : Device) (n a : Nat) : Nat := d.fld (F.GRAVER_BANK_OWN_OWNER n (a / 8192))

/-- A foreign access (R192). -/
def Device.foreign (d : Device) (n : Nat) : Device :=
  ((d.bump (F.GRAVER_FOREIGN n)).raiseBit (F.GRAVER_FAULT_FOREIGN n) 0x0503 n).tileBad n

/-- An uncorrectable word met by a tile port (R198): 0x0501, recorded when it is a scratchpad word. -/
def Device.spUe (d : Device) (n a : Nat) : Device :=
  let d := if d.flag (F.GRAVER_UE_INFO_VALID n) then d
    else ((d.put (F.GRAVER_UE_INFO_VALID n) 1).put (F.GRAVER_UE_INFO_BANK n) (a / 8192)).put
      (F.GRAVER_UE_INFO_WORD n) (a % 8192)
  ((d.note (spAddr n a)).raiseBit (F.GRAVER_FAULT_SP_UE n) 0x0501 n).tileBad n

/-- Whether a read by requester code q may be the one that a write has met, and the reads that stay held. -/
def heldBy (a : Nat) (q : Nat → Bool) (e : Nat × Nat) : Bool := decide (e.1 = a) && q e.2

/-- The first read held for word a by a requester that q names, given up. -/
def Tile.unhold (t : Tile) (a : Nat) (q : Nat → Bool) : Tile := { t with held := t.held.eraseP (heldBy a q) }

/-- A same-word conflict that falls on word a in the command in progress: counted, and taken from its list. -/
def Device.meet (d : Device) (n a : Nat) : Device :=
  match (d.tile n).clash.find? (fun c => decide (c.word = a)) with
  | some c => (d.busy n c).modTile n (fun t => { t with clash := t.clash.erase c })
  | none => d

/-- Whether a tile port that reads word a meets a write of it (R190), in this command or in one already made. -/
def Tile.meets (t : Tile) (a : Nat) : Bool :=
  t.clash.any (fun c => decide (c.word = a)) || t.held.any (heldBy a (fun q => !([7, 8].contains q)))

/-- A read of a scratchpad word by a port: zero from a foreign bank (R192), undefined data, a free value, under a
same-word conflict (R190), zero from an uncorrectable word (R198). (DEDUCED, log entry 40.) -/
def Device.spRead (d : Device) (n a : Nat) : Nat × Device :=
  let a := a % 131072
  let met := (d.tile n).meets a
  let d := (d.meet n a).modTile n (fun t => t.unhold a (fun q => !([7, 8].contains q)))
  if d.bankOwner n a ≠ 0 then (0, d.foreign n)
  else if met then
    let r := d.draw
    (r.1.toNat, r.2)
  else if d.ueAt (spAddr n a) then (0, d.spUe n a)
  else (d.ld (spAddr n a) 32, d.note (spAddr n a))

/-- count words read upward from a (R179). -/
def Device.spWords (d : Device) (n a count : Nat) : List Nat × Device :=
  (List.range count).foldl (fun s k =>
    let r := s.2.spRead n (a + k)
    (s.1 ++ [r.1], r.2)) ([], d)

/-- A word written by requester w, a port or a landing: discarded at a foreign bank (R192).  A read of it in the same
group is held for its reader, whose data are then undefined (R190). (DEDUCED, log entry 40.) -/
def Device.spWrite (d : Device) (n w a v : Nat) : Device :=
  let a := a % 131072
  let d := match (d.tile n).clash.find? (fun c => decide (c.word = a)) with
    | some c => (d.meet n a).modTile n (fun t => { t with
        held := t.held ++ [(a, if c.first = w then c.later else c.first)] })
    | none => d
  if d.bankOwner n a ≠ 0 then d.foreign n else d.stN (spAddr n a) 32 v

/-- Bank stall cycles (R189): how many depends on timing, which the spec leaves open. (DEDUCED, log entry 40.) -/
def Device.stalls (d : Device) (n : Nat) : Device :=
  let r := d.draw
  r.2.bumpBy (F.GRAVER_STALL n) r.1.toNat

/-- Landed words of a port taken: 0 A, 1 W, 2 S, 3 P (R178); the room they leave is an acceptance on the port's link
(R40). -/
def Device.takeLand (d : Device) (n p count : Nat) : List Nat × Device :=
  let q := (vget (d.tile n).land p []).take count
  (q, (d.modTile n (fun t => { t with land := vmod t.land p (fun l => l.drop count) })).ackLink (linkBurin n p) q.length)

/-! ### The S port (R205 to R207, R224) -/

def sportA (n a w : Nat) : Nat := graverBase n + 0x31000 + 0x400 * a + 32 * w

/-- An uncorrectable word of a quantisation memory (R224): 0x0511, the frame BAD. -/
def Device.qNote (d : Device) (n a : Nat) : Device :=
  if d.ueAt a then ((d.note a).raiseBit (F.GRAVER_QFAULT_Q_UE n) 0x0511 n).tileBad n else d.note a

/-- S-port word w of an array, an uncorrectable one as zero. -/
def Device.sWord (d : Device) (n a w : Nat) : Nat := d.ld (sportA n a w) 32

/-! ### Issue (R177 to R181) -/

def opOf (w : Nat) : Nat := bits w 58 6

/-- The units an instruction names: bits 0 to 3 the arrays, 4 drain, 5 mover, 6 emitter; none for those that the
sequencer executes itself. -/
def unitsOf (w : Nat) : Nat :=
  match opOf w with
  | 2 | 4 => bits w 54 4
  | 3 => 16
  | 5 => 32
  | 9 => 64
  | _ => 0

/-- Whether the loop that an instruction opens breaks R179. -/
def loopBad (pc w : Nat) (loops : List LoopRec) : Bool :=
  let body := bits w 27 15
  let level := bits w 25 2
  decide (level = 3) || decide (body = 0) ||
  loops.any (fun l => decide (level ≤ l.level) || decide (l.last < pc + body))

/-- Whether an instruction is a program error (R181, R185). -/
def progBad (pc w : Nat) (loops : List LoopRec) : Bool :=
  let arr := bits w 54 4
  match opOf w with
  | 0 | 5 | 6 | 7 | 8 | 9 | 10 => false
  | 1 => loopBad pc w loops
  | 2 => decide (arr = 0) || decide (4 < bits w 51 3)
  | 3 =>
    let rot := bits w 51 2
    decide (arr = 0) || (bit w 38 && decide (bits w 36 2 ≠ 0)) || decide (bits w 36 2 = 3) ||
    (decide (rot = 2) && !([3, 12, 15].contains arr)) || (decide (rot = 3) && decide (arr ≠ 15))
  | 4 => decide (arr = 0)
  | _ => true

/-- The value of address generator i (R179): each level's innermost enclosing loop gives its index. -/
def agValue (g : Ag) (loops : List LoopRec) : Nat :=
  let idx (l : Nat) : Int := match loops.find? (fun r => r.level = l) with
    | some r => (r.idx : Int)
    | none => 0
  wrapU 17 ((g.base : Int) + idx 0 * g.s0 + idx 1 * g.s1 + idx 2 * g.s2)

def Tile.agVals (t : Tile) : List Nat := (List.range 16).map (fun i => agValue (vget t.ags i {}) t.loops)

/-- The program counter after the instruction at pc, with the loops that end there (R179). -/
def stepPc (pc : Nat) : List LoopRec → Nat × List LoopRec
  | [] => (pc + 1, [])
  | l :: rest =>
    if l.last = pc then
      (if l.idx + 1 < l.count then (l.start, { l with idx := l.idx + 1 } :: rest) else stepPc pc rest)
    else (pc + 1, l :: rest)

/-- PC in STATUS. -/
def Device.showPc (d : Device) (n : Nat) : Device := d.put (F.GRAVER_STATUS_PC n) (d.tile n).pc

/-- The sequencer past the instruction it has issued. -/
def Device.advance (d : Device) (n : Nat) : Device :=
  (d.modTile n (fun t =>
    let p := stepPc t.pc t.loops
    { t with pc := p.1, loops := p.2, predLeft := t.predLeft - 1 })).showPc n

/-- A program error (R181): the tile is HALTED. -/
def Device.progError (d : Device) (n : Nat) (f : Fld) (code : Nat) : Device :=
  ((d.put (F.GRAVER_STATUS_STATE n) 3).raiseBit f code n).tileBad n

/-- The effect of a sequencer command: on a running tile whose next instruction has the given OP, its effect; at
an instruction that is a program error, HALTED. -/
def Device.seqStep (d : Device) (n op : Nat) (f : Device → Nat → Device) : Device :=
  let t := d.tile n
  let a := graverBase n + 0x40000 + 8 * t.pc
  if !d.isOn (domGraver n) || decide (d.fld (F.GRAVER_STATUS_STATE n) ≠ 2) || t.ended then d
  else if 32767 < t.pc then d.progError n (F.GRAVER_FAULT_PROG n) 0x0504
  else if d.ueAt a then (d.note a).progError n (F.GRAVER_FAULT_PROG_UE n) 0x0505
  else
    let d := d.note a
    let w := d.ld a 8
    if progBad t.pc w t.loops then d.progError n (F.GRAVER_FAULT_PROG n) 0x0504
    else if opOf w = op then f d w
    else d

/-- Whether every unit an instruction names has room: four wait ahead of the one that executes (R177). -/
def Tile.hasRoom (t : Tile) (w : Nat) : Bool :=
  (bitsSet 7 (unitsOf w)).all (fun u =>
    decide ((t.issued.filter (fun i => bit (unitsOf i.word) u)).length < 5))

/-- The instruction at the program counter issued to its units, its address values fixed (R177). -/
def Device.issue (n op : Nat) (d : Device) : Device :=
  d.seqStep n op (fun d w =>
    let t := d.tile n
    if t.hasRoom w then
      (d.modTile n (fun t => { t with issued := t.issued ++
        [{ word := w, ag := t.agVals, gated := decide (0 < t.predLeft) && !t.pred }] })).advance n
    else d)

/-- END ends issue for the frame (R174). -/
def Device.tileEnd (n : Nat) (d : Device) : Device :=
  d.seqStep n 0 (fun d _ => d.modTile n (fun t => { t with ended := true }))

/-- LOOP (R179). -/
def Device.tileLoop (n : Nat) (d : Device) : Device :=
  d.seqStep n 1 (fun d w =>
    (d.modTile n (fun t => { t with
      loops := ⟨bits w 25 2, t.pc + 1, t.pc + bits w 27 15, bits w 42 16 + 1, 0⟩ :: t.loops
      pc := t.pc + 1, predLeft := t.predLeft - 1 })).showPc n)

/-- WAITL: issue goes on once LC has reached N (R178). -/
def Device.waitl (n : Nat) (d : Device) : Device :=
  d.seqStep n 6 (fun d w =>
    if bits w 38 17 ≤ d.fld (F.GRAVER_LC n (bits w 55 3)) then d.advance n else d)

/-- Whether unit u has completed its issued instructions: nothing issued to it, no MMA of it completing, no
output of it waiting to leave. -/
def Device.unitIdle (d : Device) (n u : Nat) : Bool :=
  let t := d.tile n
  !(t.issued.any (fun i => bit (unitsOf i.word) u)) &&
  !(t.completing.any (fun c => bit c.1 u)) &&
  (if u = 4 ∨ u = 5 then t.hout.isEmpty else true)

/-- SYNC: issue goes on once the named units have completed (R178). -/
def Device.syncUnits (n : Nat) (d : Device) : Device :=
  d.seqStep n 7 (fun d w =>
    let named := (bitsSet 4 (bits w 54 4)) ++ (if bit w 53 then [4] else []) ++ (if bit w 52 then [5] else []) ++
      (if bit w 51 then [6] else [])
    if named.all (fun u => d.unitIdle n u) then d.advance n else d)

/-- SETAG (R178, R179). -/
def Device.setAg (n : Nat) (d : Device) : Device :=
  d.seqStep n 8 (fun d w =>
    (d.modTile n (fun t => { t with ags := vmod t.ags (bits w 54 4) (fun _ =>
      { base := bits w 37 17, s0 := sgn 12 (bits w 25 12), s1 := sgn 12 (bits w 13 12),
        s2 := sgn 12 (bits w 1 12) }) })).advance n)

/-- The conflicts of this command set for its accesses, and dropped after it. (DEDUCED, log entry 40.) -/
def Device.withClash (d : Device) (n : Nat) (c : List Clash) (f : Device → Device) : Device :=
  (f (d.modTile n (fun t => { t with clash := c }))).modTile n (fun t => { t with clash := [] })

/-- GATE: one bit read at issue becomes the predicate of the next L instructions (R180). -/
def Device.gate (n : Nat) (clash : List Clash) (d : Device) : Device :=
  d.withClash n clash (fun d => d.seqStep n 10 (fun d w =>
    let r := d.spRead n (agValue (vget (d.tile n).ags (bits w 54 4) {}) (d.tile n).loops)
    (r.2.advance n).modTile n (fun t => { t with pred := bit r.1 (bits w 46 8), predLeft := bits w 31 15 })))

/-! ### Execution: when an issued instruction may execute (R177) -/

/-- The landing FIFOs an instruction takes words from, with how many: of A, W, S, P. -/
def Device.landNeed (d : Device) (n : Nat) (i : Issued) : List (Nat × Nat) :=
  let w := i.word
  let arrs := bitsSet 4 (bits w 54 4)
  match opOf w with
  | 2 =>
    let k := bits w 18 16 + 1
    let mode := bits w 51 3
    let wn := (arrs.map (fun a =>
      let c := sCfgOf (d.sWord n a 0)
      wCount mode k (c.gsEn && decide (mode ≤ 3)) c.g)).foldl (· + ·) 0
    (if bit w 44 then [(0, aCount mode k)] else []) ++ (if bit w 39 then [(1, wn)] else []) ++
    (if bit w 34 && bit w 17 then [(3, 128 * arrs.length)] else [])
  | 4 => if bit w 49 then [(2, (bits w 37 12 + 1) * arrs.length)] else []
  | _ => []

def emits (w : Nat) : Bool := decide (opOf w = 3) && bit w 38
def toHatch (w : Nat) : Bool := decide (opOf w = 5) || (decide (opOf w = 3) && bit w 43)
def overlap (a b : Nat) : Bool := decide (a &&& b ≠ 0)

/-- Whether the k-th issued instruction may execute: its units, its landing FIFOs, the Hatch output and the
emitter are past every earlier one, and the set rules of R177 hold. -/
def Device.mayExec (d : Device) (n k : Nat) : Bool :=
  let t := d.tile n
  match t.issued[k]? with
  | none => false
  | some i =>
    let before := t.issued.take k
    let w := i.word
    let arr := bits w 54 4
    let need := d.landNeed n i
    before.all (fun e => !overlap (unitsOf e.word) (unitsOf w)) &&
    before.all (fun e => (d.landNeed n e).all (fun x => need.all (fun y => decide (x.1 ≠ y.1)))) &&
    before.all (fun e => !(toHatch e.word && toHatch w)) &&
    before.all (fun e => !((emits e.word && decide (opOf w = 9)) || (decide (opOf e.word = 9) && emits w))) &&
    (match opOf w with
     | 2 => before.all (fun e => !(decide (opOf e.word = 3) && overlap (bits e.word 54 4) arr
              && (bit e.word 53 == bit w 50)))
     | 3 => before.all (fun e => !(decide (opOf e.word = 2) && overlap (bits e.word 54 4) arr
              && (bit e.word 50 == bit w 53))) &&
            t.completing.all (fun c => !(overlap c.1 arr && decide (c.2 = b2n (bit w 53))))
     | 4 => t.completing.all (fun c => !overlap c.1 arr)
     | _ => true)

/-- The first issued instruction of an OP that may execute. -/
def Device.nextReady (d : Device) (n op : Nat) : Option (Nat × Issued) :=
  let t := d.tile n
  if !d.isOn (domGraver n) then none
  else
    match (List.range t.issued.length).find? (fun k =>
        decide (opOf ((t.issued.map (·.word)).getD k 0) = op) && d.mayExec n k) with
    | none => none
    | some k => t.issued[k]?.map (fun i => (k, i))

/-- The landed words that an instruction still lacks taken from their FIFOs as far as they are there (R177, R236). -/
def Device.streamIn (d : Device) (n : Nat) (i : Issued) (need : List (Nat × Nat)) : Issued × Device :=
  need.foldl (fun s x =>
    let t := s.2.takeLand n x.1 (x.2 - (vget s.1.got x.1 []).length)
    ({ s.1 with got := vmod s.1.got x.1 (fun l => l ++ t.1) }, t.2)) (i, d)

/-- The first issued instruction of an OP that may execute: it takes the landed words that it streams, and with all of
them there it is executed and taken from the list. -/
def Device.execute (d : Device) (n op : Nat) (f : Device → Issued → Device) : Device :=
  match d.nextReady n op with
  | none => d
  | some (k, i) =>
    let need := d.landNeed n i
    let r := d.streamIn n i need
    if need.all (fun x => decide (x.2 ≤ (vget r.1.got x.1 []).length)) then
      f (r.2.modTile n (fun t => { t with issued := t.issued.eraseIdx k })) r.1
    else r.2.modTile n (fun t => { t with issued := t.issued.set k r.1 })

/-! ### MMA (R182 to R184, R207, R211) -/

/-- The landed W words dealt in rounds to arrays that need the given counts (R214). -/
def dealRounds : Nat → List Nat → List (List Nat) → List Nat → List (List Nat)
  | 0, _, got, _ => got
  | fuel + 1, ws, got, need =>
    if need.all (· = 0) then got
    else
      let taken := need.map (fun c => if c = 0 then 0 else 1)
      let before := (List.range need.length).map (fun q => (taken.take q).foldl (· + ·) 0)
      let got' := got.mapIdx (fun q l => if taken.getD q 0 = 1 then l ++ [ws.getD (before.getD q 0) 0] else l)
      dealRounds fuel (ws.drop (taken.foldl (· + ·) 0)) got' (need.map (· - 1))

/-- The even and odd A streams interleaved in element order (R204). -/
def interleave : List Nat → List Nat → List Nat
  | x :: xs, y :: ys => x :: y :: interleave xs ys
  | xs, [] => xs
  | [], ys => ys

/-- The accumulators of an array and set. -/
def Device.accOf (d : Device) (n si i j : Nat) : Int := (vget (d.tile n).acc si []).getD (32 * i + j) 0

/-- Array cycles counted in units of 1,024 (R201). -/
def Device.countCycles (d : Device) (n k : Nat) : Device :=
  let t := (d.tile n).cycRest + k
  ((d.modTile n (fun x => { x with cycRest := t % 1024 })).bumpBy (F.GRAVER_ARRAY_CYCLES n) (t / 1024)).progress

/-- One array's part of an MMA (R207, R211, R212). -/
def Device.mmaArray (d : Device) (n : Nat) (i : Issued) (arr : Nat) (a w p : List Nat) : Device :=
  let x := i.word
  let mode := bits x 51 3
  let si := 2 * arr + b2n (bit x 50)
  let pEn := bit x 34
  let d := d.qNote n (sportA n arr 0)
  let cfg := sCfgOf (d.sWord n arr 0)
  let d := d.modTile n (fun t => { t with par := vmod t.par si (fun _ => ⟨cfg.lane2, cfg.lane3, cfg.lane4⟩) })
  let init (r c : Nat) : Int :=
    if pEn then sgn 32 (bits (p.getD (4 * r + c / 8) 0) (32 * (c % 8)) 32)
    else if bit x 49 then 0
    else d.accOf n si r c
  if i.gated then
    let l := (List.range 1024).map (fun e => init (e / 32) (e % 32))
    d.modTile n (fun t => { t with acc := vmod t.acc si (fun _ => l) })
  else
    let d := if mode ≤ 3 ∧ 0 < cfg.npriv then d.qNote n (sportA n arr 1) else d
    let cbWords := if mode = 2 then 1 else if mode = 3 then 16 else 0
    let d := d.each (List.range cbWords) (fun d k => d.qNote n (sportA n arr (2 + k)))
    let m : MmaIn := { mode := mode, k := bits x 18 16 + 1, cfg := cfg, priv := d.sWord n arr 1,
                       cb := (List.range cbWords).map (fun k => d.sWord n arr (2 + k)), a := a, w := w }
    let r := (List.range 1024).map (fun e => m.accum (init (e / 32) (e % 32)) (e / 32) (e % 32))
    let d := (d.modTile n (fun t => { t with acc := vmod t.acc si (fun _ => r.map (·.1)) })).countCycles n
      (m.cycles pEn)
    if r.any (·.2) then (d.bump (F.GRAVER_ACC_SAT n)).raiseBit (F.GRAVER_QFAULT_ACC_SAT n) 0x0510 n else d

/-- An MMA executed whole (R182, R211): its operand words, then every array of its mask. -/
def Device.mmaExec (d : Device) (n : Nat) (i : Issued) : Device :=
  let x := i.word
  let mode := bits x 51 3
  let k := bits x 18 16 + 1
  let arrs := bitsSet 4 (bits x 54 4)
  let ag (g : Nat) : Nat := i.ag.getD (g % 16) 0
  let na := aCount mode k
  let (a, d) :=
    if bit x 44 then (vget i.got 0 [], d)
    else if i.gated then ([], d)
    else if mode = 1 ∨ mode = 2 then
      let e := d.spWords n (ag (bits x 45 4)) (na / 2)
      let o := e.2.spWords n (ag (bits x 45 4 + 1)) (na / 2)
      (interleave e.1 o.1, o.2)
    else d.spWords n (ag (bits x 45 4)) na
  let needs := arrs.map (fun r =>
    let c := sCfgOf (d.sWord n r 0)
    wCount mode k (c.gsEn && decide (mode ≤ 3)) c.g)
  let total := needs.foldl (· + ·) 0
  let (ws, d) :=
    if bit x 39 then (dealRounds (total + 1) (vget i.got 1 []) (arrs.map (fun _ => [])) needs, d)
    else if i.gated then ([], d)
    else
      (List.range arrs.length).foldl (fun s q =>
        let r := s.2.spWords n (ag (bits x 40 4 + q)) (needs.getD q 0)
        (s.1 ++ [r.1], r.2)) (([], d) : List (List Nat) × Device)
  let (ps, d) :=
    if !bit x 34 then ([], d)
    else if bit x 17 then
      (dealRounds (128 * arrs.length + 1) (vget i.got 3 []) (arrs.map (fun _ => [])) (arrs.map (fun _ => 128)), d)
    else
      (List.range arrs.length).foldl (fun s q =>
        let r := s.2.spWords n (ag (bits x 35 4 + q)) 128
        (s.1 ++ [r.1], r.2)) (([], d) : List (List Nat) × Device)
  let d := d.each (List.range arrs.length) (fun d q =>
    d.mmaArray n i (arrs.getD q 0) a (ws.getD q []) (ps.getD q []))
  let d := if i.gated then d.bump (F.GRAVER_GATED n) else d
  (d.stalls n).modTile n (fun t => { t with completing := t.completing ++ [(bits x 54 4, b2n (bit x 50))] })

/-- An MMA executed, under a same-word conflict where one falls on it. -/
def Device.mmaRun (n : Nat) (clash : List Clash) (d : Device) : Device :=
  d.withClash n clash (fun d => d.execute n 2 (fun d i => d.mmaExec n i))

/-- An MMA completes: its set is ready for DRAIN (R184). -/
def Device.mmaComplete (n k : Nat) (d : Device) : Device :=
  if d.isOn (domGraver n) then d.modTile n (fun t => { t with completing := t.completing.eraseIdx k }) else d

/-! ### The emitter (R194, R195) -/

/-- Whether a descriptor of four words emits an event for output value v (R194). -/
def emitHit (w : List Nat) (v : Nat) : Bool :=
  let w0 := w.getD 0 0
  let x : Int := if bits w0 29 2 = 2 then ((sgn 8 v).natAbs : Int) else if bit w0 28 then sgn 8 v else (v : Int)
  bit w0 31 && decide ((bits w0 0 8 : Int) ≤ x)

/-- The events in an emitter's queue. -/
def Device.emitFill (d : Device) (n : Nat) : Nat :=
  ((d.source (72 + n)).sendQ.filter (fun o => match o with
    | .event .. => true
    | _ => false)).length

/-- One output value of row i and place j offered to an emitter descriptor (R194, R195). (DEDUCED, log entry 39.) -/
def Device.emitValue (d : Device) (n : Nat) (w : List Nat) (i j v : Nat) : Device :=
  let w0 := w.getD 0 0
  let w1 := w.getD 1 0
  let mode := bits w0 29 2
  if emitHit w v then
    if d.stState ≠ 2 then
      (d.bump (F.GRAVER_EMIT_DISCARD n)).raiseBit (F.GRAVER_FAULT_EMIT_DISCARD n) 0x0506 n
    else if (d.tile n).emitOn then
      let dests := if bit w0 27 then bitsSet 64 (w.getD 2 0 + w.getD 3 0 <<< 32) else [bits w0 21 6]
      (d.bump (F.GRAVER_EVENTS n)).queueOut (72 + n) (.event (d.fld (F.GRAVER_EMIT_STEP n))
        (wrapU 14 ((bits w1 18 14 + i * bits w1 4 14 + j : Nat) : Int)) (if mode = 1 ∨ mode = 2 then v else 1)
        (bit w0 27) dests)
    else d
  else d

/-- Values offered in order, as long as the queue of 64 events has room for an event (R195): those left wait. -/
def Device.emitRest (d : Device) (n : Nat) (w : List Nat) :
    List (Nat × Nat × Nat) → List (Nat × Nat × Nat) × Device
  | [] => ([], d)
  | (i, j, v) :: rest =>
    if emitHit w v && decide (d.stState = 2) && (d.tile n).emitOn && decide (64 ≤ d.emitFill n) then
      ((i, j, v) :: rest, d)
    else (d.emitValue n w i j v).emitRest n w rest

/-- CLOSE (R195): the closes of N steps from E, and E advanced.  Closes go out while the net is RUNNING or completes
its open step. (DEDUCED, log entry 39.) -/
def Device.closeExec (d : Device) (n : Nat) (i : Issued) : Device :=
  let k := bits i.word 42 16 + 1
  let e := d.fld (F.GRAVER_EMIT_STEP n)
  let d := if decide (2 ≤ d.stState) && (d.tile n).emitOn then
      d.each (List.range k) (fun d x => d.queueOut (72 + n) (.close ((e + x) % 2 ^ 32)))
    else d
  d.put (F.GRAVER_EMIT_STEP n) ((e + k) % 2 ^ 32)
/-- (DEDUCED, log entry 39.) -/
def Device.emitClose (n : Nat) (d : Device) : Device := d.execute n 9 (fun d i => d.closeExec n i)

/-! ### DRAIN (R185 to R187, R217 to R219) -/

/-- The value of an accumulator row position after rotation (R187): row r, array a, column c. -/
def Device.rotated (d : Device) (n set rot rshift r a c : Nat) : Int :=
  let x (b e : Nat) : Int := d.accOf n (2 * b + set) r e
  match rot with
  | 0 => x a c
  | 1 => rotate ((List.range 32).map (fun e => x a e)) rshift c
  | 2 => rotate ((List.range 64).map (fun e => x (a / 2 * 2 + e / 32) (e % 32))) rshift (32 * (a % 2) + c)
  | _ => rotate ((List.range 128).map (fun e => x (e / 32) (e % 32))) rshift (32 * a + c)

/-- LUT entry e of LUT k as s16, and its address (R220). -/
def lutA (n k e : Nat) : Nat := graverBase n + 0x30000 + 512 * k + 2 * e

/-- One value through requantisation and the LUT (R217, R219): the pattern it leaves as. -/
def Device.quantValue (d : Device) (n : Nat) (p : DrainPar) (ofmt c : Nat) (y : Int) : Nat × Device :=
  if ofmt = 2 then (pat 32 y, d)
  else
    let e := (bits p.lane2 12 13 + c) % 8192
    let ra := graverBase n + 0x20000 + 8 * e
    let table := decide (bits p.lane2 30 2 = 1)
    let d := if table then d.qNote n ra else d
    let w0 := if table then d.ld ra 4 else p.lane3
    let w1 := if table then d.ld (ra + 4) 4 else p.lane4
    let r := requant y (sgn 16 (bits w0 16 16)) (sgn 16 (bits w1 16 16)) (bits w0 10 6) ofmt (bit p.lane2 29)
    let d := if r.2 then d.bump (F.GRAVER_RQ_SAT n) else d
    if bit p.lane2 28 then
      let k := bits p.lane2 25 3
      if ofmt = 0 then
        let a := lutA n k (pat 8 r.1)
        (bits ((d.qNote n a).ld a 2) 0 8, d.qNote n a)
      else
        let i := (r.1 + 32768).toNat / 256
        let d := d.qNote n (lutA n k i)
        let d := if i = 255 then d else d.qNote n (lutA n k (i + 1))
        (pat 16 (lutInterp (fun e => d.ldS (lutA n k e) 2) r.1), d)
    else (pat (if ofmt = 0 then 8 else 16) r.1, d)

/-- The values of one array's row.  A drain parameter copy that reads uncorrectable, bit a of parUe, is used as zero:
0x0511, the frame BAD (R224). -/
def Device.quantRow (d : Device) (n set rot rshift ofmt r a parUe : Nat) : List Nat × Device :=
  let p := if bit parUe a then {} else vget (d.tile n).par (2 * a + set) {}
  (List.range 32).foldl (fun s c =>
    let v := s.2.quantValue n p ofmt c (s.2.rotated n set rot rshift r a c)
    (s.1 ++ [v.1], v.2)) ([], d)

/-- Values packed into 256-bit words, each value of the given width (R219). -/
def packWords (width : Nat) (vs : List Nat) : List Nat :=
  let per := 256 / width
  (List.range (32 / per)).map (fun h =>
    (List.range per).foldl (fun acc e => acc + (vs.getD (per * h + e) 0) <<< (width * e)) 0)

/-- A word leaves by the Hatch output as two tokens, low half first (R186). -/
def Device.outWord (d : Device) (n v : Nat) : Device :=
  d.modTile n (fun t => { t with hout := t.hout ++ [bits v 0 128, bits v 128 128] })

/-- One row of a DRAIN (R185, R194): written to its bank or sent out, and its values left to the emitter. -/
def Device.drainRow (d : Device) (n : Nat) (i : Issued) (parUe r : Nat) : Device :=
  let x := i.word
  let arrs := bitsSet 4 (bits x 54 4)
  let ofmt := bits x 36 2
  let width := if ofmt = 0 then 8 else if ofmt = 1 then 16 else 32
  let w := width / 8
  let o := i.ag.getD (bits x 44 4) 0
  d.each (List.range arrs.length) (fun d q =>
    let v := d.quantRow n (b2n (bit x 53)) (bits x 51 2) (bits x 48 3) ofmt r (arrs.getD q 0) parUe
    let words := packWords width v.1
    let d := v.2.each (List.range words.length) (fun d h =>
      let word := words.getD h 0
      if bit x 43 then d.outWord n word
      else (d.spWrite n 5 (o + (r * arrs.length + q) * w + h) word).ackLink (linkBurin n 4) 1)
    if bit x 38 then
      d.modTile n (fun t => { t with
        rest := t.rest ++ (List.range 32).map (fun c => (r, 32 * q + c, v.1.getD c 0)) })
    else d)

/-- The descriptor of a DRAIN as it reads (R194): an uncorrectable one as zero. -/
def Device.edesc (d : Device) (n : Nat) (i : Issued) : List Nat :=
  let ea := graverBase n + 0x1000 + 16 * bits i.word 39 4
  if d.ueAt ea then [0, 0, 0, 0] else (List.range 4).map (fun k => d.ld (ea + 4 * k) 4)

/-- A DRAIN taken on up to row stop (R185): each row once the emitter has taken the values of those before it. -/
def Device.drainGo (n : Nat) (i : Issued) (parUe stop : Nat) : Nat → Device → Device
  | 0, d => d
  | fuel + 1, d =>
    let r := d.emitRest n (d.edesc n i) (d.tile n).rest
    let d := r.2.modTile n (fun t => { t with rest := r.1 })
    if !r.1.isEmpty || decide (stop ≤ (d.tile n).drained) then d
    else Device.drainGo n i parUe stop fuel ((d.drainRow n i parUe (d.tile n).drained).modTile n (fun t => { t with
      drained := t.drained + 1 }))

/-- What a DRAIN meets as it begins: an uncorrectable descriptor (R194), uncorrectable parameter copies (R224). -/
def Device.drainBegin (d : Device) (n : Nat) (i : Issued) (parUe : Nat) : Device :=
  let x := i.word
  let ea := graverBase n + 0x1000 + 16 * bits x 39 4
  let d := if bit x 38 && d.ueAt ea then ((d.note ea).raiseBit (F.GRAVER_FAULT_SP_UE n) 0x0501 n).tileBad n
    else if bit x 38 then d.note ea else d
  if (bitsSet 4 (bits x 54 4)).any (fun a => bit parUe a) then
    ((d.bufferUe (graverBase n) n 17).raiseBit (F.GRAVER_QFAULT_Q_UE n) 0x0511 n).tileBad n
  else d

/-- A DRAIN executed as far as the emitter's queue lets it (R185, R195): with values left it waits, the k-th of the
instructions issued, for the next execution. -/
def Device.drainExec (d : Device) (n k parUe : Nat) (i : Issued) : Device :=
  let d := if (d.tile n).drained = 0 ∧ (d.tile n).rest.isEmpty then d.drainBegin n i parUe else d
  let d := (Device.drainGo n i parUe 32 33 d).progress.stalls n
  d.modTile n (fun t =>
    if t.drained = 32 ∧ t.rest.isEmpty then { t with drained := 0 }
    else { t with issued := t.issued.insertIdx k i })
def Device.drainRun (n : Nat) (clash : List Clash) (parUe : Nat) (d : Device) : Device :=
  d.withClash n clash (fun d => match d.nextReady n 3 with
    | some (k, _) => d.execute n 3 (fun d i => d.drainExec n k parUe i)
    | none => d)

/-! ### LDS and MOVE (R186, R206) -/

/-- An S-port word written by an LDS; words beyond 17 are discarded. -/
def Device.sportPut (d : Device) (n a k v : Nat) : Device :=
  if k < 18 then d.stN (sportA n a k) 32 v else d

def Device.ldsExec (d : Device) (n : Nat) (i : Issued) : Device :=
  let x := i.word
  let arrs := bitsSet 4 (bits x 54 4)
  let nw := bits x 37 12 + 1
  let d := d.countCycles n (nw * arrs.length)
  if bit x 49 then
    d.each (List.range (nw * arrs.length)) (fun d e =>
      d.sportPut n (arrs.getD (e % arrs.length) 0) (e / arrs.length) ((vget i.got 2 []).getD e 0))
  else
    (d.each (List.range arrs.length) (fun d q =>
      let r := d.spWords n (i.ag.getD ((bits x 50 4 + q) % 16) 0) nw
      r.2.each (List.range nw) (fun d k => d.sportPut n (arrs.getD q 0) k (r.1.getD k 0)))).stalls n
def Device.ldsRun (n : Nat) (clash : List Clash) (d : Device) : Device :=
  d.withClash n clash (fun d => d.execute n 4 (fun d i => d.ldsExec n i))

def Device.moveExec (d : Device) (n : Nat) (i : Issued) : Device :=
  let x := i.word
  let r := d.spWords n (i.ag.getD (bits x 54 4) 0) (bits x 38 16 + 1)
  (r.2.each r.1 (fun d v => d.outWord n v)).progress.stalls n
def Device.moveRun (n : Nat) (clash : List Clash) (d : Device) : Device :=
  d.withClash n clash (fun d => d.execute n 5 (fun d i => d.moveExec n i))

/-! ### Frames (R174 to R176, R191, R195) -/

/-- A tile at its frame start (R176). -/
def Device.tileBegin (d : Device) (n draft : Nat) : Device :=
  let d := (d.put (F.GRAVER_STATUS_STATE n) 2).put (F.GRAVER_STATUS_DRAFT n) draft
  let d := d.each (List.range 8) (fun d c => d.put (F.GRAVER_LC n c) 0)
  (d.modTile n (fun t => { t with
    pc := d.fld (F.GRAVER_PROG_ENTRY n draft), loops := [], pred := true, predLeft := 0, ended := false, due := none,
    ags := Vector.replicate 16 {} })).showPc n

/-- START at a tile (R174): a READY one begins, or once it is ON (R352). -/
def Device.tileStart (d : Device) (n draft : Nat) : Device :=
  let d := d.modTile n (fun t => { t with bad := false, doneBad := none, due := none })
  if d.fld (F.GRAVER_STATUS_STATE n) ≠ 1 then d
  else if d.isOn (domGraver n) then d.tileBegin n draft
  else d.modTile n (fun t => { t with due := some draft })

/-- A tile that comes ON takes the START that waits for it. -/
def Device.tileWake (n : Nat) (d : Device) : Device :=
  match (d.tile n).due with
  | some dr => if d.isOn (domGraver n) then d.tileBegin n dr else d
  | none => d

/-- What takes effect at a frame boundary: RUN, EMIT_CTRL.EN, bank claims and releases (R175, R191, R195). -/
def Device.tileBoundary (d : Device) (n : Nat) : Device :=
  let run := d.flag (F.GRAVER_CTRL n)
  let st := d.fld (F.GRAVER_STATUS_STATE n)
  let d := if run && decide (st = 0) then d.put (F.GRAVER_STATUS_STATE n) 1
    else if !run && decide (st = 1) then d.put (F.GRAVER_STATUS_STATE n) 0 else d
  let d := d.modTile n (fun t => { t with emitOn := d.flag (F.GRAVER_EMIT_CTRL n), doneBad := none })
  d.each (List.range 16) (fun d b =>
    if d.flag (F.GRAVER_BANK_OWN_PENDING n b) then
      (d.put (F.GRAVER_BANK_OWN_OWNER n b) (d.fld (F.GRAVER_BANK_OWN_REQ n b))).put
        (F.GRAVER_BANK_OWN_PENDING n b) 0
    else d)

/-- Whether a frame is in progress. -/
def Device.frameOn (d : Device) : Bool := decide (2 ≤ d.fld F.HATCH_STATUS_FSTATE)

/-- A tile whose program has ended and whose instructions have completed reports its frame (R174); an abort ends the
frame without a report (R248).  RUN = 0 takes effect when the frame completes (R175). -/
def Device.tileFrameDone (n : Nat) (d : Device) : Device :=
  let t := d.tile n
  if decide (d.fld F.HATCH_STATUS_FSTATE = 2) && d.isOn (domGraver n) && decide (d.fld (F.GRAVER_STATUS_STATE n) = 2) && t.ended && t.issued.isEmpty
      && t.completing.isEmpty && t.hout.isEmpty then
    let d := d.put (F.GRAVER_FRAME n) ((d.fld (F.GRAVER_FRAME n) + 1) % 2 ^ 32)
    let d := if t.bad then d.bump (F.GRAVER_FRAMES_BAD n) else d
    (d.put (F.GRAVER_STATUS_STATE n) 1).modTile n (fun x => { x with doneBad := some t.bad })
  else d

/-- CTRL written: RUN follows at the next frame boundary, or at once when no frame is in progress (R175). -/
def Device.tileRunWrite (n : Nat) (w : Word) (d : Device) : Device :=
  let d := d.put (F.GRAVER_CTRL n) (bits w.toNat 0 1)
  if d.frameOn then d else d.tileBoundary n

/-- A write of BANK_OWN[b] by an initiator (R191, R192): a claim, a release, a revocation, which is logged (R514), or
refused. -/
def Device.bankOwnWrite (ini n b : Nat) (w : Word) (off : Nat) (d : Device) : Device :=
  let req := bits w.toNat 8 5
  let owner := d.fld (F.GRAVER_BANK_OWN_OWNER n b)
  let used := (List.range 4).any (fun k => bit (d.fld (F.GRAVER_PROG_BANK_USE n k)) b)
  let idle := decide (d.fld (F.GRAVER_STATUS_STATE n) = 0)
  let pend (d : Device) : Device :=
    let d := (d.put (F.GRAVER_BANK_OWN_REQ n b) req).put (F.GRAVER_BANK_OWN_PENDING n b) 1
    if idle then (d.put (F.GRAVER_BANK_OWN_OWNER n b) req).put (F.GRAVER_BANK_OWN_PENDING n b) 0 else d
  if ini = iniHg then
    (((d.put (F.GRAVER_BANK_OWN_REQ n b) req).put (F.GRAVER_BANK_OWN_OWNER n b) req).put
      (F.GRAVER_BANK_OWN_PENDING n b) 0).raiseBit F.HG_FR_FAULT_BANK_REVOKED 0x0712 n
  else if req = ini ∧ owner = 0 ∧ ¬ d.flag (F.GRAVER_BANK_OWN_PENDING n b) ∧ ¬ used then pend d
  else if req = 0 ∧ owner = ini then pend d
  else d.accError ini 4 off

/-! ### Lanes (R193) -/

/-- A lane of a scratchpad word written: 0 replace, 1 OR, 2 clear.  A write to an uncorrectable word is
discarded: 0x0108 and an access error. (DEDUCED, log entry 104.) -/
def Device.laneWrite (ini n o op : Nat) (w : Word) (off : Nat) (d : Device) : Device :=
  let a := graverBase n + 0x400000 + o
  if d.ueAt a then ((d.note a).raise 0x0108 n).accError ini 4 off
  else
    let old := BitVec.ofNat 32 (d.ld a 4)
    let v := if op = 0 then w else if op = 1 then old ||| w else old &&& ~~~ w
    (d.note a).stN a 4 v.toNat

/-! ### Spike-count export (R196, R197) -/

/-- The number of data tokens of an export. -/
def Device.scvTokens (d : Device) (n : Nat) : Nat := d.fld (F.SCV_CFG_NTOK n) + 1

/-- A snapshot placed in an export buffer: header and data tokens. (DEDUCED, log entry 41.) -/
def Device.scvPush (d : Device) (n t : Nat) (bad : Bool) (toks : List Nat) : Device :=
  let sq := (d.core n).scvSeq
  let hdr := t + sq % 2 ^ 32 <<< 32 + b2n bad <<< 64
  let d := d.modCore n (fun c => { c with scvBuf := c.scvBuf ++ [hdr :: toks], scvSeq := (sq + 1) % 2 ^ 32 })
  (d.put (F.SCV_LAST_STEP n) t).put (F.SCV_STATUS n) (d.core n).scvBuf.length

/-- 16 bytes of counters cleared: half of a word that reads uncorrectable is not written (R327). -/
def Device.scvClear (d : Device) (k a : Nat) : Device :=
  if d.ueAt a && decide (codeUnit a = a) && decide (k = 1) then d
  else if d.ueAt a then d.st (codeUnit a) (List.replicate 32 0)
  else (d.setBytes a (List.replicate 16 0)).reencode a

/-- The counters of step t copied and cleared (R196); ue names the tokens of the export buffer that read uncorrectable
and go out as zero.  The tile bit that records an uncorrectable counter or buffer word is not stated for a core: tile
n mod 32 holds it. (DEDUCED, log entry 41.) -/
def Device.scvCopy (d : Device) (n t : Nat) (ue : List Nat) : Device :=
  let k := d.scvTokens n
  let addrs := (List.range k).map (fun m => countA n (8 * m))
  let lost := ue.any (fun m => decide (m < k))
  let bad := addrs.any d.ueAt || lost
  let toks := (List.range k).map (fun m => if ue.contains m then 0 else d.ld (countA n (8 * m)) 16)
  let d := if bad then d.raiseBit (F.GRAVER_FAULT_SCV_UE (n % 32)) 0x0507 n else d
  let d := if lost then d.bufferUe (graverBase (n % 32)) (n % 32) 18 else d
  let d := d.each ((List.range k).filter (fun m => decide (m % 2 = 0))) (fun d m => d.note (countA n (8 * m)))
  let d := d.each (List.range k) (fun d m => d.scvClear (k - m) (countA n (8 * m)))
  d.scvPush n t bad toks

/-- An export whose buffers are full waits; the cycles, which the spec does not fix, are counted as a free
value. -/
def Device.scvStall (d : Device) (n : Nat) : Device :=
  let r := d.draw
  r.2.bumpBy (F.SCV_EXPORT_WAIT n) r.1.toNat

end Sys2Proof.Machine
end

