-- ==== Sys2Proof/Machine/Etch.lean ====
section
/-! DEFINITION. The steps of an Etch core (R72, R79 to R100): the opening, the consumption of events, overflow
rows, the update pass, flag lines and run control. -/

namespace Sys2Proof.Machine

/-! ### The opening (R72, R78, R95, R99, R109, R113) -/

/-- Whether the snapshot of a pending fix is due (R127): the core stands at the boundary after the requested
step, or, with NEXT, an update pass has completed since, or the core is IDLE or PAUSED. -/
def Device.fixDue (d : Device) (n : Nat) : Bool :=
  let c := d.core n
  decide (d.fld (F.ETCH_FIX_STATUS_STATE n) = 1) &&
  decide (c.phase = .idle ∨ c.phase = .waiting) &&
  (if c.fix.next then c.fix.reached || c.paused || decide (c.phase = .idle)
   else decide (d.fld (F.ETCH_STEP n) = c.fix.atStep))

/-- Whether a core that has received OPEN opens its step: bound, ON, running, at its opening, and no snapshot of
a fix due first (R125), and PAUSE is not 1 where it is PAUSED (R100); a LEAD that cuts over holds step T_c (R462). -/
def Device.canOpen (d : Device) (n : Nat) : Bool :=
  d.etchBound n && d.isOn (domEtch n) && d.flag (F.ETCH_CTRL_RUN n) &&
  decide ((d.core n).phase = .waiting) && !((d.core n).paused && d.flag (F.ETCH_CTRL_PAUSE n)) && !d.fixDue n &&
  (d.pair.holdStep.isNone || decide ((d.port n).opened ≠ d.pair.holdStep))

/-- The priming pass (R99): H of every enabled LIF and ALIF slot. -/
def Device.prime (d : Device) (n : Nat) : Device :=
  d.each (List.range 8192) (fun d s =>
    let d := if d.isRfHalf n s then d else d.groupSeen n s
    if bit (d.slotW n s 0) 19 && !d.isRfHalf n s && decide (d.slotModel n s ≤ 1) then
      let g := d.slotGroup n s
      let a := if g.model = 1 then d.slotS n s 3 else 0
      d.setSlot n s 5 (headroom g (d.slotS n s 1) a (bits (d.slotW n s 0) 20 6))
    else d)

/-- The delay-ring bucket of step u emptied into the accumulators (R72, R77); an uncorrectable entry is
discarded (R97). -/
def Device.emptyBucket (d : Device) (n u : Nat) : Device :=
  let due := (d.core n).ring.filter (fun e => e.1 = u % 64)
  let d := d.each due (fun d e =>
    let a := ringA n e.2
    if d.ueAt a then (d.note a).raiseBit (F.ETCH_FAULT_STATE_UE n) 0x0408 n
    else
      let w := d.ld a 8
      (d.note a).accAdd n (bits w 51 13) (sgn 32 (bits w 0 32)))
  let d := d.modCore n (fun c => { c with ring := c.ring.filter (fun e => e.1 ≠ u % 64) })
  d.put (F.ETCH_RING_FREE n) (32768 - (d.core n).ring.length)

/-- The next consume-due request of the drain of step u (R78). -/
def Device.requestDue (d : Device) (n u : Nat) : Device :=
  d.modCore n (fun c => { c with rackQ := c.rackQ ++
    [{ due := true, queue := bits (d.ld (bindA n 255) 4) 0 22 + u % 64, step := u, spill := false,
       payload := [] }] })

/-- The drain of the spill queue begun, where binding 255 names one (R78). -/
def Device.startDrain (d : Device) (n u : Nat) : Device :=
  let a := bindA n 255
  if d.ueAt a then
    ((d.note a).raiseBit (F.ETCH_FAULT_STATE_UE n) 0x0408 n).modCore n (fun c => { c with phase := .opened })
  else if bit (d.ld a 4) 31 then
    (d.requestDue n u).modCore n (fun c => { c with draining := some u, phase := .opening })
  else d.modCore n (fun c => { c with phase := .opened })

/-- The axon's half of the trace sweep of step u (R109): a stale trace block is cleared, an uncorrectable axon or
trace word contained as in a transaction (R97, R117). -/
def Device.sweepAxon (d : Device) (n u : Nat) : Device :=
  let a := u % 16384
  if d.ueAt (axonA n a) then d.axonUe n a
  else
    let d := d.note (axonA n a)
    let ax := axonOf (d.ld (axonA n a) 8)
    if ax.learnable then
      let tw := ax.traceWord
      let r := d.traceSeen n tw nowhere
      if r.2 then (r.1.synWrite n tw 0).synWrite n (tw + 1) 0
      else if 65536 ≤ stepDiff u (r.1.ld (synA n tw) 4) ∧ r.1.ld (synA n (tw + 1)) 4 ≠ 0 then
        r.1.synWrite n (tw + 1) 0
      else r.1
    else d

/-- The slot's half (R109). -/
def Device.sweepSlot (d : Device) (n u : Nat) : Device :=
  let s := u % 8192
  let d := d.slotSeen n s
  if 65536 ≤ stepDiff u (d.slotW n s 6) ∧ d.slotW n s 7 / 32768 ≠ 0 then
    d.setSlot n s 7 (bits (d.slotW n s 7) 0 15 : Nat)
  else d

/-- The trace sweep of step u (R109). -/
def Device.sweep (d : Device) (n u : Nat) : Device := (d.sweepAxon n u).sweepSlot n u

/-- REW set for the step (R113): from the reward events of the step just ended, or from a write; unchanged while
REWARD_CFG.EN = 0. (DEDUCED, log entry 119.) -/
def Device.rewardUpdate (d : Device) (n : Nat) : Device :=
  let c := d.core n
  let r : Int := sat c.rewSum (-128) 127
  let d := match c.rewWrite with
    | some w => d.put (F.ETCH_REWARD n) w
    | none =>
      if d.flag (F.ETCH_REWARD_CFG_EN n) && (!d.flag (F.ETCH_REWARD_CFG_MODE n) || c.rewSeen) then
        d.put (F.ETCH_REWARD n) (pat 8 r)
      else d
  d.modCore n (fun c => { c with rewSum := 0, rewSeen := false, rewWrite := none })

/-- EARLY flags of the opening: slots with H at or below 0 (R72, R95). -/
def Device.earlyOpen (d : Device) (n : Nat) : Device :=
  d.each (List.range (min 8192 (d.fld (F.ETCH_CFG n)))) (fun d s =>
    let d := if d.isRfHalf n s then d else d.groupSeen n s
    if bit (d.slotW n s 0) 19 && d.isEarly n s && decide (d.slotS n s 5 ≤ 0) && !(d.core n).early.contains s then
      (d.flagAssert n (d.slotGroup n s).flagPin).modCore n (fun c => { c with early := c.early ++ [s] })
    else d)

/-- A core opens the step that OPEN named (R72, R99). -/
def Device.etchStepOpen (n : Nat) (d : Device) : Device :=
  match (d.port n).opened with
  | none => d
  | some u =>
    if d.canOpen n then
      let c := d.core n
      let d := if c.follows then d else d.put (F.ETCH_STEP n) (stepDiff u 1)
      let d := if c.primed then d else d.prime n
      let d := (d.modCore n (fun c => { c with follows := true, primed := true, early := [], paused := false })).modPort n
        (fun p => { p with opened := none })
      let d := (d.put (F.ETCH_STATUS_STATE n) 1).put (F.ETCH_STATUS_TAG n) (u % 16)
      let d := ((d.emptyBucket n u).startDrain n u).sweep n u
      let d := (d.rewardUpdate n).modCore n (fun c => { c with learnOn := d.flag (F.ETCH_BITE_CTRL n) })
      (d.earlyOpen n).portCheck n
    else d

/-! ### Consumption (R72, R87, R92, R113) -/

/-- Whether a core takes events of its step. -/
def Device.consuming (d : Device) (n : Nat) : Bool :=
  d.isOn (domEtch n) && decide ((d.core n).phase = .opening ∨ (d.core n).phase = .opened)

/-- The number of the step in progress at a core that follows its own passes. -/
def Device.stepNow (d : Device) (n : Nat) : Nat := (d.fld (F.ETCH_STEP n) + 1) % 2 ^ 32

/-- Whether an event needs a row fetch that must wait for one of the 8 outstanding (R92). -/
def Device.fetchFull (d : Device) (n a : Nat) : Bool :=
  let ax := axonOf (d.ld (axonA n a) 8)
  decide (8 ≤ (d.core n).fetches.length) && ax.valid && !ax.silent && decide (ax.fmt = 3)

/-- The event that a core takes next: the first of its step in the buffer that need not wait for a fetch. -/
def Device.nextEvent (d : Device) (n : Nat) : Option Evt :=
  (d.port n).buf.find? (fun e => e.tag = d.stepNow n % 16 && !d.fetchFull n e.axon)

/-- An event of the step taken from the buffer and applied; one whose buffer entry reads uncorrectable is
discarded with 0x0309 (R169). -/
def Device.eventConsume (n : Nat) (bufUe : Bool) (d : Device) : Device :=
  if d.consuming n then
    match d.nextEvent n with
    | none => d
    | some e =>
      let d := ((d.modPort n (fun p => { p with buf := p.buf.erase e })).freeEntry n e.src 1).portFill n
      if bufUe then ((d.bufferUe (intEtch n) n 11).bump F.STIPPLE_BUF_UE).raiseBit F.STIPPLE_FAULT_BUF_UE 0x0309 n
      else
        let d := d.bump (F.ETCH_EVENTS n)
        if d.flag (F.ETCH_REWARD_CFG_EN n) && decide (e.axon = d.fld (F.ETCH_REWARD_CFG_AXON n)) then
          d.modCore n (fun c => { c with rewSum := c.rewSum + sgn 8 e.payload, rewSeen := true })
        else d.applyRow n (d.stepNow n) e.axon e.payload
  else d

/-- Where an address outside the usable LPDDR4X range, of a controller that is not ON, or in the Rack's table reads:
nowhere, so that it reads as zero (R35, R92, R303). -/
def Device.ovfAddr (d : Device) (a : Nat) : Nat :=
  if inRange a lpBase (lpEnd - lpBase) && d.isOn (domMc (lpPlace a).1) && !d.inTable a then a else nowhere

/-- Overflow row fetch i of a core returns and its entries are applied (R92, R97). -/
def Device.overflowDone (n i : Nat) (d : Device) : Device :=
  match (d.core n).fetches[i]? with
  | none => d
  | some f =>
    let d := d.modCore n (fun c => { c with fetches := c.fetches.eraseIdx i })
    let r := d.sparseRow n (d.stepNow n) f.wexp f.payload
      ((List.range f.len).map (fun j => d.ovfAddr (f.addr + 4 * j)))
    if r.2 then r.1.silence n f.axon else r.1

/-! ### The update pass (R72, R79 to R94, R108) -/

/-- A slot's header after its update: REFRAC and FIRED (R69). -/
def Device.setHeader (d : Device) (n s refrac : Nat) (fired : Bool) : Device :=
  let w := BitVec.ofNat 32 (d.slotW n s 0)
  d.setSlot n s 0 (setBits (setBits w 20 6 refrac) 18 1 (b2n fired)).toNat

/-- The post-trace update of a spiking slot (R108) with the factors of group g. -/
def Device.postUpdate (d : Device) (n s g t : Nat) : Device :=
  let w7 := d.slotW n s 7
  let e := stepDiff t (d.slotW n s 6)
  let pv := bit w7 15
  let y1 := if pv then decay (bits w7 24 8) e (d.tbl (F.ETCH_POSTCFG0_Y1_R n g)) else 0
  let y2 := if pv then decay (bits w7 16 8) e (d.tbl (F.ETCH_POSTCFG0_Y2_R n g)) else 0
  let y1' := min 255 (y1 + d.tbl (F.ETCH_POSTCFG1_Y1_INC n g))
  let y2' := min 255 (y2 + d.tbl (F.ETCH_POSTCFG1_Y2_INC n g))
  let d := d.note (F.ETCH_POSTCFG0_Y1_R n g).addr
  (d.setSlot n s 6 t).setSlot n s 7 ((y1' <<< 24 + y2' <<< 16 + 1 <<< 15 + bits w7 0 15 : Nat))

/-- A slot whose emission meets a bad list, mask or binding word has OUT cleared (R97, 0x0408). -/
def Device.outCleared (d : Device) (n s : Nat) : Device :=
  (d.setSlot n s 0 (setBits (BitVec.ofNat 32 (d.slotW n s 0)) 17 1 0).toNat).raiseBit
    (F.ETCH_FAULT_STATE_UE n) 0x0408 n

/-- The 16 payload bytes of a long-delay or readout record (R161). (DEDUCED, log entry 106.) -/
def recordBytes (t n s p axon : Nat) : List Byte :=
  leBytes 4 t ++ leBytes 4 (n <<< 26 + s <<< 13 + p) ++ leBytes 4 axon ++ leBytes 4 0

/-- One output-list entry of a spike (R93, R94); the flag tells whether a bad word stopped the emission. -/
def Device.emitEntry (d : Device) (n t s p w : Nat) : Device × Bool :=
  let u := (t + 1) % 2 ^ 32
  match bits w 29 2 with
  | 0 => (d.queueOut n (.event u (bits w 9 14) p false [bits w 23 6]), false)
  | 1 =>
    let a := maskA n (bits w 21 8)
    if d.ueAt a then (d.note a, true)
    else
      let d := d.note a
      (d.queueOut n (.event u (bits w 7 14) p true (bitsSet 64 (d.ld a 8))), false)
  | 2 =>
    let a := bindA n (bits w 21 8)
    if d.ueAt a then (d.note a, true)
    else
      let d := d.note a
      let b := d.ld a 4
      if bit b 31 then
        (d.modCore n (fun c => { c with rackQ := c.rackQ ++
          [{ due := false, queue := bits b 0 22, step := t, spill := false,
             payload := recordBytes t n s p (bits w 7 14) }] }), false)
      else (d.etchReject n, false)
  | _ =>
    let a := countA n (bits w 0 10)
    (d.stN a 2 (min 65535 (d.ld a 2 + 1)), false)

/-- The output-list entries from e on, up to the first with LAST, or to the end of the list (R93).
(DEDUCED, log entry 31.) -/
def Device.emitList (n t s p : Nat) : Nat → Nat → Device → Device
  | 0, _, d => d
  | fuel + 1, e, d =>
    let a := outA n e
    if d.ueAt a then (d.note a).outCleared n s
    else
      let d := d.note a
      let w := d.ld a 4
      let r := d.emitEntry n t s p w
      if r.2 then r.1.outCleared n s
      else if bit w 31 then r.1
      else Device.emitList n t s p fuel (e + 1) r.1

/-- Everything a spike of slot s does beside the slot's own state: the count, the flag line in STEP mode, the
post-traces of a learning group, the output list (R93, R95, R108). -/
def Device.spikeOut (d : Device) (n t s : Nat) (g : Group) (model : Nat) (p : Nat) : Device :=
  let h := d.slotW n s 0
  let gi := bits h 26 6
  let d := (d.bump (F.ETCH_SPIKES n)).modCore n (fun c => { c with
    dig := crc64From c.dig (leBytes 4 (s <<< 16 + p)), spiked := true })
  let d := if g.flagMode = 1 ∨ (g.flagMode = 2 ∧ 2 ≤ model) then d.flagAssert n g.flagPin else d
  let d := if g.learn then
      (if model = 2 then (d.postUpdate n s gi t).postUpdate n (s + 1) gi t else d.postUpdate n s gi t)
    else d
  if bit h 17 then Device.emitList n t s p (32768 - bits h 0 15) (bits h 0 15) d else d

/-- The update of a LIF or ALIF slot (R79). -/
def Device.updateLif (d : Device) (n t s : Nat) (g : Group) : Device :=
  let o := lifUpdate g (d.slotS n s 1) (d.slotS n s 2) (d.slotS n s 3) (bits (d.slotW n s 0) 20 6)
  let d := (d.setHeader n s o.refrac o.spike).setSlot n s 1 o.v
  let d := if g.model = 1 then d.setSlot n s 3 o.a else d
  let d := (d.setSlot n s 5 o.h).setSlot n s 2 0
  let d := if o.clip then d.bump (F.ETCH_CLIP_CNT n) else d
  if o.spike then d.spikeOut n t s g g.model o.payload else d

/-- The update of an RF pair in slots s and s + 1 (R81). (DEDUCED, log entry 30.) -/
def Device.updateRf (d : Device) (n t s : Nat) (g : Group) : Device :=
  let d := d.slotSeen n (s + 1)
  let r := rfUpdate g (d.slotS n s 1) (d.slotS n (s + 1) 1) (d.slotS n s 2) (d.slotS n (s + 1) 2)
    (bits (d.slotW n s 0) 20 6)
  let d := (((((d.setHeader n s r.2.2.1 r.2.2.2.1).setSlot n s 1 r.1).setSlot n (s + 1) 1 r.2.1).setSlot
    n s 2 0).setSlot n (s + 1) 2 0)
  if r.2.2.2.1 then d.spikeOut n t s g 2 r.2.2.2.2 else d

/-- The update of a sigma-delta slot (R83). -/
def Device.updateSd (d : Device) (n t s : Nat) (g : Group) : Device :=
  let w3 := d.slotW n s 3
  let r := sdUpdate g (d.slotS n s 1) (d.slotS n s 2) (sgn 16 (bits w3 0 16))
  let d := (d.setHeader n s (bits (d.slotW n s 0) 20 6 - 1) r.2.2.1).setSlot n s 1 r.1
  let d := (d.setSlot n s 3 (setBits (BitVec.ofNat 32 w3) 0 16 (pat 16 r.2.1)).toNat).setSlot n s 2 0
  if r.2.2.1 then d.spikeOut n t s g 3 (pat 8 r.2.2.2) else d

/-- The update of a CUSTOM slot (R84 to R86). -/
def Device.updateCustom (d : Device) (n t s : Nat) (g : Group) : Device :=
  let ref := bits (d.slotW n s 0) 20 6
  let u0 : Ucode := { v := d.slotS n s 1, acc := d.slotS n s 2, w3 := d.slotS n s 3, w4 := d.slotS n s 4,
                      w5 := d.slotS n s 5 }
  let r := ucodeRun g (fun i => d.ld (etchBase n + 0x1800 + 4 * i) 4) 64 g.ucStart u0
  let u := r.1
  let d := if r.2 then d.raiseBit (F.ETCH_FAULT_UCODE n) 0x0405 n else d
  let d := d.each (ucodeUnits (ucodeCount g (fun i => d.ld (etchBase n + 0x1800 + 4 * i) 4) 64 g.ucStart u0) g.ucStart)
    (fun d k => d.note (etchBase n + 0x1800 + 32 * k))
  let spike := decide (ref = 0) && u.fire
  let pol := applyPolicy g u.v (max 1 g.th)
  let v := if spike then pol.1 else u.v
  let d := (((d.setHeader n s (if spike then g.refrac else ref - 1) spike).setSlot n s 1 v).setSlot n s 2 0)
  let d := (((d.setSlot n s 3 u.w3).setSlot n s 4 u.w4).setSlot n s 5 u.w5)
  if spike then
    (if pol.2.2 then d.bump (F.ETCH_CLIP_CNT n) else d).spikeOut n t s g 4 pol.2.1
  else d

/-- One slot of the update pass (R71, R72, R97). -/
def Device.updateSlot (d : Device) (n t s : Nat) : Device :=
  if d.isRfHalf n s then d
  else
    let d := d.groupSeen n s
    if bit (d.slotW n s 0) 19 then
      let g := d.slotGroup n s
      match d.slotModel n s with
      | 0 => d.updateLif n t s { g with model := 0 }
      | 1 => d.updateLif n t s g
      | 2 => d.updateRf n t s g
      | 3 => d.updateSd n t s g
      | _ => d.updateCustom n t s g
    else d

/-- Whether the spike-count export of core n takes a snapshot of step t (R196). -/
def Device.scvDue (d : Device) (n t : Nat) : Bool :=
  d.flag (F.SCV_CFG_EN n) && 
    decide (t % 2 ^ d.fld (F.SCV_CFG_LOG2P n) = d.fld (F.SCV_CFG_PHASE n) % 2 ^ d.fld (F.SCV_CFG_LOG2P n))

/-- The report of completion (R154, R156, R164 rule 3, R196): once every produce of the step is answered and the
export has its copy, the closes of step t + 1 and DONE(t) follow the events still to be sent. -/
def Device.tryComplete (d : Device) (n : Nat) : Device :=
  let c := d.core n
  if c.phase = .finishing ∧ ¬ c.scvWait ∧ (c.rackQ.all (·.due)) ∧ (c.rackOut.all (fun r => r.1.due)) then
    let t := d.fld (F.ETCH_STEP n)
    ((d.modCore n (fun c => { c with phase := .closing })).queueOut n (.close ((t + 1) % 2 ^ 32))).queueOut n
      (.done t)
  else d

/-- The core digest of the step, over its spikes and learning counts (R456). -/
def EtchCore.closeDigest (c : EtchCore) : EtchCore :=
  { c with
    digest := if c.spiked || decide (c.nTrans + c.nSprout + c.nPrune ≠ 0) then
        crc64From c.dig (leBytes 4 c.nTrans ++ leBytes 4 c.nSprout ++ leBytes 4 c.nPrune) else 0
    dig := 0, nTrans := 0, nSprout := 0, nPrune := 0, spiked := false }

/-- The update pass of the step in progress (R72), admitted once the step is all-in and everything that arrived
for it is consumed (R155). (DEDUCED, log entry 27.) -/
def Device.updatePass (n : Nat) (d : Device) : Device :=
  let t := d.stepNow n
  let c := d.core n
  let p := d.port n
  if d.isOn (domEtch n) && decide (c.phase = .opened) && p.allIn && c.fetches.isEmpty
      && p.buf.all (fun e => decide (e.tag ≠ t % 16)) then
    let d := d.each (List.range (min 8192 (d.fld (F.ETCH_CFG n)))) (fun d s => d.updateSlot n t s)
    let d := d.modCore n EtchCore.closeDigest
    ((d.modCore n (fun c => { c with phase := .finishing, scvWait := d.scvDue n t })).passDone n t).tryComplete n
  else d

/-- A source sends the event at the head of its queue once it holds credit (R149); with the last one of a step
its closes and its DONE follow.  While the net is STOPPED or STARTING no source offers an event (R167). -/
def Device.eventSend (i : Nat) (d : Device) : Device :=
  if d.stState = 2 ∨ d.stState = 3 then d.sendEvent i else d

/-! ### Flag lines and run control (R95, R99, R100) -/

/-- A flag line falls once the update pass of its step has completed and 20 ns, two ticks, have passed. -/
def Device.flagLineRelease (n pin : Nat) (d : Device) : Device :=
  let c := d.core n
  if c.flagDone.contains pin && decide (2 ≤ d.since (nget c.flagAt pin)) then
    (d.put (F.ETCH_FLAG_STATUS n) (maskOf ((bitsSet 4 (d.fld (F.ETCH_FLAG_STATUS n))).filter (· ≠ pin)))).modCore n
      (fun c => { c with flagDone := c.flagDone.filter (· ≠ pin) })
  else d

/-- The level of pin FLAG_OUT[p]: the OR of the flag lines of all cores (R95). (DEDUCED, log entries 32, 99.) -/
def Device.flagOut (d : Device) (p : Nat) : Bool :=
  (List.range 64).any (fun n => bit (d.fld (F.ETCH_FLAG_STATUS n)) p)

/-- RUN written 1: the core waits for its next opening (R99). -/
def Device.etchRun (n : Nat) (d : Device) : Device :=
  if (d.core n).phase = .idle then
    d.modCore n (fun c => { c with phase := .waiting, primed := false, follows := false, paused := false })
  else d

/-- RUN written 0 (R99): between steps the core becomes IDLE at once, and its port answers an OPEN that it has
yet to take up; within a step the stop waits for the step's completion.  The counts that stood for the step
after its last one stand for the next again while S is that last one. -/
def Device.etchStop (n : Nat) (d : Device) : Device :=
  let c := d.core n
  if c.phase = .waiting then
    let d := if c.follows then d.unshiftIf n else d
    let d := (d.put (F.ETCH_STATUS_STATE n) 0).modCore n (fun c =>
      { c with phase := .idle, paused := false, follows := false, primed := false })
    let d := d.freeUnread n
    match (d.port n).opened with
    | none => d
    | some u => (d.modPort n (fun p => { p with opened := none })).proxyStep n u
  else d

/-- A write of ETCH[n].CTRL: RUN, PAUSE and FLAG_EN take their values, and the core follows RUN (R98, R99); a PAUSED
core looks at PAUSE at its next opening (R100). -/
def Device.etchCtrlWrite (n : Nat) (w : Word) (d : Device) : Device :=
  let run := bit w.toNat 0
  let pause := bit w.toNat 1
  let d := ((d.put (F.ETCH_CTRL_RUN n) (b2n run)).put (F.ETCH_CTRL_PAUSE n) (b2n pause)).put
    (F.ETCH_CTRL_FLAG_EN n) (bits w.toNat 4 4)
  if run then d.etchRun n else d.etchStop n

end Sys2Proof.Machine
end

