-- ==== Sys2Proof/Machine/Fix.lean ====
section
/-! DEFINITION. Fixing (R122 to R132): the request and its checks, the snapshot, the page copy, the commit, the
tombstone, and the wear bucket. -/

namespace Sys2Proof.Machine

/-- The enabled regions of the fix region table, in order (R124). (DEDUCED, log entry 35.) -/
def Device.fixRegions (d : Device) (n : Nat) : List (Nat × Nat) :=
  ((List.range 32).filter (fun i => d.tbl (F.ETCH_FIX_BASE_EN n i) == 1)).map
    (fun i => (d.tbl (F.ETCH_FIX_BASE_WORD n i), d.tbl (F.ETCH_FIX_LEN n i)))

/-- The whole region table as its registers read (R124). (DEDUCED, log entry 35.) -/
def Device.fixTable (d : Device) (n : Nat) : List (Nat × Nat) :=
  (List.range 32).map (fun i =>
    (d.ld (F.ETCH_FIX_BASE_WORD n i).addr 4, d.ld (F.ETCH_FIX_LEN n i).addr 4))

/-- Tokens taken from the wear bucket (R129). -/
def Device.takeTokens (d : Device) (n k : Nat) : Device :=
  d.put (F.ETCH_WEAR_TOKENS n) (d.fld (F.ETCH_WEAR_TOKENS n) - k)

/-- A write of FIX_CTRL.REQ (R126, R127, R129): the checks in the order busy, pair, late, size, wear; an
accepted request is PENDING and takes S tokens.  With NEXT the step of FIX_AT_STEP is not looked at. (DEDUCED, log
entries 34, 120.) -/
def Device.fixRequest (n : Nat) (next : Bool) (d : Device) : Device :=
  let d := d.each (List.range 8) (fun d k => d.note (etchBase n + 0x12000 + 32 * k))
  let rs := d.fixRegions n
  let s := dataPages rs + 2
  let ahead := stepDiff (d.fld (F.ETCH_FIX_AT_STEP n)) (d.fld (F.ETCH_STEP n))
  if d.fld (F.ETCH_FIX_STATUS_STATE n) ≠ 0 then d.raiseBit (F.ETCH_FIX_STATUS_REFUSED_BUSY n) 0x0417 n
  else if d.fld F.PAIR_STATUS_ROLE = 2 ∧ d.fld F.PAIR_STATUS_STATE ≠ 3 then
    d.raiseBit (F.ETCH_FIX_STATUS_REFUSED_PAIR n) 0x0417 n
  else if ¬ next ∧ (ahead = 0 ∨ 2 ^ 31 ≤ ahead) then d.raiseBit (F.ETCH_FIX_STATUS_REFUSED_LATE n) 0x0417 n
  else if 2040 - d.fld (F.ETCH_FIX_LOG_PAGES n) < s then d.raiseBit (F.ETCH_FIX_STATUS_REFUSED_SIZE n) 0x0412 n
  else if d.fld (F.ETCH_WEAR_TOKENS n) < s then d.raiseBit (F.ETCH_FIX_STATUS_REFUSED_WEAR n) 0x0413 n
  else
    ((d.takeTokens n s).put (F.ETCH_FIX_STATUS_STATE n) 1).modCore n (fun c => { c with fix :=
      { next := next, atStep := d.fld (F.ETCH_FIX_AT_STEP n), size := s, regions := rs, table := d.fixTable n } })

/-- A fix cut short because its domain leaves ON (R131): its set gets no commit page. (DEDUCED, log entry 123.) -/
def Device.fixCut (d : Device) (n : Nat) : Device :=
  (d.put (F.ETCH_FIX_STATUS_STATE n) 0).modCore n (fun c => { c with fix := {} })

/-- A page of 512 bytes from its leading bytes. -/
def padPage (l : List Byte) : List Byte := (l ++ List.replicate 512 0).take 512

/-- The header page of a fix set (R124). -/
def headerPage (sq step lcore nreg s : Nat) (hash : List Byte) (table : List (Nat × Nat)) : List Byte :=
  padPage (leBytes 4 0x9064F1C5 ++ leBytes 4 sq ++ leBytes 4 step ++ leBytes 4 (lcore + nreg <<< 24)
    ++ leBytes 4 s ++ List.replicate 12 0 ++ (hash ++ List.replicate 32 0).take 32
    ++ table.flatMap (fun e => leBytes 4 e.1 ++ leBytes 4 e.2))

/-- The commit page of a fix set (R124). -/
def commitPage (sq s crc : Nat) : List Byte :=
  padPage (leBytes 4 0x9064C0A1 ++ leBytes 4 sq ++ leBytes 4 s ++ leBytes 4 0 ++ leBytes 8 crc)

/-- CRC-64 with the ECMA-182 polynomial (R124). -/
def crc64 (l : List Byte) : Nat := crc64From 0 l

/-- The snapshot boundary of a pending fix (R125, R127): the header page is written after the newest valid set,
and the copy begins; a set without data pages goes straight to its commit. -/
def Device.fixSnapshot (n : Nat) (vf : List Bool) (d : Device) : Device :=
  let d := { d with verifyFails := vf }
  if d.fixDue n && d.isOn (domEtch n) then
    let c := (d.core n).fix
    let start := d.fld (F.ETCH_FIX_LOG_HEAD n)
    let sq := (d.fld (F.ETCH_FIX_SEQ n) + 1) % 2 ^ 32
    let step := d.fld (F.ETCH_STEP n)
    let r := d.plateWrite n start (headerPage sq step n c.regions.length c.size d.netHash c.table)
    if r.2 then
      (r.1.put (F.ETCH_FIX_STATUS_STATE n) (if dataPages c.regions = 0 then 3 else 2)).modCore n (fun k =>
        { k with fix := { k.fix with start := start, seq := sq, step := step, copied := [], staged := [] } })
    else r.1.fixAbandon n
  else d

/-- The next data page of the copy (R127): a staged page first (R128), else the next in stream order. -/
def Device.fixPageCopy (n : Nat) (vf : List Bool) (d : Device) : Device :=
  let d := { d with verifyFails := vf }
  let c := (d.core n).fix
  if d.fld (F.ETCH_FIX_STATUS_STATE n) = 2 ∧ d.isOn (domEtch n) then
    if c.staged.isEmpty then
      match ((List.range (dataPages c.regions)).map (· + 1)).find? (fun i => !c.copied.contains i) with
      | some i => d.fixPut n i (d.streamPage n c.regions i)
      | none => d
    else d.drainStaged n
  else d

/-- The bytes of a plate page as stored. -/
def Device.plateBytes (d : Device) (n page : Nat) : List Byte :=
  (List.range 512).map (fun k => d.byte (plateBase n + 512 * page + k))

/-- The commit of a fix (R127): the commit page, then the registers of the newest valid set and DONE. -/
def Device.fixCommit (n : Nat) (vf : List Bool) (d : Device) : Device :=
  let d := { d with verifyFails := vf }
  let c := (d.core n).fix
  if d.fld (F.ETCH_FIX_STATUS_STATE n) = 3 ∧ d.isOn (domEtch n) then
    let crc := crc64 ((List.range (c.size - 1)).flatMap (fun i => d.plateBytes n ((c.start + i) % 2040)))
    let r := d.plateWrite n ((c.start + (c.size - 1)) % 2040) (commitPage c.seq c.size crc)
    if r.2 then
      ((((((r.1.put (F.ETCH_FIX_STATUS_STATE n) 0).put (F.ETCH_FIX_SEQ n) c.seq).put (F.ETCH_FIX_STEP n)
        c.step).put (F.ETCH_FIX_LOG_HEAD n) ((c.start + c.size) % 2040)).put (F.ETCH_FIX_LOG_PAGES n)
        c.size).put (F.ETCH_FIX_STATUS_DONE n) 1).modCore n (fun k => { k with fix := {} })
    else r.1.fixAbandon n
  else d

/-- A write of FIX_CTRL.ERASE while IDLE (R132): a tombstone, a set of two pages and no regions.  It takes 2
tokens, and finds room and tokens or is refused like a request of that size (R126, R129), so that the newest valid
set is never overwritten. (DEDUCED, log entries 34, 121.) -/
def Device.fixErase (n : Nat) (d : Device) : Device :=
  if d.fld (F.ETCH_FIX_STATUS_STATE n) ≠ 0 then d
  else if 2040 - d.fld (F.ETCH_FIX_LOG_PAGES n) < 2 then d.raiseBit (F.ETCH_FIX_STATUS_REFUSED_SIZE n) 0x0412 n
  else if d.fld (F.ETCH_WEAR_TOKENS n) < 2 then d.raiseBit (F.ETCH_FIX_STATUS_REFUSED_WEAR n) 0x0413 n
  else
    let start := d.fld (F.ETCH_FIX_LOG_HEAD n)
    let sq := (d.fld (F.ETCH_FIX_SEQ n) + 1) % 2 ^ 32
    let step := d.fld (F.ETCH_STEP n)
    let h := headerPage sq step n 0 2 d.netHash []
    let r := (d.takeTokens n 2).plateWrite n start h
    if r.2 then
      let r2 := r.1.plateWrite n ((start + 1) % 2040) (commitPage sq 2 (crc64 h))
      if r2.2 then
        ((((r2.1.put (F.ETCH_FIX_SEQ n) sq).put (F.ETCH_FIX_STEP n) step).put (F.ETCH_FIX_LOG_HEAD n)
          ((start + 2) % 2040)).put (F.ETCH_FIX_LOG_PAGES n) 2).put (F.ETCH_FIX_STATUS_ERASED n) 1
      else r2.1.fixAbandon n
    else r.1.fixAbandon n

/-- A write of FIX_CTRL (R136): a request first, then an erase, which the request's STATE then bars.
(DESIGN CHOICE, log entry 122.) -/
def Device.fixCtrlWrite (n : Nat) (w : Word) (d : Device) : Device :=
  let d := if bit w.toNat 31 then d.fixRequest n (bit w.toNat 30) else d
  if bit w.toNat 29 then d.fixErase n else d

/-- The wear bucket gains the tokens of the time passed, up to its depth (R129). -/
def Device.wearRefill (n : Nat) (d : Device) : Device :=
  if d.isOn (domEtch n) then
    let c := d.core n
    let acc := c.wearRest + d.since c.wearAt * d.fld (F.ETCH_WEAR_CFG_RATE n)
    let tok := min (d.fld (F.ETCH_WEAR_CFG_DEPTH n)) (d.fld (F.ETCH_WEAR_TOKENS n) + acc / 100000000)
    (d.put (F.ETCH_WEAR_TOKENS n) tok).modCore n (fun k =>
      { k with wearRest := acc % 100000000, wearAt := d.timebase })
  else d

end Sys2Proof.Machine
end

