-- ==== Sys2Proof/Machine/RackCore.lean ====
section
/-! DEFINITION. The Rack's operations on one queue (R303 to R315, R320): descriptors and their cache, produces,
consumes, freezing; and the requests that Etch cores send it over the Stipple net (R164). -/

namespace Sys2Proof.Machine

/-! ### Faults and descriptors -/

/-- A fault of the Rack, with its queue in LAST_Q when none stands there (R321). -/
def Device.rackFault (d : Device) (f : Fld) (code q : Nat) : Device :=
  let d := if d.flag F.RACK_LAST_Q_VALID then d
    else (d.put F.RACK_LAST_Q_VALID 1).put F.RACK_LAST_Q_QUEUE q
  d.raiseBit f code wholeDevice

def Desc.log2 (e : Desc) : Nat := bits e.w1 24 5
def Desc.valid (e : Desc) : Bool := bit e.w1 31
def Desc.drop (e : Desc) : Bool := bit e.w1 30
def Desc.frozen (e : Desc) : Bool := bit e.w1 29
def Desc.pclaim (e : Desc) : Nat := bits e.w1 17 7
def Desc.cclaim (e : Desc) : Nat := bits e.w1 10 7
def Desc.head (e : Desc) : Nat := bits e.w2 0 28
def Desc.tail (e : Desc) : Nat := bits e.w3 0 28
/-- The ring address (R304). -/
def Desc.ring (e : Desc) : Nat := bits e.w0 4 28 <<< 12
/-- R, the ring size in 8-byte units (R305). -/
def Desc.units (e : Desc) : Nat := 2 ^ e.log2 / 8
/-- The units in use (R305). -/
def Desc.used (e : Desc) : Nat := wrapU 28 ((e.tail : Int) - (e.head : Int))
/-- The address of position x (R305). -/
def Desc.addr (e : Desc) (x : Nat) : Nat := e.ring + 8 * (x % e.units)
def Desc.setW1 (e : Desc) (lo len v : Nat) : Desc :=
  { e with w1 := (setBits (BitVec.ofNat 32 e.w1) lo len v).toNat }
def Desc.setHead (e : Desc) (x : Nat) : Desc :=
  { e with w2 := (setBits (BitVec.ofNat 32 e.w2) 0 28 x).toNat }
def Desc.setTail (e : Desc) (x : Nat) : Desc :=
  { e with w3 := (setBits (BitVec.ofNat 32 e.w3) 0 28 x).toNat }

/-- The count of dirty cached descriptors in STATUS.DIRTY. -/
def Device.rackDirty (d : Device) : Device :=
  d.put F.RACK_STATUS_DIRTY (d.rack.cache.filter (·.2.dirty)).length

/-- A write into LPDDR4X that covers pages whole or in part: a partial write to an uncorrectable page is
discarded with 0x0120 (R334); the flag says that every page took its part. -/
def Device.storeLp : Nat → Device → Nat → List Byte → Device × Bool
  | 0, d, _, _ => (d, true)
  | fuel + 1, d, a, l =>
    if l.isEmpty then (d, true)
    else
      let room := 1024 - a % 1024
      let part := l.take room
      let bad := d.ueAt a && decide (part.length < 1024)
      let d := if bad then d.lpUe a else d.st a part
      let r := Device.storeLp fuel d (a + room) (l.drop room)
      (r.1, r.2 && !bad)

/-- The descriptor written to the table (R306). -/
def Device.writeDesc (d : Device) (q : Nat) (e : Desc) : Device :=
  (Device.storeLp 2 d (d.descBase + 16 * q)
    (leBytes 4 e.w0 ++ leBytes 4 e.w1 ++ leBytes 4 e.w2 ++ leBytes 4 e.w3)).1

/-- The cached descriptor of a queue. -/
def Device.cached (d : Device) (q : Nat) : Option CacheLine := (d.rack.cache.find? (fun e => e.1 = q)).map (·.2)

/-- A descriptor placed in the cache; a full cache of 32,768 writes back and drops its oldest line.  The spec
leaves the order open: it affects only timing (R306). (DEDUCED, log entry 54.) -/
def Device.cachePut (d : Device) (q : Nat) (l : CacheLine) : Device :=
  let rest := d.rack.cache.filter (fun e => e.1 ≠ q)
  let d := if 32768 ≤ rest.length then
      match rest with
      | e :: t =>
        let d := if e.2.dirty then d.writeDesc e.1 e.2.desc else d
        d.modRack (fun r => { r with cache := t ++ [(q, l)] })
      | [] => d
    else d.modRack (fun r => { r with cache := rest ++ [(q, l)] })
  d.rackDirty

/-- Whether a claimant is declared faulty (R504). -/
def Device.declared (d : Device) (c : Nat) : Bool := decide (c ≠ 0) && bit (d.fld (F.HG_DECLARED (c / 32))) (c % 32)

/-! ### Responses to Etch cores (R164) -/

def Device.rackRespond (d : Device) (kind core q : Nat) (dropped : Bool) (payload : List Byte) : Device :=
  d.modSeq (fun s => { s with rackOut := s.rackOut ++ [mkRackResp kind core q dropped payload] })

/-- The end of a produce as its producer learns it: an Etch core is answered (R164 rule 3). -/
def Device.prodAnswer (d : Device) (claimant q : Nat) (dropped : Bool) : Device :=
  if 64 ≤ claimant then d.rackRespond 0 (claimant - 64) q dropped [] else d

/-- A produce rejected or discarded: counted, and its producer told. -/
def Device.prodReject (d : Device) (claimant q : Nat) : Device :=
  (d.bump F.RACK_REJECTS).prodAnswer claimant q true

/-- The produces waiting at a queue discarded: a RESERVE among them is refused. (DEDUCED, log entry 55.) -/
def Device.dropWaits (d : Device) (q : Nat) (who : Waiting → Bool) : Device :=
  let out := d.rack.waits.filter (fun w => w.queue = q && who w)
  let d := d.modRack (fun r => { r with waits := r.waits.filter (fun w => !(w.queue = q && who w)) })
  d.each out (fun d w =>
    let d := d.prodReject w.claimant q
    if w.reserve then
      (((d.put (F.RACK_SW_STATUS_BUSY w.claimant) 0).put (F.RACK_SW_STATUS_ERR w.claimant) 1).put
        (F.RACK_SW_STATUS_REASON w.claimant) 1)
    else d)

/-! ### Descriptors in the cache (R306) -/

/-- A descriptor before the Rack serves an operation on its queue: claims of declared claimants are revoked
(R314, R509). -/
def Device.unclaim (d : Device) (q : Nat) (e : Desc) : Device × Desc :=
  let p := d.declared e.pclaim
  let c := d.declared e.cclaim
  if !p && !c then (d, e)
  else
    let e := if p then e.setW1 17 7 0 else e
    let d := if c then d.modRack (fun k => { k with peeks := k.peeks.filter (fun x => x.2 ≠ q) }) else d
    let e := if c then e.setW1 10 7 0 else e
    ((d.cachePut q ⟨e, true⟩).rackFault F.RACK_FAULT_REVOKED 0x0186 q, e)

/-- The produces waiting at a queue that is frozen: released and discarded with 0x0183 (R320). -/
def Device.frozenWaits (d : Device) (q : Nat) : Device :=
  if d.rack.waits.any (fun w => w.queue = q) then
    (d.rackFault F.RACK_FAULT_INVALID 0x0183 q).dropWaits q (fun _ => true)
  else d

/-- An uncorrectable descriptor freezes its queue with 0x0184; what it held is unknown: free values (R320). -/
def Device.descLost (d : Device) (q : Nat) : Device × Desc :=
  let r := (d.rackFault F.RACK_FAULT_DESC_UE 0x0184 q).draw
  let x := r.1.toNat
  let e : Desc := (⟨bits x 0 32, bits x 32 32, bits x 64 32, bits x 96 32⟩ : Desc).setW1 29 1 1
  ((r.2.cachePut q ⟨e, true⟩).frozenWaits q, e)

/-- The cache word that holds the descriptor of a queue decodes as uncorrectable (R343): the banks of the cache have no
device address. -/
def Device.cacheUe (ue : Bool) (q : Nat) (d : Device) : Device :=
  if ue && (d.cached q).isSome then ((d.bufferUe rackBase 0 0).descLost q).1 else d

/-- The descriptor of a queue, brought into the cache (R306), or frozen where it is uncorrectable (R320). -/
def Device.fetchDesc (d : Device) (q : Nat) : Device × Desc :=
  match d.cached q with
  | some l => d.unclaim q l.desc
  | none =>
    let d := d.bump F.RACK_CACHE_MISS
    let a := d.descBase + 16 * q
    if d.ueAt a then (d.note a).descLost q
    else
      let d := d.note a
      let e : Desc := ⟨d.ld a 4, d.ld (a + 4) 4, d.ld (a + 8) 4, d.ld (a + 12) 4⟩
      (d.cachePut q ⟨e, false⟩).unclaim q e

/-- The descriptor of a queue as the Rack now holds it. -/
def Device.desc (d : Device) (q : Nat) : Desc := (d.fetchDesc q).2

/-- A descriptor changed: the cached copy is authoritative and dirty (R306). -/
def Device.setDesc (d : Device) (q : Nat) (e : Desc) : Device := d.cachePut q ⟨e, true⟩

/-! ### Freezing (R320) -/

/-- A queue frozen (R320): its waiting produces are released and discarded. -/
def Device.freeze (d : Device) (q : Nat) : Device :=
  let r := d.fetchDesc q
  (r.1.setDesc q (r.2.setW1 29 1 1)).frozenWaits q

/-- A queue frozen for an uncorrectable or malformed record or a discarded record write: 0x0185. -/
def Device.freezeRec (d : Device) (q : Nat) : Device :=
  (d.rackFault F.RACK_FAULT_REC_UE 0x0185 q).freeze q

/-! ### Produce (R307 to R310) -/

/-- Bytes of a record with LEN payload bytes (R307). -/
def recSize (len : Nat) : Nat := 8 + 8 * ceilDiv len 8

/-- A record header: TYPE, SRC, LEN and SEQ (R307). -/
def recHeader (type src len sq : Nat) : List Byte :=
  leBytes 4 (type <<< 30 + src <<< 23 + len) ++ leBytes 4 ((sq % 65536) <<< 16)

/-- Where a record of LEN bytes goes (R308). -/
inductive Place where
  | oversize
  | full
  | at_ (padLen pos : Nat)
  deriving DecidableEq, Repr

/-- The resolution of a produce against the ring (R308): the descriptor after step 2, and the place.  padLen is
the number of bytes up to the ring's end that a PAD record fills, 0 for none. -/
def resolve (e : Desc) (len : Nat) : Desc × Place :=
  let s := recSize len
  let r := e.units
  if 8 * r < s then (e, .oversize)
  else
    let room := 8 * (r - e.tail % r)
    let e := if e.used = 0 ∧ room < s then
        let x := (e.tail / r + 1) * r % 2 ^ 28
        (e.setHead x).setTail x
      else e
    let o := e.tail % r
    let toEnd := 8 * (r - o)
    let free := 8 * r - 8 * e.used
    if s ≤ toEnd ∧ s ≤ free then (e, .at_ 0 e.tail)
    else if toEnd < s ∧ toEnd + s ≤ free then (e, .at_ toEnd ((e.tail + toEnd / 8) % 2 ^ 28))
    else (e, .full)

/-- The SEQ of a queue's next DATA record (R307). -/
def Device.nextSeq (d : Device) (q : Nat) : Nat := nget d.rack.seqs q

/-- PAD and record written and committed together (R310): the header of the PAD, if any, the header and, where
given, the padded payload of the record.  A write discarded for an uncorrectable page freezes the queue. -/
def Device.commitRec (d : Device) (q type src padLen pos len : Nat) (payload : Option (List Byte)) :
    Device × Bool :=
  let e := d.desc q
  let sq := d.nextSeq q
  let r1 := if padLen = 0 then (d, true)
    else Device.storeLp 3 d (e.addr e.tail) (recHeader 1 src (padLen - 8) sq)
  let body := match payload with
    | some p => (p ++ List.replicate (recSize len - 8 - p.length) (0 : Byte)).take (recSize len - 8)
    | none => []
  let l := recHeader type src len sq ++ body
  let r2 := Device.storeLp (l.length / 1024 + 2) r1.1 (e.addr pos) l
  if r1.2 && r2.2 then
    let d := r2.1.setDesc q (e.setTail ((pos + recSize len / 8) % 2 ^ 28))
    let d := if padLen = 0 then d else d.bump F.RACK_PADS
    if type = 0 then
      ((d.modRack (fun k => { k with seqs := nput k.seqs q ((sq + 1) % 65536) })).bump F.RACK_RECORDS_IN, true)
    else (d.bump F.RACK_PADS, true)
  else (r2.1.freezeRec q, false)

/-- What became of a produce. -/
inductive Prod where
  | done | waits | refused
  deriving DecidableEq, Repr

/-- A produce once its claims are checked and nothing stands before it (R308, R309). -/
def Device.produceNow (d : Device) (q claimant len : Nat) (payload : List Byte) : Device × Prod :=
  let r := resolve (d.desc q) len
  let d := if r.1 = d.desc q then d else d.setDesc q r.1
  match r.2 with
  | .oversize => ((d.rackFault F.RACK_FAULT_OVERSIZE 0x0181 q).prodReject claimant q, .refused)
  | .at_ padLen pos =>
    let c := d.commitRec q 0 claimant padLen pos len (some payload)
    if c.2 then (c.1.prodAnswer claimant q false, .done)
    else (c.1.prodReject claimant q, .refused)
  | .full =>
    if r.1.drop then
      let n := min 1023 (bits r.1.w1 0 10 + 1)
      ((((d.setDesc q (r.1.setW1 0 10 n)).bump F.RACK_DROPS).rackFault F.RACK_FAULT_DROP 0x0180 q).prodAnswer
        claimant q true, .refused)
    else (d, .waits)

/-- Whether a queue refuses a produce by a claimant before it is resolved: at an invalid or frozen queue, for another's
claim, or oversize, which is never held (R308, R313, R320).  The register field and code, and the REASON of a RESERVE. -/
def Desc.refuses (e : Desc) (claimant len : Nat) : Option (Fld × Nat × Nat) :=
  if !e.valid || e.frozen then some (F.RACK_FAULT_INVALID, 0x0183, 1)
  else if e.pclaim ≠ 0 ∧ e.pclaim ≠ claimant then some (F.RACK_FAULT_CLAIM, 0x0182, 3)
  else if 8 * e.units < recSize len then some (F.RACK_FAULT_OVERSIZE, 0x0181, 2)
  else none

/-- A produce by a claimant (R308 to R315, R320): discarded at a stopped Rack, refused, or held behind an open
reservation or an earlier waiting produce. -/
def Device.produce (d : Device) (q claimant len : Nat) (payload : List Byte) : Device × Prod :=
  let hold (d : Device) : Device × Prod :=
    (d.modRack (fun r => { r with waits := r.waits ++ [⟨q, claimant, len, payload, false⟩] }), .waits)
  if d.fld F.RACK_STATUS_STATE ≠ 2 then
    ((d.rackFault F.RACK_FAULT_INVALID 0x0183 q).prodReject claimant q, .refused)
  else
    let (d, e) := d.fetchDesc q
    match e.refuses claimant len with
    | some (f, code, _) => ((d.rackFault f code q).prodReject claimant q, .refused)
    | none =>
      if d.rack.resvs.any (fun r => r.queue = q) || d.rack.waits.any (fun w => w.queue = q) then hold d
      else
        let r := d.produceNow q claimant len payload
        if r.2 = .waits then hold r.1 else r

/-! ### Consume (R311, R320) -/

/-- The record at the head of a queue once PAD records are passed; bad: its header is uncorrectable (ue), or its TYPE
reserved. -/
inductive Head where
  | empty
  | bad (ue : Bool)
  | data (pos h0 h1 : Nat)
  deriving DecidableEq, Repr

/-- PADs passed and the head record found; a reserved TYPE or an uncorrectable header freezes the queue.
(DEDUCED, log entry 54.) -/
def Device.passPads : Nat → Device → Nat → Device × Head
  | 0, d, _ => (d, .empty)
  | fuel + 1, d, q =>
    let e := d.desc q
    if e.used = 0 then (d, .empty)
    else
      let a := e.addr e.head
      if d.ueAt a then ((d.note a).freezeRec q, .bad true)
      else
        let d := d.note a
        let h0 := d.ld a 4
        match bits h0 30 2 with
        | 0 => (d, .data e.head h0 (d.ld (a + 4) 4))
        | 1 => Device.passPads fuel (d.setDesc q (e.setHead ((e.head + recSize (bits h0 0 17) / 8) % 2 ^ 28))) q
        | _ => (d.freezeRec q, .bad false)

def Device.headRec (d : Device) (q : Nat) : Device × Head := d.passPads ((d.desc q).used + 1) q

/-- What a consume found. -/
inductive Taken where
  | stopped      -- the Rack is not RUNNING: a hardware consumer waits
  | refused      -- another holds the consumer claim
  | nothing      -- invalid or frozen queue: the wait ends with nothing
  | empty        -- a valid, empty queue
  | damaged      -- uncorrectable or malformed: the queue is now frozen
  | got (h0 h1 : Nat) (payload : List Byte)
  deriving DecidableEq, Repr

/-- Whether any page of a range decodes as uncorrectable. -/
def Device.ueRange (d : Device) (a len : Nat) : Bool :=
  (List.range (len / 1024 + 2)).any (fun i =>
    decide (a / 1024 + i ≤ (a + len - 1) / 1024) && d.ueAt (1024 * (a / 1024 + i)))

/-- Each damaged page of a range accounted for. -/
def Device.noteRange (d : Device) (a len : Nat) : Device :=
  d.each (List.range (len / 1024 + 2)) (fun d i =>
    if a / 1024 + i ≤ (a + len - 1) / 1024 then d.note (1024 * (a / 1024 + i)) else d)

/-- Whether a queue can be consumed from: running, valid, not frozen, not claimed by another. -/
def Device.consumeCheck (d : Device) (q claimant : Nat) : Device × Option Taken :=
  if d.fld F.RACK_STATUS_STATE ≠ 2 then (d, some .stopped)
  else
    let (d, e) := d.fetchDesc q
    if !e.valid || e.frozen then (d, some .nothing)
    else if e.cclaim ≠ 0 ∧ e.cclaim ≠ claimant then
      ((d.bump F.RACK_REJECTS).rackFault F.RACK_FAULT_CLAIM 0x0182 q, some .refused)
    else (d, none)

/-- The record at pos taken: HEAD passes it (R311).  A damaged payload freezes the queue. -/
def Device.takeRec (d : Device) (q pos h0 h1 : Nat) : Device × Taken :=
  let e := d.desc q
  let len := bits h0 0 17
  let a := e.addr pos
  if d.ueRange a (recSize len) then ((d.noteRange a (recSize len)).freezeRec q, .damaged)
  else
    let d := d.noteRange a (recSize len)
    let p := d.rdBytes (a + 8) len
    ((d.setDesc q (e.setHead ((pos + recSize len / 8) % 2 ^ 28))).bump F.RACK_RECORDS_OUT, .got h0 h1 p)

/-- A consume by a claimant (R311, R313, R320). -/
def Device.consume (d : Device) (q claimant : Nat) : Device × Taken :=
  match d.consumeCheck q claimant with
  | (d, some t) => (d, t)
  | (d, none) =>
    match d.headRec q with
    | (d, .empty) => (d, .empty)
    | (d, .bad _) => (d, .damaged)
    | (d, .data pos h0 h1) => d.takeRec q pos h0 h1

/-! ### Requests of Etch cores (R164) -/

/-- The first request of a kind that has reached the Rack's Stipple attachment, taken from its buffer. -/
def Device.rackNext (d : Device) (due : Bool) : Option (FlitUnit × Device) :=
  match d.seq.rackArr.find? (fun u => bit (u.headD 0) 59 == due) with
  | some u => some (u, d.modSeq (fun s => { s with rackArr := s.rackArr.erase u }))
  | none => none

/-- A produce request of an Etch core handled (R164 rules 1 and 3), with ue where the cached descriptor is found
uncorrectable: one whose payload fails PCHK is counted as a
link error and answered DROPPED. -/
def Device.rackProduceReq (ue : Bool) (d : Device) : Device :=
  match d.rackNext false with
  | none => d
  | some (u, d') =>
    if d.fld F.RACK_STATUS_STATE = 1 ∨ d.fld F.RACK_STATUS_STATE = 3 ∨ ¬ d.isOn domRack then d
    else
      let h := u.headD 0
      let q := bits h 37 22
      let core := bits h 30 7
      let a := u.getD 1 0
      let b := u.getD 2 0
      if payChk a b ≠ bits h 8 16 then
        d'.linkLoss.rackRespond 0 core q true []
      else ((d'.cacheUe ue q).produce q (64 + core) 16 (leBytes 8 a ++ leBytes 8 b)).1

/-- A consume-due request handled (R164 rule 4), with ue where the cached descriptor is found uncorrectable. -/
def Device.consumeDueReq (ue : Bool) (d : Device) : Device :=
  match d.rackNext true with
  | none => d
  | some (u, d') =>
    if ¬ d.isOn domRack then d
    else
      let h := u.headD 0
      let q := bits h 37 22
      let core := bits h 30 7
      let none_ (d : Device) : Device := d.rackRespond 2 core q false []
      match (d'.cacheUe ue q).consumeCheck q (64 + core) with
      | (d', some _) => none_ d'
      | (d', none) =>
        match d'.headRec q with
        | (d', .data pos h0 h1) =>
          let e := d'.desc q
          if d'.ueRange (e.addr pos) (recSize (bits h0 0 17)) then
            none_ ((d'.noteRange (e.addr pos) (recSize (bits h0 0 17))).freezeRec q)
          else
            let w := d'.ld (e.addr pos + 8) 4
            let ahead := wrapU 16 ((bits h 8 16 : Int) - (bits w 0 16 : Int))
            if ahead < 32768 then
              match d'.takeRec q pos h0 h1 with
              | (d', .got _ _ p) => d'.rackRespond 1 core q false ((p ++ List.replicate 16 0).take 16)
              | (d', _) => none_ d'
            else none_ d'
        | (d', _) => none_ d'

end Sys2Proof.Machine
end

