-- ==== Sys2Proof/Machine/Rack.lean ====
section
/-! DEFINITION. The Rack's commands (R303 to R324): descriptor commands, claims and revocation, the software port,
start and stop, retries and time-outs.  The Hatch endpoint stands with the Hatch mesh. -/

namespace Sys2Proof.Machine

/-! ### Hardware operations -/

/-- A hardware consume of a queue by a claimant; the record's payload is what the read returned (R311), with ue where the
cached descriptor is found uncorrectable. -/
def Device.rackConsume (claimant q : Nat) (ue : Bool) (d : Device) : Device :=
  match (d.cacheUe ue q).consume q claimant with
  | (d, .got _ _ p) => { d with rbytes := p }
  | (d, _) => d

/-- SW_STATUS with ERR and a REASON. -/
def Device.swErr (d : Device) (ini reason : Nat) : Device :=
  (d.put (F.RACK_SW_STATUS_ERR ini) 1).put (F.RACK_SW_STATUS_REASON ini) reason

/-- Whether an initiator holds the reservation of a queue. -/
def Device.holds (d : Device) (ini q : Nat) : Bool := d.rack.resvs.any (fun r => r.queue = q && r.ini = ini)

/-- SW_STATUS.OPEN as it stands for the queue that the initiator has selected. -/
def Device.showOpen (d : Device) (ini : Nat) : Device :=
  d.put (F.RACK_SW_STATUS_OPEN ini) (b2n (d.holds ini (d.fld (F.RACK_DQ_SEL ini))))

/-- A reservation no longer held. -/
def Device.dropResv (d : Device) (r : Resv) : Device :=
  (d.modRack (fun k => { k with resvs := k.resvs.erase r })).showOpen r.ini

/-- The reservations of a queue dropped. -/
def Device.dropResvs (d : Device) (q : Nat) : Device :=
  d.each (d.rack.resvs.filter (fun r => r.queue = q)) Device.dropResv

/-- A RESERVE of a full queue (R319): FULL, and under DROP a record dropped. -/
def Device.reserveFull (d : Device) (q ini : Nat) : Device :=
  let d := d.put (F.RACK_SW_STATUS_FULL ini) 1
  let e := d.desc q
  if e.drop then
    ((d.setDesc q (e.setW1 0 10 (min 1023 (bits e.w1 0 10 + 1)))).bump F.RACK_DROPS).rackFault F.RACK_FAULT_DROP 0x0180 q
  else d

/-- A RESERVE resolved (R308, R319): an opened reservation and its payload address, or FULL. -/
def Device.reserveNow (d : Device) (q ini len : Nat) : Device :=
  let r := resolve (d.desc q) len
  let d := if r.1 = d.desc q then d else d.setDesc q r.1
  match r.2 with
  | .at_ padLen pos =>
    ((d.modRack (fun k => { k with resvs := k.resvs ++ [⟨q, ini, padLen, pos, len, d.timebase⟩] })).put
      (F.RACK_SW_STATUS_OPEN ini) 1).put64 (F.RACK_SW_ADDR_LO ini) (F.RACK_SW_ADDR_HI ini)
      ((d.desc q).addr pos + 8)
  | _ => d.reserveFull q ini

/-- A request that a queue refuses: counted, with its code; a RESERVE learns the REASON. -/
def Device.refuseWait (d : Device) (w : Waiting) (f : Fld) (code reason : Nat) : Device :=
  let d := d.rackFault f code w.queue
  if w.reserve then ((d.bump F.RACK_REJECTS).put (F.RACK_SW_STATUS_BUSY w.claimant) 0).swErr w.claimant reason
  else d.prodReject w.claimant w.queue

/-- RESERVEs that stand behind a produce waiting under BLOCK: FULL at once (R319). -/
def Device.fullWaits (d : Device) (q : Nat) : Device :=
  let full (w : Waiting) : Bool := w.queue = q && w.reserve
  (d.modRack (fun r => { r with waits := r.waits.filter (fun w => !full w) })).each (d.rack.waits.filter full) (fun d w =>
    (d.put (F.RACK_SW_STATUS_BUSY w.claimant) 0).reserveFull q w.claimant)

/-- A produce waiting at a queue retries (R309, R319): the oldest one, once no reservation is open, against the
descriptor as it now stands (R323). -/
def Device.blockedRetry (q : Nat) (ue : Bool) (d : Device) : Device :=
  if d.fld F.RACK_STATUS_STATE ≠ 2 ∨ d.rack.resvs.any (fun r => r.queue = q) ∨
      ¬ d.rack.waits.any (fun w => w.queue = q) then d
  else
    let (d, e) := (d.cacheUe ue q).fetchDesc q
    match d.rack.waits.find? (fun w => w.queue = q) with
    | none => d
    | some w =>
      let d1 := d.modRack (fun r => { r with waits := r.waits.erase w })
      match e.refuses w.claimant w.len with
      | some (f, code, reason) => d1.refuseWait w f code reason
      | none =>
        if w.reserve then (d1.put (F.RACK_SW_STATUS_BUSY w.claimant) 0).reserveNow q w.claimant w.len
        else
          let r := d1.produceNow q w.claimant w.len w.payload
          if r.2 = .waits then (r.1.modRack (fun k => { k with waits := d.rack.waits })).fullWaits q else r.1

/-- Whether a produce waits under BLOCK: not one behind an open reservation, which holds it whatever the policy. -/
def Device.blockWaits (d : Device) : Bool :=
  d.rack.waits.any (fun w => !w.reserve && !(d.desc w.queue).drop && !d.rack.resvs.any (fun r => r.queue = w.queue))

/-! ### Descriptor commands (R322) -/

/-- The result of a descriptor command. -/
def Device.dqResult (d : Device) (ini reason : Nat) : Device :=
  ((d.put (F.RACK_DQ_STATUS_BUSY ini) 0).put (F.RACK_DQ_STATUS_ERR ini) (b2n (reason != 0))).put
    (F.RACK_DQ_STATUS_REASON ini) reason

/-- A descriptor command on the selected queue, refused with REASON 5 while the Rack is not RUNNING.
(DEDUCED, log entry 55.) -/
def Device.dq (d : Device) (ini : Nat) (f : Device → Nat → Device) : Device :=
  if d.fld F.RACK_STATUS_STATE ≠ 2 then d.dqResult ini 5 else f d (d.fld (F.RACK_DQ_SEL ini))

def Device.dqRead (ini : Nat) (d : Device) : Device :=
  d.dq ini (fun d q =>
    let (d, e) := d.fetchDesc q
    (((((d.put (F.RACK_DQ_DATA 0 ini) e.w0).put (F.RACK_DQ_DATA 1 ini) e.w1).put (F.RACK_DQ_DATA 2 ini)
      e.w2).put (F.RACK_DQ_DATA 3 ini) e.w3).dqResult ini 0))

/-- Whether a descriptor passes the checks of INIT (R305, R322). -/
def Device.descOk (d : Device) (e : Desc) : Bool :=
  let size := 2 ^ e.log2
  decide (12 ≤ e.log2) && decide (e.log2 ≤ 30) && decide (e.ring % size = 0) &&
  decide (lpBase ≤ e.ring) && decide (e.ring + size ≤ lpEnd) &&
  (decide (e.ring + size ≤ d.descBase) || decide (d.descBase + 0x4000000 ≤ e.ring)) &&
  decide (e.used ≤ e.units)

def Device.dqInit (ini : Nat) (d : Device) : Device :=
  d.dq ini (fun d q =>
    let (d, old) := d.fetchDesc q
    let e : Desc := ⟨d.fld (F.RACK_DQ_DATA 0 ini), d.fld (F.RACK_DQ_DATA 1 ini),
      d.fld (F.RACK_DQ_DATA 2 ini), d.fld (F.RACK_DQ_DATA 3 ini)⟩
    if old.valid && !old.frozen then d.dqResult ini 1
    else if d.descOk e then
      (((d.setDesc q (e.setW1 29 1 0)).dropResvs q).modRack (fun k =>
        { k with seqs := nput k.seqs q 0, peeks := k.peeks.filter (fun p => p.2 ≠ q) })).dqResult ini 0
    else d.dqResult ini 2)

/-- DISABLE: VALID cleared, waiting produces and an open reservation discarded. -/
def Device.dqDisable (ini : Nat) (d : Device) : Device :=
  d.dq ini (fun d q =>
    let (d, e) := d.fetchDesc q
    let d := d.setDesc q (e.setW1 31 1 0)
    ((d.frozenWaits q).dropResvs q).dqResult ini 0)

/-- A claim taken when it is free, by the initiator that asks (R313): lo 17 for producer, 10 for
consumer.  A declared claimant is refused (R508). -/
def Device.dqClaim (lo ini : Nat) (d : Device) : Device :=
  d.dq ini (fun d q =>
    let (d, e) := d.fetchDesc q
    if bits e.w1 lo 7 = 0 ∧ ¬ d.declared ini then (d.setDesc q (e.setW1 lo 7 ini)).dqResult ini 0
    else d.dqResult ini 3)

/-- A claim given up by its holder (R313). -/
def Device.dqRelease (lo ini : Nat) (d : Device) : Device :=
  d.dq ini (fun d q =>
    let (d, e) := d.fetchDesc q
    if bits e.w1 lo 7 = ini ∧ ini ≠ 0 then (d.setDesc q (e.setW1 lo 7 0)).dqResult ini 0 else d.dqResult ini 3)

/-- An open reservation ended, as its record or as a PAD record (R314, R319): whether it was committed.  A queue frozen
or invalid by now takes no record, with 0x0183 (R320), nor does a stopped Rack a PAD. (DEDUCED, log entry 55.) -/
def Device.resvClose (d : Device) (r : Resv) (commit : Bool) : Device × Bool :=
  let d := d.dropResv r
  if d.fld F.RACK_STATUS_STATE = 0 then (d, false)
  else
    let (d, e) := d.fetchDesc r.queue
    if !e.valid || e.frozen then (if commit then d.rackFault F.RACK_FAULT_INVALID 0x0183 r.queue else d, false)
    else if commit then d.commitRec r.queue 0 r.ini r.padLen r.pos r.len none
    else d.commitRec r.queue 1 r.ini r.padLen r.pos (recSize r.len - 8) none

/-- An open reservation turned into committed PAD (R314, R319). -/
def Device.resvPad (d : Device) (r : Resv) : Device := (d.resvClose r false).1

/-- The producer claim of a queue revoked (R314). -/
def Device.revokeP (d : Device) (q : Nat) : Device :=
  let d := match d.rack.resvs.find? (fun r => r.queue = q) with
    | some r => d.resvPad r
    | none => d
  let e := d.desc q
  let d := d.dropWaits q (fun w => decide (w.claimant = e.pclaim))
  (d.setDesc q ((d.desc q).setW1 17 7 0)).rackFault F.RACK_FAULT_REVOKED 0x0186 q

/-- The consumer claim of a queue revoked (R314): a peeked record stays at the head. -/
def Device.revokeC (d : Device) (q : Nat) : Device :=
  ((d.modRack (fun k => { k with peeks := k.peeks.filter (fun p => p.2 ≠ q) })).setDesc q
    ((d.desc q).setW1 10 7 0)).rackFault F.RACK_FAULT_REVOKED 0x0186 q

/-- REVOKE_P or REVOKE_C: Hardground alone (R314). -/
def Device.dqRevoke (producer : Bool) (ini : Nat) (d : Device) : Device :=
  if ini ≠ iniHg then d.dqResult ini 4
  else d.dq ini (fun d q =>
    let d := (d.fetchDesc q).1
    (if producer then d.revokeP q else d.revokeC q).dqResult ini 0)

/-- A dirty descriptor written back (R306). -/
def Device.flushQueue (d : Device) (q : Nat) : Device :=
  match d.cached q with
  | some l =>
    if l.dirty then
      let clean (e : Nat × CacheLine) : Nat × CacheLine := if e.1 = q then (q, ⟨e.2.desc, false⟩) else e
      ((d.writeDesc q l.desc).modRack (fun k => { k with cache := k.cache.map clean })).rackDirty
    else d
  | none => d

def Device.dqFlushOne (ini : Nat) (d : Device) : Device :=
  d.dq ini (fun d q => (d.flushQueue q).dqResult ini 0)

/-- A write of DQ_CMD (R322): other commands are refused with REASON 2. -/
def Device.dqCmdWrite (ini cmd : Nat) (d : Device) : Device :=
  match cmd with
  | 1 => d.dqRead ini
  | 2 => d.dqInit ini
  | 3 => d.dqDisable ini
  | 4 => d.dqClaim 17 ini
  | 5 => d.dqClaim 10 ini
  | 6 => d.dqRelease 17 ini
  | 7 => d.dqRelease 10 ini
  | 8 => d.dqRevoke true ini
  | 9 => d.dqRevoke false ini
  | 10 => d.dqFlushOne ini
  | _ => d.dqResult ini 2

/-! ### Software port (R318, R319) -/

/-- SW_STATUS at the start of a command on a queue: BUSY, ERR, EMPTY and FULL clear, OPEN as it stands. -/
def Device.swStart (d : Device) (ini q : Nat) : Device :=
  (d.putWord (F.RACK_SW_STATUS_ERR ini).addr 0).put (F.RACK_SW_STATUS_OPEN ini) (b2n (d.holds ini q))

/-- A software command on the selected queue, refused with REASON 5 while the Rack is not RUNNING (R323). -/
def Device.sw (d : Device) (ini : Nat) (f : Device → Nat → Device) : Device :=
  let q := d.fld (F.RACK_DQ_SEL ini)
  let d := d.swStart ini q
  if d.fld F.RACK_STATUS_STATE ≠ 2 then d.swErr ini 5 else f d q

/-- RESERVE (R319): refused, held behind another's open reservation, FULL where an earlier produce waits, or resolved.
(DEDUCED, log entry 55.) -/
def Device.swReserve (ini : Nat) (d : Device) : Device :=
  let len := d.fld (F.RACK_SW_LEN ini)
  if d.fld F.RACK_STATUS_STATE ≠ 2 then
    ((d.rackFault F.RACK_FAULT_INVALID 0x0183 (d.fld (F.RACK_DQ_SEL ini))).bump F.RACK_REJECTS).sw ini
      (fun d _ => d)
  else
    d.sw ini (fun d q =>
      let (d, e) := d.fetchDesc q
      match if 65536 < len then none else some (e.refuses ini len) with
      | none => d.swErr ini 2
      | some (some (f, code, reason)) => ((d.rackFault f code q).bump F.RACK_REJECTS).swErr ini reason
      | some none =>
        if d.holds ini q then d.swErr ini 1
        else if d.rack.resvs.any (fun r => r.queue = q) then
          (d.modRack (fun k => { k with waits := k.waits ++ [⟨q, ini, len, [], true⟩] })).put
            (F.RACK_SW_STATUS_BUSY ini) 1
        else if d.rack.waits.any (fun w => w.queue = q) then d.reserveFull q ini
        else d.reserveNow q ini len)

/-- The reservation of an initiator ended as a record or as PAD (R319). -/
def Device.resvEnd (d : Device) (ini q : Nat) (commit : Bool) : Device :=
  match d.rack.resvs.find? (fun r => r.queue = q && r.ini = ini) with
  | none => d.swErr ini 1
  | some r =>
    let c := d.resvClose r commit
    if c.2 || !commit then c.1 else (c.1.bump F.RACK_REJECTS).swErr ini 1

def Device.swCommit (ini : Nat) (d : Device) : Device := d.sw ini (fun d q => d.resvEnd ini q true)
def Device.swAbort (ini : Nat) (d : Device) : Device := d.sw ini (fun d q => d.resvEnd ini q false)

def Device.swPeek (ini : Nat) (d : Device) : Device :=
  d.sw ini (fun d q =>
    match d.consumeCheck q ini with
    | (d, some .refused) => d.swErr ini 3
    | (d, some _) => d.put (F.RACK_SW_STATUS_EMPTY ini) 1
    | (d, none) =>
      match d.headRec q with
      | (d, .empty) => d.put (F.RACK_SW_STATUS_EMPTY ini) 1
      | (d, .bad _) => d.swErr ini 1
      | (d, .data pos h0 h1) =>
        ((((d.put (F.RACK_SW_HDR0 ini) h0).put (F.RACK_SW_HDR1 ini) h1).put64 (F.RACK_SW_ADDR_LO ini)
          (F.RACK_SW_ADDR_HI ini) ((d.desc q).addr pos + 8))).modRack (fun k =>
          { k with peeks := k.peeks.filter (fun p => p ≠ (ini, q)) ++ [(ini, q)] }))

def Device.swRelease (ini : Nat) (d : Device) : Device :=
  d.sw ini (fun d q =>
    if d.rack.peeks.contains (ini, q) then
      match d.consumeCheck q ini with
      | (d, some .refused) => d.swErr ini 3
      | (d, some _) => d.put (F.RACK_SW_STATUS_EMPTY ini) 1
      | (d, none) =>
        match d.headRec q with
        | (d, .data pos h0 _) =>
          let e := d.desc q
          ((d.setDesc q (e.setHead ((pos + recSize (bits h0 0 17) / 8) % 2 ^ 28))).bump F.RACK_RECORDS_OUT).modRack
            (fun k => { k with peeks := k.peeks.filter (fun p => p ≠ (ini, q)) })
        | (d, .bad _) => d.swErr ini 1
        | (d, .empty) => d.put (F.RACK_SW_STATUS_EMPTY ini) 1
    else d.swErr ini 1)

/-- A write of SW_CMD (R319): a command that the table does not name is refused with REASON 2. -/
def Device.swCmdWrite (ini cmd : Nat) (d : Device) : Device :=
  match cmd with
  | 1 => d.swReserve ini
  | 2 => d.swCommit ini
  | 3 => d.swAbort ini
  | 4 => d.swPeek ini
  | 5 => d.swRelease ini
  | _ => d.sw ini (fun d _ => d.swErr ini 2)

/-- A reservation open longer than RSV_LIMIT ticks is aborted as PAD: 0x0183 (R319). -/
def Device.resvTimeout (q : Nat) (d : Device) : Device :=
  match d.rack.resvs.find? (fun r => r.queue = q) with
  | some r =>
    if d.fld F.RACK_RSV_LIMIT < d.since r.at_ then
      ((d.resvPad r).bump F.RACK_REJECTS).rackFault F.RACK_FAULT_INVALID 0x0183 q
    else d
  | none => d

/-! ### Start, stop, flush (R306, R323) -/

/-- EN written 1 while STOPPED: refused with 0x0183 when the table does not lie in usable LPDDR4X; the first
start after a reset makes every descriptor read as zero. (DEDUCED, log entry 56.) -/
def Device.rackStart (d : Device) : Device :=
  let d := d.put F.RACK_CTRL_EN 1
  if d.fld F.RACK_STATUS_STATE ≠ 0 then d
  else if d.descBase < lpBase ∨ lpEnd < d.descBase + 0x4000000 then
    (d.put F.RACK_CTRL_EN 0).rackFault F.RACK_FAULT_INVALID 0x0183 0
  else
    let d := d.put F.RACK_STATUS_STATE 1
    if d.rack.started then d
    else (d.clearMem d.descBase 0x4000000).modRack (fun k => { k with started := true })

/-- The Rack becomes RUNNING. -/
def Device.rackRunning (d : Device) : Device :=
  if d.fld F.RACK_STATUS_STATE = 1 then d.put F.RACK_STATUS_STATE 2 else d

/-- EN written 0: the Rack stops (R323). -/
def Device.rackStop (d : Device) : Device :=
  let d := d.put F.RACK_CTRL_EN 0
  if d.fld F.RACK_STATUS_STATE = 0 then d else d.put F.RACK_STATUS_STATE 3

/-- Every dirty descriptor written to the table (R306). -/
def Device.rackFlush (d : Device) : Device :=
  d.each (d.rack.cache.map (·.1)) (fun d q => d.flushQueue q)

/-- The flush of a stop completes: the cache is empty and the Rack STOPPED. -/
def Device.rackStopped (d : Device) : Device :=
  if d.fld F.RACK_STATUS_STATE = 3 then
    ((d.rackFlush.modRack (fun k => { k with cache := [] })).rackDirty).put F.RACK_STATUS_STATE 0
  else d

/-- A write of RACK.CTRL (R322). -/
def Device.rackCtrlWrite (w : Word) (d : Device) : Device :=
  let d := if bit w.toNat 1 then d.rackFlush else d
  if bit w.toNat 0 then d.rackStart else d.rackStop

end Sys2Proof.Machine
end

