-- ==== Sys2Proof/Machine/Stipple.lean ====
section
/-! DEFINITION. The Stipple net (R137 to R172): routers, arrivals at ports, the barrier, the delay unit, the Rack
traffic of Etch cores, starting and stopping. -/

namespace Sys2Proof.Machine

/-! ### Attachments (R29, R137) -/

/-- The router and port at which source i attaches, where it has one. -/
def Device.attach (d : Device) (i : Nat) : Option (Nat × Nat) :=
  if i < 64 then (if d.etchBound i then some (d.etchSite i, pLocal) else none)
  else if i < 72 then some (14 * (i - 64), pWest)
  else if i < 104 then (if d.graverBound (i - 72) then some (d.graverSite (i - 72), pLocal) else none)
  else if i = 104 then some (105, pSouth)
  else none

/-- The source attached at a port of a router, if any. -/
def Device.sourceAt (d : Device) (s p : Nat) : Option Nat :=
  if p = pLocal then
    match d.etchAtSite s with
    | some n => some n
    | none => (d.graverAtSite s).map (· + 72)
  else if p = pWest ∧ s % 14 = 0 then some (64 + s / 14)
  else if p = pSouth ∧ s = 105 then some 104
  else none

/-- The edge ports at which a router has a Stipple attachment (R29). -/
def edgePorts (s : Nat) : List Nat :=
  (if s % 14 = 0 then [pWest] else []) ++
  (if s % 14 = 13 ∧ s / 14 % 2 = 1 then [pEast] else []) ++
  (if [3, 4, 9, 10].contains s then [pNorth] else []) ++
  (if [98, 99, 101, 102, 104, 105, 107, 108, 110, 111].contains s then [pSouth] else [])

/-- The router that a router's output port leads to, and the port at which it arrives there. -/
def neighbour (s p : Nat) : Option (Nat × Nat) :=
  let r := s / 14
  let c := s % 14
  if p = pNorth then (if 0 < r then some (s - 14, pSouth) else none)
  else if p = pSouth then (if r < 7 then some (s + 14, pNorth) else none)
  else if p = pEast then (if c < 13 then some (s + 1, pWest) else none)
  else if p = pWest then (if 0 < c then some (s - 1, pEast) else none)
  else none

/-! ### Routing (R144, R145, R157) -/

/-- The candidate outputs of a unicast at router s to the attachment (ds, dp) (R144). (DEDUCED, log entry 21.) -/
def routeSet (s ds dp : Nat) : List Nat :=
  let cr := s / 14
  let cc := s % 14
  let dr := ds / 14
  let dc := ds % 14
  if dc < cc ∨ (dc = cc ∧ dp = pWest ∧ dc = 0 ∧ dr = cr) then [pWest]
  else if dp = pWest ∧ dr ≠ cr ∧ dc = cc then (if dr < cr then [pNorth] else [pSouth])
  else
    let cand := (if cc < dc then [pEast] else []) ++ (if cr < dr then [pSouth] else []) ++
      (if dr < cr then [pNorth] else [])
    if cand.isEmpty then [dp] else cand

/-- The attachment a unicast unit goes to (R142, R143, R164). -/
def Device.unitDest (d : Device) (h : Nat) : Option (Nat × Nat) :=
  match fType h with
  | 1 | 4 => d.attach (bits h 50 6)
  | 5 => d.attach (bits h 49 7)
  | 6 => some (104, pSouth)
  | 7 => d.attach (bits h 52 6)
  | _ => none

/-- The output of a multicast destination core at router s (R145). -/
def Device.mcPort (d : Device) (s k : Nat) : Option Nat :=
  if d.etchBound k then
    let ds := d.etchSite k
    some (if ds % 14 < s % 14 then pWest else if s % 14 < ds % 14 then pEast
      else if ds / 14 < s / 14 then pNorth else if s / 14 < ds / 14 then pSouth else pLocal)
  else none

/-- The outputs of an OPEN at a router that it entered at port p: the tree rooted at (7, 7) over every site, the
local port and the edge attachments (R157). -/
def openPorts (s p : Nat) : List Nat :=
  let r := s / 14
  let c := s % 14
  (if r = 7 ∧ c ≤ 7 ∧ 0 < c then [pWest] else []) ++
  (if r = 7 ∧ 7 ≤ c ∧ c < 13 then [pEast] else []) ++
  (if 0 < r then [pNorth] else []) ++ [pLocal] ++
  (edgePorts s).filter (fun e => e ≠ p ∨ s = 105)

/-- The outputs a unit at the head of input p of router s needs, with the copy that goes to each.
(DEDUCED, log entry 21.) -/
def Device.outputs (d : Device) (s p : Nat) (u : FlitUnit) : List (Nat × FlitUnit) :=
  let h := u.headD 0
  if fType h = 2 then
    let ds := bitsSet 64 (u.getD 1 0)
    (List.range 5).filterMap (fun o =>
      let mine := ds.filter (fun k => d.mcPort s k = some o)
      if mine.isEmpty then none
      else
        let m := maskOf mine
        let h' := h / 2 ^ 56 * 2 ^ 56 + maskChk m <<< 50 + bits h 8 42 <<< 8
        some (o, [sealFlit h', m]))
  else if fType h = 9 then (openPorts s p).map (fun o => (o, u))
  else []

/-- Whether an output link of a router is empty (R42). -/
def Device.outEmpty (d : Device) (s o : Nat) : Bool :=
  let l := vget (d.router s).out o {}
  l.req == l.ack

/-- A unit offered on an output link: DATA, then REQ (R40). -/
def Device.offer (d : Device) (s o : Nat) (u : FlitUnit) : Device :=
  d.modRouter s (fun r => { r with out := vmod r.out o (fun l => { l with data := u, req := !l.req }) })

/-- The unit at the head of an input released. -/
def Device.popIn (d : Device) (s p : Nat) : Device :=
  d.modRouter s (fun r => { r with inq := vmod r.inq p List.tail, served := vmod r.served p (fun _ => []) })

/-- DONE taken into the tree registers of a router (R157). -/
def Device.treeTake (d : Device) (s p h : Nat) : Device :=
  d.modRouter s (fun r =>
    if p = pLocal then { r with treeOwn := some (bits h 40 7), treeTag := fTag h }
    else { r with treeKids := nput r.treeKids p (bits h 40 7 + 1), treeTag := fTag h })

/-- A router checks and forwards the unit at the head of input p (R141, R144, R145): a unicast to an output whose
link is empty, east before south before north; a multicast or OPEN copy to every output whose link is
empty, the unit released once every copy is accepted. (DEDUCED, log entries 20, 24.) -/
def Device.flitForward (s p : Nat) (d : Device) : Device :=
  if !d.isOn domStipple then d
  else
    match vget (d.router s).inq p [] with
    | [] => d
    | u :: _ =>
      let h := u.headD 0
      if !unitOk u then (d.popIn s p).linkLoss
      else if fType h = 8 then (d.treeTake s p h).popIn s p
      else if fType h = 2 ∨ fType h = 9 then
        let outs := d.outputs s p u
        let done := vget (d.router s).served p []
        let now := outs.filter (fun o => !done.contains o.1 && d.outEmpty s o.1)
        let d := d.each now (fun d o => d.offer s o.1 o.2)
        let done := done ++ now.map (·.1)
        if outs.all (fun o => done.contains o.1) then d.popIn s p
        else d.modRouter s (fun r => { r with served := vmod r.served p (fun _ => done) })
      else
        match d.unitDest h with
        | none => (d.popIn s p).linkLoss
        | some (ds, dp) =>
          match (routeSet s ds dp).find? (fun o => d.outEmpty s o) with
          | some o => (d.popIn s p).offer s o u
          | none => d

/-! ### Links (R40, R41) -/

/-- The flits of an input FIFO; each input holds 4 (R144). -/
def flitCount (l : List FlitUnit) : Nat := (l.map List.length).foldl (· + ·) 0

/-- Whether input p of router s has room for a unit. -/
def Device.roomIn (d : Device) (s p : Nat) (u : FlitUnit) : Bool :=
  decide (flitCount (vget (d.router s).inq p []) + u.length ≤ 4)

/-- A unit captured by input p of router s. -/
def Device.enter (d : Device) (s p : Nat) (u : FlitUnit) : Device :=
  d.modRouter s (fun r => { r with inq := vmod r.inq p (fun q => q ++ [u]) })

/-- A unit as a disturbed link delivers it: the bits of the mask flipped.  R41 excludes it; the CHK of R141
exists to find it. -/
def disturb (flip u : FlitUnit) : FlitUnit := u.mapIdx (fun k x => x ^^^ (flip.getD k 0 % 2 ^ 64))

/-- A unit delivered to what stands at an edge or local port: the Rack keeps requests, a source's attachment
everything; at other attachments only OPEN arrives, without effect. -/
def Device.arrive (d : Device) (s o : Nat) (u : FlitUnit) : Device :=
  if s = 104 ∧ o = pSouth then
    if fType (u.headD 0) = 6 then d.modSeq (fun q => { q with rackArr := q.rackArr ++ [u] }) else d
  else
    match d.sourceAt s o with
    | some i => d.modSource i (fun q => { q with arr := q.arr ++ [u] })
    | none => d

/-- A link whose unit of k flits has crossed: REQ and ACK have toggled once for each flit (R40, R42). -/
def Link.crossed (l : Link) (k : Nat) : Link :=
  let r := l.req != decide (k % 2 = 0)
  { l with req := r, ack := r }

/-- The unit on an output link captured by the receiver, once it has room, and acknowledged (R40). -/
def Device.linkOut (s o : Nat) (flip : FlitUnit) (d : Device) : Device :=
  let l := vget (d.router s).out o {}
  if l.req = l.ack then d
  else
    let u := disturb flip l.data
    let ack (d : Device) : Device :=
      d.modRouter s (fun r => { r with out := vmod r.out o (fun l => l.crossed l.data.length) })
    match neighbour s o with
    | some (s', p') => if d.roomIn s' p' u then ack (d.enter s' p' u) else d
    | none => ack (d.arrive s o u)

/-- The next unit of a source captured by the router at its attachment. -/
def Device.linkSource (i : Nat) (flip : FlitUnit) (d : Device) : Device :=
  match (d.source i).outq, d.attach i with
  | u :: rest, some (s, p) =>
    if d.roomIn s p u then
      ((d.modSource i (fun q => { q with outq := rest })).enter s p (disturb flip u)).ackLink (linkStipple i) u.length
    else d
  | _, _ => d

/-- The next response of the Rack captured by router (7, 6). -/
def Device.linkRack (flip : FlitUnit) (d : Device) : Device :=
  match d.seq.rackOut with
  | u :: rest =>
    if d.roomIn 104 pSouth u then
      ((d.modSeq (fun q => { q with rackOut := rest })).enter 104 pSouth (disturb flip u)).ackLink linkRackOut u.length
    else d
  | [] => d

/-! ### Arrivals (R150 to R155, R165) -/

/-- The first delivered unit of given types at source i's attachment. -/
def Device.arrived (d : Device) (i : Nat) (ts : List Nat) : Option FlitUnit :=
  (d.source i).arr.find? (fun u => ts.contains (fType (u.headD 0)))

/-- A delivered unit taken. -/
def Device.takeArr (d : Device) (i : Nat) (u : FlitUnit) : Device :=
  d.modSource i (fun s => { s with arr := s.arr.erase u })

/-- The event a unit carries. -/
def evtOf (u : FlitUnit) : Evt :=
  let h := u.headD 0
  { src := bits h 43 7, seq := bits h 31 12, mc := decide (fType h = 2), tag := fTag h, axon := bits h 17 14,
    payload := bits h 9 8 }

/-- The received count of an event's source for its step raised. -/
def Device.countEvent (d : Device) (n : Nat) (e : Evt) : Device :=
  d.modPort n (fun p =>
    if e.tag = d.tOf n % 16 then { p with rcv0 := nput p.rcv0 e.src (nget p.rcv0 e.src + 1) }
    else { p with rcv1 := nput p.rcv1 e.src (nget p.rcv1 e.src + 1) })

/-- An event discarded for its tag (R153, R159): 0x0302. (DEDUCED, log entry 23.) -/
def Device.tagError (d : Device) (n : Nat) : Device :=
  (d.bump F.STIPPLE_TAG_ERR).raiseBit F.STIPPLE_FAULT_TAG 0x0302 n

/-- Whether a core is IDLE for what reaches its port (R99, R165): RUN = 1 enters RUN at the next opening, which is the
arrival of its OPEN. -/
def Device.portIdle (d : Device) (n : Nat) : Bool :=
  decide (d.fld (F.ETCH_STATUS_STATE n) = 0) && (d.port n).opened.isNone &&
  decide ((d.core n).phase = .idle ∨ (d.core n).phase = .waiting)

/-- An event reaches a destination port (R150, R153, R159, R165). (DEDUCED, log entry 22.) -/
def Device.eventArrive (n : Nat) (d : Device) : Device :=
  match d.arrived n [1, 2] with
  | none => d
  | some u =>
    let e := evtOf u
    let t := d.tOf n
    let p := d.port n
    let run := d.flag (F.ETCH_CTRL_RUN n)
    let st := d.domState (domEtch n)
    if !d.isOn domStipple then d
    else if d.stState = 0 then d.takeArr n u
    else if (e.tag ≠ t % 16 ∧ e.tag ≠ (t + 1) % 16) ∨ (p.declared ∧ e.tag = t % 16) then
      ((d.takeArr n u).tagError n).freeEntry n e.src 1
    else if run ∧ st ≠ 2 ∧ st ≠ 0 then d.setVote 24 (domEtch n) 2
    else if p.buf.any (fun f => f.src = e.src && f.seq = e.seq && f.mc == e.mc)
        || decide (d.win n e.src ≤ (p.buf.filter (fun f => f.src = e.src)).length) then
      (((d.takeArr n u).bump F.STIPPLE_DUP).raiseBit F.STIPPLE_FAULT_DUP 0x0303 n).freeEntry n e.src 1
    else if st = 0 then
      ((((((d.takeArr n u).countEvent n e).freeEntry n e.src 1).bump (F.PORT_DISCARD n)).bump
        F.STIPPLE_DISCARD_OFF).raiseBit F.STIPPLE_FAULT_DISCARD_OFF 0x0306 n).portCheck n
    else if d.portIdle n then
      ((((d.takeArr n u).countEvent n e).freeEntry n e.src 1).bump (F.PORT_DISCARD n)).portCheck n
    else
      let d := (((d.takeArr n u).countEvent n e).modPort n (fun p => { p with buf := p.buf ++ [e] })).bump
        (F.PORT_EVENTS_IN n)
      (d.portFill n).portCheck n

/-- A close reaches a destination (R154, R155, R159). -/
def Device.closeArrive (n : Nat) (d : Device) : Device :=
  match d.arrived n [4] with
  | none => d
  | some u =>
    let h := u.headD 0
    let s := bits h 43 7
    let cnt := bits h 8 32
    let t := d.tOf n
    if !d.isOn domStipple then d
    else
      let d := d.takeArr n u
      if !d.expects n s then d
      else if fTag h = t % 16 then
        if (d.port n).declared then d.tagError n
        else (d.modPort n (fun p => { p with cls0 := p.cls0.filter (fun e => e.1 ≠ s) ++ [(s, cnt)] })).portCheck n
      else if fTag h = (t + 1) % 16 then
        (d.modPort n (fun p => { p with cls1 := p.cls1.filter (fun e => e.1 ≠ s) ++ [(s, cnt)] })).portCheck n
      else d.tagError n

/-- An acknowledgement reaches a source (R151). -/
def Device.ackArrive (i : Nat) (d : Device) : Device :=
  match d.arrived i [5] with
  | none => d
  | some u =>
    let h := u.headD 0
    let k := bits h 43 6
    if !d.isOn domStipple then d
    else (d.takeArr i u).modSource i (fun s => { s with credit := nput s.credit k (nget s.credit k + bits h 36 7) })

/-! ### The barrier (R156, R157, R160) -/

/-- The tree inputs a router waits for (R157).  A side without a bound Etch core contributes 0 at once: there is
nothing to wait for. (DEDUCED, log entry 26.) -/
def Device.treeKidsOf (d : Device) (s : Nat) : List Nat :=
  let r := s / 14
  let c := s % 14
  let core (i : Nat) : Bool := (d.etchAtSite i).isSome
  (if core s then [pLocal] else []) ++
  (if c ≤ 7 ∧ (List.range c).any (fun k => core (14 * r + k)) then [pWest] else []) ++
  (if 7 ≤ c ∧ (List.range (13 - c)).any (fun k => core (s + 1 + k)) then [pEast] else []) ++
  (if c = 7 ∧ (List.range (14 * r)).any core then [pNorth] else [])

/-- The output on which a router sends its sum (R157). -/
def treeOut (s : Nat) : Nat := if s % 14 < 7 then pEast else if 7 < s % 14 then pWest else pSouth

/-- A router that has DONE from all its children sends their sum on (R157). (DEDUCED, log entry 26.) -/
def Device.doneReduce (s : Nat) (d : Device) : Device :=
  let r := d.router s
  let got (p : Nat) : Option Nat :=
    if p = pLocal then r.treeOwn else (if nget r.treeKids p = 0 then none else some (nget r.treeKids p - 1))
  let kids := d.treeKidsOf s
  if d.isOn domStipple && kids.all (fun p => (got p).isSome) && !kids.isEmpty && d.outEmpty s (treeOut s) then
    let n := kids.foldl (fun a p => a + (got p).getD 0) 0
    (d.offer s (treeOut s) (mkDone r.treeTag n)).modRouter s (fun r =>
      { r with treeOwn := none, treeKids := [] })
  else d

/-- Votes of the Stipple clients (R352): STIPPLE and the tiles and Tracers of enabled sources while the net is
not STOPPED. -/
def Device.stippleVotes (d : Device) : Device :=
  let live := d.stState ≠ 0
  let d := d.setVote 24 domStipple (if live then 2 else 0)
  let d := d.each (List.range 32) (fun d n =>
    d.setVote 24 (domGraver n) (if live ∧ d.srcEn (72 + n) then 2 else 0))
  d.each (List.range 8) (fun d n =>
    if live ∧ d.srcEn (64 + n) then d.setVote (8 + n) (domTracer n) 2 else d)

/-- The part leaves READY for RUN at the first OPEN or START (R387). -/
def Device.enterRun (d : Device) : Device := if d.boot = 7 then d.put F.BOOT_STATUS_STATE 8 else d

/-- OPEN(S) broadcast (R157): the sequencer's unit enters the tree at (7, 7); closes that waited for S go out. -/
def Device.broadcast (d : Device) : Device :=
  let d := ((d.inject 104 (mkOpen d.openStep)).modSeq (fun s => { s with openAt := d.timebase })).enterRun
  d.each (List.range 105) Device.flushQ

/-- Whether the open step is complete: the sum is NCORES (R157). -/
def Device.stepComplete (d : Device) : Bool :=
  match d.seq.sum with
  | some (tag, n) => decide (tag = d.openStep % 16) && decide (n = d.fld F.STIPPLE_STATUS_NCORES)
  | none => false

/-- A step completes: it is counted, and LOSS clears after the step that follows the one open when LOSS was last
set (R157, R159). (DEDUCED, log entry 27.) -/
def Device.stepDone (d : Device) : Device :=
  let d := d.bump F.STIPPLE_STEPS
  if d.seq.lossStep = some (stepDiff d.openStep 1) then
    (d.put F.STIPPLE_STATUS_LOSS 0).modSeq (fun s => { s with lossStep := none })
  else d

/-- The barrier sum that has reached the sequencer, taken up. -/
def Device.takeSum (d : Device) : Device :=
  match d.arrived 104 [8] with
  | some u =>
    let h := u.headD 0
    let d := (d.takeArr 104 u).modSeq (fun s => { s with sum := some (fTag h, bits h 40 7) })
    if d.stepComplete then d.stepDone else d
  | none => d

/-- The end of a completed step's time: the longest step (R160). -/
def Device.stepEnd (d : Device) : Device :=
  let dt := d.since d.seq.openAt
  let d := if d.fld F.STIPPLE_STEP_TIME_MAX < dt then d.put F.STIPPLE_STEP_TIME_MAX (min dt (2 ^ 32 - 1)) else d
  d.modSeq (fun s => { s with sum := none })

/-- The sequencer advances (R157): the step complete and MIN_PERIOD passed, S becomes t + 1 and OPEN goes out. -/
def Device.stepAdvance (d : Device) : Device :=
  let d := d.takeSum
  if d.isOn domStipple && decide (d.stState = 2) && d.stepComplete
      && decide (d.fld F.STIPPLE_MIN_PERIOD ≤ d.since d.seq.openAt) then
    let s' := (d.openStep + 1) % 2 ^ 32
    let d := d.stepEnd.put F.STIPPLE_STEP s'
    let d := d.each (List.range 64) (fun d n => if (d.core n).follows then d else d.modPort n SPort.shift)
    d.broadcast
  else d

/-- An OPEN at the port of core n (R154, R156, R165, R196): a running core will open the step, waking from RET if
it must; for any other its port answers, and its export sends zeros for the step before. -/
def Device.openCore (d : Device) (n t : Nat) (u : FlitUnit) : Device :=
  let run := d.flag (F.ETCH_CTRL_RUN n)
  let st := d.domState (domEtch n)
  if run ∧ st ≠ 0 then
    if st = 2 then (d.takeArr n u).modPort n (fun p => { p with opened := some t })
    else d.setVote 24 (domEtch n) 2
  else (d.takeArr n u).proxyStep n t

/-- A port that has waited STEP_LIMIT ticks for a matching count, or for a close that may be lost (R159). -/
def Device.stallTimeout (n : Nat) (d : Device) : Device :=
  let p := d.port n
  let un := d.unmatched n
  let since : Option Nat :=
    if (d.missing n).isEmpty then p.closesAt
    else if d.flag F.STIPPLE_STATUS_LOSS then p.waitAt.map (fun w => max w d.seq.lossAt)
    else none
  match since with
  | none => d
  | some t0 =>
    if p.allIn || un.isEmpty || !(d.core n).follows || decide (d.since t0 < d.fld F.STIPPLE_STEP_LIMIT) then d
    else
      let d := if d.flag (F.PORT_STATUS_STALLED n) then d
        else (d.bump F.STIPPLE_STALLS).raiseBit F.STIPPLE_FAULT_STALL 0x0305 n
      let d := (d.put (F.PORT_STATUS_STALLED n) 1).put (F.PORT_STATUS_WAIT_SRC n) (un.headD 0)
      if d.flag F.STIPPLE_CTRL_STALL_ACTION then
        (d.modPort n (fun p => { p with allIn := true, declared := true })).put (F.PORT_STATUS_WAITING n) 0
      else d

/-! ### The delay unit (R162, R163) -/

/-- The destinations of a delay entry. -/
def Device.delayDests (d : Device) (i : Nat) : List Nat :=
  if d.flag (F.STIPPLE_DELAY0_MC i) then
    bitsSet 64 (d.fld (F.STIPPLE_DELAY2 i) + d.fld (F.STIPPLE_DELAY3 i) <<< 32)
  else [d.fld (F.STIPPLE_DELAY0_DCORE i)]

/-- The due records of one delay queue injected as events of step u, late and malformed ones discarded. -/
def Device.delayQueue : Nat → Device → Nat → Nat → Device
  | 0, d, _, _ => d
  | fuel + 1, d, i, u =>
    let q := d.fld (F.STIPPLE_DELAY0_QUEUE i)
    let late (d : Device) : Device := (d.bump F.STIPPLE_DELAY_LATE).raiseBit F.STIPPLE_FAULT_DELAY_LATE 0x0308 wholeDevice
    let damaged (d : Device) : Device := (d.bump F.STIPPLE_BUF_UE).raiseBit F.STIPPLE_FAULT_BUF_UE 0x0309 wholeDevice
    match d.consumeCheck q 32 with
    | (d, some _) => d
    | (d, none) =>
      match d.headRec q with
      | (d, .empty) => d
      | (d, .bad ue) => if ue then damaged d else d
      | (d, .data pos h0 h1) =>
        let e := d.desc q
        if d.ueRange (e.addr pos) (recSize (bits h0 0 17)) then
          damaged ((d.noteRange (e.addr pos) (recSize (bits h0 0 17))).freezeRec q)
        else
          let p := d.rdBytes (e.addr pos + 8) (bits h0 0 17)
          let w (k : Nat) : Nat := leNat ((p.drop (4 * k)).take 4)
          let due := (w 0 + 1 + d.fld (F.STIPPLE_DELAY1 i)) % 2 ^ 32
          let malformed := decide (bits h0 0 17 ≠ 16) || decide (bits (w 1) 8 5 ≠ 0)
            || decide (bits (w 2) 14 18 ≠ 0) || decide (w 3 ≠ 0)
          let ahead := stepDiff due u
          if malformed ∨ 2 ^ 31 ≤ ahead then
            Device.delayQueue fuel (late (d.takeRec q pos h0 h1).1) i u
          else if ahead = 0 then
            let d := ((d.takeRec q pos h0 h1).1.bump F.STIPPLE_DELAY_EVENTS).queueOut 104
              (.event u (bits (w 2) 0 14) (bits (w 1) 0 8) (d.flag (F.STIPPLE_DELAY0_MC i)) (d.delayDests i))
            Device.delayQueue fuel d i u
          else d

/-- On OPEN(u - 1) the delay unit injects every record due at u and closes step u (R162).  While the Rack is
not RUNNING it waits (R323); while source 104 is disabled or the net not RUNNING it does nothing. -/
def Device.delayInject (d : Device) : Device :=
  match d.seq.delayOpen with
  | [] => d
  | t :: rest =>
    let d' := d.modSeq (fun s => { s with delayOpen := rest })
    if !d.srcEn 104 || decide (d.stState ≠ 2) then d'
    else
      let live := (List.range 256).filter (fun i =>
        d.flag (F.STIPPLE_DELAY0_VALID i) && decide (d.fld (F.STIPPLE_DELAY1 i) ≠ 0))
      if !live.isEmpty && decide (d.fld F.RACK_STATUS_STATE ≠ 2) then d
      else
        let u := (t + 1) % 2 ^ 32
        let d := d'.each live (fun d i =>
          Device.delayQueue ((d.desc (d.fld (F.STIPPLE_DELAY0_QUEUE i))).used + 1) d i u)
        d.queueOut 104 (.close u)

/-! ### Starting and stopping (R148, R166, R167) -/

/-- The destinations whose windows over enabled sources sum to more than 4,096 (R148). -/
def Device.overWindow (d : Device) : Option Nat :=
  (List.range 64).find? (fun n =>
    decide (4096 < (((List.range 105).filter d.srcEn).map (d.win n)).foldl (· + ·) 0))

/-- Whether a unit is an event, a close or an acknowledgement: what a stop makes void. -/
def isTraffic (u : FlitUnit) : Bool := [1, 2, 4, 5].contains (fType (u.headD 0))

/-- A router with such units gone from its inputs and its output links, whose handshakes complete. -/
def SRouter.purged (r : SRouter) : SRouter :=
  { r with
    inq := r.inq.map (fun q => q.filter (fun u => !isTraffic u))
    served := (List.range 5).foldl (fun v p =>
      if isTraffic ((vget r.inq p []).headD []) then vmod v p (fun _ => []) else v) r.served
    out := r.out.map (fun l => if l.req != l.ack && isTraffic l.data then l.crossed l.data.length else l) }

/-- Events that stand in an emitter's queue when the net leaves RUNNING are discarded (R195): counted, 0x0506. -/
def Device.emitDrop (d : Device) (n : Nat) : Device :=
  let k := ((d.source (72 + n)).sendQ.filter (fun o => match o with
    | .event .. => true
    | _ => false)).length
  if k = 0 then d
  else ((d.modSource (72 + n) (fun s => { s with sendQ := s.sendQ.filter (fun o => match o with
    | .event .. => false
    | _ => true) })).bumpBy (F.GRAVER_EMIT_DISCARD n) k).raiseBit (F.GRAVER_FAULT_EMIT_DISCARD n) 0x0506 n

/-- Credits, counts and buffers cleared, and with them the events on their way, the closes and the
acknowledgements. (DEDUCED, log entry 25.) -/
def Device.clearNet (d : Device) : Device :=
  let d := d.each (List.range 105) (fun d i =>
    d.modSource i (fun s => { outq := s.outq.filter (fun u => !isTraffic u), arr := s.arr.filter (fun u => !isTraffic u) }))
  let d := d.each (List.range 8) (fun d n => d.modTracer n (fun t => { t with evq := [] }))
  let d := { d with ports := Vector.replicate 64 {}, routers := d.routers.map SRouter.purged }
  d.each (List.range 64) (fun d n =>
    ((d.put (F.PORT_STATUS_BUF_FILL n) 0).put (F.PORT_STATUS_WAITING n) 0).modCore n (fun c =>
      { c with follows := false }))

/-- The windows granted: an acknowledgement of WIN[s] to each enabled source (R166 step 2). -/
def Device.grant (d : Device) : Device :=
  d.each d.boundCores (fun d n =>
    d.each ((List.range 105).filter (fun s => d.srcEn s && decide (1 ≤ d.win n s) && (d.attach s).isSome))
      (fun d s => d.inject n (mkAck s n (d.win n s))))

/-- A start of the net (R166) up to the broadcast of OPEN(STEP_START), or its refusal with 0x0307.
(DEDUCED, log entry 19.) -/
def Device.stippleStartCore (d : Device) : Device :=
  match d.overWindow with
  | some n =>
    (((d.put F.STIPPLE_CTRL_EN 0).put F.STIPPLE_STATUS_CFG_ERR 1).put F.STIPPLE_STATUS_CFG_ERR_CORE n).raise
      0x0307 wholeDevice
  | none =>
    let s0 := d.fld F.STIPPLE_STEP_START
    let d := ((d.put F.STIPPLE_STATUS_CFG_ERR 0).put F.STIPPLE_STATUS_STATE 1).clearNet.grant
    let d := d.each (List.range 64) (fun d n =>
      (d.modCore n (fun c => { c with rackCredit := 16, prodHeld := 0, scvSeq := 0 })))
    let d := d.each d.boundCores (fun d n => d.sendCloses n s0)
    let d := (d.put F.STIPPLE_STEP s0).modSeq (fun s =>
      { s with sum := none, delayOpen := if d.srcEn 104 then [stepDiff s0 1] else [] })
    ((d.put F.STIPPLE_STATUS_STATE 2).broadcast).stippleVotes

/-- EN written 0 while RUNNING (R167); events held by emitters are discarded from here on (R195). -/
def Device.stippleStop (d : Device) : Device :=
  let d := d.put F.STIPPLE_CTRL_EN 0
  if d.stState = 2 then (d.put F.STIPPLE_STATUS_STATE 3).each (List.range 32) (fun d n => (d.emitDrop n).flushQ (72 + n))
  else d

/-- The open step of a STOPPING net completes (R167): events of the next step and those held at sources are
discarded, credits and counts cleared, STATE STOPPED. -/
def Device.stippleStopped (d : Device) : Device :=
  let d := d.takeSum
  if d.stState = 3 ∧ d.stepComplete then
    ((d.stepEnd.clearNet.modSeq (fun s => { s with delayOpen := [] })).put F.STIPPLE_STATUS_STATE 0).stippleVotes
  else d

/-! ### Rack traffic of Etch cores (R164) -/

/-- Whether a request may take a credit: one of the core's 16, produces at most 12 (R164 rule 2). -/
def EtchCore.maySend (c : EtchCore) (r : RackReq) : Bool :=
  decide (0 < c.rackCredit) && (r.due || decide (c.prodHeld < 12))

/-- An Etch port sends its next request that holds a credit. -/
def Device.rackRequestSend (n : Nat) (d : Device) : Device :=
  let c := d.core n
  match c.rackQ.find? c.maySend with
  | none => d
  | some r =>
    (d.inject n (mkRackReq r n)).modCore n (fun c => { c with
      rackQ := c.rackQ.erase r
      rackOut := c.rackOut ++ [(r, d.timebase)]
      rackCredit := c.rackCredit - 1
      prodHeld := if r.due then c.prodHeld else c.prodHeld + 1 })

/-- A credit returned. -/
def EtchCore.credit (c : EtchCore) (due : Bool) : EtchCore :=
  { c with rackCredit := min 16 (c.rackCredit + 1), prodHeld := if due then c.prodHeld else c.prodHeld - 1 }

/-- The drain of a spill queue ends (R78): the opening is complete. -/
def Device.endDrain (d : Device) (n : Nat) : Device :=
  d.modCore n (fun c => { c with draining := none, phase := if c.phase = .opening then .opened else c.phase })

/-- A record of a drain: applied when due at the step being opened, else lost; then the next request (R78, R164
rule 4). -/
def Device.drainRecord (d : Device) (n : Nat) (a b : Nat) : Device :=
  let due := bits a 0 32
  let slot := bits a 32 13
  let c := sgn 32 (bits b 0 32)
  match (d.core n).draining with
  | some t =>
    let d := if due = t then d.accAdd n slot c else d.spillLost n
    d.requestDue n t
  | none => d.spillLost n

/-- A Rack response reaches an Etch port (R164): its credit returns, a produce is answered, a drain goes on or
ends.  A core that is not ON leaves it at its port. (DEDUCED, log entry 28.) -/
def Device.rackResponse (n : Nat) (d : Device) : Device :=
  match d.arrived n [7] with
  | none => d
  | some u =>
    if !d.isOn (domEtch n) then d
    else
      let h := u.headD 0
      let kind := bits h 58 2
      let q := bits h 30 22
      let due := decide (kind ≠ 0)
      let c := d.core n
      let out := c.rackOut.find? (fun r => r.1.due == due && r.1.queue = q)
      let d := (d.takeArr n u).modCore n (fun c =>
        match out with
        | some r => ({ c with rackOut := c.rackOut.erase r } : EtchCore).credit due
        | none => c.credit due)
      match kind with
      | 0 =>
        let lost := match out with
          | some r => r.1.spill && bit h 29
          | none => false
        (if lost then d.spillLost n else d).tryComplete n
      | 1 =>
        if payChk (u.getD 1 0) (u.getD 2 0) ≠ bits h 8 16 then
          let d := d.linkLoss.spillLost n
          match (d.core n).draining with
          | some t => d.requestDue n t
          | none => d
        else d.drainRecord n (u.getD 1 0) (u.getD 2 0)
      | _ => if out.isSome then d.endDrain n else d

/-- While LOSS is set, a core that has waited STEP_LIMIT ticks for responses stops waiting for them (R164 rule
5): a drain ends with 0x040A, an unanswered spill counts as lost. -/
def Device.rackTimeout (n : Nat) (d : Device) : Device :=
  if d.flag F.STIPPLE_STATUS_LOSS then
    let late := (d.core n).rackOut.filter (fun r => d.fld F.STIPPLE_STEP_LIMIT ≤ d.since r.2)
    let d := d.modCore n (fun c => { c with rackOut := c.rackOut.filter (fun r => !late.contains r) })
    let d := d.each late (fun d r =>
      if r.1.due then (d.endDrain n).raiseBit (F.ETCH_FAULT_SPILL_LOST n) 0x040A n
      else if r.1.spill then d.spillLost n else d)
    d.tryComplete n
  else d

end Sys2Proof.Machine
end

