-- ==== Sys2Proof/Machine/Hatch.lean ====
section
/-! DEFINITION. The Hatch mesh (R226 to R255) and the Rack's Hatch endpoint (R317): port schedules, transfers,
landings, memory ports, frames, aborts and broadcast load. -/

namespace Sys2Proof.Machine

/-! ### Tokens (R226) -/

def tokCrc (kind data : Nat) : Nat := crcBits 8 0x07 128 data (crcBits 8 0x07 2 kind 0)
def mkTok (kind data : Nat) : HTok := ⟨data, kind, tokCrc kind data⟩
def HTok.ok (t : HTok) : Bool := decide (t.crc = tokCrc t.kind t.data)

/-- A token on a link: data, sideband, and the landing descriptor of the slot entry that sent it (R235). -/
def HTok.onLink (t : HTok) (desc : Nat) : List Nat := [t.data, t.kind, t.crc, desc]
def tokOf (l : List Nat) : HTok := ⟨l.getD 0 0, l.getD 1 0, l.getD 2 0⟩

/-! ### Sites and attachments (R24, R29, R237, R244) -/

/-- Whether a router lies at an Etch site. -/
def isEtchSite (s : Nat) : Bool := etchCols.contains (s % 14)

/-- The edge port of a memory edge site (R29). -/
def memPort (s : Nat) : Nat := if s < 14 then pNorth else pSouth

/-- Whether port p of router s faces the Rack, a Tracer, a Scribe. -/
def atRack (s p : Nat) : Bool := decide (s = 104) && decide (p = pSouth)
def atTracer (s p : Nat) : Bool := decide (s % 14 = 0) && decide (p = pWest)
def atMem (s p : Nat) : Bool := isMemSite s && decide (p = memPort s)

/-- The clockless row of a router is ON. -/
def Device.hrOn (d : Device) (s : Nat) : Bool := d.isOn (domHatch (s / 14))

/-! ### Status registers (R254) -/

def HRouter.ptr (r : HRouter) (out : Bool) (p : Nat) : HPtr := vget (if out then r.outp else r.inp) p {}
def HRouter.setPtr (r : HRouter) (out : Bool) (p : Nat) (x : HPtr) : HRouter :=
  if out then { r with outp := vmod r.outp p (fun _ => x) } else { r with inp := vmod r.inp p (fun _ => x) }

/-- The token that output o may take from input i now (R232). -/
def HRouter.offered (r : HRouter) (o i : Nat) : Option HTok :=
  let q := r.ptr false i
  match vget r.inq i [] with
  | [] => none
  | t :: _ => if q.run && bit q.sel o && !(vget r.taken i []).contains o then some t else none

/-- The status word of a port. -/
def ptrWord (x : HPtr) (waiting : Bool) (fill : Nat) : Word :=
  BitVec.ofNat 32 (b2n waiting <<< 31 + b2n x.done <<< 30 + b2n x.err <<< 29 + (fill % 8) <<< 26
    + (x.entry % 2048) <<< 13 + (if x.run then x.chan % 4096 else 0))

/-- OUT_STATUS and IN_STATUS of a router as its ports stand. -/
def Device.showHr (d : Device) (s : Nat) : Device :=
  let r := d.hr s
  d.each (List.range 5) (fun d p =>
    let o := r.ptr true p
    let i := r.ptr false p
    let fill := (vget r.inq p []).length
    (d.putWord (F.HR_OUT_STATUS_WAITING s p).addr
      (ptrWord o (o.run && (r.offered p o.sel).isNone) 0)).putWord (F.HR_IN_STATUS_WAITING s p).addr
      (ptrWord i (i.run && decide (0 < fill)) fill))

/-! ### Slot and fan tables (R229 to R231) -/

def tableAddr (s : Nat) (out : Bool) (p e : Nat) : Nat :=
  hrBase s + (if out then 0x10000 + 0x2000 * p else 0x20000 + 0x800 * p) + 4 * e
def tableLen (out : Bool) : Nat := if out then 2048 else 512

/-- A table error, or an uncorrectable table word: the port stops at the entry (R252). (DEDUCED, log entry 43.) -/
def Device.tableErr (d : Device) (s : Nat) (out : Bool) (p : Nat) (ue : Bool) : Device :=
  let d := d.modHr s (fun r => { r.setPtr out p { r.ptr out p with err := true, run := false } with ue := r.ue || ue })
  (if ue then d.raiseBit (F.HR_FAULT_TABLE_UE s) 0x0203 s
   else d.raiseBit (F.HR_FAULT_TABLE s) 0x0202 s).showHr s

/-- The first entry of a port in the present draft level, and whether the port runs (R233). -/
def Device.startOf (d : Device) (s : Nat) (out : Bool) (p dr : Nat) : Bool × Nat :=
  if out then (d.flag (F.HR_OUT_START_EN s p dr), d.fld (F.HR_OUT_START_ENTRY s p dr))
  else (d.flag (F.HR_FAN_START_EN s p dr), d.fld (F.HR_FAN_START_ENTRY s p dr) % 512)

/-- Whether a frame runs in the mesh at a router that is ON. -/
def Device.inFrame (d : Device) (s : Nat) : Bool :=
  decide (d.hatch.mode = 2) && decide (d.fld F.HATCH_STATUS_FSTATE = 2) && d.hrOn s

/-- The present entry of a port that is between entries: its effect when it is of the given KIND, a stop when it
is in error. -/
def Device.schedule (d : Device) (s : Nat) (out : Bool) (p kind : Nat) (f : Device → Nat → HPtr → Device) :
    Device :=
  let x := (d.hr s).ptr out p
  let a := tableAddr s out p x.entry
  if !d.inFrame s || !x.en || x.done || x.err || x.run then d
  else if tableLen out ≤ x.entry then d.tableErr s out p false
  else if d.ueAt a then d.tableErr s out p true
  else
    let w := d.ld a 4
    if bits w 30 2 = 3 then d.tableErr s out p false
    else if bits w 30 2 = kind then f d w x
    else d

/-- A RUN entry of a slot table begins (R229, R231). (DEDUCED, log entry 43.) -/
def Device.slotRun (s p : Nat) (d : Device) : Device :=
  d.schedule s true p 1 (fun d w x =>
    if 4 < bits w 27 3 then d.tableErr s true p false
    else (d.modHr s (fun r => r.setPtr true p { x with
      run := true, left := bits w 18 9 + 1, sel := bits w 27 3, desc := bits w 12 6, chan := bits w 0 12 })).showHr s)

/-- A RUN entry of a fan table begins (R230). -/
def Device.fanRun (s p : Nat) (d : Device) : Device :=
  d.schedule s false p 1 (fun d w x =>
    if bits w 25 5 = 0 then d.tableErr s false p false
    else (d.modHr s (fun r => r.setPtr false p { x with
      run := true, left := bits w 9 9 + 1, sel := bits w 25 5 })).showHr s)

/-- A LOOP entry of either table (R231).  A BODY of 0 lies outside its range and is taken as a table error.
(DEDUCED, log entry 43.) -/
def Device.slotLoop (s : Nat) (out : Bool) (p : Nat) (d : Device) : Device :=
  d.schedule s out p 2 (fun d w x =>
    let inner := bit w 29
    let body := bits w 0 11
    let start := (d.startOf s out p (d.fld F.HATCH_STATUS_DRAFT)).2
    let nested := inner && (List.range body).any (fun k =>
      let v := d.ld (tableAddr s out p (x.entry - body + k)) 4
      decide (bits v 30 2 = 2) && !bit v 29)
    if body = 0 ∨ x.entry < start + body ∨ nested then d.tableErr s out p false
    else
      let c := if inner then x.c1 else x.c0
      let more := decide (c < bits w 14 15)
      let c' := if more then c + 1 else 0
      let e' := if more then x.entry - body else x.entry + 1
      (d.modHr s (fun r => r.setPtr out p { x with
        entry := e', c0 := if inner then x.c0 else c', c1 := if inner then c' else x.c1 })).showHr s)

/-- An END entry: the port's schedule for the frame is complete (R231). -/
def Device.slotEnd (s : Nat) (out : Bool) (p : Nat) (d : Device) : Device :=
  d.schedule s out p 0 (fun d _ x => (d.modHr s (fun r => r.setPtr out p { x with done := true })).showHr s)

/-! ### Transfers (R227, R232) -/

/-- One transfer less in a RUN; the last one ends it. -/
def HPtr.oneLess (x : HPtr) : HPtr :=
  if x.left ≤ 1 then { x with left := 0, run := false, entry := x.entry + 1 } else { x with left := x.left - 1 }

/-- Tokens sent on an output counted in units of 1,024. -/
def Device.countToken (d : Device) (s o : Nat) : Device :=
  let t := vget (d.hr s).tokRest o 0 + 1
  (d.modHr s (fun r => { r with tokRest := vmod r.tokRest o (fun _ => t % 1024) })).bumpBy (F.HR_TOKENS s o)
    (t / 1024)

/-- A token that fails the check of R227 at a router. -/
def Device.badToken (d : Device) (s : Nat) : Device :=
  ((((d.bump (F.HR_LINK_ERR s)).bump F.HATCH_LINK_ERR).raiseBit (F.HR_FAULT_LINK s) 0x0201 s).modHr s
    (fun r => { r with bad := true }))

/-- Whether an output link of a router is empty. -/
def Device.hOutEmpty (d : Device) (s o : Nat) : Bool :=
  let l := vget (d.hr s).out o {}
  l.req == l.ack

/-- A token put on an output link. -/
def Device.hSend (d : Device) (s o : Nat) (t : HTok) (desc : Nat) : Device :=
  d.modHr s (fun r => { r with out := vmod r.out o (fun l => { l with data := t.onLink desc, req := !l.req }) })

/-- A transfer in SCHED (R232). -/
def Device.takeSched (d : Device) (s o : Nat) : Device :=
  let r := d.hr s
  let x := r.ptr true o
  match r.offered o x.sel with
  | none => d
  | some t =>
    let i := x.sel
    let first := (vget r.taken i []).isEmpty
    let bad := !t.ok || decide (t.kind ≠ 0)
    let d := if bad && first then d.badToken s else d
    let d := (d.hSend s o (mkTok 0 t.data) x.desc).countToken s o
    let took := o :: vget r.taken i []
    let all := (List.range 5).all (fun p => !bit (r.ptr false i).sel p || took.contains p)
    let d := d.modHr s (fun r => r.setPtr true o x.oneLess)
    let d := if all then
        d.modHr s (fun r => ({ r with
          inq := vmod r.inq i List.tail, taken := vmod r.taken i (fun _ => []) } : HRouter).setPtr false i
          (r.ptr false i).oneLess)
      else d.modHr s (fun r => { r with taken := vmod r.taken i (fun _ => took) })
    d.progress.showHr s

/-! ### Broadcast load (R249 to R251) -/

/-- The outputs that a block with a site mask needs at router s, with the mask of each copy (R145, R249). -/
def loadOuts (s sites : Nat) : List (Nat × Nat) :=
  let port (t : Nat) : Nat :=
    if t % 14 < s % 14 then pWest else if s % 14 < t % 14 then pEast
    else if t / 14 < s / 14 then pNorth else if s / 14 < t / 14 then pSouth else pLocal
  (List.range 5).filterMap (fun o =>
    let mine := (bitsSet 112 sites).filter (fun t => port t = o)
    if mine.isEmpty then none else some (o, maskOf mine))

/-- The input that output o serves: the one granted, or the earliest request among the blocks that need o (R59, R249).
Requests of one 150 ps group are ordered by the sender of commands, lowest input first (log entry 1). -/
def HRouter.loadInput (r : HRouter) (s o : Nat) : Option Nat :=
  match vget r.grant o none with
  | some i => some i
  | none => r.order.find? (fun i =>
      match vget r.load i none, vget r.inq i [] with
      | none, t :: _ => (loadOuts s (bits t.data 0 112)).any (fun e => e.1 = o)
      | some l, _ => decide (l.left = 258) && l.outs.any (fun e => e.1 = o)
      | _, _ => false)

/-- A transfer in LOAD: the head token of the input granted, a header's mask cut to the sites behind the output.
A token that failed its check goes on failing it. -/
def Device.takeLoad (d : Device) (s o : Nat) : Device :=
  let r := d.hr s
  match r.loadInput s o with
  | none => d
  | some i =>
    match vget r.inq i [] with
    | [] => d
    | t :: _ =>
      let l := (vget r.load i none).getD ⟨loadOuts s (bits t.data 0 112), 258⟩
      if (vget r.taken i []).contains o then d
      else
        let d := if !t.ok && (vget r.taken i []).isEmpty then d.badToken s else d
        let mask := ((l.outs.find? (fun e => e.1 = o)).map (·.2)).getD 0
        let data := if l.left = 258 then bits t.data 112 16 <<< 112 + mask else t.data
        let t' : HTok := ⟨data, t.kind, if t.ok then tokCrc t.kind data else tokCrc t.kind data ^^^ 1⟩
        let d := (d.hSend s o t' 0).countToken s o
        let took := o :: vget r.taken i []
        let all := l.outs.all (fun e => took.contains e.1)
        let last := decide (l.left = 1)
        let d := d.modHr s (fun r => { r with
          grant := vmod r.grant o (fun _ => if last then none else some i)
          load := vmod r.load i (fun _ => if all && last then none else some { l with left := if all then l.left - 1 else l.left })
          taken := vmod r.taken i (fun _ => if all then [] else took)
          inq := if all then vmod r.inq i List.tail else r.inq
          order := if all && last then
              r.order.erase i ++ (if 1 < (vget r.inq i []).length then [i] else [])
            else r.order })
        d.showHr s

/-- An output port takes the next token that it may (R232, R249). -/
def Device.tokenTake (s o : Nat) (d : Device) : Device :=
  if !d.hrOn s || !d.hOutEmpty s o then d
  else if d.hatch.mode = 1 then d.takeLoad s o
  else if d.inFrame s && ((d.hr s).ptr true o).run then d.takeSched s o
  else d

/-- Fields that a write may set, of the register at an address. -/
def rwMask (a : Nat) : Nat :=
  match regRow a with
  | some r => r.fields.foldl (fun m f => if f.acc = .rw then m + (2 ^ f.len - 1) <<< f.lo else m) 0
  | none => 0

/-- Whether a block would write a memory of a tile that is not IDLE (R193, R200, R222). -/
def Device.tileShut (d : Device) (a : Nat) : Bool :=
  inRange a 0x0200000000 0x20000000 && (memAt a).isSome &&
  decide (d.fld (F.GRAVER_STATUS_STATE ((a - 0x0200000000) / 0x1000000)) ≠ 0)

/-- A block's bytes written: memory bytes as they come, register words into their RW fields.
(DEDUCED, log entry 45.) -/
def Device.loadBytes (d : Device) (a : Nat) (l : List Byte) : Device :=
  d.each (List.range (l.length / 32)) (fun d j =>
    let a := a + 32 * j
    let l := (l.drop (32 * j)).take 32
    if (memAt a).isSome then d.st a (heldBytes a l)
    else d.each (List.range 8) (fun d k =>
      let v := leNat ((l.drop (4 * k)).take 4)
      let b := a + 4 * k
      let m := rwMask b
      if m = 0 then d else d.putWord b (BitVec.ofNat 32 (((d.word b).toNat &&& (2 ^ 32 - 1 - m)) ||| (v &&& m)))))

/-- A block written; a control register at the start of a core's or tile's window acts as a write of it does.  A block
for a memory of a tile that is not IDLE is discarded, with an access error of the path that loads, SCRIBE[0]'s.
(DEDUCED, log entry 45.) -/
def Device.loadWords (d : Device) (a : Nat) (l : List Byte) : Device :=
  let d := if d.tileShut a then d.accError (iniScribe 0) 4 a else d.loadBytes a l
  if a % 0x1000000 ≠ 0 then d
  else if inRange a 0x0100000000 0x40000000 then d.etchCtrlWrite ((a - 0x0100000000) / 0x1000000) (d.word a)
  else if inRange a 0x0200000000 0x20000000 then d.tileRunWrite ((a - 0x0200000000) / 0x1000000) (d.word a)
  else d

/-- A block received (R250, R251). (DEDUCED, log entry 45.) -/
def Device.loadBlock (s : Nat) (d : Device) : Device :=
  let r := d.hr s
  if !d.hrOn s || decide (d.hatch.mode ≠ 1) || decide (r.rx.length < 258) then d
  else
    let blk := r.rx.take 258
    let d := d.modHr s (fun r => { r with rx := r.rx.drop 258 })
    let h0 := ((blk.getD 0 ⟨0, 0, 0⟩).data)
    let h1 := ((blk.getD 1 ⟨0, 0, 0⟩).data)
    let off := bits h1 0 32
    let base : Option (Nat × Nat) :=
      if bit h1 32 then some (hrBase s, 0x40000)
      else match d.etchAtSite s, d.graverAtSite s with
        | some n, _ => if d.isOn (domEtch n) then some (etchBase n, 0x1000000) else none
        | none, some n => if d.isOn (domGraver n) then some (graverBase n, 0x1000000) else none
        | none, none => none
    let hdr (d : Device) : Device := d.raiseBit F.HATCH_FAULT_LOAD_HDR 0x0206 wholeDevice
    match base with
    | none => hdr d
    | some (b, len) =>
      if off % 4096 ≠ 0 ∨ len < off + 4096 ∨ ((memAt (b + off)).isNone ∧ (regRow (b + off)).isNone) then hdr d
      else
        let data := (blk.drop 2).flatMap (fun t => leBytes 16 t.data)
        let crc := (crcBytesLsb 0xEDB88320 0xFFFFFFFF data) ^^^ 0xFFFFFFFF
        let links := blk.all HTok.ok && (blk.take 2).all (fun t => t.kind = 1) && (blk.drop 2).all (fun t => t.kind = 2)
        let d := d.loadWords (b + off) data
        if links && decide (crc = bits h1 64 32) && decide (bits h0 112 16 = d.fld F.HATCH_LOAD_CTRL) then
          let k := bits h1 53 11
          let f := F.HR_LOAD_MAP s (k / 32)
          d.put f (d.fld f ||| 1 <<< (k % 32))
        else (d.bump F.HATCH_LOAD_CRC).raiseBit F.HATCH_FAULT_LOAD_CRC 0x0205 wholeDevice

/-- A write of LOAD_CTRL clears every LOAD_MAP (R251). -/
def Device.loadWindow (w : Word) (d : Device) : Device :=
  (d.put F.HATCH_LOAD_CTRL (bits w.toNat 0 16)).each (List.range 112) (fun d s =>
    d.clearRegs (hrBase s + 0x400) 0x100)

/-! ### Crossing links (R40, R237, R238) -/

/-- The digest of an endpoint over a token accepted there (R456): PRESS[k] is k, the Rack 4, port j of MC[m]
5 + 2m + j. -/
def Device.digTok (d : Device) (e data : Nat) : Device :=
  d.modHatch (fun h => { h with dig := vmod h.dig e (fun c => crc64From c (leBytes 16 data)) })
def memDigest (s : Nat) : Nat :=
  let j := if s = 3 ∨ s = 9 ∨ s = 101 ∨ s = 107 then 0 else 1
  5 + 2 * memCtl s + j

def Device.hRoom (d : Device) (s p : Nat) : Bool := decide ((vget (d.hr s).inq p []).length < 4)
def Device.hEnter (d : Device) (s p : Nat) (t : HTok) : Device :=
  let ask := decide (d.hatch.mode = 1) && (vget (d.hr s).inq p []).isEmpty && (vget (d.hr s).load p none).isNone
  (d.modHr s (fun r => { r with
    inq := vmod r.inq p (fun q => q ++ [t]), order := if ask then r.order ++ [p] else r.order })).progress.showHr s

/-- A token as a disturbed link delivers it. -/
def disturbTok (flip : List Nat) (t : HTok) : HTok :=
  ⟨t.data ^^^ (flip.getD 0 0 % 2 ^ 128), t.kind ^^^ (flip.getD 1 0 % 4), t.crc ^^^ (flip.getD 2 0 % 256)⟩

/-- The token on an output link accepted by what stands there. -/
def Device.hAck (d : Device) (s o : Nat) : Device :=
  (d.modHr s (fun r => { r with out := vmod r.out o (fun l => { l with ack := l.req }) })).progress.showHr s

/-- A token that lands (R236): the first of a descriptor's pair is kept, the second waits at the port. -/
def Device.landTok (d : Device) (s o desc data : Nat) : Device :=
  let r := d.hr s
  if r.halves.any (fun e => e.1 = desc) then
    if r.pend.any (fun e => e.1 = o) then d
    else (d.modHr s (fun r => { r with pend := r.pend ++ [(o, desc, data)] })).hAck s o
  else (d.modHr s (fun r => { r with halves := r.halves ++ [(desc, data)] })).hAck s o

/-- The entry of an endpoint list of the Rack: QUEUE, LAST, RECORDS and TOKENS (R317). -/
structure RhEntry where
  queue : Nat
  last : Bool
  records : Nat
  tokens : Nat
  deriving DecidableEq, Repr
def Device.rhEntry (d : Device) (isOut : Bool) (e : Nat) : RhEntry :=
  let w (k : Nat) : Nat := d.fld (if isOut then F.RACK_RH_OUT e k else F.RACK_RH_IN e k)
  ⟨bits (w 0) 0 22, bit (w 0) 31, bits (w 1) 20 12 + 1, bits (w 1) 0 12 + 1⟩

/-- Whether an abort has the mesh discard every token offered, and tiles write nothing further (R248 steps 2, 3). -/
def Device.aborting (d : Device) : Bool := decide (d.hatch.mode = 2) && decide (d.fld F.HATCH_STATUS_FSTATE = 3)

/-- Whether a record of the Rack's Hatch endpoint waits under BLOCK, which holds its port (R309). -/
def Device.rhHeld (d : Device) : Bool := d.rack.waits.any (fun w => w.claimant = iniRack)

/-- The token on output o of router s crosses its link (R40); in an abort it is accepted and discarded (R248). -/
def Device.hatchOut (s o : Nat) (flip : List Nat) (d : Device) : Device :=
  let l := vget (d.hr s).out o {}
  if l.req = l.ack ∨ ¬ d.hrOn s then d
  else if d.aborting then d.hAck s o
  else
    let t := disturbTok flip (tokOf l.data)
    match (if o = pLocal then none else neighbour s o) with
    | some (s', p') => if d.hRoom s' p' then (d.hAck s o).hEnter s' p' t else d
    | none =>
      if d.hatch.mode = 1 then
        if o = pLocal ∧ (d.hr s).rx.length < 516 then
          (d.modHr s (fun r => { r with rx := r.rx ++ [t] })).hAck s o
        else d
      else if o = pLocal then
        if isEtchSite s then (if ((d.hr s).ptr true o).err then d else d.tableErr s true o false)
        else if (d.servedTile s).isSome then d.landTok s o (l.data.getD 3 0) t.data else d
      else if atMem s o then
        let r := d.hr s
        let desc := l.data.getD 3 0
        if r.halves.any (fun e => e.1 = desc) && r.pend.any (fun e => e.1 = o) then d
        else (d.digTok (memDigest s) t.data).landTok s o desc t.data
      else if atRack s o then
        let e := d.rack.rhIn
        if e.active ∧ e.toks.length < (d.rhEntry false e.entry).tokens ∧ ¬ d.rhHeld then
          ((d.digTok 4 t.data).modRack (fun r => { r with rhIn := { e with toks := e.toks ++ [t.data] } })).hAck s o
        else d
      else d

/-- The next token that an attachment offers enters router s at port p (R237, R238), or is discarded in an abort
(R248). -/
def Device.hatchIn (s p : Nat) (flip : List Nat) (d : Device) : Device :=
  if !d.hrOn s || !d.hRoom s p || decide (d.hatch.mode ≠ 2) then d
  else
    let put (d : Device) (x : Nat) : Device :=
      (if d.aborting then d else d.hEnter s p (disturbTok flip (mkTok 0 x))).ackLink (linkHatch s p) 1
    if p = pLocal then
      match d.servedTile s, d.servedCore s with
      | some n, _ =>
        match (d.tile n).hout with
        | x :: rest => put (d.modTile n (fun t => { t with hout := rest })) x
        | [] => d
      | none, some n =>
        match (d.core n).scvBuf with
        | (x :: rest) :: more =>
          let d := d.modCore n (fun c => { c with scvBuf := if rest.isEmpty then more else rest :: more })
          put (d.put (F.SCV_STATUS n) (d.core n).scvBuf.length) x
        | _ => d
      | none, none => d
    else if atMem s p || atRack s p || atTracer s p then
      match (d.hr s).offer with
      | x :: rest => put (d.modHr s (fun r => { r with offer := rest })) x
      | [] => d
    else d

/-- A broadcast-load token that Scribe n offers at its edge port (R249). -/
def Device.hatchLoad (n kind data : Nat) (flip : List Nat) (d : Device) : Device :=
  let s := scribeSite n
  if d.hrOn s && d.hRoom s pSouth && decide (d.hatch.mode = 1) then
    (d.hEnter s pSouth (disturbTok flip (mkTok kind data))).ackLink (linkHatch s pSouth) 1
  else d

/-! ### Landing (R235, R236) -/

/-- The four words of a landing descriptor. -/
def descWord (s desc k : Nat) : Nat := hrBase s + 0x30000 + 16 * desc + 4 * k

/-- The region of a controller (R331). -/
def inRegion (m a : Nat) : Bool := inRange a (lpBase + m * 0xF0000000) 0xF0000000

/-- A landing counter incremented (R201, R236). (DEDUCED, log entry 45.) -/
def Device.countLanding (d : Device) (n w0 : Nat) : Device :=
  if bit w0 28 then
    let f := F.GRAVER_LC n (bits w0 25 3)
    d.put f ((d.fld f + 1) % 2 ^ 32)
  else d

/-- The pair of tokens waiting at port p of router s lands as one word (R236); in an abort it is discarded (R248).
clash: same-word conflicts that fall on the landing (R190). -/
def Device.tokenLanding (s p : Nat) (clash : List Clash) (d : Device) : Device :=
  let r := d.hr s
  match r.pend.find? (fun e => e.1 = p) with
  | none => d
  | some (_, desc, hi) =>
    if d.aborting then d.modHr s (fun r => { r with pend := r.pend.filter (fun e => e.1 ≠ p) })
    else if !d.hrOn s || ((r.ptr true p).err) then d
    else if d.ueAt (descWord s desc 0) then d.tableErr s true p true
    else
      let w (k : Nat) : Nat := d.ld (descWord s desc k) 4
      let lo := ((r.halves.find? (fun e => e.1 = desc)).map (·.2)).getD 0
      let word := lo + hi <<< 128
      let k := nget r.counts desc
      let target := bits (w 0) 29 3
      let fin (d : Device) : Device :=
        (d.modHr s (fun r => { r with
          pend := r.pend.filter (fun e => e.1 ≠ p)
          halves := r.halves.filter (fun e => e.1 ≠ desc)
          counts := nput r.counts desc (k + 1) })).progress
      let mem := atMem s p
      if target = 5 then fin d
      else if target = 6 ∧ mem then
        let a := w 3 <<< 8 + 32 * k
        if !inRegion (memCtl s) a then d.tableErr s true p false
        else if !d.isOn (domMc (memCtl s)) then d
        else if d.inTable a then fin d
        else
          let x := d.storeLp 2 a (leBytes 32 word)
          fin (if x.2 then x.1 else x.1.modHr s (fun r => { r with bad := true }))
      else if target ≥ 6 ∨ mem then d.tableErr s true p false
      else
        match d.servedTile s with
        | none => d
        | some n =>
          if !d.isOn (domGraver n) then d
          else if target = 0 then
            let rl := if bits (w 1) 16 16 = 0 then 65536 else bits (w 1) 16 16
            let a := (bits (w 0) 0 17 + k % rl + k / rl * bits (w 2) 0 17) % 131072
            let foreign := decide (d.bankOwner n a ≠ 0)
            let d := d.withClash n clash (fun d => d.spWrite n 0 a word)
            fin (if foreign then d else d.countLanding n (w 0))
          else
            let q := target - 1
            if 64 ≤ (vget (d.tile n).land q []).length then d
            else fin ((d.modTile n (fun t => { t with land := vmod t.land q (fun l => l ++ [word]) })).countLanding n (w 0))

/-! ### Memory edge ports (R239, R335) -/

/-- Whether an address may be reached by controller m's memory ports: in its region and not in the Rack's table
(R303, R335). -/
def Device.portMem (d : Device) (m a : Nat) : Bool := inRegion m a && !d.inTable a

/-- The next source-list entry of a memory edge port read, and its tokens offered: zero for addresses outside the usable
range (R35, R239) and in the Rack's table (R303).  An entry that addresses outside its controller's region is a table
error (R335): one that reaches another region offers nothing; one that leaves the usable range offers its tokens, and
the port stops there. (DEDUCED, log entry 124.) -/
def Device.memPortRead (s : Nat) (d : Device) : Device :=
  let r := d.hr s
  let a := hrBase s + 0x31000 + 8 * r.memEntry
  let p := memPort s
  if !isMemSite s || !d.inFrame s || !r.edgeBusy || !r.offer.isEmpty || ((r.ptr false p).err) then d
  else if 256 ≤ r.memEntry then d.modHr s (fun r => { r with edgeBusy := false })
  else if d.ueAt a then d.tableErr s false p true
  else
    let w0 := d.ld a 4
    let w1 := d.ld (a + 4) 4
    let addr := bits w0 5 27 <<< 5 + bits w1 0 8 <<< 32
    let n := bits w1 16 15 + 1
    let m := memCtl s
    let at_ := (List.range n).map (fun k => addr + 16 * k)
    let usable (x : Nat) : Bool := decide (lpBase ≤ x) && decide (x < lpEnd)
    if !bit w1 31 then d.modHr s (fun r => { r with edgeBusy := false })
    else if at_.any (fun x => usable x && !inRegion m x) then d.tableErr s false p false
    else if !d.isOn (domMc m) then d
    else
      let bad := at_.any (fun x => d.portMem m x && d.ueAt x)
      let toks := at_.map (fun x => if d.portMem m x then d.ld x 16 else 0)
      let d := d.each (at_.filter (d.portMem m)) (fun d x => d.noteRun addr x)
      let d := if at_.all usable then d
        else (d.modHr s (fun r => r.setPtr false p { r.ptr false p with err := true })).raiseBit (F.HR_FAULT_TABLE s)
          0x0202 s
      (d.modHr s (fun r => { r with
        offer := toks, memEntry := r.memEntry + 1, bad := r.bad || bad })).progress

/-! ### The Rack's Hatch endpoint (R317) -/

/-- A record of an endpoint list done; after the entry's last record, or where the entry ends early, the next entry, or
the list's end.  A list that runs past its last entry ends with 0x0187. (DEDUCED, log entry 47.) -/
def Device.rhNext (d : Device) (isOut early : Bool) (x : Endpoint) : Device :=
  let e := d.rhEntry isOut x.entry
  let fin := decide (e.records ≤ x.recs + 1) || early
  let y : Endpoint := if fin then { x with
      active := !e.last && decide (x.entry < 63), entry := x.entry + 1, recs := 0 }
    else { x with recs := x.recs + 1 }
  let d := if fin && !e.last && decide (63 ≤ x.entry) then
      d.rackFault F.RACK_FAULT_ENDPOINT 0x0187 e.queue else d
  d.modRack (fun r => if isOut then { r with rhOut := y } else { r with rhIn := y })

/-- A group of TOKENS taken tokens becomes one record, once no earlier record of the endpoint waits. -/
def Device.rhInRecord (d : Device) : Device :=
  let x := d.rack.rhIn
  let e := d.rhEntry false x.entry
  let n := e.tokens
  if !d.isOn domRack || !x.active || decide (x.toks.length < n) || d.rhHeld then d
  else
    let d := (d.produce e.queue iniRack (16 * n) ((x.toks.take n).flatMap (leBytes 16))).1
    d.rhNext false false { x with toks := x.toks.drop n }

/-- A record of the entry's queue consumed and offered as TOKENS tokens; zeros for the rest of the entry from a
queue that supplies nothing. (DEDUCED, log entry 47.) -/
def Device.rhOutRecord (d : Device) : Device :=
  let x := d.rack.rhOut
  let e := d.rhEntry true x.entry
  if !d.isOn domRack || !x.active || !(d.hr 104).offer.isEmpty then d
  else
    let give (d : Device) (toks : List Nat) : Device := (d.modHr 104 (fun r => { r with offer := toks })).progress
    match d.consume e.queue iniRack with
    | (d, .stopped) => d
    | (d, .empty) => d
    | (d, .got _ _ p) =>
      let cut := decide (16 * e.tokens < p.length)
      let d := if cut then (d.bump F.RACK_TRUNC).rackFault F.RACK_FAULT_ENDPOINT 0x0187 e.queue else d
      let p := (p ++ List.replicate (16 * e.tokens - p.length) 0).take (16 * e.tokens)
      (give d ((List.range e.tokens).map (fun k => leNat ((p.drop (16 * k)).take 16)))).rhNext true false x
    | (d, _) =>
      let x := { x with bad := true }
      (give d (List.replicate ((e.records - x.recs) * e.tokens) 0)).rhNext true true x

/-! ### Frames (R240 to R242) -/

/-- A port's pointer at frame start in draft level dr (R231, R233). -/
def Device.startPtr (d : Device) (s dr : Nat) (out : Bool) (p : Nat) : HPtr :=
  let x := d.startOf s out p dr
  { en := x.1, entry := x.2 }

/-- A router at frame start (R231, R236, R239). -/
def Device.hrStart (d : Device) (s dr : Nat) : Device :=
  let ptr := d.startPtr s dr
  let mem := isMemSite s && d.flag (F.HR_MEM_START_EN s dr)
  let e := d.fld (F.HR_MEM_START_ENTRY s dr)
  (d.modHr s (fun r => { r with
    outp := Vector.ofFn (fun p : Fin 5 => ptr true p.val)
    inp := Vector.ofFn (fun p : Fin 5 => ptr false p.val)
    halves := [], counts := [], pend := [], offer := [], edgeBusy := mem, memEntry := e
    reported := false, bad := false, ue := false })).showHr s

/-- The vote of client 25 for every row (R241, R352). -/
def Device.meshVote (d : Device) (v : Nat) : Device :=
  d.each (List.range 8) (fun d r => d.setVote 25 (domHatch r) v)

/-- START(f + 1, dr) as routers, tiles and the Rack's endpoint take it (R241). -/
def Device.meshStart (d : Device) (dr : Nat) : Device :=
  let f := (d.fld F.HATCH_FRAME + 1) % 2 ^ 32
  let d := ((d.put F.HATCH_FRAME f).put F.HATCH_STATUS_FSTATE 2).put F.HATCH_STATUS_DRAFT dr
  let d := d.modHatch (fun h => { h with
    idle := 0, startAt := some d.timebase, ready := 0, dig := Vector.replicate 14 0, limit := d.fld F.HATCH_STALL_LIMIT })
  let d := (d.meshVote 2).each (List.range 32) (fun d n =>
    if d.fld (F.GRAVER_STATUS_STATE n) = 1 then d.setVote 25 (domGraver n) 2 else d)
  let d := d.each (List.range 32) (fun d n => d.tileBoundary n)
  let d := d.each (List.range 112) (fun d s => d.hrStart s dr)
  let d := d.modRack (fun r => { r with
    rhIn := { active := d.flag (F.RACK_RH_IN_START_EN dr), entry := d.fld (F.RACK_RH_IN_START_ENTRY dr) }
    rhOut := { active := d.flag (F.RACK_RH_OUT_START_EN dr), entry := d.fld (F.RACK_RH_OUT_START_ENTRY dr) } })
  (d.each (List.range 32) (fun d n => d.tileStart n dr)).enterRun

/-- Whether the endpoints at a router have completed the frame (R242), and whether one of them was BAD. -/
def Device.endpointsDone (d : Device) (s : Nat) : Bool :=
  let r := d.hr s
  let tile := match d.servedTile s with
    | some n => decide (d.fld (F.GRAVER_STATUS_STATE n) < 2) && (d.tile n).due.isNone && (d.tile n).hout.isEmpty
    | none => true
  let rack := if s = 104 then !d.rack.rhIn.active && !d.rack.rhOut.active && !d.rhHeld else true
  tile && rack && !r.edgeBusy && r.offer.isEmpty && r.pend.isEmpty
def Device.endpointsBad (d : Device) (s : Nat) : Bool :=
  (match d.servedTile s with
    | some n => (d.tile n).bad || (d.tile n).doneBad.getD false
    | none => false) || (decide (s = 104) && d.rack.rhOut.bad)

/-- A router reports DONE on the frame tree (R242). -/
def Device.routerDone (s : Nat) (d : Device) : Device :=
  let r := d.hr s
  let ports := (List.range 5).all (fun p =>
    let o := r.ptr true p
    let i := r.ptr false p
    (!o.en || o.done) && (!i.en || i.done) && d.hOutEmpty s p)
  if d.inFrame s && !r.reported && ports && d.endpointsDone s then
    d.modHr s (fun r => { r with reported := true, bad := r.bad || d.endpointsBad s })
  else d

/-- Whether every node has reported, and whether any was BAD. -/
def Device.meshDone (d : Device) : Bool := (List.range 112).all (fun s => (d.hr s).reported)
def Device.meshBad (d : Device) : Bool := (List.range 112).any (fun s => (d.hr s).bad)

/-- The mode written comes into force (R253). (DEDUCED, log entry 44.) -/
def Device.modeApply (d : Device) : Device :=
  let m := d.fld F.HATCH_CTRL_MODE
  let m := if m = 3 then 0 else m
  (d.modHatch (fun h => { h with mode := m })).put F.HATCH_STATUS_FSTATE (if m = 2 then 1 else 0)

/-- The frame boundary (R241): a mode written comes into force, tiles take RUN, claims and releases. -/
def Device.meshBoundary (d : Device) : Device :=
  let d := (d.meshVote 0).each (List.range 32) (fun d n => d.setVote 25 (domGraver n) 0)
  d.modeApply.each (List.range 32) (fun d n => d.tileBoundary n)

/-- A write of CTRL.MODE (R253). -/
def Device.hatchMode (w : Word) (d : Device) : Device :=
  let d := d.put F.HATCH_CTRL_MODE (bits w.toNat 0 2)
  if d.frameOn then d else d.modeApply

/-! ### The sentinel and aborts (R247, R248) -/

/-- The output ports that wait, in ascending site and port. -/
def Device.waitingPorts (d : Device) : List (Nat × Nat) :=
  (List.range 112).flatMap (fun s =>
    ((List.range 5).filter (fun p => ((d.hr s).ptr true p).run)).map (fun p => (s, p)))

/-- STALL_CHAN from the waiting ports. (DEDUCED, log entry 44.) -/
def Device.stallChans (d : Device) : Device :=
  let l := d.waitingPorts.take 16
  let chan (k : Nat) : Nat := match l[k]? with
    | some (s, p) => ((d.hr s).ptr true p).chan
    | none => 0
  d.each (List.range 8) (fun d i =>
    let d := (d.put (F.HATCH_STALL_CHAN_VALID0 i) (b2n (decide (2 * i < l.length)))).put
      (F.HATCH_STALL_CHAN_CHAN0 i) (chan (2 * i))
    (d.put (F.HATCH_STALL_CHAN_VALID1 i) (b2n (decide (2 * i + 1 < l.length)))).put
      (F.HATCH_STALL_CHAN_CHAN1 i) (chan (2 * i + 1)))

/-- A field of a number replaced. -/
def natField (x lo len v : Nat) : Nat := x - bits x lo len <<< lo + (v % 2 ^ len) <<< lo

/-- An instruction in progress cut short (R248 step 2): an MMA over the elements it has completed, with its preload or
clear; an LDS over its words; a DRAIN over its rows; a MOVE over its words, whose tokens are discarded.
(DEDUCED, log entry 46.) -/
def Device.cutTile (d : Device) (c : Cut) : Device :=
  let n := c.tile
  if !d.isOn (domGraver n) || !d.mayExec n c.place then d
  else match (d.tile n).issued[c.place]? with
  | none => d
  | some i =>
    let short (lo len : Nat) : Issued := { i with word := natField i.word lo len (min c.cycles (bits i.word lo len) - 1) }
    match opOf i.word with
    | 2 =>
      let i' : Issued := if c.cycles = 0 then { i with gated := true } else short 18 16
      let r := d.streamIn n i' (d.landNeed n i')
      r.2.mmaExec n r.1
    | 3 => Device.drainGo n i 0 (min 32 ((d.tile n).drained + c.cycles)) 33 d
    | 4 =>
      if c.cycles = 0 then d
      else
        let r := d.streamIn n (short 37 12) (d.landNeed n (short 37 12))
        r.2.ldsExec n r.1
    | 5 => if c.cycles = 0 then d else d.moveExec n (short 38 16)
    | _ => d

/-- An abort begins (R248 steps 1 and 2). (DEDUCED, log entry 46.) -/
def Device.meshAbort (d : Device) (code : Nat) (cuts : List Cut) : Device :=
  let d := (d.put F.HATCH_STATUS_FSTATE 3).modHatch (fun h => { h with
    abortAt := d.timebase, abortCode := code })
  let d := d.each cuts (fun d c => d.cutTile c)
  d.each (List.range 32) (fun d n =>
    d.modTile n (fun t => { t with
      issued := [], completing := [], ended := true, due := none, drained := 0, rest := [], held := [] }))

/-- The sentinel expires (R247); suspended says that it is suspended. -/
def Device.sentinel (d : Device) (suspended : Bool) (cuts : List Cut) : Device :=
  if d.fld F.HATCH_STATUS_FSTATE = 2 ∧ ¬ suspended ∧ d.hatch.limit ≤ d.hatch.idle then
    ((d.raiseBit F.HATCH_FAULT_STALL 0x0210 wholeDevice).stallChans).meshAbort 0x0210 cuts
  else d

/-- A write of CTRL.ABORT = 1 (R248, R253). (DEDUCED, log entry 46.) -/
def Device.hatchAbort (cuts : List Cut) (d : Device) : Device :=
  if d.fld F.HATCH_STATUS_FSTATE = 2 then
    (d.raiseBit F.HATCH_FAULT_POLICY_ABORT 0x0212 wholeDevice).meshAbort 0x0212 cuts
  else d

/-- A router after the discard of an abort (R248 step 3): its links, inputs and landings empty, their handshakes
complete. -/
def HRouter.rewound (r : HRouter) : HRouter :=
  { tokRest := r.tokRest, rx := r.rx, out := r.out.map (fun l => { l with ack := l.req }) }

/-- A router after the rewind (R248 step 4): its pointers at the START entries of draft level dr. -/
def Device.hrRewind (d : Device) (s dr : Nat) : Device :=
  (d.modHr s (fun r => { r.rewound with
    outp := Vector.ofFn (fun p : Fin 5 => d.startPtr s dr true p.val)
    inp := Vector.ofFn (fun p : Fin 5 => d.startPtr s dr false p.val)
    memEntry := d.fld (F.HR_MEM_START_ENTRY s dr) })).showHr s

/-- The discard and rewind of an abort: tokens offered by tiles, export ports and edge attachments discarded, links
empty, pointers and counters as at frame start, tiles READY. (DEDUCED, log entry 46.) -/
def Device.meshRewind (d : Device) : Device :=
  let dr := d.fld F.HATCH_STATUS_DRAFT
  let d := d.each (List.range 112) (fun d s => d.hrRewind s dr)
  let d := d.each ((List.range 64).filter (fun n => !(d.core n).scvBuf.isEmpty)) (fun d n =>
    (d.modCore n (fun c => { c with scvBuf := [] })).put (F.SCV_STATUS n) 0)
  let d := d.modRack (fun r => { r with rhIn := {}, rhOut := {} })
  d.each (List.range 32) (fun d n =>
    let d := d.each (List.range 8) (fun d c => d.put (F.GRAVER_LC n c) 0)
    let d := if 2 ≤ d.fld (F.GRAVER_STATUS_STATE n) then d.put (F.GRAVER_STATUS_STATE n) 1 else d
    (d.modTile n (fun t => { t with
      pc := d.fld (F.GRAVER_PROG_ENTRY n dr), issued := [], completing := []
      due := none, drained := 0, rest := [], held := [], ended := false, loops := [], pred := true, predLeft := 0, ags := Vector.replicate 16 {}
      land := Vector.replicate 4 [], hout := [], bad := false, doneBad := none })).showPc n)

/-- The end of an abort (R248 step 6). -/
def Device.meshAbortEnd (d : Device) : Device :=
  ((((d.meshRewind.bump F.HATCH_ABORTS).put F.HATCH_ABORT_TIME (min (d.since d.hatch.abortAt) (2 ^ 32 - 1))).put
    F.HATCH_STATUS_FSTATE 1).modHatch (fun h => { h with lastAborted := true })).meshBoundary

/-- A rewind that fails or takes longer than 150 µs (R248): 0x0211, MODE IDLE. -/
def Device.rewindFails (d : Device) : Device :=
  let d := (d.raiseBit F.HATCH_FAULT_REWIND 0x0211 wholeDevice).put F.HATCH_CTRL_MODE 0
  ((d.put F.HATCH_STATUS_FSTATE 1).modHatch (fun h => { h with lastAborted := true })).meshBoundary

end Sys2Proof.Machine
end

