-- ==== Sys2Proof/Machine/Csi2.lean ====
section
/-! DEFINITION. The CSI-2 ports (R256 to R271): receive checks, frames on channels, errors, enabling and
disabling, deskew and transmission. -/

namespace Sys2Proof.Machine

/-! ### Registers of both port kinds -/

def CsiPort.base : CsiPort → Nat
  | .rx n => tracerBase n.val
  | .tx k => pressBase k.val
def CsiPort.isTx : CsiPort → Bool
  | .rx _ => false
  | .tx _ => true
def CsiPort.dom : CsiPort → Nat
  | .rx n => domTracer n.val
  | .tx k => domPress k.val
def CsiPort.unit : CsiPort → Nat
  | .rx n => n.val
  | .tx k => k.val

/-- LINK_CTRL, LINK_RATE, LINK_STATUS and LINK_ERR.CFG of a port (R270). -/
def CsiPort.en (p : CsiPort) : Fld := ⟨p.base, 31, 1⟩
def CsiPort.cphy (p : CsiPort) : Fld := ⟨p.base, 30, 1⟩
def CsiPort.width (p : CsiPort) : Fld := ⟨p.base, 28, 2⟩
def CsiPort.vcx (p : CsiPort) : Fld := ⟨p.base, 27, 1⟩
def CsiPort.laneMap (p : CsiPort) : Fld := ⟨p.base, 16, 8⟩
def CsiPort.rate (p : CsiPort) : Fld := ⟨p.base + 4, 0, 16⟩
def CsiPort.enabled (p : CsiPort) : Fld := ⟨p.base + 8, 31, 1⟩
def CsiPort.cfgErr (p : CsiPort) : Fld := ⟨p.base + 8, 30, 1⟩
def CsiPort.hs (p : CsiPort) : Fld := ⟨p.base + 8, 29, 1⟩
def CsiPort.deskewed (p : CsiPort) : Fld := ⟨p.base + 8, 28, 1⟩
def CsiPort.stop (p : CsiPort) : Fld := ⟨p.base + 8, 24, 4⟩
def CsiPort.rateActual (p : CsiPort) : Fld := ⟨p.base + 8, 0, 16⟩
def CsiPort.errCfg (p : CsiPort) : Fld := ⟨p.base + 0x10, 6, 1⟩

def Device.csi (d : Device) : CsiPort → CsiLink
  | .rx n => (d.tracer n.val).link
  | .tx k => (d.press k.val).link
def Device.modCsi (d : Device) (p : CsiPort) (f : CsiLink → CsiLink) : Device :=
  match p with
  | .rx n => d.modTracer n.val (fun t => { t with link := f t.link })
  | .tx k => d.modPress k.val (fun t => { t with link := f t.link })

/-- Payload bytes counted in units of 1,024. -/
def Device.countBytes (d : Device) (p : CsiPort) (n : Nat) : Device :=
  let t := (d.csi p).byteRest + n
  (d.modCsi p (fun l => { l with byteRest := t % 1024 })).bumpBy ⟨p.base + 0x28, 0, 32⟩ (t / 1024)

/-! ### Receive errors (R263 to R265, R270, R283) -/

/-- A receive error: its header recorded when no bit of LINK_ERR stood, its bit and code. -/
def Device.rxError (d : Device) (n : Nat) (f : Fld) (code vc dt wc : Nat) : Device :=
  let d := if d.word (F.TRACER_LINK_ERR_PHY n).addr ≠ 0 then d
    else d.putWord (F.TRACER_ERR_HDR_VALID n).addr
      (BitVec.ofNat 32 (1 <<< 31 + vc <<< 26 + dt <<< 20 + (code % 16) <<< 16 + wc))
  d.raiseBit f code n

/-- Something for ingest, in link order. -/
def Device.ingest (d : Device) (n : Nat) (x : RxItem) : Device :=
  d.modTracer n (fun t => { t with rxq := t.rxq ++ [x] })

/-- Whether a frame is open on a channel. -/
def Device.frameOpen (d : Device) (n vc : Nat) : Bool := bit (d.fld (F.TRACER_FRAME_OPEN n)) vc


/-- A frame sequence error (R264). -/
def Device.syncError (d : Device) (n vc dt wc : Nat) : Device :=
  (d.bump (F.TRACER_SYNC_ERR n)).rxError n (F.TRACER_LINK_ERR_SYNC n) 0x0606 vc dt wc

/-- A packet of a type or channel not accepted (R263). -/
def Device.dtError (d : Device) (n vc dt wc : Nat) : Device :=
  (d.bump (F.TRACER_DT_ERR n)).rxError n (F.TRACER_LINK_ERR_DT n) 0x0605 vc dt wc

/-- The channel a header names (R263, R270). -/
def Device.rxChannel (d : Device) (n vc : Nat) : Nat :=
  let p := CsiPort.rx (Fin.ofNat 8 n)
  if !d.flag p.vcx then vc % 4 else if d.flag p.cphy then vc % 32 else vc % 16

/-- The role of a channel: 0 INPUT, 1 MIRROR, 2 IMAGE_LOAD, 3 not accepted (R263, R270, R272). -/
def Device.rxRole (d : Device) (n vc : Nat) : Nat :=
  if d.flag (F.TRACER_RX_VCMAP_EN n vc) && decide (d.fld (F.TRACER_RX_VCMAP_STREAM n vc) < 4)
  then d.fld (F.TRACER_RX_VCMAP_ROLE n vc) else 3

/-- The stream that a channel's entry names. -/
def Device.streamOf (d : Device) (n vc : Nat) : Nat := d.fld (F.TRACER_RX_VCMAP_STREAM n vc)

/-- An incomplete or damaged frame of an INPUT channel told to ingest (R283). -/
def Device.lossMark (d : Device) (n vc code : Nat) : Device :=
  if d.rxRole n vc = 0 then d.ingest n (.loss (d.streamOf n vc) vc code) else d

/-- A packet discarded under R265 on a known channel: its open frame is marked LINK_LOSS. -/
def Device.lossOn (d : Device) (n vc code : Nat) : Device :=
  if d.frameOpen n vc then d.lossMark n vc code else d

/-- A discard whose channel is unknown marks every open input frame of the port (R283). -/
def Device.lossAll (d : Device) (n code : Nat) : Device :=
  d.each (List.range 32) (fun d vc => d.lossOn n vc code)

/-- The data types a role admits (R260). -/
def admits (role dt : Nat) : Bool :=
  decide (dt ≤ 1) || (decide (8 ≤ dt) && decide (dt ≤ 0x11)) ||
  (match role with
   | 0 => [0x02, 0x03, 0x12, 0x2C, 0x2E, 0x30, 0x31].contains dt
   | 1 => dt == 0x35 || dt == 0x37
   | 2 => dt == 0x36
   | _ => false)

/-- Whether a packet reaches the checks of the port: enabled, its domain ON, the burst not given up, and past
its initial deskew where the rate requires one (R259, R265). -/
def Device.rxLive (d : Device) (n : Nat) : Bool :=
  let p := CsiPort.rx (Fin.ofNat 8 n)
  d.flag p.enabled && d.isOn (domTracer n) && !(d.csi p).dropRest &&
  (d.flag p.cphy || decide (d.fld p.rate < 1500) || (d.csi p).trained)

/-- A burst in progress (R270). -/
def Device.inBurst (d : Device) (p : CsiPort) : Device := (d.put p.hs 1).put p.stop 0

/-- A corrected header counted (R265). -/
def Device.corrected (d : Device) (n : Nat) (c : Bool) : Device := if c then d.bump (F.TRACER_ECC_CORR n) else d

/-- The header of the last packet accepted. (DEDUCED, log entry 96.) -/
def Device.lastHdr (d : Device) (n vc dt wc : Nat) : Device :=
  d.putWord (F.TRACER_LAST_HDR_VC n).addr (BitVec.ofNat 32 (vc <<< 27 + dt <<< 21 + wc))

/-- A long packet checked and passed on or discarded (R260 to R265).  A type below 0x10 is a short packet's: it has no
payload to check. (DEDUCED, log entry 48.) -/
def Device.longPacket (n : Nat) (k : LongPkt) (d : Device) : Device :=
  if !d.rxLive n then d
  else
    let p := CsiPort.rx (Fin.ofNat 8 n)
    let vc := d.rxChannel n k.vc.val
    let dt := k.dt.val
    let wc := k.wc.val
    let d := (d.inBurst p).corrected n k.corrected
    if dt < 16 then (d.dtError n vc dt wc).lossOn n vc 0x0605
    else if k.payload.length + k.crcBytes.val < wc + 2 then
      ((d.bump (F.TRACER_WC_ERR n)).rxError n (F.TRACER_LINK_ERR_WC n) 0x0604 vc dt wc).lossOn n vc 0x0604
    else if !k.crcOk then
      ((d.bump (F.TRACER_CRC_ERR n)).rxError n (F.TRACER_LINK_ERR_CRC n) 0x0603 vc dt wc).lossOn n vc 0x0603
    else
      let role := d.rxRole n vc
      if role = 3 || !admits role dt then (d.dtError n vc dt wc).lossOn n vc 0x0605
      else if dt ≤ 0x11 then d
      else if !d.frameOpen n vc then d.syncError n vc dt wc
      else if role = 2 ∧ d.boot ≠ 9 then d.bump (F.TRACER_DT_ERR n)
      else
        let body := k.payload.take wc
        let d := ((d.bump (F.TRACER_LONG_PKTS n)).countBytes p wc).lastHdr n vc dt wc
        match role with
        | 0 => if dt = 0x12 then d else d.ingest n (.unit (d.streamOf n vc) vc dt body d.timebase)
        | 1 => { d with mirrorRx := d.mirrorRx ++ [(n, body)] }
        | _ => { d with imageRx := d.imageRx ++ [(n, body)] }

/-- A short packet on a channel that admits its type. -/
def Device.shortPacket (d : Device) (n dt : Nat) (k : ShortPkt) (f : Device → Nat → Nat → Device) : Device :=
  if !d.rxLive n then d
  else
    let vc := d.rxChannel n k.vc.val
    let d := (d.inBurst (.rx (Fin.ofNat 8 n))).corrected n k.corrected
    if d.rxRole n vc = 3 || !admits (d.rxRole n vc) dt then (d.dtError n vc dt k.num.val).lossOn n vc 0x0605
    else f ((d.bump (F.TRACER_SHORT_PKTS n)).lastHdr n vc dt k.num.val) vc k.num.val

/-- A frame on a channel closed, complete or not. -/
def Device.closeFrame (d : Device) (n vc : Nat) (complete : Bool) : Device :=
  let d := if complete then d else d.lossMark n vc 0x0606
  let o := d.fld (F.TRACER_FRAME_OPEN n)
  let d := ((d.put (F.TRACER_FRAME_OPEN n) (if bit o vc then o - 1 <<< vc else o)).modCsi (.rx (Fin.ofNat 8 n)) (fun l =>
    { l with lines := l.lines.filter (· ≠ vc) }))
  if d.rxRole n vc = 0 then d.ingest n (.frameEnd (d.streamOf n vc)) else d

/-- Frame Start (R264). -/
def Device.frameStartPkt (n : Nat) (k : ShortPkt) (d : Device) : Device :=
  d.shortPacket n 0 k (fun d vc num =>
    let d := if d.frameOpen n vc then (d.syncError n vc 0 num).closeFrame n vc false else d
    (d.put (F.TRACER_FRAME_OPEN n) (d.fld (F.TRACER_FRAME_OPEN n) ||| 1 <<< vc)).modCsi (.rx (Fin.ofNat 8 n))
      (fun l => { l with frameNum := nput l.frameNum vc num }))

/-- Frame End (R264). -/
def Device.frameEndPkt (n : Nat) (k : ShortPkt) (d : Device) : Device :=
  d.shortPacket n 1 k (fun d vc num =>
    let d := d.bump (F.TRACER_FRAMES n)
    if d.frameOpen n vc then
      let kept := nget (d.tracer n).link.frameNum vc
      if num = kept ∨ num = 0 ∨ kept = 0 then d.closeFrame n vc true
      else (d.syncError n vc 1 num).closeFrame n vc false
    else d.syncError n vc 1 num)

/-- Line Start or Line End (R264): a sequence error changes nothing else.  Outside a frame the spec's table has no
row for a line marker: it is a sequence error there too. (DEDUCED, log entry 49.) -/
def Device.lineMarker (n : Nat) (isEnd : Bool) (k : ShortPkt) (d : Device) : Device :=
  d.shortPacket n (if isEnd then 3 else 2) k (fun d vc num =>
    let p := CsiPort.rx (Fin.ofNat 8 n)
    let isOpen := (d.csi p).lines.contains vc
    if !d.frameOpen n vc || (isEnd != isOpen) then d.syncError n vc (if isEnd then 3 else 2) num
    else d.modCsi p (fun l => { l with lines := if isEnd then l.lines.filter (· ≠ vc) else vc :: l.lines }))

/-- A generic short packet: counted and ignored (R260). -/
def Device.genericShort (n dt : Nat) (k : ShortPkt) (d : Device) : Device :=
  d.shortPacket n (8 + dt) k (fun d _ _ => d)

/-- A PHY error or an uncorrectable header (R265): the packet in progress and the rest of the burst are
discarded; every open input frame of the port is marked (R283). -/
def Device.phyBurstError (n : Nat) (header : Bool) (d : Device) : Device :=
  if !d.rxLive n then d
  else
    let p := CsiPort.rx (Fin.ofNat 8 n)
    let d := if header then
        (d.bump (F.TRACER_HDR_ERR n)).rxError n (F.TRACER_LINK_ERR_HDR n) 0x0602 0 0 0
      else (d.bump (F.TRACER_PHY_ERR n)).rxError n (F.TRACER_LINK_ERR_PHY n) 0x0601 0 0 0
    ((d.inBurst p).modCsi p (fun l => { l with dropRest := true })).lossAll n (if header then 0x0602 else 0x0601)

/-! ### Enabling and disabling (R258, R259, R267 to R269) -/

/-- The capacity of a port in units of 1/7 Mbps (R258). -/
def capacity (cphy : Bool) (width rate : Nat) : Nat := if cphy then 16 * (width + 1) * rate else 7 * (width + 1) * rate

/-- Whether the configuration of a port is refused (R269). -/
def Device.csiRefused (d : Device) (p : CsiPort) : Bool :=
  let cphy := d.flag p.cphy
  let w := d.fld p.width
  let rate := d.fld p.rate
  let lane (l : Nat) : Nat := bits (d.fld p.laneMap) (2 * l) 2
  let twice := (List.range (w + 1)).any (fun l => (List.range l).any (fun m => lane l == lane m))
  let slow := match p with
    | .rx _ => false
    | .tx k =>
      let q := CsiPort.rx (Fin.ofNat 8 (d.fld (F.PRESS_REPEAT_TRACER k.val)))
      d.flag (F.PRESS_REPEAT_EN k.val) &&
        decide (capacity cphy w rate < capacity (d.flag q.cphy) (d.fld q.width) (d.fld q.rate))
  (cphy && decide (w = 3)) || decide (rate < 80) || decide ((if cphy then 5700 else 4500) < rate) || twice || slow

/-- The fields of LINK_CTRL beside EN. -/
def CsiPort.ctrlMask (p : CsiPort) : Nat := if p.isTx then 0x7EFFF800 else 0x7CFFF800

/-- The lanes of a transmit port that drives LP-11: all of them while its domain is ON and no burst is in progress
(R268). -/
def Device.pressStop (d : Device) (k : Nat) : Device :=
  let p := CsiPort.tx (Fin.ofNat 4 k)
  if d.isOn (domPress k) && !d.flag p.hs then d.put p.stop (2 ^ (d.fld p.width + 1) - 1) else d

/-- The lanes of a port in LP-11 as the Press drives them. -/
def Device.showStop (d : Device) (p : CsiPort) : Device :=
  match p with
  | .rx _ => d
  | .tx k => d.pressStop k.val

/-- A port disabled. -/
def Device.csiOff (d : Device) (p : CsiPort) : Device :=
  ((((d.put p.enabled 0).put p.hs 0).put p.deskewed 0).modCsi p (fun l =>
    { l with pendDis := none, dropRest := false, trained := false })).showStop p

/-- A write of LINK_CTRL (R269): while the port is enabled its other fields are discarded as an access error; an
enable is checked, a disable waits for the end of a burst in progress. -/
def Device.linkCtrlWrite (ini : Nat) (p : CsiPort) (w : Word) (off : Nat) (d : Device) : Device :=
  let old := d.word p.base
  let m := p.ctrlMask
  let changes := decide (old.toNat &&& m ≠ w.toNat &&& m)
  let on := d.flag p.enabled
  let d := if on then (if changes then d.accError ini 4 off else d)
    else (d.putWord p.base (BitVec.ofNat 32 ((w.toNat &&& m) + bits old.toNat 31 1 <<< 31))).showStop p
  if bit w.toNat 31 then
    if on then (d.put p.en 1).modCsi p (fun l => { l with pendDis := none })
    else if d.csiRefused p then
      ((d.put p.en 0).put p.cfgErr 1).raiseBit p.errCfg 0x0607 p.unit
    else ((d.put p.en 1).put p.cfgErr 0).modCsi p (fun l => { l with pendEn := true, pendDis := none })
  else
    let d := d.put p.en 0
    if on then (if d.flag p.hs then d.modCsi p (fun l => { l with pendDis := some d.timebase }) else d.csiOff p)
    else d.modCsi p (fun l => { l with pendEn := false })

/-- All lanes of a port in LP-11 (R269): the burst has ended, a pending enable or disable takes effect.  A D-PHY
transmit port at 1,500 Mbps and above sends its initial deskew sequence (R259). -/
def Device.lp11 (p : CsiPort) (d : Device) : Device :=
  let lanes := 2 ^ (d.fld p.width + 1) - 1
  let d := ((d.put p.hs 0).put p.stop lanes).modCsi p (fun l => { l with dropRest := false, burstAt := d.timebase })
  let l := d.csi p
  if l.pendDis.isSome then d.csiOff p
  else if l.pendEn ∧ d.isOn p.dom then
    let d := (d.put p.enabled 1).modCsi p (fun l => { l with pendEn := false, deskewAt := d.timebase })
    match p with
    | .rx _ => d
    | .tx k =>
      let d := d.put p.rateActual (d.fld p.rate / 10 * 10)
      if !d.flag p.cphy && decide (1500 ≤ d.fld p.rate) then
        d.modPress k.val (fun x => { x with deskews := x.deskews + 1 })
      else d
  else d

/-- LP-11 on the lanes as it comes from outside; a transmit port that sends ends its burst itself, when no packet is
ready (R262). -/
def Device.stopState (p : CsiPort) (d : Device) : Device :=
  match p with
  | .rx _ => d.lp11 p
  | .tx k => if d.flag p.enabled && d.flag p.hs && !(d.press k.val).txq.isEmpty then d else d.lp11 p

/-- No LP-11 within 100 µs of the disable (R269): the port is disabled at once; a packet partly received is
discarded and counted. -/
def Device.linkDisableTimeout (p : CsiPort) (part : Option PartPkt) (d : Device) : Device :=
  match (d.csi p).pendDis with
  | none => d
  | some t =>
    if d.since t < 10000 then d
    else
      let d := match p, part with
        | .rx n, some k =>
          let vc := d.rxChannel n.val k.vc.val
          ((d.bump (F.TRACER_WC_ERR n.val)).rxError n.val (F.TRACER_LINK_ERR_WC n.val) 0x0604 vc k.dt.val k.wc.val).lossOn
            n.val vc 0x0604
        | _, _ => d
      d.csiOff p

/-- A burst begins on the lanes of a Tracer whose domain is not ON (R267): its wake vote is raised, the clocks
restored (R360), the burst lost and counted. -/
def Device.laneWake (n : Nat) (d : Device) : Device :=
  if d.isOn (domTracer n) then d
  else
    let d := d.modPower (fun p => { p with gated := false })
    let d := ((d.setVote (8 + n) (domTracer n) 2).bump (F.TRACER_WAKE_LOST n)).modTracer n
      (fun t => { t with link := { t.link with burstAt := d.timebase } })
    if mapGet (fun _ => false) d.spent (F.TRACER_WAKE_LOST n).addr then d
    else (d.put (F.TRACER_LINK_ERR_WAKE n) 1).raiseFirst (F.TRACER_WAKE_LOST n) 0x0608 n

/-- An initial or periodic deskew sequence received (R259, R265). -/
def Device.deskewReceive (n : Nat) (ok : Bool) (d : Device) : Device :=
  let p := CsiPort.rx (Fin.ofNat 8 n)
  if d.flag p.enabled && d.isOn (domTracer n) && !d.flag p.cphy && decide (1500 ≤ d.fld p.rate) then
    if ok then (d.put p.deskewed 1).modCsi p (fun l => { l with trained := true })
    else
      let d := d.put p.deskewed 0
      (((d.bump (F.TRACER_PHY_ERR n)).rxError n (F.TRACER_LINK_ERR_PHY n) 0x0601 0 0 0).modCsi p (fun l =>
        { l with dropRest := true })).lossAll n 0x0601
  else d

/-! ### Transmission (R259, R262) -/

/-- A periodic deskew sequence (R259). -/
def Device.periodicDeskew (k : Nat) (d : Device) : Device :=
  let p := CsiPort.tx (Fin.ofNat 4 k)
  let us := d.fld (F.PRESS_LINK_TIMING_DESKEW_PERIOD k)
  if d.flag p.enabled && d.isOn (domPress k) && !d.flag p.cphy && decide (1500 ≤ d.fld p.rate)
      && decide (us ≠ 0) && decide (100 * us ≤ d.since (d.csi p).deskewAt) then
    (d.modCsi p (fun l => { l with deskewAt := d.timebase })).modPress k (fun x => { x with deskews := x.deskews + 1 })
  else d

/-- The syndromes of the 26 header bits in the D-PHY header ECC of the CSI-2 Specification. (PRESUMED, log entry 126.) -/
def eccCols : List Nat :=
  [0x07, 0x0B, 0x0D, 0x0E, 0x13, 0x15, 0x16, 0x19, 0x1A, 0x1C, 0x23, 0x25, 0x26] ++
  [0x29, 0x2A, 0x2C, 0x31, 0x32, 0x34, 0x38, 0x1F, 0x2F, 0x37, 0x3B, 0x3D, 0x3E]
def hdrEcc (x : Nat) : Nat := (bitsSet 26 x).foldl (fun e i => e ^^^ eccCols.getD i 0) 0

/-- CRC-16 of headers and payloads (R256): polynomial 0x1021 reflected, initial value 0xFFFF.
(PRESUMED, log entry 126.) -/
def csiCrc (l : List Byte) : List Byte := leBytes 2 (crcBytesLsb 0x8408 0xFFFF l)

/-- A packet header as it goes out (R256, R263): channel, type, and the data field or WC, with the ECC of D-PHY, or
twice with the CRC of C-PHY. (PRESUMED, log entry 126.) -/
def wireHeader (cphy : Bool) (vc dt num : Nat) : List Byte :=
  let di := dt % 64 + (vc % 4) <<< 6
  if cphy then
    let h := leBytes 1 (vc / 4 % 8) ++ leBytes 1 di ++ leBytes 2 num
    h ++ csiCrc h ++ h ++ csiCrc h
  else
    let x := di + (num % 65536) <<< 8 + (vc / 4 % 4) <<< 24
    leBytes 3 x ++ leBytes 1 (hdrEcc x + (vc / 4 % 4) <<< 6)

/-- The next packet sent whole (R262); when none is ready after it, the burst ends.  ue: a word of the Press buffer is
uncorrectable, and the payload goes out zeroed (R299). -/
def Device.packetTransmit (k : Nat) (ue : Bool) (d : Device) : Device :=
  let p := CsiPort.tx (Fin.ofNat 4 k)
  match (d.press k).txq with
  | [] => d
  | x :: rest =>
    if !d.flag p.enabled || !d.isOn (domPress k) || d.flag (F.PRESS_REPEAT_EN k) then d
    else
      let d := (d.inBurst p).modPress k (fun q => { q with txq := rest, quietAt := d.timebase })
      let vc := if d.flag p.vcx then x.vc else x.vc % 4
      let d := if x.dt < 16 then
          let d := (d.bump (F.PRESS_SHORT_PKTS k)).modPress k (fun q => { q with
            sent := wireHeader (d.flag p.cphy) vc x.dt x.num })
          if x.dt = 1 then d.bump (F.PRESS_FRAMES k) else d
        else
          let zero := ue && !x.body.isEmpty
          let body := if zero then List.replicate x.body.length 0 else x.body
          let d := if zero then
              ((d.bufferUe (pressBase k) k 0).raiseBit (F.PRESS_PR_FAULT_UE k) 0x0616 k).modPress k (fun q => { q with
                bad := true })
            else d
          ((d.bump (F.PRESS_LONG_PKTS k)).countBytes p body.length).modPress k (fun q => { q with
            sent := wireHeader (d.flag p.cphy) vc x.dt body.length ++ body ++ csiCrc body })
      if rest.isEmpty then d.lp11 p else d

end Sys2Proof.Machine
end

