-- ==== Sys2Proof/Machine/Tracer.lean ====
section
/-! DEFINITION. Tracers (R272 to R287): input units, pacing, the buffer, placement and event encoders. -/

namespace Sys2Proof.Machine

/-! ### Elements of a unit (R273 to R275, R286) -/

/-- RAW12 samples unpacked into u16 (R273). -/
def rawUnpack12 : List Byte → List Byte
  | a :: b :: c :: t =>
    leBytes 2 (a.toNat <<< 4 + bits c.toNat 0 4) ++ leBytes 2 (b.toNat <<< 4 + bits c.toNat 4 4) ++ rawUnpack12 t
  | _ => []

/-- Bytes of one element. -/
def elemBytes (dt fmt : Nat) : Nat :=
  if dt = 0x30 then (if fmt = 0 then 4 else if fmt = 1 then 3 else 2)
  else if dt = 0x31 then (if fmt ≤ 1 then 2 else if fmt = 2 then 1 else 4)
  else 2

/-- Whether a unit is malformed (R273 to R276). -/
def unitMalformed (dt : Nat) (b : List Byte) : Bool :=
  let at_ (i : Nat) : Nat := (b.getD i 0).toNat
  if dt = 0x2C then decide (b.length % 3 ≠ 0)
  else if dt = 0x2E then decide (b.length % 2 ≠ 0)
  else
    let fmt := at_ 1 % 16
    decide (b.length < 16) || decide (at_ 0 ≠ 1) || decide ((if dt = 0x30 then 2 else 3) < fmt) ||
    decide (at_ 1 / 16 ≠ 0) || decide (at_ 3 / 2 ≠ 0) || (List.range 4).any (fun i => decide (at_ (12 + i) ≠ 0)) ||
    decide (b.length ≠ 16 + leNat ((b.drop 8).take 2) * elemBytes dt fmt)

/-- Element k of a unit as the encoder takes it (R286). -/
def TUnit.elem (u : TUnit) (comp k : Nat) : Int :=
  let n := elemBytes u.dt u.fmt
  let x := leNat ((u.body.drop (n * k)).take n)
  if u.dt = 0x30 then
    let w := if u.fmt = 0 then 16 else if u.fmt = 1 then 12 else 8
    let i := sgn w (bits x 0 w)
    let q := sgn w (bits x w w)
    if comp = 1 then q else if comp = 2 then satS 32 (i * i + q * q) else i
  else if u.dt = 0x31 then
    (if u.fmt = 0 then (x : Int) else if u.fmt = 1 then sgn 16 x else if u.fmt = 2 then (x : Int) else sgn 32 x)
  else x

/-- The elements a unit holds. -/
def TUnit.elems (u : TUnit) : Nat := u.body.length / elemBytes u.dt u.fmt

/-- The buffer bytes a unit occupies (R281). -/
def TUnit.size (u : TUnit) : Nat := if u.dropped then 0 else ceilDiv (u.body.length + 32) 32 * 32

/-! ### Frames of a stream (R277, R279, R283) -/

/-- The input frame of an index. -/
def TStream.frame? (x : TStream) (i : Nat) : Option TFrame := x.frames.find? (fun f => f.idx = i)

/-- A frame of a stream changed; it begins empty. -/
def TStream.modFrame (x : TStream) (i : Nat) (f : TFrame → TFrame) : TStream :=
  let g := f ((x.frame? i).getD { idx := i })
  { x with frames := x.frames.filter (fun e => e.idx ≠ i) ++ [g] }

/-- FILL of a stream. -/
def Device.showFill (d : Device) (n s : Nat) : Device :=
  d.put (F.TRACER_STREAM_FILL n s) ((((d.stream n s).units.map TUnit.size)).foldl (· + ·) 0)

/-- I, the index of the frame that units now enter. -/
def Device.curI (d : Device) (n s : Nat) : Nat := d.fld (F.TRACER_STREAM_FRAME n s)

/-- A mark on the frame that units now enter, with an annotation. -/
def Device.markFrame (d : Device) (n s mark : Nat) (a : List Ann) : Device :=
  let i := d.curI n s
  d.modStream n s (fun x => x.modFrame i (fun f => { f with marks := f.marks ||| 1 <<< mark, anns := f.anns ++ a }))

/-- The frame that units now enter ends: I increases (R277). -/
def Device.endFrame (d : Device) (n s : Nat) : Device :=
  let i := d.curI n s
  (d.modStream n s (fun x => { x.modFrame i (fun f => { f with ended := true }) with sinceFrame := 0 })).put
    (F.TRACER_STREAM_FRAME n s) ((i + 1) % 2 ^ 32)

/-- A Frame End of an INPUT channel reaches ingest (R277): with FRAME_SRC = 0 it ends the frame of its stream, if that
frame holds a unit. -/
def Device.ingestEnd (d : Device) (n s : Nat) : Device :=
  if d.flag (F.TRACER_STREAM_CFG_EN n s) && decide (d.fld (F.TRACER_STREAM_CFG_FRAME_SRC n s) = 0) then
    match (d.stream n s).frame? (d.curI n s) with
    | some f => if 0 < f.count then d.endFrame n s else d
    | none => d
  else d

/-- A discarded packet of channel vc marks the input frame of its stream LINK_LOSS (R283). (DEDUCED, log entry 51.) -/
def Device.ingestLoss (d : Device) (n s vc code : Nat) : Device :=
  if d.flag (F.TRACER_STREAM_CFG_EN n s) then d.markFrame n s 4 [⟨3, 4 * n + s, 0, vc, code, 0, d.timebase⟩] else d

/-- A cut of R462 at a listed channel: T and I of its stream are latched; at the MATE earlier units are discarded,
and T and I of the later ones count from the cut until the cutover gives them theirs. (DEDUCED, log entry 85.) -/
def Device.ingestCut (d : Device) (n vc : Nat) : Device :=
  match d.pair.resync with
  | none => d
  | some r =>
    let s := d.streamOf n vc
    let t := d.fld (F.TRACER_STREAM_STEP n s)
    let i := d.curI n s
    let d := d.modPair (fun p => { p with resync := some { r with latch := r.latch ++ [(32 * n + vc, t, i)] } })
    if d.fld F.PAIR_STATUS_ROLE = 2 then
      (((d.put (F.TRACER_STREAM_STEP n s) 0).put (F.TRACER_STREAM_FRAME n s) 0).modStream n s
        (fun x => { seq := x.seq })).showFill n s
    else d

/-- Frame ends, losses and cuts at the head of the ingest queue taken in. -/
def Device.ingestGo (n : Nat) : List RxItem → Device → Device
  | .cut vc :: rest, d => Device.ingestGo n rest (d.ingestCut n vc)
  | .frameEnd str :: rest, d => Device.ingestGo n rest (d.ingestEnd n str)
  | .loss str vc code :: rest, d => Device.ingestGo n rest (d.ingestLoss n str vc code)
  | q, d => d.modTracer n (fun t => { t with rxq := q })
def Device.ingestHead (d : Device) (n : Nat) : Device := Device.ingestGo n (d.tracer n).rxq d

/-! ### Units (R273, R276, R277, R280 to R282) -/

/-- Pacing after a unit (R277). -/
def Device.pace (d : Device) (n s dt adv : Nat) (last : Bool) : Device :=
  let raw := decide (dt = 0x2C) || decide (dt = 0x2E)
  let d := if !d.flag (F.TRACER_STREAM_CFG_STEP_SRC n s) && !raw then
      d.put (F.TRACER_STREAM_STEP n s) ((d.fld (F.TRACER_STREAM_STEP n s) + adv) % 2 ^ 32)
    else
      let k := (d.stream n s).sinceStep + 1
      if max 1 (d.fld (F.TRACER_STREAM_PACE_STEP_EVERY n s)) ≤ k then
        (d.put (F.TRACER_STREAM_STEP n s) ((d.fld (F.TRACER_STREAM_STEP n s) + 1) % 2 ^ 32)).modStream n s
          (fun x => { x with sinceStep := 0 })
      else d.modStream n s (fun x => { x with sinceStep := k })
  let src := d.fld (F.TRACER_STREAM_CFG_FRAME_SRC n s)
  let d := d.modStream n s (fun x => { x with sinceFrame := x.sinceFrame + 1 })
  if src = 0 then d
  else if src = 1 ∧ ¬ raw then (if last then d.endFrame n s else d)
  else if max 1 (d.fld (F.TRACER_STREAM_PACE_FRAME_EVERY n s)) ≤ (d.stream n s).sinceFrame then d.endFrame n s
  else d

/-- A unit that enters its stream: stamped, given its step and frame, held or dropped (R277 to R282).
(DEDUCED, log entry 50.) -/
def Device.unitEnter (d : Device) (n s dt stamp : Nat) (b : List Byte) : Device :=
  let hdr := decide (dt = 0x30) || decide (dt = 0x31)
  let body := if dt = 0x2C then rawUnpack12 b else if hdr then b.drop 16 else b
  let sq := if hdr then leNat ((b.drop 4).take 4) else 0
  let i := d.curI n s
  let step := d.fld (F.TRACER_STREAM_STEP n s)
  let x := d.stream n s
  let fr := (x.frame? i).getD { idx := i }
  let consumed := decide (stepDiff i x.nextI ≥ 2 ^ 31) && decide (x.cur ≠ some i)
  let place := d.flag (F.TRACER_STREAM_CFG_PLACE_EN n s)
  let u : TUnit := { frame := if place && !consumed then some i else none, step := step, stamp := stamp, dt := dt,
                     fmt := if hdr then (b.getD 1 0).toNat % 16 else 0, body := body, dropped := false, encoded := false }
  let drop := fr.dropping ||
    decide (4096 * d.fld (F.TRACER_STREAM_CFG_QUOTA n s) < d.fld (F.TRACER_STREAM_FILL n s) + u.size)
  let u := if drop then { u with dropped := true, encoded := true, body := List.replicate body.length 0 } else u
  let d := d.modTracer n (fun t => { t with lastStamp := stamp })
  let d := ((d.put (F.TRACER_TR_LAST_STAMP_LO n) stamp).put (F.TRACER_TR_LAST_STAMP_HI n) (stamp / 2 ^ 32)).bump
    (F.TRACER_STREAM_UNITS n s)
  let d := match x.seq with
    | some e => if hdr && decide (e ≠ sq) then
        (d.bump (F.TRACER_STREAM_SEQ_GAP n s)).modStream n s (fun x => x.modFrame i (fun f =>
          { f with anns := f.anns ++ [({ code := 4, stream := 4 * n + s, step := step, arg0 := e, arg1 := sq, arg2 := 0, stamp := stamp } : Ann)] }))
      else d
    | none => d
  let d := if drop then
      ((d.bump (F.TRACER_STREAM_DROPS n s)).raiseBit (F.TRACER_TR_FAULT_DROP n) 0x0610 n).markFrame n s 3
        [⟨2, 4 * n + s, step, sq, fr.count, 0, stamp⟩]
    else d
  let d := d.modStream n s (fun x =>
    let y := x.modFrame i (fun f => { f with
      stamp := some (f.stamp.getD stamp), count := f.count + 1
      dropping := f.dropping || (drop && d.flag (F.TRACER_STREAM_CFG_OVF n s)) })
    { y with units := y.units ++ [u], seq := if hdr then some ((sq + 1) % 2 ^ 32) else y.seq })
  let d := if consumed && place then d.bumpBy (F.TRACER_STREAM_UNPLACED n s) body.length else d
  (d.showFill n s).pace n s dt (if hdr then (b.getD 2 0).toNat else 0) (hdr && bit (b.getD 3 0).toNat 0)

/-- The next accepted input packet becomes an input unit (R273, R276). -/
def Device.inputUnit (n : Nat) (d : Device) : Device :=
  let d := if d.isOn (domTracer n) then d.ingestHead n else d
  match (d.tracer n).rxq with
  | .unit s _ dt b stamp :: rest =>
    if !d.isOn (domTracer n) then d
    else
      let d := d.modTracer n (fun t => { t with rxq := rest })
      let d :=
        if !d.flag (F.TRACER_STREAM_CFG_EN n s) then d.bump (F.TRACER_DT_ERR n)
        else if unitMalformed dt b then
          let sq := if (dt = 0x30 ∨ dt = 0x31) ∧ 16 ≤ b.length then leNat ((b.drop 4).take 4) else 0
          (d.raiseBit (F.TRACER_TR_FAULT_MALFORMED n) 0x0611 n).markFrame n s 5
            [⟨5, 4 * n + s, d.fld (F.TRACER_STREAM_STEP n s), sq, 0x0611, 0, stamp⟩]
        else d.unitEnter n s dt stamp b
      d.ingestHead n
  | _ => d

/-- Whether a unit may leave the buffer (R281). -/
def Device.releasable (d : Device) (n s : Nat) (u : TUnit) : Bool :=
  (u.frame.isNone || !d.flag (F.TRACER_STREAM_CFG_PLACE_EN n s)) &&
  (u.encoded || decide (d.fld (F.TRACER_STREAM_ENC_CFG0_TYPE n s) = 0))

/-- The units of a stream that may leave the buffer do (R281). (DEDUCED, log entry 50.) -/
def Device.unitRelease (n s : Nat) (d : Device) : Device :=
  if d.isOn (domTracer n) then
    (d.modStream n s (fun x => { x with units := x.units.filter (fun u => !d.releasable n s u) })).showFill n s
  else d

/-! ### Dense placement (R279, R284, R285) -/

/-- Whether a placing stream holds frame I_next as it must (R279). -/
def Device.streamReady (d : Device) (n s : Nat) : Bool :=
  let x := d.stream n s
  match x.frame? x.nextI with
  | some f => if d.flag (F.TRACER_STREAM_CFG_READY_WHOLE n s) then f.ended else decide (0 < f.count)
  | none => false

/-- The streams that place (R279). -/
def Device.placing (d : Device) (n : Nat) : List Nat :=
  (List.range 4).filter (fun s => d.flag (F.TRACER_STREAM_CFG_PLACE_EN n s))

/-- A Tracer declares the next Hatch frame ready (R279). -/
def Device.tracerReady (n : Nat) (d : Device) : Device :=
  if d.isOn (domTracer n) && bit (d.fld F.HATCH_FRAME_CFG_TRACER_MASK) n && (d.placing n).all (d.streamReady n) then
    d.modHatch (fun h => { h with ready := h.ready ||| 1 <<< n })
  else d

/-- START consumes input frame I_next of each placing stream (R279); the placement list begins (R284). -/
def Device.tracerStart (d : Device) (n dr : Nat) : Device :=
  let d := d.each (d.placing n) (fun d s =>
    d.modStream n s (fun x => { x with cur := some x.nextI, nextI := (x.nextI + 1) % 2 ^ 32, reads := [] }))
  let on := d.flag (F.TRACER_PD_START_EN n dr)
  let e := d.fld (F.TRACER_PD_START_ENTRY n dr)
  (d.modTracer n (fun t => { t with plEntry := e, plPos := 0 })).modHr (14 * n) (fun r => { r with edgeBusy := on })

/-- The input of the frame that a stream places: its bytes in order, and whether its end is known. -/
def TStream.input (x : TStream) : List Byte × Bool :=
  match x.cur with
  | none => ([], true)
  | some i => ((x.units.filter (fun u => u.frame = some i)).flatMap TUnit.body,
               ((x.frame? i).map TFrame.ended).getD false)

/-- The next placement token offered (R284, R285).  ue: bit i where byte i lies in an uncorrectable buffer word, which
delivers zero (R283). -/
def Device.placeToken (n ue : Nat) (d : Device) : Device :=
  let t := d.tracer n
  let r := d.hr (14 * n)
  if !d.isOn (domTracer n) || !r.edgeBusy || !r.offer.isEmpty || decide (d.fld F.HATCH_STATUS_FSTATE ≠ 2) then d
  else
    let e := t.plEntry
    let s := d.fld (F.TRACER_PD0_STREAM n e)
    let x := d.stream n s
    let (inp, known) := x.input
    let o := 16 * (d.fld (F.TRACER_PD0_OFFSET n e) + t.plPos)
    if inp.length < o + 16 ∧ ¬ known then d
    else
      let b := ((inp.drop o).take 16)
      let short := decide (b.length < 16)
      let b := b ++ List.replicate (16 - b.length) 0
      let v := leNat (b.mapIdx (fun i x => if bit ue i then 0 else x))
      let mark (m : Nat) (x : TStream) : TStream := match x.cur with
        | some i => x.modFrame i (fun f => { f with marks := f.marks ||| 1 <<< m })
        | none => x
      let d := d.modStream n s (fun x =>
        { (if short then mark 6 x else x) with reads := (o, o + 16) :: x.reads })
      let d := if ue ≠ 0 then
          ((d.bufferUe (tracerBase n) n 0).raiseBit (F.TRACER_TR_FAULT_UE n) 0x0613 n).modStream n s (mark 5) else d
      let last := decide (d.fld (F.TRACER_PD1 n e) ≤ t.plPos)
      let fin := last && (d.flag (F.TRACER_PD0_LAST n e) || decide (63 ≤ e))
      (d.modTracer n (fun t => { t with
        plEntry := if last then e + 1 else e, plPos := if last then 0 else t.plPos + 1 })).modHr (14 * n)
        (fun r => { r with offer := [v], edgeBusy := !fin })

/-- Whether a byte of a stream's input was read by placement. -/
def TStream.wasRead (x : TStream) (i : Nat) : Bool := x.reads.any (fun r => decide (r.1 ≤ i) && decide (i < r.2))

/-- The input frames of a Hatch frame that is complete or aborted are done with (R281, R284). -/
def Device.tracerEnd (d : Device) (n : Nat) : Device :=
  d.each (List.range 4) (fun d s =>
    let x := d.stream n s
    match x.cur with
    | none => d
    | some i =>
      let unread := ((List.range x.input.1.length).filter (fun b => !x.wasRead b)).length
      (d.bumpBy (F.TRACER_STREAM_UNPLACED n s) unread).modStream n s (fun x => { x with
        cur := none, reads := [], frames := x.frames.filter (fun f => f.idx ≠ i || !f.ended)
        units := x.units.map (fun u => if u.frame = some i then { u with frame := none } else u) }))

/-- The marks, annotations, units and stamp of the input frames a Hatch frame consumes (R280, R283, R293). -/
def Device.consumed (d : Device) : List TFrame :=
  (List.range 8).flatMap (fun n => (List.range 4).filterMap (fun s =>
    let x := d.stream n s
    x.cur.bind x.frame?))
def consumedMarks (l : List TFrame) : Nat := l.foldl (fun m f => m ||| f.marks) 0
def consumedStamp (l : List TFrame) : Nat :=
  let ss := l.filterMap TFrame.stamp
  ss.foldl min (ss.headD 0)

/-- I, T and frames when the mesh enters SCHED (R277): I and I_next are 0; units held from before belong to no
input frame. (DEDUCED, log entry 50.) -/
def Device.tracerSched (d : Device) (n : Nat) : Device :=
  d.each (List.range 4) (fun d s =>
    (d.put (F.TRACER_STREAM_FRAME n s) 0).modStream n s (fun x => { x with
      frames := [], nextI := 0, cur := none, reads := [], sinceFrame := 0
      units := x.units.map (fun u => { u with frame := none }) }))

/-! ### Encoders (R286, R287) -/

/-- The address of state word e of stream s (R300). -/
def stateA (n s e : Nat) : Nat := tracerBase n + 0x10000 + 0x4000 * s + 4 * e

/-- Whether an event of an encoder is not sent: a unicast for a core above 63 (R286). -/
def Device.encRejects (d : Device) (n s core : Nat) : Bool :=
  !d.flag (F.TRACER_STREAM_ENC_CFG0_MC n s) && decide (63 < core)

/-- An event of an encoder queued, or not sent for a core above 63 (R286). -/
def Device.encSend (d : Device) (n s step core axon payload : Nat) : Device :=
  if d.encRejects n s core then
    (d.bump (F.TRACER_STREAM_ENC_REJECT n s)).raiseBit (F.TRACER_TR_FAULT_ENC n) 0x0612 n
  else
    let mc := d.flag (F.TRACER_STREAM_ENC_CFG0_MC n s)
    let dests := if mc then
        bitsSet 64 (d.fld (F.TRACER_STREAM_MASK_LO n s) + d.fld (F.TRACER_STREAM_MASK_HI n s) <<< 32)
      else [core]
    (d.modTracer n (fun t => { t with evq := t.evq ++ [s] })).queueOut (64 + n)
      (.event step (axon % 16384) payload mc dests)

/-- An event that an element gives, to be queued. -/
def Device.encForm (d : Device) (n s core axon payload : Nat) : Device :=
  d.modStream n s (fun x => { x with encOut := x.encOut ++ [(core, axon, payload)] })

/-- Events formed go to the queue of 256 while it has room (R287): those left. -/
def Device.encFlush (n s step : Nat) : List (Nat × Nat × Nat) → Device → List (Nat × Nat × Nat) × Device
  | [], d => ([], d)
  | (core, axon, payload) :: rest, d =>
    if d.encRejects n s core || decide ((d.tracer n).evq.length < 256) then
      Device.encFlush n s step rest (d.encSend n s step core axon payload)
    else ((core, axon, payload) :: rest, d)

/-- A state word stored. -/
def Device.encStore (d : Device) (n s e : Nat) (v : Int) : Device := d.stN (stateA n s e) 4 (pat 32 v)

/-- The RATE events of one element, of which k more may be sent. -/
def Device.rateSend (n s core axon th e : Nat) : Nat → Int → Device → Device
  | 0, a, d => d.encStore n s e a
  | k + 1, a, d =>
    if (th : Int) ≤ a then Device.rateSend n s core axon th e k (a - th) (d.encForm n s core axon 1)
    else d.encStore n s e a

/-- One element of a unit through its encoder (R286). -/
def Device.encElem (d : Device) (n s : Nat) (u : TUnit) (e : Nat) : Device :=
  let type := d.fld (F.TRACER_STREAM_ENC_CFG0_TYPE n s)
  let w := if type = 1 then 2 else 1
  let jpc := d.fld (F.TRACER_STREAM_ENC_CFG2_JPC n s) + 1
  let k := d.fld (F.TRACER_STREAM_ENC_CFG1_FIRST n s) + e * 2 ^ d.fld (F.TRACER_STREAM_ENC_CFG1_DECIM n s)
  if u.elems ≤ k then d
  else
    let v := asr (u.elem (d.fld (F.TRACER_STREAM_ENC_CFG0_COMP n s)) k) (d.fld (F.TRACER_STREAM_ENC_CFG0_SHIFT n s))
    let eo := if d.flag (F.TRACER_STREAM_ENC_CFG0_MC n s) then e else e % jpc
    let core := d.fld (F.TRACER_STREAM_ENC_CFG0_DCORE_BASE n s) + e / jpc
    let ax := d.fld (F.TRACER_STREAM_ENC_CFG1_AXON_BASE n s)
    let th := max 1 (d.fld (F.TRACER_STREAM_ENC_CFG0_TH n s))
    let a := stateA n s e
    let d := if d.ueAt a then
        let i := match u.frame with
          | some i => i
          | none => d.curI n s
        ((d.note a).raiseBit (F.TRACER_TR_FAULT_UE n) 0x0613 n).modStream n s (fun x =>
          if (x.frame? i).isSome then x.modFrame i (fun f => { f with marks := f.marks ||| 32 }) else x)
      else d.note a
    let st := d.ldS a 4
    match type with
    | 1 =>
      let df := v - st
      if df = 0 then d
      else
        let p : Int := min 255 df.natAbs
        (d.encForm n s core (ax + w * eo + b2n (decide (df < 0))) p.toNat).encStore n s e
          (st + if df < 0 then -p else p)
    | 2 =>
      let df := v - st
      if df.natAbs < th then d
      else
        let p := sat df (-127) 127
        (d.encForm n s core (ax + eo) (pat 8 p)).encStore n s e (st + p)
    | 3 =>
      let rmax := d.fld (F.TRACER_STREAM_ENC_CFG1_RMAX n s) + 1
      Device.rateSend n s core (ax + eo) th e rmax (sat (st + max 0 v) 0 (2 ^ 31 - 1)) d
    | _ => d

/-- A unit as its buffer words read: those that ue names deliver zero (R283). -/
def TUnit.seen (u : TUnit) (ue : List Nat) : TUnit :=
  { u with body := u.body.mapIdx (fun i x => if ue.contains (i / 32) then 0 else x) }

/-- The unit at place k of a stream taken on, element by element, as long as the event queue has room (R286, R287). -/
def Device.encGo (n s k : Nat) (u : TUnit) : Nat → Device → Device
  | 0, d => d
  | fuel + 1, d =>
    let r := Device.encFlush n s u.step (d.stream n s).encOut d
    let d := r.2.modStream n s (fun x => { x with encOut := r.1 })
    let e := (d.stream n s).encE
    if !r.1.isEmpty then d
    else if d.fld (F.TRACER_STREAM_ENC_CFG2_COUNT n s) < e ∨
        u.elems ≤ d.fld (F.TRACER_STREAM_ENC_CFG1_FIRST n s) + e * 2 ^ d.fld (F.TRACER_STREAM_ENC_CFG1_DECIM n s) then
      d.modStream n s (fun x => { x with encE := 0, units := x.units.modify k (fun u => { u with encoded := true }) })
    else Device.encGo n s k u fuel ((d.encElem n s u e).modStream n s (fun x => { x with encE := e + 1 }))

/-- The oldest unit of a stream that its encoder has yet to consume, taken on until it is consumed or the event queue
of 256 is full (R286, R287); none while the Stipple net is STOPPED or STARTING (R167).  ue: data words of the unit in the
buffer that read uncorrectable (R283). (DEDUCED, log entry 52.) -/
def Device.encoderUnit (n s : Nat) (ue : List Nat) (d : Device) : Device :=
  if !d.isOn (domTracer n) || decide (d.fld (F.TRACER_STREAM_ENC_CFG0_TYPE n s) = 0) || decide (d.stState < 2) then d
  else
    match (d.stream n s).units.find? (fun u => !u.encoded) with
    | none => d
    | some u =>
      let k := (d.stream n s).units.findIdx (fun u => !u.encoded)
      let d := if ue.any (fun w => decide (32 * w < u.body.length)) then
          ((d.bufferUe (tracerBase n) n 0).raiseBit (F.TRACER_TR_FAULT_UE n) 0x0613 n).modStream n s (fun x =>
            match u.frame with
            | some i => x.modFrame i (fun f => { f with marks := f.marks ||| 32 })
            | none => x)
        else d
      Device.encGo n s k (u.seen ue) 4098 d

/-- The first event of source i's queue whose step and credit let it go (R149, R287). -/
def Device.sendPick (d : Device) (i : Nat) : Option Nat :=
  (d.source i).sendQ.findIdx? (fun o => match o with
    | .event step _ _ _ dests => d.mayOffer step && d.hasCredit i (dests.filter d.etchBound)
    | _ => false)

/-- The first event of a Tracer's queue that its step and credit allow sent (R287). (DEDUCED, log entry 52.) -/
def Device.tracerSend (n : Nat) (d : Device) : Device :=
  if d.stState < 2 then d
  else match d.sendPick (64 + n) with
    | none => d
    | some k =>
      let s := (d.tracer n).evq.getD k 0
      ((d.sendAt (64 + n) k).modTracer n (fun t => { t with evq := t.evq.eraseIdx k })).bump (F.TRACER_STREAM_EVENTS n s)

/-- The streams that encode (R278). -/
def Device.encoding (d : Device) (n : Nat) : List Nat :=
  (List.range 4).filter (fun s => d.flag (F.TRACER_STREAM_CFG_EN n s) &&
    decide (d.fld (F.TRACER_STREAM_ENC_CFG0_TYPE n s) ≠ 0))

/-- A Tracer closes its next step once every encoding stream has passed it and every event of steps up to it has been
sent (R278). -/
def Device.tracerClose (n : Nat) (d : Device) : Device :=
  let u := (d.tracer n).closeNext
  let ss := d.encoding n
  let past (s : Nat) : Bool :=
    let t := d.fld (F.TRACER_STREAM_STEP n s)
    decide (t ≠ u) && decide (stepDiff t u < 2 ^ 31) &&
    (d.stream n s).units.all (fun x => x.encoded || (decide (x.step ≠ u) && decide (stepDiff x.step u < 2 ^ 31)))
  let sent := (d.source (64 + n)).sendQ.all (fun o => match o with
    | .event step _ _ _ _ => decide (step ≠ u) && decide (stepDiff step u < 2 ^ 31)
    | _ => true)
  if decide (2 ≤ d.stState) && d.srcEn (64 + n) && !ss.isEmpty && ss.all past && sent && d.mayOffer u then
    (d.modTracer n (fun t => { t with closeNext := (u + 1) % 2 ^ 32 })).sendCloses (64 + n) u
  else d

/-- OPEN(t) at a Tracer (R278): without an encoding stream it closes step t + 1. -/
def Device.tracerOpen (d : Device) (n t : Nat) : Device :=
  if (d.encoding n).isEmpty && d.srcEn (64 + n) && decide (2 ≤ d.stState) then
    (d.modTracer n (fun x => { x with closeNext := (t + 2) % 2 ^ 32 })).sendCloses (64 + n) ((t + 1) % 2 ^ 32)
  else d

/-- The Stipple net starts (R166, R277, R278): T is STEP_START; a Tracer without an encoding stream closes it. -/
def Device.tracerNetStart (d : Device) (n : Nat) : Device :=
  let s0 := d.fld F.STIPPLE_STEP_START
  let d := d.each (List.range 4) (fun d s => d.put (F.TRACER_STREAM_STEP n s) s0)
  let d := d.modTracer n (fun t => { t with
    closeNext := s0, evq := [], streams := t.streams.map (fun x => { x with encOut := [] }) })
  if (d.encoding n).isEmpty && d.srcEn (64 + n) then
    (d.modTracer n (fun t => { t with closeNext := (s0 + 1) % 2 ^ 32 })).sendCloses (64 + n) s0
  else d

end Sys2Proof.Machine
end

