-- ==== Sys2Proof/Machine/Press.lean ====
section
/-! DEFINITION. Presses (R288 to R294, R297): result tensors, readout, annotations, heartbeats and the repeat
path. -/

namespace Sys2Proof.Machine

/-- The 16-byte header of an output packet (R288). -/
def outHdr (kind flags id number index aux : Nat) : List Byte :=
  leBytes 1 1 ++ leBytes 1 kind ++ leBytes 1 flags ++ leBytes 1 id ++ leBytes 4 number ++ leBytes 4 index ++ leBytes 4 aux

/-- FLAGS with INVALID, the OR of bits 1 to 5 (R288). -/
def flagsOf (marks : Nat) : Nat := bits marks 1 6 <<< 1 + b2n (decide (bits marks 1 5 ≠ 0))

/-- A packet presented to the port; the Press's vote is raised (R352). -/
def Device.present (d : Device) (k : Nat) (x : TxPkt) : Device :=
  (d.modPress k (fun p => { p with txq := p.txq ++ [x] })).setVote (16 + k) (domPress k) 2

/-- A short packet with the next frame number of its channel, 1 to 65,535 (R262): Frame Start advances it. -/
def Device.presentShort (d : Device) (k vc dt : Nat) : Device :=
  let d := if dt = 0 then d.modPress k (fun p => { p with fnum := nput p.fnum vc (nget p.fnum vc % 65535 + 1) }) else d
  d.present k ⟨vc, dt, nget (d.press k).fnum vc, []⟩
def Device.presentLong (d : Device) (k vc dt : Nat) (body : List Byte) : Device := d.present k ⟨vc, dt, 0, body⟩

/-- Whether this part is a LOCKED MATE in COLD mode, which builds its output and discards it (R455), or a former
LEAD under COLD (R460). -/
def Device.cold (d : Device) : Bool :=
  decide (d.fld F.PAIR_STATUS_ROLE = 2) && (decide (d.fld F.PAIR_STATUS_STATE = 3) || d.pair.swapped) &&
  d.flag F.PAIR_CFG_OUT_MODE

/-- The result streams that send: enabled, the Press not on a repeat path, not muted. -/
def Device.resStreams (d : Device) (k : Nat) : List Nat :=
  if d.flag (F.PRESS_REPEAT_EN k) || (d.press k).mute then []
  else (List.range 4).filter (fun c => d.flag (F.PRESS_RES_CFG_EN k c))

/-! ### Result tensors (R290, R291) -/

def Device.odTokens (d : Device) (k e : Nat) : Nat := d.fld (F.PRESS_OD1_TOKENS k e) + 1
def Device.odPkt (d : Device) (k e : Nat) : Nat := min 4094 (d.fld (F.PRESS_OD1_PKT_TOKENS k e) + 1)

/-- The result packets of stream c in the list from entry e on. -/
def Device.odPackets (d : Device) (k c : Nat) : Nat → Nat → Nat
  | 0, _ => 0
  | fuel + 1, e =>
    (if d.fld (F.PRESS_OD0_STREAM k e) = c then ceilDiv (d.odTokens k e) (d.odPkt k e) else 0) +
    (if d.flag (F.PRESS_OD0_LAST k e) ∨ 63 ≤ e then 0 else d.odPackets k c fuel (e + 1))

/-- A Press at the start of a Hatch frame (R290, R291): its list begins, every result stream opens its frame. -/
def Device.pressStart (d : Device) (k dr : Nat) : Device :=
  let rep := d.flag (F.PRESS_REPEAT_EN k)
  let on := d.flag (F.PRESS_OD_START_EN k dr) && !rep
  let e := d.fld (F.PRESS_OD_START_ENTRY k dr)
  let cold := d.cold
  let fr := d.consumed
  let d := (d.modPress k (fun p => { p with
      odOn := on, odEntry := e, odPos := 0, pkt := [], recv := Vector.replicate 4 0, tensors := Vector.replicate 4 0
      mute := cold })).modHr (14 * (2 * k + 1) + 13) (fun r => { r with edgeBusy := on })
  let ss := d.resStreams k
  let d := d.put (F.PRESS_PR_STATUS k) (maskOf ss)
  d.each ss (fun d c =>
    let vc := d.fld (F.PRESS_RES_CFG_VC k c)
    let n := if on then d.odPackets k c 64 e else 0
    (d.presentShort k vc 0).presentLong k vc 0x32
      (outHdr 1 (flagsOf (consumedMarks fr)) 0 (d.fld F.HATCH_FRAME) 0 n ++ leBytes 8 (consumedStamp fr) ++
        leBytes 1 dr ++ List.replicate 7 0))

/-- The tokens gathered sent as a TENSOR_DATA packet, when their stream sends (R290). -/
def Device.tensorPacket (d : Device) (k e : Nat) : Device :=
  let p := d.press k
  let c := d.fld (F.PRESS_OD0_STREAM k e)
  let body := p.pkt.flatMap (leBytes 16)
  let d := d.modPress k (fun p => { p with pkt := [] })
  if (d.resStreams k).contains c then
    d.presentLong k (d.fld (F.PRESS_RES_CFG_VC k c)) 0x32
      (outHdr 2 0 (d.fld (F.PRESS_OD0_ID k e)) (d.fld F.HATCH_FRAME) (16 * (p.odPos - p.pkt.length))
        (16 * d.odTokens k e) ++ body)
  else d

/-- A token beyond the list, or an error in the list (R290, R299): 0x0614 and the frame BAD. -/
def Device.odError (d : Device) (k : Nat) : Device :=
  (d.raiseBit (F.PRESS_PR_FAULT_DESC k) 0x0614 k).modHr (14 * (2 * k + 1) + 13) (fun r => { r with bad := true })

/-- The bytes in a Press's buffer of 512 KB (R32). -/
def PressUnit.fill (p : PressUnit) : Nat :=
  (p.txq.map (fun x => x.body.length)).foldl (· + ·) 0 + 16 * p.pkt.length

/-- Whether a Press has room for another token; one without holds its port (R243).  A token that is discarded needs
none. -/
def Device.pressRoom (d : Device) (k : Nat) : Bool :=
  let p := d.press k
  d.flag (F.PRESS_REPEAT_EN k) || !p.odOn || decide (p.fill + 32 ≤ 524288)

/-- A Press takes the token at its Hatch port (R290); in an abort it is discarded (R248). -/
def Device.pressTake (k : Nat) (d : Device) : Device :=
  let s := 14 * (2 * k + 1) + 13
  let l := vget (d.hr s).out pEast {}
  if l.req = l.ack ∨ ¬ d.isOn (domPress k) ∨ ¬ d.hrOn s ∨ d.hatch.mode ≠ 2 ∨ ¬ d.pressRoom k then d
  else if d.aborting then d.hAck s pEast
  else
    let v := (tokOf l.data).data
    let d := (d.hAck s pEast).digTok k v
    let p := d.press k
    if d.flag (F.PRESS_REPEAT_EN k) then d.bump (F.PRESS_DISCARD_TOK k)
    else if !p.odOn then (d.bump (F.PRESS_DISCARD_TOK k)).odError k
    else
      let e := p.odEntry
      let c := d.fld (F.PRESS_OD0_STREAM k e)
      let d := d.modPress k (fun p => { p with
        pkt := p.pkt ++ [v], odPos := p.odPos + 1, recv := vmod p.recv c (· + 1) })
      let last := decide (d.odTokens k e ≤ p.odPos + 1)
      let d := if last || decide (d.odPkt k e ≤ p.pkt.length + 1) then d.tensorPacket k e else d
      if last then
        let fin := d.flag (F.PRESS_OD0_LAST k e) || decide (63 ≤ e)
        let d := if !d.flag (F.PRESS_OD0_LAST k e) && decide (63 ≤ e) then d.odError k else d
        (d.modPress k (fun p => { p with
          odOn := !fin, odEntry := e + 1, odPos := 0, tensors := vmod p.tensors c (· + 1) })).modHr s
          (fun r => { r with edgeBusy := r.edgeBusy && !fin })
      else d

/-- A frame complete or aborted, as every Press awaits its trailer (R291). -/
def Device.pressEnd (d : Device) (t : Trailer) : Device :=
  d.each (List.range 4) (fun d k => d.modPress k (fun p => { p with trailer := some t, odOn := false, pkt := [] }))

/-- FRAME_TRL and Frame End of every result stream whose frame is open (R291). (DEDUCED, log entry 51.) -/
def Device.frameTrailer (k : Nat) (d : Device) : Device :=
  match (d.press k).trailer with
  | none => d
  | some t =>
    let marks := t.marks ||| (if (d.press k).bad then 2 else 0)
    let ss := bitsSet 4 (d.fld (F.PRESS_PR_STATUS k))
    let d := d.each ss (fun d c =>
      let vc := d.fld (F.PRESS_RES_CFG_VC k c)
      let p := d.press k
      let d := (d.presentLong k vc 0x32 (outHdr 3 (flagsOf marks) 0 t.frame (vget p.recv c 0) (vget p.tensors c 0) ++
        leBytes 8 t.at_ ++ List.replicate 8 0)).presentShort k vc 1
      if bit (flagsOf marks) 0 then d.bump (F.PRESS_FRAMES_INVALID k) else d)
    let ann := d.flag (F.PRESS_ANN_CFG_EN k) && !d.flag (F.PRESS_REPEAT_EN k)
    let d := if ann then d.setVote (16 + k) (domPress k) 2 else d
    (d.put (F.PRESS_PR_STATUS k) 0).modPress k (fun p => { p with
      trailer := none, bad := false, annDue := if ann then p.annDue ++ [{ t with marks := marks }] else p.annDue })

/-! ### Annotations (R293) -/

/-- A record of 32 bytes. -/
def annBytes (frame : Nat) (a : Ann) : List Byte :=
  leBytes 2 a.code ++ leBytes 1 a.stream ++ leBytes 1 0 ++ leBytes 4 frame ++ leBytes 4 a.step ++ leBytes 4 a.arg0 ++
  leBytes 8 a.stamp ++ leBytes 4 a.arg1 ++ leBytes 4 a.arg2

/-- Lists of at most n elements; an empty list gives one empty part. -/
def chunks {α : Type} (n : Nat) : Nat → List α → List (List α)
  | 0, l => [l]
  | fuel + 1, l => if l.length ≤ n then [l] else l.take n :: chunks n fuel (l.drop n)

/-- The annotation frame of a Hatch frame (R293): at most 256 records, the last FRAME_SUMMARY. -/
def Device.annotationSend (k : Nat) (d : Device) : Device :=
  match (d.press k).annDue with
  | [] => d
  | t :: rest =>
    let d := d.modPress k (fun p => { p with annDue := rest })
    let all := t.anns ++ (match t.abort with
      | some c => [({ code := 6, stream := 255, step := 0, arg0 := c, arg1 := 0, arg2 := 0, stamp := t.at_ } : Ann)]
      | none => [])
    let lost := all.length - 255
    let sum : Ann := { code := 1, stream := 255, step := 0, arg0 := flagsOf t.marks + 256 * b2n (decide (0 < lost))
                       arg1 := t.units, arg2 := t.draft, stamp := t.stamp }
    let recs := all.take 255 ++ [sum]
    let d := d.bumpBy (F.PRESS_ANN_LOST k) lost
    if (d.press k).mute then d
    else
      let vc := d.fld (F.PRESS_ANN_CFG_VC k)
      let parts := chunks 64 recs.length recs
      let d := d.presentShort k vc 0
      let d := d.each (List.range parts.length) (fun d i =>
        let p := parts.getD i []
        d.presentLong k vc 0x34 (outHdr 0x20 (if i + 1 < parts.length then 0x80 else 0) i t.frame p.length 0 ++
          p.flatMap (annBytes t.frame)))
      d.presentShort k vc 1

/-! ### Readout (R292) -/

/-- Steps in a readout group. -/
def Device.roGroup (d : Device) (k : Nat) : Nat := 2 ^ d.fld (F.PRESS_RO_CFG_LOG2G k)

/-- The records of a group from one queue, in queue order; a late or damaged one is discarded with 0x0615. -/
def Device.roQueue (k q g0 len : Nat) : Nat → Device → List (List Byte) → List (List Byte) × Device
  | 0, d, acc => (acc, d)
  | fuel + 1, d, acc =>
    let fault (d : Device) : Device := d.raiseBit (F.PRESS_PR_FAULT_READOUT k) 0x0615 k
    match d.consumeCheck q (iniPress k) with
    | (d, some _) => (acc, d)
    | (d, none) =>
      match d.headRec q with
      | (d, .empty) => (acc, d)
      | (d, .bad ue) => (acc, if ue then fault d else d)
      | (d, .data pos h0 h1) =>
        let e := d.desc q
        let n := bits h0 0 17
        if d.ueRange (e.addr pos) (recSize n) then
          (acc, fault ((d.noteRange (e.addr pos) (recSize n)).freezeRec q))
        else
          let p := d.rdBytes (e.addr pos + 8) n
          let step := leNat (p.take 4)
          let rel := stepDiff step g0
          if rel < 2 ^ 31 ∧ len ≤ rel then (acc, d)
          else
            let d := (d.takeRec q pos h0 h1).1
            if rel < len then Device.roQueue k q g0 len fuel d (acc ++ [leBytes 4 h0 ++ leBytes 4 h1 ++ p])
            else Device.roQueue k q g0 len fuel (fault d) acc

/-- Records packed into parts of at most a number of bytes. -/
def packParts (maxB : Nat) : List (List Byte) → List (List Byte) → List (List (List Byte))
  | [], cur => [cur]
  | r :: rest, cur =>
    if cur ≠ [] ∧ maxB < (cur.map List.length).foldl (· + ·) 0 + r.length then cur :: packParts maxB rest [r]
    else packParts maxB rest (cur ++ [r])

/-- A readout group whose last step STIPPLE.STEP has passed is sent (R292): the group of the size in force that holds the
next step not yet sent. (DEDUCED, log entry 52.) -/
def Device.readoutGroup (k : Nat) (d : Device) : Device :=
  let len := d.roGroup k
  match (d.press k).roNext with
  | none => d
  | some at_ =>
    let g0 := at_ - at_ % len
    let qs := (List.range 8).filter (fun i => d.flag (F.PRESS_RO_BIND_VALID k i))
    let passed := decide (stepDiff d.openStep ((g0 + len) % 2 ^ 32) < 2 ^ 31)
    if !d.flag (F.PRESS_RO_CFG_EN k) || d.flag (F.PRESS_REPEAT_EN k) || !passed
        || (!qs.isEmpty && decide (d.fld F.RACK_STATUS_STATE ≠ 2)) then d
    else
      let d := d.modPress k (fun p => { p with roNext := some ((g0 + len) % 2 ^ 32) })
      let (recs, d) := qs.foldl (fun s i =>
        let q := d.fld (F.PRESS_RO_BIND_QUEUE k i)
        let r := Device.roQueue k q g0 len ((s.2.desc q).used + 1) s.2 []
        (s.1 ++ r.1, r.2)) (([], d) : List (List Byte) × Device)
      if d.cold then d
      else
        let vc := d.fld (F.PRESS_RO_CFG_VC k)
        let maxB := 1024 * max 1 (d.fld (F.PRESS_RO_CFG_MAXB k))
        let parts := packParts maxB recs []
        let d := d.presentShort k vc 0
        let d := d.each (List.range parts.length) (fun d i =>
          let p := parts.getD i []
          d.presentLong k vc 0x33 (outHdr 0x10 (if i + 1 < parts.length then 0x80 else 0) i g0 p.length len ++
            p.flatten))
        (d.presentShort k vc 1).bumpBy (F.PRESS_RO_RECORDS k) recs.length

/-- The Stipple net starts: the first group is the one that holds STEP_START. -/
def Device.pressNetStart (d : Device) (k : Nat) : Device :=
  let s0 := d.fld F.STIPPLE_STEP_START
  let g := d.roGroup k
  d.modPress k (fun p => { p with roNext := some (s0 - s0 % g) })

/-! ### Heartbeat (R294) -/

/-- The body of a HEARTBEAT packet. -/
def Device.hbBody (d : Device) : List Byte :=
  let ready := decide (d.boot = 7) || decide (d.boot = 8)
  leBytes 8 d.timebase ++ leBytes 4 d.openStep ++ leBytes 4 (d.fld F.HATCH_FRAME) ++
  leBytes 2 (d.fld F.HG_FR_NEWEST_CODE) ++ leBytes 1 d.boot ++
  leBytes 1 (b2n d.faultN + 2 * b2n ready + 4 * d.fld F.PAIR_STATUS_ROLE) ++
  leBytes 1 (pat 8 (asr (sgn 16 (d.fld F.PWR_TS_MAX_TEMP)) 3)) ++ leBytes 1 (d.fld F.CONTRACT_STATUS_DRAFT) ++
  leBytes 1 (d.fld F.CONTRACT_STATUS_VB) ++ List.replicate 9 0

/-- A heartbeat falls due (R294): one that still waits is replaced and counted. -/
def Device.heartbeat (k : Nat) (d : Device) : Device :=
  let period := 100 * max 10 (d.fld (F.PRESS_HB_CFG_PERIOD k))
  if !d.flag (F.PRESS_HB_CFG_EN k) || d.flag (F.PRESS_REPEAT_EN k) || decide (d.since (d.press k).hbAt < period) then d
  else
    let sq := (d.press k).hbSeq
    let vc := d.fld (F.PRESS_HB_CFG_VC k)
    let body := outHdr 0x30 0 0 sq 0 0 ++ d.hbBody
    let d := d.modPress k (fun p => { p with hbSeq := (sq + 1) % 2 ^ 32, hbAt := d.timebase })
    if (d.press k).txq.any (fun x => x.dt = 0x37) then
      (d.modPress k (fun p => { p with
        txq := p.txq.map (fun x => if x.dt = 0x37 then { x with body := body } else x) })).bump (F.PRESS_HB_SKIP k)
    else ((d.presentShort k vc 0).presentLong k vc 0x37 body).presentShort k vc 1

/-! ### Repeat path (R297, R298) -/

/-- A burst on the lanes of the Tracer that feeds Press k, copied byte for byte. -/
def Device.repeatBurst (k : Nat) (bytes : List Byte) (pkts : Nat) (d : Device) : Device :=
  if d.flag (F.PRESS_REPEAT_EN k) then
    (d.modPress k (fun p => { p with sent := bytes })).bumpBy (F.PRESS_REPEAT_PKTS k) pkts
  else d

/-- A burst cut at a RESET_N transition (R298). (DEDUCED, log entry 97.) -/
def Device.repeatCut (d : Device) (k : Nat) : Device :=
  if d.flag (F.PRESS_REPEAT_EN k) then
    (d.bump (F.PRESS_REPEAT_CUT k)).raiseBit (F.PRESS_PR_FAULT_REPEAT_CUT k) 0x0617 k
  else d

/-- A write of REPEAT: a second enable that names a Tracer already feeding a path is refused (R269, R297). -/
def Device.repeatWrite (k : Nat) (w : Word) (d : Device) : Device :=
  let t := bits w.toNat 28 3
  let taken := (List.range 4).any (fun j => decide (j ≠ k) && d.flag (F.PRESS_REPEAT_EN j) &&
    decide (d.fld (F.PRESS_REPEAT_TRACER j) = t))
  let d := d.put (F.PRESS_REPEAT_TRACER k) t
  if bit w.toNat 31 && taken then
    ((d.put (F.PRESS_REPEAT_EN k) 0).put (F.PRESS_LINK_STATUS_CFG_ERR k) 1).raiseBit (F.PRESS_LINK_ERR k) 0x0607 k
  else d.put (F.PRESS_REPEAT_EN k) (bits w.toNat 31 1)

end Sys2Proof.Machine
end

