-- ==== Sys2Proof/Machine/Integrity.lean ====
section
/-! DEFINITION. Data integrity (R325 to R348): the Burnishers, correction, remapping, logs, invalidation, raw
access and refresh. -/

namespace Sys2Proof.Machine

/-! ### Blocks, banks and words (R325) -/

/-- The address of an integrity block, or of a controller's registers. -/
def IntBlk.base : IntBlk → Nat
  | .etch n | .plate n => intEtch n.val
  | .graver n => intGraver n.val
  | .tracer n => intTracer n.val
  | .press k => intPress k.val
  | .rack => intRack
  | .scribe n => intScribe n.val
  | .mc m => mcBase m.val

def IntBlk.unit : IntBlk → Nat
  | .etch n | .plate n => n.val
  | .graver n => n.val
  | .tracer n => n.val
  | .press k => k.val
  | .rack => wholeDevice
  | .scribe n => n.val
  | .mc m => m.val

def IntBlk.dom : IntBlk → Nat
  | .etch n | .plate n => domEtch n.val
  | .graver n => domGraver n.val
  | .tracer n => domTracer n.val
  | .press k => domPress k.val
  | .rack => domRack
  | .scribe n => domScribe n.val
  | .mc m => domMc m.val

/-- Whether it is an Etch core's block of SRAM words. -/
def IntBlk.isEtch : IntBlk → Bool
  | .etch _ => true
  | _ => false

/-- The place of a block among those with memories that have no device address. -/
def IntBlk.shadowIdx : IntBlk → Nat
  | .etch n | .plate n => n.val
  | .graver n => 64 + n.val
  | .tracer n => 96 + n.val
  | .press k => 104 + k.val
  | .rack => 108
  | .scribe n => 109 + n.val
  | .mc m => 113 + m.val

/-- The number of words of a bank, 0 where the unit has no such bank (R325).  Where the spec gives no size, the
8,192 words that a bank has at most. (DEDUCED, log entry 10.) -/
def IntBlk.words (b : IntBlk) (k : Nat) : Nat :=
  match b with
  | .etch _ => if k = 7 ∨ k = 8 then 4096 else if k = 10 then 300 else if k ≤ 11 then 8192 else 0
  | .graver _ => if k = 17 then 2304 else if k ≤ 18 then 8192 else 0
  | .tracer _ => if k ≤ 1 then 8192 else if k = 2 then 2048 else 0
  | .press _ | .rack | .scribe _ => if k ≤ 1 then 8192 else 0
  | _ => 0

/-- Where the model keeps a word: at its device address, or, for a memory without one, at a place of its own that
no access reaches. -/
def IntBlk.wordAt (b : IntBlk) (k w : Nat) : Nat :=
  (bankAddr b.base k w).getD (0x0800000000 + 0x1000000 * b.shadowIdx + 0x40000 * k + 32 * w)

/-- The bank and word at such a place. -/
def IntBlk.placeOf (b : IntBlk) (a : Nat) : IntPlace :=
  (intPlace a).getD ⟨b.base, b.unit, (a - 0x0800000000) % 0x1000000 / 0x40000, a % 0x40000 / 32⟩

/-- The strength in force for a bank: ECC_T, 0 acting as 1 (R328). -/
def Device.bankT (d : Device) (b : IntBlk) (k : Nat) : Nat :=
  max 1 (if k < 16 then bits (d.fld (F.INT_ECC_T_LO b.base)) (2 * k) 2
    else bits (d.fld (F.INT_ECC_T_HI b.base)) (2 * (k - 16)) 2)

/-- The strength of a T field of R346 or R347. -/
def codeT (v : Nat) (other : Nat) : Nat :=
  match v with
  | 0 => 4
  | 1 => 8
  | 2 => 16
  | 3 => 24
  | 4 => 32
  | _ => other

/-! ### Codewords (R326, R329, R332) -/

/-- The parity and BCH bits of an SRAM word, in their places (R326). -/
def sramCode (t : Nat) (data : List Byte) : Nat :=
  let bch := (Config.bchSram t data).toNat % 2 ^ (9 * t)
  let par := (popCount 256 (leNat data) + popCount 27 bch) % 2
  par <<< 27 + bch

/-- The check region of a valid SRAM word (R326). -/
def sramCheck (t : Nat) (data : List Byte) : Nat := 7 <<< 29 + sramCode t data

/-- Bits in which two byte lists differ. -/
def distance (x y : List Byte) : Nat :=
  ((x.zip y).map (fun p => popCount 8 (p.1 ^^^ p.2).toNat)).foldl (· + ·) 0

/-- A byte list with bit i changed. -/
def flipBit (l : List Byte) (i : Nat) : List Byte := l.set (i / 8) (l.getD (i / 8) 0 ^^^ BitVec.ofNat 8 (2 ^ (i % 8)))

/-- A codeword within k bit errors of some stored bits, the changed bits taken from lo on. -/
def nearest (good : List Byte → Bool) : Nat → Nat → List Byte → Option (List Byte)
  | 0, _, l => if good l then some l else none
  | k + 1, lo, l =>
    if good l then some l
    else (List.range (8 * l.length - lo)).findSome? (fun i => nearest good k (lo + i + 1) (flipBit l (lo + i)))

/-- What stored bits decode to (R325), given the check bits that data should carry: up to t errors are corrected,
t + 1 are detected; beyond that nothing is guaranteed. (DEDUCED, log entry 13.) -/
def decodeRaw (t : Nat) (check : List Byte → List Byte) (raw : List Byte) (len : Nat) : Option (List Byte × Nat) :=
  let good (c : List Byte) : Bool := decide (check (c.take len) = c.drop len)
  match nearest good t 0 raw with
  | some c => some (c.take len, distance c raw)
  | none =>
    if (nearest good (t + 1) 0 raw).isSome then none
    else (Config.beyondCode raw).map (fun l => ((l ++ List.replicate (len - l.length) 0).take len, t))

/-- The first k bits of check bytes, the others zero: the bits that a page's code uses (R329, R332). -/
def firstBits (k : Nat) (l : List Byte) : List Byte := leBytes l.length (leNat l % 2 ^ k)

/-- Raw bits stored in a word or page (R344): the data they decode to, and their difference from its codeword. -/
def Device.putRaw (d : Device) (a : Nat) (raw : List Byte) (dec : Option (List Byte × Nat)) (extra : Nat) : Device :=
  let len := codeSize a
  let dmg (ue : Bool) (n : Nat) (d : Device) : Device :=
    { d with damage := mapPut (fun _ => (⟨false, 0, []⟩ : Damage)) d.damage (codeUnit a) ⟨ue, n, raw⟩ }
  match dec with
  | none => dmg true 0 ((d.setBytes a (raw.take len)).reencode a)
  | some (l, n) => dmg false (n + extra) ((d.setBytes a (l.take len)).reencode a)

/-- Raw bits stored in an SRAM word whose VALID decides 0 (R326, R327, R344): it reads as zero, a single set copy is an
error of one bit, and the bits stay as they were written. -/
def Device.putRawInvalid (d : Device) (a copies : Nat) (raw : List Byte) : Device :=
  let d := d.clearMem a 32
  { d with damage := mapPut (fun _ => (⟨false, 0, []⟩ : Damage)) d.damage (codeUnit a) ⟨false, copies, raw⟩ }

/-- The stored bits of a word or page: those of its damage, else its codeword. -/
def Device.getRaw (d : Device) (a : Nat) (check : List Byte → List Byte) : List Byte :=
  match d.damageAt a with
  | some m => m.raw
  | none =>
    let l := (List.range (codeSize a)).map (fun i => d.byte (codeUnit a + i))
    l ++ check l

/-! ### Correction and remapping (R338 to R340) -/

/-- A bank's first free REMAP entry takes a word (R340): 0x0104, or 0x0105 when none is free.  Its corrected
content is copied; an uncorrectable word leaves the spare invalid and reading zero. -/
def Device.remapSram (d : Device) (b : IntBlk) (k w : Nat) (e : Option Nat) : Device :=
  match e with
  | none => d.raiseBit (F.INT_FAULT_REMAP_FULL b.base) 0x0105 b.unit
  | some e =>
    let a := b.wordAt k w
    let d := if d.ueAt a then d.clearMem a 32 else { d with damage := mapDel a d.damage }
    (((d.put (F.INT_REMAP_VALID b.base k e) 1).put (F.INT_REMAP_WORD b.base k e) w).bump (F.INT_REMAPS b.base)).raise
      0x0104 b.unit
def Device.freeSram (d : Device) (b : IntBlk) (k : Nat) : Option Nat :=
  (List.range 8).find? (fun e => !d.flag (F.INT_REMAP_VALID b.base k e))

def Device.remapLp (d : Device) (m ch q : Nat) (e : Option Nat) : Device :=
  match e with
  | none => d.raiseBit (F.MC_FAULT_REMAP_FULL m) 0x0123 m
  | some e =>
    let a := lpAddr m ch q
    let d := if d.ueAt a then d.clearMem a 1024 else { d with damage := mapDel a d.damage }
    (((d.put (F.MC_REMAP_VALID m ch e) 1).put (F.MC_REMAP_PAGE m ch e) q).bump (F.MC_REMAPS m)).raise 0x0122 m
def Device.freeLp (d : Device) (m ch : Nat) : Option Nat :=
  (List.range 32).find? (fun e => !d.flag (F.MC_REMAP_VALID m ch e))

/-- A write-back counted at its log entry; at REMAP_TH the location is repeated, and remapped where the block does
so by itself (R339, R340). -/
def Device.sramHit (d : Device) (b : IntBlk) (p : IntPlace) : Device :=
  match d.sramLogAt p with
  | none => d
  | some i =>
    let h := min 255 (d.fld (F.INT_LOG1 b.base i) + 1)
    let before := d.fld (F.INT_LOG1 b.base i)
    let th := max 1 (d.fld (F.INT_CTRL_REMAP_TH b.base))
    let d := d.put (F.INT_LOG1 b.base i) h
    if before < th ∧ th ≤ h then
      let d := d.raiseBit (F.INT_FAULT_CE_REPEAT b.base) 0x0101 b.unit
      if d.flag (F.INT_CTRL_AUTO_REMAP b.base) then d.remapSram b p.bank p.word (d.freeSram b p.bank) else d
    else d
def Device.lpHit (d : Device) (m ch q : Nat) : Device :=
  match (List.range 64).find? (fun i => d.flag (F.MC_LOG0_VALID m i)
      && d.fld (F.MC_LOG0_CH m i) == ch && d.fld (F.MC_LOG0_PAGE m i) == q) with
  | none => d
  | some i =>
    let before := d.fld (F.MC_LOG1 m i)
    let h := min 255 (before + 1)
    let th := max 1 (d.fld (F.MC_CTRL_REMAP_TH m))
    let d := d.put (F.MC_LOG1 m i) h
    if before < th ∧ th ≤ h then
      let d := d.raiseBit (F.MC_FAULT_CE_REPEAT m) 0x0126 m
      if d.flag (F.MC_CTRL_AUTO_REMAP m) then d.remapLp m ch q (d.freeLp m ch) else d
    else d

/-- The Burnisher writes back the corrected value of the first queued location, if it still needs it (R338). -/
def Device.correction (b : IntBlk) (d : Device) : Device :=
  match d.corr b.base with
  | [] => d
  | a :: rest =>
    if !d.isOn b.dom then d
    else
      let d := { d with corrQ := mapPut (fun _ => []) d.corrQ b.base rest }
      match d.damageAt a with
      | none => d
      | some m =>
        if m.ue then d
        else
          let d := { d with damage := mapDel a d.damage }
          match b with
          | .mc m =>
            let p := lpPlace a
            d.lpHit m.val p.2.1 p.2.2
          | _ => d.sramHit b (b.placeOf a)

/-- A write of a REMAP entry (R340): VALID = 1 remaps the location, or is a request with no free spare where every
entry is in use; an entry is not released, and one in use is not taken again: access errors.
(DEDUCED, log entry 16.) -/
def Device.remapWrite (ini : Nat) (b : IntBlk) (k e : Nat) (w : Word) (off : Nat) (d : Device) : Device :=
  match b with
  | .mc m =>
    if d.flag (F.MC_REMAP_VALID m.val k e) then
      (if bit w.toNat 31 && (d.freeLp m.val k).isNone then d.remapLp m.val k 0 none else d.accError ini 4 off)
    else if bit w.toNat 31 then
      (if bits w.toNat 0 20 < 983040 then d.remapLp m.val k (bits w.toNat 0 20) (some e) else d.accError ini 4 off)
    else d.put (F.MC_REMAP_PAGE m.val k e) (bits w.toNat 0 20)
  | _ =>
    if d.flag (F.INT_REMAP_VALID b.base k e) then
      (if bit w.toNat 31 && (d.freeSram b k).isNone then d.remapSram b k 0 none else d.accError ini 4 off)
    else if bit w.toNat 31 then
      (if bits w.toNat 0 13 < b.words k then d.remapSram b k (bits w.toNat 0 13) (some e) else d.accError ini 4 off)
    else d.put (F.INT_REMAP_WORD b.base k e) (bits w.toNat 0 13)

/-- LOG_CLEAR (R339): the log emptied; the next lost location raises its code again. -/
def Device.logClear (b : IntBlk) (d : Device) : Device :=
  match b with
  | .mc m => (d.each (List.range 64) (fun d i =>
      (d.putWord (F.MC_LOG0_VALID m.val i).addr 0).putWord (F.MC_LOG1 m.val i).addr 0)).rearm (F.MC_LOG_CLEAR m.val).addr
  | _ =>
    let d := d.each (List.range 16) (fun d i =>
      (d.putWord (F.INT_LOG0_VALID b.base i).addr 0).putWord (F.INT_LOG1 b.base i).addr 0)
    let d := match b with
      | .etch _ => d.each (List.range 16) (fun d i =>
          (d.putWord (F.PLATE_LOG0_VALID b.base i).addr 0).putWord (F.PLATE_LOG1 b.base i).addr 0)
      | _ => d
    d.rearm (F.INT_LOG_CLEAR b.base).addr

/-! ### Burnishers (R341, R342) -/

/-- The place of a stored word or page in its block's scan: by bank and word, or by channel and page. -/
def IntBlk.scanKey (b : IntBlk) (a : Nat) : Option Nat :=
  match b with
  | .mc m =>
    if inRange a (lpBase + m * 0xF0000000) 0xF0000000 then some ((lpPlace a).2.1 * 2 ^ 20 + (lpPlace a).2.2) else none
  | _ =>
    match intPlace a with
    | some p => if p.base = b.base then some (8192 * p.bank + p.word) else none
    | none =>
      if inRange a (0x0800000000 + 0x1000000 * b.shadowIdx) 0x1000000 then
        some (8192 * ((a - 0x0800000000) % 0x1000000 / 0x40000) + a % 0x40000 / 32)
      else none

/-- The first place of a scan from k on whose valid bit is set: the others are skipped (R341). -/
def Device.scanFrom (d : Device) (b : IntBlk) (k : Nat) : Option Nat :=
  (d.valid.filterMap (fun e => if e.2 then b.scanKey e.1 else none)).foldl (fun best x =>
    if x < k then best else some (min x (best.getD x))) none

/-- After the location at place k: the next one, or the pass ends and the next begins.  The flag says that it
ended. -/
def Device.scanNext (d : Device) (b : IntBlk) (k : Nat) : Nat × Bool :=
  match d.scanFrom b (k + 1) with
  | some x => (x, false)
  | none => ((d.scanFrom b 0).getD 0, true)

/-- A scan read of an SRAM word. -/
def Device.scrubSram (d : Device) (b : IntBlk) : Device :=
  let pos := 8192 * d.fld (F.INT_SCRUB_POS_BANK b.base) + d.fld (F.INT_SCRUB_POS_WORD b.base)
  let k := (d.scanFrom b pos).getD (8192 * 32)
  let p : IntPlace := ⟨b.base, b.unit, k / 8192, k % 8192⟩
  let a := b.wordAt p.bank p.word
  let d := match d.damageAt a with
    | none => d
    | some m =>
      if m.ue then (d.sramUe p).raiseBit (F.INT_FAULT_SCRUB_UE b.base) 0x0103 b.unit
      else if m.nbits = 0 then d else d.sramCe a p m.nbits
  let n := d.scanNext b k
  let d := (d.put (F.INT_SCRUB_POS_BANK b.base) (n.1 / 8192)).put (F.INT_SCRUB_POS_WORD b.base) (n.1 % 8192)
  if n.2 then d.bump (F.INT_SCRUB_PASSES b.base) else d

/-- A scan read of a plate page (R342): half of t bits or more corrected rewrites the page in place. -/
def Device.scrubPlate (d : Device) (n : Nat) : Device :=
  let b := intEtch n
  let pg := nget d.platePos n
  let a := plateBase n + 512 * pg
  let d := { d with platePos := nput d.platePos n ((pg + 1) % 2048) }
  match d.damageAt a with
  | none => d
  | some m =>
    if m.ue then (d.plateUeMark a).raiseBit (F.INT_FAULT_PLATE_UE b) 0x0110 n
    else if m.nbits = 0 then d
    else
      let d := d.plateCe a m.nbits
      if codeT (d.fld (F.PLATE_STATUS_T b)) 16 ≤ 2 * m.nbits then
        let l := (List.range 512).map (fun i => d.byte (a + i))
        let r := d.plateWrite n pg l
        if r.2 then
          match (List.range 16).find? (fun i => r.1.flag (F.PLATE_LOG0_VALID b i) && r.1.fld (F.PLATE_LOG0_PAGE b i) == pg) with
          | some i => r.1.put (F.PLATE_LOG1 b i) (min 255 (r.1.fld (F.PLATE_LOG1 b i) + 1))
          | none => r.1
        else r.1.raiseBit (F.INT_FAULT_PLATE_FULL b) 0x0112 n
      else d

/-- Free values as bytes. -/
def Device.drawBytes : Nat → Device → List Byte × Device
  | 0, d => ([], d)
  | k + 1, d =>
    let r := d.draw
    let t := Device.drawBytes k r.2
    (leBytes 32 r.1.toNat ++ t.1, t.2)

/-- A bitmap word that reads uncorrectable (R333): 0x0124, and its 256 pages count as valid.  A page never written
holds whatever its device holds, which is no codeword. (DEDUCED, log entry 14.) -/
def Device.bitmapUe (d : Device) (m ch q : Nat) : Device :=
  let d := d.raiseBit (F.MC_FAULT_BITMAP_UE m) 0x0124 m
  d.each ((List.range 256).filter (fun i => decide (q / 256 * 256 + i < 983040))) (fun d i =>
    let a := lpAddr m ch (q / 256 * 256 + i)
    if mapGet (fun _ => false) d.valid a then d
    else
      let r := d.drawBytes 34
      { r.2 with
        valid := mapPut (fun _ => false) r.2.valid a true
        damage := mapPut (fun _ => (⟨false, 0, []⟩ : Damage)) r.2.damage a ⟨true, 0, r.1⟩ })

/-- A scan read of an LPDDR4X page.  bitmap: the word of the bitmap that tells its valid bit reads uncorrectable. -/
def Device.scrubLp (d : Device) (m : Fin 4) (bitmap : Bool) : Device :=
  let b : IntBlk := .mc m
  let ch := d.fld (F.MC_SCRUB_POS_CH m)
  let q := d.fld (F.MC_SCRUB_POS_PAGE m)
  let d := if bitmap then d.bitmapUe m ch q else d
  let k := (d.scanFrom b (2 ^ 20 * ch + q)).getD (2 ^ 22)
  let a := lpAddr m (k / 2 ^ 20) (k % 2 ^ 20)
  let d := match d.damageAt a with
    | none => d
    | some x =>
      if x.ue then (d.lpUeMark a).raiseBit (F.MC_FAULT_SCRUB_UE m) 0x0121 m
      else if x.nbits = 0 then d else d.lpCe a x.nbits
  let n := d.scanNext b k
  let d := (d.put (F.MC_SCRUB_POS_PAGE m) (n.1 % 2 ^ 20)).put (F.MC_SCRUB_POS_CH m) (n.1 / 2 ^ 20)
  if n.2 then d.bump (F.MC_SCRUB_PASSES m) else d

/-- A Burnisher reads its next location (R341); while its correction queue holds one, it corrects that first (R338).
vf: verify results of a plate rewrite.  clash: a same-word conflict in a scratchpad, after which the read is repeated
(R190).  bitmap: a controller's bitmap word reads uncorrectable (R333). -/
def Device.scrubRead (b : IntBlk) (vf : List Bool) (clash : Option Clash) (bitmap : Bool) (d : Device) : Device :=
  let d := { d with verifyFails := vf }
  if !d.isOn b.dom then d
  else match b with
  | .plate n =>
    let st := d.fld (F.ETCH_FIX_STATUS_STATE n.val)
    if d.flag (F.PLATE_SCRUB_EN b.base) && decide (st ≠ 2) && decide (st ≠ 3) then d.scrubPlate n.val else d
  | _ =>
    if !d.flag (match b with
        | .mc m => F.MC_CTRL_SCRUB_EN m.val
        | _ => F.INT_CTRL_SCRUB_EN b.base) then d
    else if !(d.corr b.base).isEmpty then d.correction b
    else match b with
    | .mc m => d.scrubLp m bitmap
    | .graver n =>
      let a := (d.scanFrom b (8192 * d.fld (F.INT_SCRUB_POS_BANK b.base) + d.fld (F.INT_SCRUB_POS_WORD b.base))).getD 0
      match clash with
      | some c => d.busy n.val c
      | none =>
        if (d.tile n.val).held.any (heldBy a (· = 7)) then d.modTile n.val (fun t => t.unhold a (· = 7))
        else d.scrubSram b
    | _ => d.scrubSram b

/-! ### Page invalidation (R333) -/

/-- INVAL_CMD.GO (R333, R347): refused while BUSY. -/
def Device.invalGo (ini m off : Nat) (d : Device) : Device :=
  if d.flag (F.MC_INVAL_CMD_BUSY m) then d.accError ini 4 off
  else
    { d.put (F.MC_INVAL_CMD_BUSY m) 1 with
      inval := d.inval ++ [(m, d.fld (F.MC_INVAL_BASE m), d.fld (F.MC_INVAL_LEN m))] }

/-- The invalidation completes: pages of the controller's region in the range have their bits cleared. -/
def Device.invalDone (m : Nat) (d : Device) : Device :=
  match d.inval.find? (fun e => e.1 = m) with
  | none => d
  | some (_, base, len) =>
    let lo := max (1024 * base) (lpBase + m * 0xF0000000)
    let hi := min (1024 * (base + len)) (lpBase + (m + 1) * 0xF0000000)
    let d := if lo < hi then d.clearMem lo (hi - lo) else d
    { d.put (F.MC_INVAL_CMD_BUSY m) 0 with inval := d.inval.filter (fun e => e.1 ≠ m) }

/-! ### Raw access (R344) -/

/-- Whether an SRAM block's unit is IDLE for raw access by an initiator. -/
def Device.rawIdle (d : Device) (b : IntBlk) (ini : Nat) : Bool :=
  match b with
  | .etch n => !d.flag (F.ETCH_CTRL_RUN n.val)
  | .graver n => decide (d.fld (F.GRAVER_STATUS_STATE n.val) = 0)
  | .tracer n => !d.flag (F.TRACER_LINK_CTRL_EN n.val)
  | .press k => !d.flag (F.PRESS_LINK_CTRL_EN k.val)
  | .rack => decide (d.fld F.RACK_STATUS_STATE = 0)
  | .scribe n => decide (ini ≠ iniScribe n.val) && !(vget d.scribes n.val {}).running
  | _ => true

/-- The 32 bytes of RAW_DATA. -/
def Device.rawData (d : Device) (b : IntBlk) : List Byte :=
  (List.range 8).flatMap (fun l => leBytes 4 (d.fld (match b with
    | .mc m => F.MC_RAW_DATA m.val l
    | _ => F.INT_RAW_DATA b.base l)))
def Device.setRawData (d : Device) (b : IntBlk) (l : List Byte) : Device :=
  d.each (List.range 8) (fun d i => d.put (match b with
    | .mc m => F.MC_RAW_DATA m.val i
    | _ => F.INT_RAW_DATA b.base i) (leNat ((l.drop (4 * i)).take 4)))

/-- The result of a raw command: accepted, or refused with 0x0106. -/
def Device.rawResult (d : Device) (b : IntBlk) (ok : Bool) : Device :=
  match b with
  | .mc m =>
    let d := d.put (F.MC_RAW_STATUS_ERR m.val) (b2n !ok)
    if ok then d else d.raiseBit (F.MC_FAULT_RAW m.val) 0x0106 m.val
  | _ =>
    let d := d.put (F.INT_RAW_STATUS_ERR b.base) (b2n !ok)
    if ok then d else d.raiseBit (F.INT_FAULT_RAW b.base) 0x0106 b.unit

/-- A raw command on an SRAM word.  The code covers the data, PAR and the BCH bits in use (R326). -/
def Device.rawSram (d : Device) (b : IntBlk) (cmd : Nat) : Device :=
  let k := d.fld (F.INT_RAW_SEL_BANK b.base)
  let w := d.fld (F.INT_RAW_SEL_WORD b.base)
  let a := b.wordAt k w
  let t := d.bankT b k
  if b.words k ≤ w then d.rawResult b false
  else if cmd = 1 ∨ cmd = 3 then
    if mapGet (fun _ => false) d.valid a || (d.damageAt a).isSome then
      let raw := d.getRaw a (fun l => leBytes 4 (sramCheck t l))
      ((d.setRawData b (raw.take 32)).put (F.INT_RAW_CHECK b.base) (leNat (raw.drop 32))).rawResult b true
    else
      let r := d.draw
      ((r.2.setRawData b (leBytes 32 0)).put (F.INT_RAW_CHECK b.base) (r.1.toNat % 2 ^ 29)).rawResult b true
  else if cmd = 2 then
    let data := d.rawData b
    let c := d.fld (F.INT_RAW_CHECK b.base)
    let copies := popCount 3 (bits c 29 3)
    let raw := data ++ leBytes 4 c
    let used := data ++ leBytes 4 (bits c 27 1 <<< 27 + bits c 0 (9 * t))
    let d := d.copyBefore a 32
    let d :=
      if copies < 2 then d.putRawInvalid a copies raw
      else d.putRaw a raw (decodeRaw t (fun l => leBytes 4 (sramCode t l)) used 32) (if copies = 2 then 1 else 0)
    d.rawResult b true
  else d.rawResult b false

/-- A raw command on pages: a plate page, or an LPDDR4X page, whose code uses the first n bits of the check bytes. -/
def Device.rawPage (d : Device) (b : IntBlk) (cmd page chunk a : Nat) (size : Nat) (check : List Byte → List Byte)
    (t n : Nat) : Device :=
  let key := b.base
  let buf := (mapGet (fun _ => []) d.rawBuf key : List Byte)
  let full := size + 64
  let buf := buf ++ List.replicate (full - buf.length) 0
  let keep (d : Device) (l : List Byte) : Device := { d with rawBuf := mapPut (fun _ => []) d.rawBuf key l }
  match cmd with
  | 1 => (keep d (d.getRaw a check)).rawResult b true
  | 2 =>
    let dec := decodeRaw t (fun l => firstBits n (check l)) (buf.take size ++ firstBits n (buf.drop size)) size
    match b with
    | .mc _ => (d.putRaw a buf dec 0).rawResult b true
    | _ =>
      let r := d.plateWrite b.unit page (buf.take size)
      if r.2 then (r.1.putRaw a buf dec 0).rawResult b true
      else (r.1.raiseBit (F.INT_FAULT_PLATE_FULL b.base) 0x0112 b.unit).rawResult b true
  | 3 => if 32 * chunk < full then (d.setRawData b ((buf.drop (32 * chunk)).take 32)).rawResult b true
    else d.rawResult b false
  | 4 => if 32 * chunk < full then
      (keep d (buf.take (32 * chunk) ++ d.rawData b ++ buf.drop (32 * chunk + 32))).rawResult b true
    else d.rawResult b false
  | _ => d.rawResult b false

/-- A write of RAW_CMD (R344).  vf: the verify results of a raw plate write. (DEDUCED, log entry 12.) -/
def Device.rawCmd (ini : Nat) (b : IntBlk) (cmd : Nat) (vf : List Bool) (d : Device) : Device :=
  let d := { d with verifyFails := vf }
  if !isScribeOrJtag ini then d.rawResult b false
  else match b with
  | .mc m =>
    let ch := d.fld (F.MC_RAW_SEL_CH m.val)
    let q := d.fld (F.MC_RAW_SEL_PAGE m.val)
    if 983040 ≤ q then d.rawResult b false
    else d.rawPage b cmd q (d.fld (F.MC_RAW_SEL_CHUNK m.val)) (lpAddr m.val ch q) 1024
      (fun l => (Config.bchPage (codeT (d.fld (F.MC_CTRL_T m.val)) 8) l ++ List.replicate 64 0).take 64)
      (codeT (d.fld (F.MC_CTRL_T m.val)) 8) (14 * codeT (d.fld (F.MC_CTRL_T m.val)) 8 + 1)
  | .etch n =>
    if d.flag (F.INT_RAW_SEL_PLATE b.base) then
      let pg := d.fld (F.INT_RAW_SEL_WORD b.base) % 2048
      let t := codeT (d.fld (F.PLATE_STATUS_T b.base)) 16
      d.rawPage b cmd pg (d.fld (F.INT_RAW_SEL_BANK b.base)) (plateBase n.val + 512 * pg) 512
        (fun l => (Config.bchPlate t l ++ List.replicate 64 0).take 64) t (13 * t + 1)
    else if d.rawIdle b ini then d.rawSram b cmd else d.rawResult b false
  | _ => if d.rawIdle b ini then d.rawSram b cmd else d.rawResult b false

/-! ### Refresh (R337) -/

/-- A controller's reading of its device (R337): the rate it requires, or above its operating range. -/
def Device.refreshPoll (m rate : Nat) (hot : Bool) (d : Device) : Device :=
  if !d.isOn (domMc m) then d
  else if hot then
    ((d.put (F.MC_STATUS_REFRATE m) 2).put (F.MC_STATUS_HOT m) 1).raiseBit (F.MC_FAULT_HOT m) 0x0125 m
  else (d.put (F.MC_STATUS_REFRATE m) (min rate 2)).put (F.MC_STATUS_HOT m) 0

/-- Whether ECC_T, or a controller's T, may be written (R328, R332): no valid bit of the memory is set. -/
def Device.bankClear (d : Device) (b : IntBlk) (k : Nat) : Bool :=
  d.valid.all (fun e => !e.2 || !(List.range (b.words k)).any (fun w => b.wordAt k w = e.1))
def Device.mcClear (d : Device) (m : Nat) : Bool :=
  d.valid.all (fun e => !e.2 || !inRange e.1 (lpBase + m * 0xF0000000) 0xF0000000)

end Sys2Proof.Machine
end

