-- ==== Sys2Proof/Machine/Power.lean ====
section
/-! DEFINITION. Power domains (R349 to R360), band changes (R361), sensors and rails (R362, R363), the power
policy (R366) and Hardground (R367 to R370). -/

namespace Sys2Proof.Machine

/-! ### What a domain holds (R37, R350) -/

/-- The number of domains (R349). -/
def domCount : Nat := 127

/-- The address windows of a domain's registers and memories, the model's places for memories without an address
among them. -/
def domWins (i : Nat) : List (Nat × Nat) :=
  let shadow (k : Nat) : Nat × Nat := (0x0800000000 + 0x1000000 * k, 0x1000000)
  if i = 0 then []
  else if i < 65 then [(etchBase (i - 1), 0x1000000), shadow (i - 1)]
  else if i < 97 then [(graverBase (i - 65), 0x1000000), shadow (i - 1)]
  else if i < 105 then [(hrBase (14 * (i - 97)), 14 * 0x40000), (0x0348000000 + 0x80 * (i - 97), 0x80)]
  else if i = 105 then [(stippleBase, 0x10000000)]
  else if i = 106 then [(rackBase, 0x10000000), shadow 108]
  else if i < 115 then [(tracerBase (i - 107), 0x1000000), shadow (i - 107 + 96)]
  else if i < 119 then [(pressBase (i - 115), 0x1000000), shadow (i - 115 + 104)]
  else if i < 123 then [(mcBase (i - 119), 0x1000000), (lpBase + (i - 119) * 0xF0000000, 0xF0000000)]
  else [(scribeBase (i - 123), 0x100000), (0x0358000000 + 0x1000 * (i - 123), 0x1000), shadow (i - 123 + 109)]

/-- Whether Tracer n feeds a repeat path, which runs in AON (R39, R297). -/
def Device.feedsRepeat (d : Device) (n : Nat) : Bool :=
  (List.range 4).any (fun k => d.flag (F.PRESS_REPEAT_EN k) && decide (d.fld (F.PRESS_REPEAT_TRACER k) = n))

/-- The bits of a register that RESET_N and a power cycle of its domain keep (R11, R39, R268, R329): the remap
directory of a plate memory, the link registers of a port on a repeat path, and what the tables say. -/
def Device.keepMask (d : Device) (a : Nat) : Nat :=
  match regLoc (a % bankStride) with
  | none => 0
  | some l =>
    match l.blk with
    | .plate => if l.off = 0x100 ∨ 0x1C0 ≤ l.off then 2 ^ 32 - 1 else 0
    | .tracer => if l.off ≤ 8 ∨ inRange l.off 0x80 0x80 then (if d.feedsRepeat l.idx then 2 ^ 32 - 1 else 0)
      else match findRow l.blk.rows l.off with
        | some r => r.keptMask
        | none => 0
    | .press => if l.off ≤ 0xC then (if d.flag (F.PRESS_REPEAT_EN l.idx) then 2 ^ 32 - 1 else 0)
      else match findRow l.blk.rows l.off with
        | some r => r.keptMask
        | none => 0
    | _ => match findRow l.blk.rows l.off with
      | some r => r.keptMask
      | none => 0

/-- A register back at its reset value but for the bits kept. -/
def Device.resetEntry (d : Device) (e : Nat × Word) : Nat × Word :=
  let m := BitVec.ofNat 32 (d.keepMask e.1)
  (e.1, (e.2 &&& m) ||| (resetWord e.1 &&& ~~~m))

/-- What a port on a repeat path keeps running with over RESET_N and a power cycle (R39, R268): its enables and bursts; its
frames and counts begin anew. -/
def CsiLink.kept (l : CsiLink) : CsiLink := { l with lines := [], frameNum := [], byteRest := 0 }

/-- The hidden state of a domain's unit at its reset value.  The export port of an Etch core lies in the Hatch router
region, and goes on while the core is OFF (R196, R197). -/
def Device.resetHidden (d : Device) (i : Nat) : Device :=
  if i = 0 then d
  else if i < 65 then
    { d.modCore (i - 1) (fun c => { wearAt := d.timebase, scvBuf := c.scvBuf, scvSeq := c.scvSeq }) with platePos := nput d.platePos (i - 1) 0 }
  else if i < 97 then d.modTile (i - 65) (fun _ => {})
  else if i < 105 then d.each (List.range 14) (fun d c => d.modHr (14 * (i - 97) + c) (fun _ => {}))
  else if i = 105 then
    { d with
      routers := Vector.replicate 112 {}, ports := Vector.replicate 64 {}
      sources := Vector.replicate 105 {}, seq := {} }
  else if i = 106 then { d with rack := { sweeping := d.rack.sweeping } }
  else if i < 115 then
    let n := i - 107
    { d.modTracer n (fun t => if d.feedsRepeat n then { link := t.link.kept } else {}) with
      mirrorRx := d.mirrorRx.filter (fun e => e.1 ≠ n), imageRx := d.imageRx.filter (fun e => e.1 ≠ n) }
  else if i < 119 then
    d.modPress (i - 115) (fun p => if d.flag (F.PRESS_REPEAT_EN (i - 115)) then { link := p.link.kept } else {})
  else if i < 123 then { d with inval := d.inval.filter (fun e => e.1 ≠ i - 119) }
  else { d with scribes := vmod d.scribes (i - 123) (fun s =>
      { s with running := false, released := false, halted := false }) }

/-- A domain enters OFF (R350): its registers reset, its memories lost. (DEDUCED, log entry 42.) -/
def Device.domainOff (d0 : Device) (i : Nat) : Device :=
  let inside (a : Nat) : Bool := (domWins i).any (fun w => inRange (a % bankStride) w.1 w.2)
  let d : Device := (domWins i).foldl (fun d w => d.clearMem w.1 w.2) d0
  let out (e : Nat × List Nat) : Bool := !inside e.1
  let d : Device := { d with
    regs := d.regs.map (fun e => if inside e.1 then d.resetEntry e else e)
    corrQ := List.filter out d.corrQ
    rawBuf := List.filter (fun e => !inside (Prod.fst e)) d.rawBuf
    spent := List.filter (fun e => !inside (Prod.fst e) || d.keepMask (Prod.fst e) != 0) d.spent }
  d.resetHidden i

/-- The clear engine of a domain that enters ON from OFF (R327): every valid bit of its memories. -/
def Device.clearValid (d : Device) (i : Nat) : Device := (domWins i).foldl (fun d w => d.clearMem w.1 w.2) d

/-! ### Quiescence and boundaries (R42, R355) -/

def linkEmpty (l : Link) : Bool := l.req == l.ack

/-- The site of Tracer n's port and of Press k's, and the two of a controller's (R29). -/
def tracerSite (n : Nat) : Nat := 14 * n
def pressSite (k : Nat) : Nat := 14 * (2 * k + 1) + 13
def mcSites (m : Nat) : List Nat := [3, 4, 9, 10, 101, 102, 107, 108].filter (fun s => memCtl s = m)

/-- The edge port of the attachment whose domain is i: its sites and the port there (R29). -/
def edgeOf (i : Nat) : List (Nat × Nat) :=
  if i = 106 then [(104, pSouth)]
  else if 107 ≤ i ∧ i < 115 then [(tracerSite (i - 107), pWest)]
  else if 115 ≤ i ∧ i < 119 then [(pressSite (i - 115), pEast)]
  else if 119 ≤ i ∧ i < 123 then (mcSites (i - 119)).map (fun s => (s, if s < 14 then pNorth else pSouth))
  else if 123 ≤ i then [(scribeSite (i - 123), pSouth)]
  else []

/-- The Hatch links that routers drive across a domain's boundary (R42), by router and output. -/
def Device.hLinks (d : Device) (i : Nat) : List (Nat × Nat) :=
  if 1 ≤ i ∧ i < 65 then [(d.etchSite (i - 1), pLocal)]
  else if 65 ≤ i ∧ i < 97 then
    ((List.range 112).filter (fun s => d.servedTile s = some (i - 65))).map (fun s => (s, pLocal))
  else if 97 ≤ i ∧ i < 105 then
    let r := i - 97
    (List.range 14).flatMap (fun c => (List.range 5).map (fun o => (14 * r + c, o)) ++
      (if r = 0 then [] else [(14 * (r - 1) + c, pSouth)]) ++ (if r = 7 then [] else [(14 * (r + 1) + c, pNorth)]))
  else edgeOf i

/-- The Stipple links that routers drive across a domain's boundary. -/
def Device.sLinks (d : Device) (i : Nat) : List (Nat × Nat) :=
  if 1 ≤ i ∧ i < 65 then [(d.etchSite (i - 1), pLocal)]
  else if 65 ≤ i ∧ i < 97 then [(d.graverSite (i - 65), pLocal)]
  else if i = 105 then (List.range 112).flatMap (fun s => (List.range 5).map (fun o => (s, o)))
  else edgeOf i

/-- The routers whose links from tiles and edge attachments cross a domain's boundary, and the tiles and Stipple
sources whose links do. -/
def rowSites (r : Nat) : List Nat := (List.range 14).map (14 * r + ·)
def offerSites (i : Nat) : List Nat :=
  if 97 ≤ i ∧ i < 105 then rowSites (i - 97) else (edgeOf i).map (·.1)
def Device.crossTiles (d : Device) (i : Nat) : List Nat :=
  if 65 ≤ i ∧ i < 97 then [i - 65]
  else if 97 ≤ i ∧ i < 105 then (rowSites (i - 97)).filterMap d.servedTile
  else []
def crossSources (i : Nat) : List Nat :=
  if 1 ≤ i ∧ i < 65 then [i - 1]
  else if 65 ≤ i ∧ i < 97 then [72 + (i - 65)]
  else if i = 105 then List.range 105
  else if 107 ≤ i ∧ i < 115 then [64 + (i - 107)]
  else []

/-- Whether the unit of a domain is quiescent (R355).  That of a SCRIBE domain, in its wait state without a
transaction, is what the command's arrival says. (DEDUCED, log entry 59.) -/
def Device.quiescent (d : Device) (i : Nat) : Bool :=
  if i = 0 then false
  else if i < 65 then
    let n := i - 1
    let c := d.core n
    (decide (c.phase = .idle) || decide (c.phase = .waiting) || (decide (c.phase = .opened) && (d.nextEvent n).isNone))
      && c.fetches.isEmpty && c.draining.isNone
  else if i < 97 then decide (d.fld (F.GRAVER_STATUS_STATE (i - 65)) ≤ 1)
  else if i < 105 then decide (d.fld F.HATCH_STATUS_FSTATE ≤ 1)
  else if i = 105 then decide (d.stState = 0)
  else if i = 106 then
    d.rack.waits.isEmpty && d.rack.sweeping.isEmpty && !d.rack.rhIn.active && !d.rack.rhOut.active
  else if i < 115 then !d.flag (F.TRACER_LINK_STATUS_HS (i - 107)) && (d.tracer (i - 107)).evq.isEmpty
  else if i < 119 then !d.flag (F.PRESS_LINK_STATUS_HS (i - 115)) && (d.press (i - 115)).txq.isEmpty
  else if i < 123 then !d.inval.any (fun e => e.1 = i - 119)
  else true

/-- Whether every link across a domain's boundary is empty (R42, R355), an Etch core's Rack requests among what
crosses. -/
def Device.boundaryEmpty (d : Device) (i : Nat) : Bool :=
  (d.hLinks i).all (fun e => linkEmpty (vget (d.hr e.1).out e.2 {})) &&
  (d.sLinks i).all (fun e => linkEmpty (vget (d.router e.1).out e.2 {})) &&
  (offerSites i).all (fun s => (d.hr s).offer.isEmpty) &&
  (d.crossTiles i).all (fun n => (d.tile n).hout.isEmpty) &&
  (crossSources i).all (fun s => (d.source s).outq.isEmpty) &&
  (if i = 105 ∨ i = 106 then d.seq.rackOut.isEmpty && d.seq.rackArr.isEmpty
   else if 1 ≤ i ∧ i < 65 then (d.core (i - 1)).rackQ.isEmpty else true)

/-- What is in flight across a domain's boundary discarded, its links emptied (R356). -/
def Device.discardBoundary (d : Device) (i : Nat) : Device :=
  let d := d.each (d.hLinks i) (fun d e => d.modHr e.1 (fun r => { r with out := vmod r.out e.2 (fun _ => {}) }))
  let d := d.each (d.sLinks i) (fun d e => d.modRouter e.1 (fun r => { r with out := vmod r.out e.2 (fun _ => {}) }))
  let d := d.each (offerSites i) (fun d s => d.modHr s (fun r => { r with offer := [] }))
  let d := d.each (d.crossTiles i) (fun d n => d.modTile n (fun t => { t with hout := [] }))
  let d := d.each (crossSources i) (fun d s => d.modSource s (fun x => { x with outq := [] }))
  if i = 105 ∨ i = 106 then d.modSeq (fun s => { s with rackOut := [], rackArr := [] })
  else if 1 ≤ i ∧ i < 65 then d.modCore (i - 1) (fun c => { c with rackQ := [], rackOut := [] })
  else d

/-! ### Lowering (R354 to R356) -/

/-- Whether the clocks of R360 are gated: AON_SLEEP set and every other domain OFF. -/
def Device.gateClocks (d : Device) : Device :=
  if d.flag F.PWR_CTRL_AON_SLEEP && (List.range 126).all (fun k => decide (d.domState (k + 1) = 0)) then
    d.modPower (fun p => { p with gated := true })
  else d

/-- Isolation closed and the supplies set (R355 steps 3 and 4). -/
def Device.enterLow (d : Device) (i target : Nat) : Device :=
  let d := d.modDom i (fun x => { x with phase := .steady })
  let d := if 1 ≤ i ∧ i < 65 then d.fixCut (i - 1) else d
  let d := d.setDom i target
  (if target = 0 then d.domainOff i else d).gateClocks

/-- LOWER_HOLD_EXPIRE (R354): HOLD ticks have passed, which an override does not wait for.  A domain in RET, without activity, goes OFF at once.
(DEDUCED, log entry 59.) -/
def Device.holdExpire (i : Nat) (d : Device) : Device :=
  match (d.dom i).phase with
  | .hold t since =>
    if d.since since < d.fld F.PWR_CTRL_HOLD ∧ ¬ d.overridden i then d
    else if d.domState i = 1 then d.enterLow i t
    else (d.setDom i 3).modDom i (fun x => { x with phase := .quiesce t d.timebase (d.overridden i) })
  | _ => d

/-- What a change of a domain's resolved state does at once; under an override no HOLD is kept (R354, R356). -/
def Device.settleNow (d : Device) (i : Nat) : Device :=
  let d := d.settle i
  if d.overridden i then d.holdExpire i else d

/-- DOMAIN_ISOLATE (R355): quiescent, with every boundary link empty. -/
def Device.isolate (i : Nat) (d : Device) : Device :=
  match (d.dom i).phase with
  | .quiesce t _ _ => if d.quiescent i && d.boundaryEmpty i then (d.enterLow i t).settleNow i else d
  | _ => d

/-- DRAIN_LIMIT_EXPIRE (R355): abandoned, counted, 0x0702, and a new hold. -/
def Device.drainExpire (i : Nat) (d : Device) : Device :=
  match (d.dom i).phase with
  | .quiesce t since false =>
    if d.since since < d.fld F.PWR_DRAIN_LIMIT then d
    else (((d.setDom i 2).bump F.PWR_DRAIN_FAIL).raiseBit F.PWR_FAULT_DRAIN 0x0702 wholeDevice).modDom i
      (fun x => { x with phase := .hold t d.timebase })
  | _ => d

/-- FORCED_LOWER_TIMEOUT (R356): 10 µs after an override, what crosses the boundary of a domain that is not
quiescent is discarded. -/
def Device.forcedTimeout (i : Nat) (d : Device) : Device :=
  match (d.dom i).phase with
  | .quiesce t since true =>
    if d.since since < 1000 then d
    else if d.quiescent i && d.boundaryEmpty i then (d.enterLow i t).settleNow i
    else ((d.discardBoundary i).enterLow i t).raiseBit F.PWR_FAULT_FORCED_DISCARD 0x070A wholeDevice
  | _ => d

/-- An override of Hardground (R351, R356).  One to RET or OFF that meets a wake takes effect when ON is reported
(R359). (DEDUCED, log entry 61.) -/
def Device.override (d : Device) (i v : Nat) : Device := (d.put (voteFld 31 i) v).settleNow i

/-! ### Waking (R357 to R359) -/

/-- The limits a wake falls under (R358): 0 OFF to ON of ETCH and GRAVER, 1 RET to ON, 2 MC from OFF, 3 none. -/
def wakeClass (i : Nat) (fromOff : Bool) : Nat :=
  if !fromOff then 1 else if decide (1 ≤ i) && decide (i < 97) then 0
  else if decide (119 ≤ i) && decide (i < 123) then 2 else 3

/-- The wakes of a class in progress. -/
def Device.wakesIn (d : Device) (c : Nat) : Nat :=
  ((List.range domCount).filter (fun i => match (d.dom i).phase with
    | .wake _ _ o => decide (wakeClass i o = c)
    | _ => false)).length

/-- Whether a wake of domain i may begin now (R358): within its limit, and no lower domain of its class waits. -/
def Device.mayWake (d : Device) (i : Nat) (fromOff : Bool) : Bool :=
  let c := wakeClass i fromOff
  let room := match c with
    | 0 => decide ((d.power.wakeStarts.filter (fun t => decide (d.since t < 2000))).length < 8)
    | 1 => decide (d.wakesIn 1 < 16)
    | 2 => decide (d.wakesIn 2 = 0)
    | _ => true
  room && !(List.range i).any (fun j => match (d.dom j).phase with
    | .pending o => decide (wakeClass j o = c)
    | _ => false)

/-- DOMAIN_RAISE (R354, R357): the resolved state is ON and the domain is not; votes act once FUSE has ended
(R375).  A wake that waits for the limits of R358 goes on though its votes have dropped since: it completes first
(R359). -/
def Device.domainRaise (i : Nat) (d : Device) : Device :=
  let waits := match (d.dom i).phase with
    | .pending _ => true
    | _ => false
  if decide (d.boot ≤ 1) || (decide (d.resolved i ≠ 2) && !waits) then d
  else
    let go (fromOff : Bool) : Device :=
      let d := d.setDom i 3
      if d.mayWake i fromOff then
        let d := if wakeClass i fromOff = 0 then d.modPower (fun p => { p with
            wakeStarts := p.wakeStarts.filter (fun t => decide (d.since t < 2000)) ++ [d.timebase] }) else d
        d.modDom i (fun x => { x with phase := .wake 1 d.timebase fromOff })
      else d.modDom i (fun x => { x with phase := .pending fromOff })
    match (d.dom i).phase with
    | .pending o => go o
    | .steady | .hold _ _ => if d.domState i < 2 then go (decide (d.domState i = 0)) else d
    | _ => d

/-- WAKE_STEP_READY (R357): the regulator step waits while a band change is in progress; the memory step clears
valid bits and trains a controller's channels from OFF; the last step opens isolation. -/
def Device.wakeStep (i : Nat) (d : Device) : Device :=
  match (d.dom i).phase with
  | .wake k _ o =>
    if k = 1 ∧ d.flag F.CONTRACT_STATUS_TRANSITION then d
    else if k < 4 then
      let d := if k = 3 ∧ o then d.clearValid i else d
      let d := if k = 3 ∧ o ∧ 119 ≤ i ∧ i < 123 then d.put (F.MC_STATUS_TRAINED (i - 119)) 1 else d
      d.modDom i (fun x => { x with phase := .wake (k + 1) d.timebase o })
    else
      let d := (((d.setDom i 2).bump F.PWR_WAKES).modDom i (fun x => { x with phase := .steady })).settleNow i
      if 65 ≤ i ∧ i < 97 then d.tileWake (i - 65)
      else if 115 ≤ i ∧ i < 119 then d.pressStop (i - 115)
      else d
  | _ => d

/-- WAKE_STEP_TIMEOUT (R357): the domain left OFF, 0x0709, its votes ignored from now on. (DEDUCED, log entry 64.) -/
def Device.wakeTimeout (i : Nat) (d : Device) : Device :=
  match (d.dom i).phase with
  | .wake _ _ _ =>
    ((d.modDom i (fun x => { x with ignored := true })).enterLow i 0).raiseBit F.PWR_FAULT_WAKE 0x0709 wholeDevice
  | _ => d

/-- I3C_ADDRESS_WAKE (R360): a match of the dynamic address while SCRIBE[0] is not ON restores the clocks and votes it
ON. (DEDUCED, log entry 66.) -/
def Device.addressWake (d : Device) : Device :=
  if d.isOn (domScribe 0) || d.host.i3c.da.isNone then d
  else (d.modPower (fun p => { p with gated := false })).setVote 0 (domScribe 0) 2

/-- ARR_HOLD_EXPIRE (R352): a hardware vote of a Tracer or a Press with nothing left to hold it. -/
def Device.arrHold (p : CsiPort) (d : Device) : Device :=
  let hold := d.fld F.PWR_ARR_HOLD
  match p with
  | .rx n =>
    let t := d.tracer n.val
    let live := decide (d.stState ≠ 0) && d.srcEn (64 + n.val)
    if d.flag (F.TRACER_LINK_STATUS_HS n.val) || live || !t.rxq.isEmpty || !t.evq.isEmpty
        || (List.range 4).any (fun s => !(d.stream n.val s).units.isEmpty)
        || decide (d.since t.link.burstAt < hold) then d
    else d.setVote (8 + n.val) (domTracer n.val) 0
  | .tx k =>
    let x := d.press k.val
    if !x.txq.isEmpty || x.trailer.isSome || !x.annDue.isEmpty || decide (d.fld (F.PRESS_PR_STATUS k.val) ≠ 0)
        || decide (d.since x.quietAt < hold) then d
    else d.setVote (16 + k.val) (domPress k.val) 0

/-! ### Bands (R45, R46, R361) -/

/-- Whether no frame is in progress: FSTATE IDLE or BOUNDARY. -/
def Device.atBoundary (d : Device) : Bool := decide (d.fld F.HATCH_STATUS_FSTATE ≤ 1)

/-- The current limit released at the forced band once power is below it (R368). -/
def Device.limitCheck (d : Device) : Device :=
  if d.power.limit ≠ 0 ∧ d.fld F.CONTRACT_STATUS_VB = 0 ∧ ¬ d.flag F.CONTRACT_STATUS_TRANSITION
      ∧ d.fld F.PWR_PKG_POWER < d.power.limit then
    (d.modPower (fun p => { p with limit := 0 })).put F.HG_STATUS_LIMITING (b2n d.power.tripLimit)
  else d

/-- BAND_CHANGE_START (R361, R367): the band requested, or the lowest while forced. (DEDUCED, log entry 62.) -/
def Device.bandStart (d : Device) : Device :=
  let target := if d.flag F.HG_STATUS_FORCED then 0 else d.fld F.PWR_BAND_REQ
  if d.atBoundary && !d.flag F.CONTRACT_STATUS_TRANSITION && decide (target ≠ d.fld F.CONTRACT_STATUS_VB) then
    (d.put F.CONTRACT_STATUS_VB_TARGET target).put F.CONTRACT_STATUS_TRANSITION 1
  else d

/-- BAND_CHANGE_END (R361). -/
def Device.bandEnd (d : Device) : Device :=
  if d.flag F.CONTRACT_STATUS_TRANSITION then
    (((d.put F.CONTRACT_STATUS_VB (d.fld F.CONTRACT_STATUS_VB_TARGET)).put F.CONTRACT_STATUS_TRANSITION 0).bump
      F.PWR_BAND_CHANGES).limitCheck
  else d

/-- The band that holds a temperature in 1/8 degree (R46). -/
def tempBand (s : Int) : Nat := if s < 0 then 0 else if s < 360 then 1 else if s ≤ 680 then 2 else 3

/-- The lower limit of a band, in 1/8 degree. -/
def bandFloor (b : Nat) : Int :=
  match b with
  | 0 => -320
  | 1 => 0
  | 2 => 360
  | _ => 680

/-- The temperature band fixed at a frame boundary (R46).  While no sensor has a valid reading the band in force
stands: TB3 until the first reading, the last band once every sensor has failed. (DESIGN CHOICE, log entry 110.) -/
def Device.tempUpdate (d : Device) : Device :=
  let d := d.modPower (fun p => { p with
    tbCfg := (d.word F.CONTRACT_TB_CFG_GUARD.addr).toNat, margin := d.fld F.CONTRACT_MARGIN })
  if !d.flag F.PWR_TS_MAX_VALID then d
  else
    let s := sgn 16 (d.fld F.PWR_TS_MAX_TEMP) + 8 * (bits d.power.tbCfg 0 8 : Nat)
    let cur := d.fld F.CONTRACT_STATUS_TB
    let b := tempBand s
    if cur < b then d.put F.CONTRACT_STATUS_TB b
    else if b < cur ∧ 8 * ((bits d.power.tbCfg 8 8 : Nat) : Int) ≤ bandFloor cur - s then d.put F.CONTRACT_STATUS_TB b
    else d

/-- The bound of a draft level at a voltage band, in the set and temperature band in force (R245, R385).
(DEDUCED, log entry 62.) -/
def Device.boundOf (d : Device) (dr vb : Nat) : Nat :=
  let set := b2n (d.flag F.HATCH_STATUS_RELOC)
  nget d.power.bounds (((set * 4 + dr) * 8 + vb) * 4 + d.fld F.CONTRACT_STATUS_TB)

/-- The frame monitor at frame start (R52, R364): the larger bound during a band change; 0x0707 without one.
(DEDUCED, log entry 62.) -/
def Device.monitorStart (d : Device) (dr : Nat) : Device :=
  let a := d.boundOf dr (d.fld F.CONTRACT_STATUS_VB)
  let b := if d.flag F.CONTRACT_STATUS_TRANSITION then d.boundOf dr (d.fld F.CONTRACT_STATUS_VB_TARGET) else a
  let d := d.put F.CONTRACT_STATUS_DRAFT dr
  if a = 0 ∨ b = 0 then
    (d.modPower (fun p => { p with frameBound := none })).raiseBit F.PWR_FAULT_NO_BOUND 0x0707 wholeDevice
  else d.modPower (fun p => { p with frameBound := some (max a b) })

/-- The frame monitor at frame completion (R52). -/
def Device.monitorEnd (d : Device) : Device :=
  match d.hatch.startAt with
  | none => d
  | some t =>
    let e := d.since t
    let allow := match d.power.frameBound with
      | some b => b + d.power.margin
      | none => 0
    if allow < e ∨ d.power.frameBound.isNone then
      (d.bump F.CONTRACT_OVERRUN).put F.CONTRACT_LAST_EXCESS (min (e - allow) (2 ^ 32 - 1))
    else d

/-! ### Sensors and rails (R362, R363) -/

/-- TS_MAX over the valid readings; the lowest index among equals. (DEDUCED, log entry 60.) -/
def Device.tsMax (d : Device) : Device :=
  let l := (List.range 16).filter (fun i => d.flag (F.PWR_TS_VALID i))
  let t (i : Nat) : Int := sgn 16 (d.fld (F.PWR_TS_TEMP i))
  match l with
  | [] => d.put F.PWR_TS_MAX_VALID 0
  | i :: rest =>
    let m := rest.foldl (fun m j => if t m < t j then j else m) i
    let d := ((d.put F.PWR_TS_MAX_VALID 1).put F.PWR_TS_MAX_INDEX m).put F.PWR_TS_MAX_TEMP (pat 16 (t m))
    if sgn 16 (d.fld F.HG_MAX_TEMP) < t m then d.put F.HG_MAX_TEMP (pat 16 (t m)) else d

/-- A cause of Hardground set (R367): the forced point. -/
def Device.setCause (d : Device) (f : Fld) : Device :=
  let d := if d.flag F.HG_STATUS_FORCED then d else d.bump F.HG_TRIPS
  ((d.put f 1).put F.HG_STATUS_FORCED 1).put F.HATCH_NEXT_DRAFT_FORCED 1

/-- A cause of R367 that starts the 1 ms timer: it does so when the cause is new and the timer does not run. -/
def Device.setTrip (d : Device) (f : Fld) : Device :=
  if d.flag f then d.setCause f
  else (d.setCause f).modPower (fun p => { p with tripAt := some (p.tripAt.getD d.timebase) })

/-- The SENSOR cause (R362, R367). -/
def Device.sensorCause (d : Device) : Device :=
  if d.power.failedTs.isEmpty then d else d.setTrip F.HG_STATUS_SENSOR

/-- SENSOR_SAMPLE (R362): the reading of a sensor in 1/8 degree, or none when its self-check fails. -/
def Device.sensorSample (i : Nat) (reading : Option (BitVec 16)) (d : Device) : Device :=
  match reading with
  | some x =>
    ((d.put (F.PWR_TS_VALID i) 1).put (F.PWR_TS_TEMP i) x.toNat).modPower (fun p =>
      { p with failedTs := p.failedTs.filter (· ≠ i) }) |>.tsMax
  | none =>
    let d := (d.put (F.PWR_TS_VALID i) 0).modPower (fun p => { p with failedTs := i :: p.failedTs.filter (· ≠ i) })
    d.tsMax.sensorCause.raiseBit F.HG_FAULT_SENSOR 0x0708 wholeDevice

/-- RAIL_SAMPLE (R363): one reading in mW of a rail, taken each µs; POWER averages the last ten, ENERGY counts
µJ. -/
def Device.railSample (r : Nat) (mw : BitVec 32) (d : Device) : Device :=
  let l := ((mapGet (fun _ => []) d.power.railAvg r : List Nat) ++ [mw.toNat])
  let l := l.drop (l.length - 10)
  let e := nget d.power.railRest r + mw.toNat
  let d := d.modPower (fun p => { p with
    railAvg := mapPut (fun _ => []) p.railAvg r l, railRest := nput p.railRest r (e % 1000) })
  let d := d.put (F.PWR_RAIL_POWER r) (l.foldl (· + ·) 0 / l.length)
  let old := d.fld (F.PWR_RAIL_ENERGY_LO r) + d.fld (F.PWR_RAIL_ENERGY_HI r) <<< 32
  let d := d.put64 (F.PWR_RAIL_ENERGY_LO r) (F.PWR_RAIL_ENERGY_HI r) (old + e / 1000)
  let sum (f : Nat → Nat) : Nat := ((List.range 9).map f).foldl (· + ·) 0
  let d := d.put F.PWR_PKG_POWER (min (2 ^ 32 - 1) (sum (fun k => d.fld (F.PWR_RAIL_POWER k))))
  let d := d.put64 F.PWR_PKG_ENERGY_LO F.PWR_PKG_ENERGY_HI
    (sum (fun k => d.fld (F.PWR_RAIL_ENERGY_LO k) + d.fld (F.PWR_RAIL_ENERGY_HI k) <<< 32))
  let below := decide (100 * d.fld F.PWR_PKG_POWER < 95 * (1000 * min 130 (d.fld F.HG_CFG_CAP)))
  (d.modPower (fun p => { p with capBelow := if below then some (p.capBelow.getD d.timebase) else none })).limitCheck

/-! ### The power policy (R365, R366) -/

def Device.pkgEnergy (d : Device) : Nat := d.fld F.PWR_PKG_ENERGY_LO + d.fld F.PWR_PKG_ENERGY_HI <<< 32

/-- One sample of PKG_ENERGY each ms; WIN_MS of them are kept, newest first. (DEDUCED, log entry 63.) -/
def Device.policySample (d : Device) : Device :=
  d.modPower (fun p => { p with samples := (d.pkgEnergy :: p.samples).take (p.policy.winMs + 1) })

/-- Backlog over the enabled streams, in 1/256 of the quota. (DEDUCED, log entry 63.) -/
def Device.backlog (d : Device) : Nat :=
  ((List.range 32).map (fun k =>
    let n := k / 4
    let s := k % 4
    let q := d.fld (F.TRACER_STREAM_CFG_QUOTA n s)
    if d.isOn (domTracer n) && d.flag (F.TRACER_STREAM_CFG_EN n s) && decide (q ≠ 0) then
      256 * d.fld (F.TRACER_STREAM_FILL n s) / (4096 * q) else 0)).foldl max 0

/-- POWER_POLICY_STEP (R366), at a frame boundary, while SCRIBE[1] runs and no LEAD chooses in its stead (R457).
(DEDUCED, log entries 60, 63.) -/
def Device.policyStep (d : Device) : Device :=
  let p := d.power.policy
  let mate := decide (d.fld F.PAIR_STATUS_ROLE = 2) && decide (d.fld F.PAIR_STATUS_STATE = 3)
  let n := p.points.length
  if !d.atBoundary || !(vget d.scribes 1 {}).running || !d.isOn (domScribe 1) || mate || decide (n = 0) then d
  else
    let old := d.power.samples.getD (p.winMs - 1) (d.power.samples.getLastD d.pkgEnergy)
    let e := (d.pkgEnergy + 2 ^ 64 - old) % 2 ^ 64
    let pw := e / max 1 p.winMs
    let t := sgn 16 (d.fld F.PWR_TS_MAX_TEMP)
    let b := d.backlog
    let ok (k : Nat) : Bool := let pt := p.points.getD k 0; decide (d.boundOf (bits pt 0 2) (bits pt 2 3) ≠ 0)
    let k0 := d.power.point
    let partner := decide (d.fld F.PAIR_STATUS_ROLE = 1) && d.pair.partForced
    let forced := d.flag F.HG_STATUS_FORCED
    let want : Int :=
      if min p.pSust 95000 < pw ∨ p.tSoft ≤ t then k0 + 1
      else if p.bHi ≤ b then k0 - 1
      else if b ≤ p.bLo then k0 + 1
      else k0
    let up : List Nat := ((List.range n).filter (fun j : Nat => decide (want ≤ (j : Int)))).filter ok
    let down : List Nat := (((List.range n).filter (fun j : Nat => decide ((j : Int) ≤ want))).filter ok).reverse
    let k1 := if p.dwell ≤ d.power.sinceMove ∧ want ≠ k0 then
        (if (k0 : Int) < want then up.headD k0 else down.headD k0) else k0
    let k2 := if ok k1 then k1 else (((List.range n).filter (fun j => decide (k1 < j))).filter ok).headD k1
    let k := if forced then n - 1 else k2
    let pt := p.points.getD k 0
    let d := d.modPower (fun q => { q with
      point := k, sinceMove := if k ≠ k0 then 0 else q.sinceMove + 1 })
    ((d.put F.HATCH_NEXT_DRAFT_DRAFT (if partner then 3 else bits pt 0 2)).put F.PWR_BAND_REQ (bits pt 2 3)).bandStart

/-! ### Hardground (R367 to R370) -/

/-- The cap in mW: CFG.CAP, at most 130 W (R369). -/
def Device.capMw (d : Device) : Nat := 1000 * min 130 (d.fld F.HG_CFG_CAP)

/-- Entry to boot state FAULT (R387, R501): FAULT_N asserted. -/
def Device.enterFault (d : Device) : Device := { d.put F.BOOT_STATUS_STATE 10 with faultN := true }

/-- The shutdown sequence (R370): data in flight is discarded, the frame that runs with it. (DEDUCED, log entry 61.) -/
def Device.shutdown (d : Device) : Device :=
  let d := if d.boot < 7 then d.put F.BOOT_STATUS_CAUSE 0x0705 else d
  let d := (d.enterFault.put F.HG_STATUS_SHUTDOWN 1).raiseBit F.HG_FAULT_SHUTDOWN 0x0705 wholeDevice
  let d : Device := { d with hatch := {} }
  let d := d.put F.HATCH_STATUS_FSTATE 0
  d.each ((List.range 126).map (· + 1)) (fun d i =>
    let mc := decide (119 ≤ i) && decide (i < 123)
    let waking := match (d.dom i).phase with
      | .wake _ _ true | .pending true => true
      | _ => false
    let t := if mc && decide (d.domState i ≠ 0) && !waking then 1 else 0
    let d := (d.discardBoundary i).put (voteFld 31 i) (if mc then 1 else 3)
    d.enterLow i t)

/-- POR_N or RESET_N is asserted: the protection logic is in reset. (DEDUCED, log entry 42.) -/
def Device.inReset (d : Device) : Bool := d.bootc.por || d.bootc.rst

/-- CAP_EXCEEDED (R367). -/
def Device.capExceeded (d : Device) : Device :=
  if !d.inReset && decide (d.capMw < d.fld F.PWR_PKG_POWER) then
    let d := (d.modPower (fun p => { p with limit := d.capMw, capBelow := none })).put F.HG_STATUS_LIMITING 1
    (d.setCause F.HG_STATUS_CAP).raiseBit F.HG_FAULT_CAP 0x0701 wholeDevice
  else d

/-- Whether the highest valid reading is at or above a number of degrees. -/
def Device.hotAt (d : Device) (deg : Nat) : Bool :=
  d.flag F.PWR_TS_MAX_VALID && decide ((8 * deg : Int) ≤ sgn 16 (d.fld F.PWR_TS_MAX_TEMP))

/-- THERMAL_WARN (R367, R369). -/
def Device.thermalWarn (d : Device) : Device :=
  if !d.inReset && d.hotAt (min 110 (d.fld F.HG_CFG_WARN)) then d.raiseBit F.HG_FAULT_WARN 0x0703 wholeDevice else d

/-- THERMAL_TRIP (R367). -/
def Device.thermalTrip (d : Device) : Device :=
  if !d.inReset && d.hotAt 110 then (d.setTrip F.HG_STATUS_TRIP).raiseBit F.HG_FAULT_TRIP 0x0704 wholeDevice else d

/-- MC_HOT_CAUSE (R367, R372). -/
def Device.mcHotCause (d : Device) : Device :=
  if !d.inReset && (List.range 4).any (fun m => d.isOn (domMc m) && d.flag (F.MC_STATUS_HOT m)) then
    (d.setTrip F.HG_STATUS_MC_HOT).raiseBit F.HG_FAULT_TRIP 0x0704 wholeDevice
  else d

/-- TRIP_LIMIT_TIMER (R367): 1 ms without a frame boundary, the cause still set. -/
def Device.tripLimitTimer (d : Device) : Device :=
  let cause := d.flag F.HG_STATUS_TRIP || d.flag F.HG_STATUS_MC_HOT || d.flag F.HG_STATUS_SENSOR
  match d.power.tripAt with
  | some t =>
    if cause && decide (100000 ≤ d.since t) then
      (d.modPower (fun p => { p with tripLimit := true, tripAt := none })).put F.HG_STATUS_LIMITING 1
    else d
  | none => d

/-- The limit of a trip ends, at a frame boundary or when its causes have cleared. (DEDUCED, log entry 65.) -/
def Device.tripLimitEnd (d : Device) : Device :=
  (d.modPower (fun p => { p with tripLimit := false, tripAt := none })).put F.HG_STATUS_LIMITING
    (b2n (decide (d.power.limit ≠ 0)))

/-- A frame boundary: it comes before the 1 ms of a trip have passed, or ends the trip's limit (R367). -/
def Device.tripBoundary (d : Device) : Device :=
  if d.power.tripLimit || d.power.tripAt.isSome then d.tripLimitEnd else d

/-- WATCHDOG_EXPIRE (R367). -/
def Device.watchdogExpire (d : Device) : Device :=
  let ms := d.fld F.HG_CFG_WD_MS
  if d.power.wdOn && !d.flag F.HG_STATUS_WATCHDOG && decide (ms ≠ 0) && decide (100000 * ms ≤ d.since d.power.wdSince) then
    (d.setCause F.HG_STATUS_WATCHDOG).raiseBit F.HG_FAULT_WATCHDOG 0x0706 wholeDevice
  else d

/-- CAUSE_CLEAR (R367): cause c, by its bit of HG.STATUS, when its condition is met.  WATCHDOG clears at a KICK
only. -/
def Device.causeClear (c : Nat) (d : Device) : Device :=
  let d := match c with
    | 0 => match d.power.capBelow with
      | some t => if 100000 ≤ d.since t then d.put F.HG_STATUS_CAP 0 else d
      | none => d
    | 1 => if d.flag F.PWR_TS_MAX_VALID && !d.hotAt 105 then d.put F.HG_STATUS_TRIP 0 else d
    | 3 => if (List.range 4).any (fun m => d.flag (F.MC_STATUS_HOT m)) then d else d.put F.HG_STATUS_MC_HOT 0
    | 4 => if d.power.failedTs.isEmpty then d.put F.HG_STATUS_SENSOR 0 else d
    | _ => d
  if d.flag F.HG_STATUS_TRIP || d.flag F.HG_STATUS_MC_HOT || d.flag F.HG_STATUS_SENSOR then d
  else d.tripBoundary

/-- Whether an initiator is a Scribe. -/
def isScribe (ini : Nat) : Bool := decide (2 ≤ ini) && decide (ini ≤ 5)

/-- HG_KICK (R367, R369): the watchdog restarts, its cause clears. -/
def Device.hgKick (ini off : Nat) (d : Device) : Device :=
  if isScribe ini then (d.modPower (fun p => { p with wdSince := d.timebase })).put F.HG_STATUS_WATCHDOG 0
  else d.accError ini 4 off

/-- HG_RELEASE (R367): FORCED ends when no cause is set. -/
def Device.hgRelease (ini : Nat) (w : Word) (off : Nat) (d : Device) : Device :=
  if !isScribe ini then d.accError ini 4 off
  else if bit w.toNat 0 ∧ bits (d.word F.HG_STATUS_CAP.addr).toNat 0 5 = 0 then
    (d.put F.HG_STATUS_FORCED 0).put F.HATCH_NEXT_DRAFT_FORCED 0
  else d

/-- HG_CFG_WRITE (R369). (DEDUCED, log entry 65.) -/
def Device.hgCfg (ini off : Nat) (w : Word) (d : Device) : Device :=
  if isScribe ini then (d.putWord F.HG_CFG_CAP.addr w).modPower (fun p => { p with wdSince := d.timebase })
  else d.accError ini 4 off

/-- REGULATOR_FLOOR_TIMEOUT (R368): 100 µs at the floor under a current limit. -/
def Device.floorTimeout (d : Device) : Device := if !d.inReset && d.flag F.HG_STATUS_LIMITING then d.shutdown else d

/-- THERMAL_SHUTDOWN (R370). -/
def Device.thermalShutdown (d : Device) : Device := if !d.inReset && d.hotAt 115 then d.shutdown else d

/-- VOTE_WRITE (R353): PWR.VOTE[c][w] written by an initiator.  Hardware clients' fields ignore writes; those of
reserved clients are reserved; those of a software client of another are access errors, and so are Hardground's to
any other initiator. -/
def Device.voteWrite (ini c w : Nat) (v : Word) (off : Nat) (d : Device) : Device :=
  let owner := if c = 0 then iniHost else c + 1
  if c ≤ 4 then
    if ini = owner ∨ ini = iniJtag then
      let v := if w = 7 then v &&& 0x3FFFFFFF else v
      (d.putWord (F.PWR_VOTE c w).addr v).each ((List.range 16).map (· + 16 * w)) (fun d i => d.settle i)
    else d.accError ini 4 off
  else if c = 31 then
    if ini = iniHg then
      let v := if w = 7 then v &&& 0x3FFFFFFF else v
      (d.putWord (F.PWR_VOTE c w).addr v).each ((List.range 16).map (· + 16 * w)) (fun d i => d.settleNow i)
    else d.accError ini 4 off
  else d

end Sys2Proof.Machine
end

