-- ==== Sys2Proof/Machine/Timers.lean ====
section
/-! DEFINITION. TIMEBASE, the timer channels, captures and trigger outputs (R467 to R482). -/

namespace Sys2Proof.Machine

/-! ### Latched halves (R363, R468, R473) -/

/-- The place of the latch of an initiator for the high half at an address. -/
def latchKey (ini a : Nat) : Nat := a + bankStride * ini

/-- A read of a low half latches the high half for the initiator. -/
def Device.latchHi (d : Device) (ini a v : Nat) : Device :=
  { d with hiLatch := mapPut (fun _ => none) d.hiLatch (latchKey ini a) (some v) }

/-- A read of a high half returns the latched half and clears the latch, or the live value. -/
def Device.takeHi (d : Device) (ini a live : Nat) : Nat × Device :=
  match (mapGet (fun _ => none) d.hiLatch (latchKey ini a) : Option Nat) with
  | some v => (v, { d with hiLatch := mapPut (fun _ => none) d.hiLatch (latchKey ini a) none })
  | none => (live, d)

/-! ### Channels -/

def Device.tch (d : Device) (i : Nat) : TimerCh := vget d.timers.ch i {}
def Device.modTch (d : Device) (i : Nat) (f : TimerCh → TimerCh) : Device :=
  { d with timers := { d.timers with ch := vmod d.timers.ch i f } }
def Device.tout (d : Device) (j : Nat) : TrigOut := vget d.timers.out j {}
def Device.modTout (d : Device) (j : Nat) (f : TrigOut → TrigOut) : Device :=
  { d with timers := { d.timers with out := vmod d.timers.out j f } }

/-- Whether an even timer is the low half of a linked pair, and an odd one its high half (R472). -/
def Device.linkedLow (d : Device) (i : Nat) : Bool := decide (i % 2 = 0) && d.flag (F.TIMER_CTRL_LINK i)
def Device.linkedHigh (d : Device) (i : Nat) : Bool := decide (i % 2 = 1) && d.flag (F.TIMER_CTRL_LINK (i - 1))

/-- The level of a gate or capture source (R476): a TRIG_IN, or a FLAG_OUT pin, driven by any core's line.
(DEDUCED, log entry 32.) -/
def Device.sourceLevel (d : Device) (src : Nat) : Bool :=
  if src < 4 then bit (d.fld F.TMR_TRIG_STATUS_IN) src
  else (List.range 64).any (fun n => bit (d.fld (F.ETCH_FLAG_STATUS n)) (src - 4))

/-- Whether a channel's gate is active (R474). (DEDUCED, log entry 88.) -/
def Device.gateOn (d : Device) (i : Nat) : Bool :=
  !d.flag (F.TIMER_CTRL_GATE_EN i) ||
    (d.sourceLevel (d.fld (F.TIMER_CTRL_GATE_SRC i)) != d.flag (F.TIMER_CTRL_GATE_POL i))

/-- Whether a channel's prescaler advances (R469). -/
def Device.counting (d : Device) (i : Nat) : Bool :=
  d.flag (F.TIMER_CTRL_EN i) && d.gateOn i && !d.linkedHigh i

/-! ### Trigger outputs (R479) -/

/-- A pin's level set. -/
def Device.setOut (d : Device) (j : Nat) (v : Bool) : Device :=
  d.put ⟨F.TMR_TRIG_STATUS_OUT.addr, 8 + j, 1⟩ (b2n v)

/-- The timer whose count and WRAP drive a pin: SRC, or the low timer of its pair. -/
def Device.outSrc (d : Device) (j : Nat) : Nat :=
  let s := d.fld (F.TMR_OUT_CFG_SRC j)
  if d.linkedHigh s then s - 1 else s

/-- LEVEL and PWM pins as their registers and counts now stand. -/
def Device.showOuts (d : Device) : Device :=
  d.each [0, 1] (fun d j =>
    let src := d.fld (F.TMR_OUT_CFG_SRC j)
    if !(d.tout j).on then d
    else match d.fld (F.TMR_OUT_CFG_MODE j) with
      | 0 => d.setOut j (d.flag (F.TMR_OUT_CFG_LEVEL j))
      | 2 => d.setOut j (decide (d.fld (F.TIMER_COUNT (d.outSrc j)) < d.fld (F.TIMER_CMP src)))
      | _ => d)

/-- A tick that sets WRAP of channel i: its count, and the PULSE and TOGGLE pins it drives. -/
def Device.wrap (d : Device) (i : Nat) : Device :=
  let d := (d.put (F.TIMER_STATUS_WRAP i) 1).bump (F.TIMER_WRAPS i)
  d.each [0, 1] (fun d j =>
    if !(d.tout j).on || decide (d.outSrc j ≠ i) then d
    else match d.fld (F.TMR_OUT_CFG_MODE j) with
      | 1 => (d.setOut j true).modTout j (fun o => { o with pulseAt := some d.timebase })
      | 3 => d.setOut j (!bit (d.fld F.TMR_TRIG_STATUS_OUT) j)
      | _ => d)

/-- TRIG_PULSE_END (R479): PW + 1 ticks after the pulse began. -/
def Device.pulseEnd (j : Nat) (d : Device) : Device :=
  match (d.tout j).pulseAt with
  | some t =>
    if d.since t ≤ d.fld (F.TMR_OUT_CFG_PW j) then d
    else
      let d := d.modTout j (fun o => { o with pulseAt := none })
      if d.fld (F.TMR_OUT_CFG_MODE j) = 1 then d.setOut j false else d
  | none => d

/-! ### Counting (R469 to R472) -/

/-- The update of a count tick (R470): the count, DIR (true: down), and whether WRAP and PERIOD_SHORT are set. -/
def countNext (updown down : Bool) (period c : Nat) : Nat × Bool × Bool × Bool :=
  if !updown then
    if period ≤ c then (0, down, true, decide (period < c)) else (c + 1, down, false, false)
  else if period = 0 then (0, down, true, false)
  else if !down then
    if period ≤ c then (c - 1, true, false, decide (period < c)) else (c + 1, false, false, false)
  else if c = 0 then (1, false, true, false) else (c - 1, true, false, false)

/-- A 32-bit count, or that of a linked pair in 64 bits. -/
def Device.countOf (d : Device) (i : Nat) : Nat :=
  d.fld (F.TIMER_COUNT i) + (if d.linkedLow i then d.fld (F.TIMER_COUNT (i + 1)) <<< 32 else 0)
def Device.periodOf (d : Device) (i : Nat) : Nat :=
  d.fld (F.TIMER_PERIOD i) + (if d.linkedLow i then d.fld (F.TIMER_PERIOD (i + 1)) <<< 32 else 0)
def Device.setCount (d : Device) (i v : Nat) : Device :=
  let d := d.put (F.TIMER_COUNT i) v
  if d.linkedLow i then d.put (F.TIMER_COUNT (i + 1)) (v >>> 32) else d

/-- TIMER_COUNT_TICK (R470): a prescaler period of an enabled channel has passed. -/
def Device.countTick (i : Nat) (d : Device) : Device :=
  let p := d.fld (F.TIMER_CTRL_PRESCALE i) + 1
  if !d.counting i || decide ((d.tch i).pres < p) then d
  else
    let pair := d.linkedLow i
    let (c, down, w, short) := countNext (!pair && d.flag (F.TIMER_CTRL_MODE i)) (d.flag (F.TIMER_CTRL_DIR i))
      (d.periodOf i) (d.countOf i)
    let d := (d.modTch i (fun t => { t with pres := t.pres - p })).setCount i c
    let d := if pair then d else d.put (F.TIMER_CTRL_DIR i) (b2n down)
    let d := if short then d.put (F.TIMER_STATUS_PERIOD_SHORT i) 1 else d
    (if w then d.wrap i else d).showOuts

/-- COUNT writes that have waited for this tick (R471, R472): the written value stands, no status is set; the other
half of a pair takes its normal update when a count tick falls here. -/
def Device.countWrites (d : Device) : Device :=
  d.each (List.range 8) (fun d i =>
    match (d.tch i).wr with
    | none => d
    | some v =>
      let lo := if d.linkedHigh i then i - 1 else i
      let due := d.linkedLow lo && d.counting lo &&
        decide (d.fld (F.TIMER_CTRL_PRESCALE lo) ≤ (d.tch lo).pres)
      let d := if due then d.setCount lo (countNext false false (d.periodOf lo) (d.countOf lo)).1 else d
      ((d.modTch i (fun t => { t with wr := none })).modTch lo (fun t => { t with pres := 0 })).put (F.TIMER_COUNT i) v)

/-- The levels of the sources over n ticks (R476). -/
def Device.watchSources (n : Nat) (d : Device) : Device :=
  { d with timers := { d.timers with src := Vector.ofFn (fun k : Fin 8 =>
      let s := d.timers.src[k]
      let v := d.sourceLevel k
      if v = s.level then { s with stood := s.stood + n } else ⟨v, n⟩) } }

/-- The timer unit at n REFCLK ticks with the TRIG_IN levels given: waiting COUNT writes, prescalers.
(DEDUCED, log entry 88.) -/
def Device.timerTicks (d : Device) (n : Nat) (trig : Nat) : Device :=
  let wrote := (List.range 8).map (fun i => decide ((d.tch i).wr.isSome)
    || (d.linkedLow i && decide ((d.tch (i + 1)).wr.isSome)))
  let d := (d.countWrites.put F.TMR_TRIG_STATUS_IN trig).watchSources n
  (d.each (List.range 8) (fun d i =>
    if d.counting i then
      d.modTch i (fun t => { t with pres := t.pres + (if wrote.getD i false then n - 1 else n) })
    else d)).showOuts

/-- TIMER_COUNT_WRITE (R471): at once while EN = 0, otherwise at the next tick. (DEDUCED, log entry 88.) -/
def Device.countWrite (i : Nat) (v : Word) (d : Device) : Device :=
  let lo := if d.linkedHigh i then i - 1 else i
  if d.flag (F.TIMER_CTRL_EN lo) then d.modTch i (fun t => { t with wr := some v.toNat })
  else (d.put (F.TIMER_COUNT i) v.toNat).showOuts

/-- A write of CTRL: EN = 0 holds the prescaler at zero (R469). -/
def Device.timerCtrl (i : Nat) (d : Device) : Device :=
  if d.flag (F.TIMER_CTRL_EN i) then d else d.modTch i (fun t => { t with pres := 0 })

/-- GSTART (R475). -/
def Device.gstart (mask : Nat) (d : Device) : Device :=
  d.each (bitsSet 8 mask) (fun d i => (d.put (F.TIMER_CTRL_EN i) 1).modTch i (fun t => { t with pres := 0 }))

/-- A write of OUT_CFG: the pin is driven from now on, in PULSE low until the next WRAP. -/
def Device.outCfg (j : Nat) (d : Device) : Device :=
  let d := d.modTout j (fun _ => { on := true })
  (if d.fld (F.TMR_OUT_CFG_MODE j) = 1 then d.setOut j false else d).showOuts

/-! ### Captures (R477, R478) -/

/-- An entry pushed onto the capture queue of a channel, and its high half onto the pair's. -/
def Device.capPush (d : Device) (i : Nat) (c : Nat) (rise : Bool) : Device :=
  if 16 ≤ (d.tch i).capq.length then (d.bump (F.TIMER_CAPQ_LOST i)).put (F.TIMER_STATUS_CAPQ_OVF i) 1
  else
    let add (d : Device) (k v : Nat) : Device :=
      let d := d.modTch k (fun t => { t with capq := t.capq ++ [⟨v, rise, d.timebase % 2 ^ 24⟩] })
      d.put (F.TIMER_CAPQ_FILL k) (d.tch k).capq.length
    let d := add d i (c % 2 ^ 32)
    if d.linkedLow i then add d (i + 1) (c >>> 32) else d

/-- Whether a channel accepts a new level of its capture source: one that has stood for FILT + 1 ticks (R476). -/
def Device.accepts (d : Device) (i : Nat) (rise : Bool) : Bool :=
  let s := vget d.timers.src (d.fld (F.TIMER_CAP_CFG_SRC i)) {}
  s.level == rise && (d.tch i).accepted != rise && decide (d.fld (F.TIMER_CAP_CFG_FILT i) < s.stood)

/-- CAPTURE_EDGE (R476, R477): an edge of the level that a channel accepts of its capture source. -/
def Device.captureEdge (i : Nat) (rise : Bool) (d : Device) : Device :=
  if !d.accepts i rise then d
  else
  let d := d.modTch i (fun t => { t with accepted := rise })
  if !d.flag (F.TIMER_CAP_CFG_CAP_EN i) || d.linkedHigh i then d
  else
    let c := d.countOf i
    let f (k : Nat) : Fld := if rise then F.TIMER_CAP_RISE k else F.TIMER_CAP_FALL k
    let d := (d.put (f i) c).put (F.TIMER_STATUS_CAP i) 1
    let d := if d.linkedLow i then d.put (f (i + 1)) (c >>> 32) else d
    let q := d.fld (F.TIMER_CAP_CFG_QEDGE i)
    let d := if bit q (if rise then 0 else 1) then d.capPush i c rise else d
    if rise && d.flag (F.TIMER_CAP_CFG_RST_RISE i) then
      (((d.setCount i 0).put (F.TIMER_CTRL_DIR i) 0).modTch i (fun t => { t with pres := 0 })).showOuts
    else d

/-- A read of CAPQ_VAL (R478): the oldest entry removed; for the high half of a pair the half removed last. -/
def Device.capqRead (i : Nat) (d : Device) : Nat × Device :=
  if d.linkedHigh i then ((d.tch i).hiLast, d)
  else match (d.tch i).capq with
    | [] => (0, d.put (F.TIMER_CAPQ_INFO_VALID i) 0)
    | e :: rest =>
      let d := d.modTch i (fun t => { t with capq := rest })
      let d := (((d.put (F.TIMER_CAPQ_FILL i) rest.length).put (F.TIMER_CAPQ_INFO_VALID i) 1).put
        (F.TIMER_CAPQ_INFO_EDGE i) (b2n e.rise)).put (F.TIMER_CAPQ_INFO_TB i) e.tb
      if d.linkedLow i then
        let q := (d.tch (i + 1)).capq
        let d := d.modTch (i + 1) (fun t => { t with capq := t.capq.tail, hiLast := (q.head?.map Capture.count).getD 0 })
        (e.count, d.put (F.TIMER_CAPQ_FILL (i + 1)) q.tail.length)
      else (e.count, d)

/-! ### Reads of counts (R468, R473) -/

/-- A read of COUNT, CAP_RISE or CAP_FALL of channel i, by the field of each channel. -/
def Device.pairRead (ini i : Nat) (f : Nat → Fld) (d : Device) : Nat × Device :=
  if d.linkedLow i then (d.fld (f i), d.latchHi ini (f (i + 1)).addr (d.fld (f (i + 1))))
  else if d.linkedHigh i then d.takeHi ini (f i).addr (d.fld (f i))
  else (d.fld (f i), d)

/-- Reads of TB_LO and TB_HI. -/
def Device.tbLo (ini : Nat) (d : Device) : Nat × Device :=
  (d.timebase % 2 ^ 32, d.latchHi ini F.TMR_TB_HI.addr (d.timebase >>> 32 % 2 ^ 32))
def Device.tbHi (ini : Nat) (d : Device) : Nat × Device :=
  d.takeHi ini F.TMR_TB_HI.addr (d.timebase >>> 32 % 2 ^ 32)

end Sys2Proof.Machine
end

