-- ==== Sys2Proof/Machine/ProofLog.lean ====
section
/-! DEFINITION. The Proof log front end (R483 to R496): admission, staging, commitment, synchronisation, clearing
and the read port. -/

namespace Sys2Proof.Machine

/-! ### Buckets and admission (R491, R492) -/

/-- A token bucket refilled up to now: one token each `period` ticks, to a depth. (DEDUCED, log entry 89.) -/
def Bucket.refill (b : Bucket) (period depth now : Nat) : Bucket :=
  if period = 0 then b
  else
    let n := (now - b.at_) / period
    if depth ≤ b.tokens + n then ⟨depth, now⟩ else ⟨b.tokens + n, b.at_ + n * period⟩

/-- The trigger entry of a code: that of the section, or the default. -/
def Proof.trig (p : Proof) (code : Nat) : Trig :=
  let default : Trig := ⟨code, false, 16, 1000, []⟩
  if code < 0x100 then default else (p.trigs.find? (fun t => t.code = code)).getD default

/-- One token of the global bucket each 10 ms, to a depth of 4,096. -/
def globalPeriod : Nat := 1000000
def globalDepth : Nat := 4096

/-- A code's bucket and the global bucket as they stand now. (DEDUCED, log entry 89.) -/
def Device.bucketOf (d : Device) (t : Trig) : Bucket :=
  let held : Option (Nat × Bucket) := d.proof.buckets.find? (fun e => e.1 = t.code)
  let b : Bucket := match held with
    | some e => e.2
    | none => ⟨t.depth, d.timebase⟩
  b.refill (100000 * t.periodMs) t.depth d.timebase
def Device.globalNow (d : Device) : Bucket := d.proof.global.refill globalPeriod globalDepth d.timebase

/-- BUCKET_REFILL (R491). -/
def Device.bucketRefill (d : Device) : Device :=
  d.modProof (fun p => { p with
    buckets := p.buckets.map (fun e => let t := p.trig e.1; (e.1, e.2.refill (100000 * t.periodMs) t.depth d.timebase))
    global := d.globalNow })

/-! ### Staging (R485 to R487) -/

/-- The number of records staged, shown. -/
def Device.showStaged (d : Device) : Device := d.put F.PL_STATUS_STAGED d.proof.staged.length

/-- The core, page and byte of a slot (R483). -/
def slotCore (seq : Nat) : Nat := seq % 4096 / 64
def slotPage (seq : Nat) : Nat := 2040 + seq % 64 / 8
def slotByte (seq : Nat) : Nat := 64 * (seq % 8)
def slotAddr (seq : Nat) : Nat := plateBase (slotCore seq) + 512 * slotPage seq + slotByte seq

/-- The first sequence number from s on whose slot's core is not absent (R483). -/
def seqSkip (absent : List Nat) : Nat → Nat → Nat
  | 0, s => s
  | fuel + 1, s => if absent.contains (slotCore s) then seqSkip absent fuel (s + (64 - s % 64)) else s

/-- A record given its sequence number: NEXT_SEQ advances. -/
def Device.numbered (d : Device) (r : Rec) : Rec × Device :=
  let s := seqSkip d.proof.absent 64 (d.fld F.PL_NEXT_SEQ)
  ({ r with seq := s % 2 ^ 32 }, d.put F.PL_NEXT_SEQ (seqSkip d.proof.absent 64 (s + 1)))

/-- A record placed in the staging buffer of 64; one that finds it full is lost (R485). -/
def Device.stage (d : Device) (r : Rec) : Device :=
  if 64 ≤ d.proof.staged.length then
    (d.bump F.PL_LOST).modProof (fun p => { p with lostSince := p.lostSince + 1, sawFull := true })
  else
    let x := if d.flag F.PL_STATUS_SYNCED then d.numbered r else (r, d)
    (x.2.modProof (fun p => { p with staged := p.staged ++ [x.1] })).showStaged

/-- The fields of a record raised now (R489). -/
def Device.newRec (d : Device) (code unit : Nat) (snaps : List Nat) : Rec :=
  { seq := 0, code := code, unit := unit, opsec := d.fld F.PL_OPSEC, pcycle := d.fld F.PL_PCYCLE, bstate := d.boot
    tb := d.timebase, supp := nget d.proof.supp code, snapErr := 0, snaps := snaps, nsnap := snaps.length }

/-- A code offered to the front end (R491): a record, suppressed, or neither. -/
def Device.admitCode (d : Device) (code unit : Nat) : Device :=
  let t := d.proof.trig code
  if t.disable then d
  else
    let own := d.bucketOf t
    let g := d.globalNow
    let free := decide (t.periodMs = 0)
    if (free || decide (0 < own.tokens)) && decide (0 < g.tokens) then
      let r := d.newRec code unit []
      let own : Bucket := if free then own else { own with tokens := own.tokens - 1 }
      let d := d.modProof (fun p => { p with
        buckets := (code, own) :: p.buckets.filter (fun e => e.1 ≠ code)
        global := { g with tokens := g.tokens - 1 }, supp := nput p.supp code 0 })
      if t.snaps.isEmpty then d.stage r
      else d.modProof (fun p => { p with pend := p.pend ++ [⟨{ r with nsnap := t.snaps.length }, t.snaps⟩] })
    else
      (d.bump F.PL_SUPPRESSED).modProof (fun p => { p with
        supp := nput p.supp code (min 65535 (nget p.supp code + 1)) })

/-- A record of the front end itself (R490, R491): it bypasses the per-code buckets; CLEARED bypasses both. -/
def Device.ownRecord (d : Device) (code : Nat) (snaps : List Nat) : Device :=
  let g := d.globalNow
  let r := d.newRec code wholeDevice snaps
  if code = 3 then d.stage r
  else if 0 < g.tokens then (d.modProof (fun p => { p with
    global := { g with tokens := g.tokens - 1 }, supp := nput p.supp code 0 })).stage r
  else (d.bump F.PL_SUPPRESSED).modProof (fun p => { p with
    supp := nput p.supp code (min 65535 (nget p.supp code + 1)) })

/-- TIME_RECORD (R488). -/
def Device.timeRecord (d : Device) : Device :=
  if d.flag F.PL_STATUS_SYNCED && decide (100000000 * max 1 (d.fld F.PL_CFG) ≤ d.since d.proof.timeAt) then
    (d.modProof (fun p => { p with timeAt := d.timebase })).ownRecord 2 []
  else d

/-- OPSEC counts whole seconds of TIMEBASE (R487). -/
def Device.countSeconds (d : Device) : Device :=
  let n := d.since d.proof.secAt / 100000000
  if n = 0 then d
  else (d.put F.PL_OPSEC (d.fld F.PL_OPSEC + n)).modProof (fun p => { p with secAt := p.secAt + 100000000 * n })

/-! ### Commitment (R484, R485) -/

/-- The 64 bytes of a record (R489). -/
def Rec.bytes (r : Rec) : List Byte :=
  leBytes 4 r.seq ++ leBytes 2 r.code ++ leBytes 1 r.nsnap ++ leBytes 1 r.unit ++ leBytes 4 r.opsec ++
  leBytes 3 r.pcycle ++ leBytes 1 r.bstate ++ leBytes 8 r.tb ++ leBytes 2 r.supp ++ leBytes 1 r.snapErr ++
  List.replicate 5 0 ++ (List.range 8).flatMap (fun i => leBytes 4 (r.snaps.getD i 0))

/-- A staged record that can never be committed: counted as lost (R485). -/
def Device.loseRec (d : Device) : Device :=
  (d.bump F.PL_LOST).modProof (fun p => { p with lostSince := p.lostSince + 1 })

/-- Whether the head record waits on a domain that is not ON, as PL.STATUS.WAIT_DOMAIN shows it (R485). -/
def Device.waitsDomain (d : Device) : Bool :=
  match d.proof.staged with
  | [] => false
  | r :: _ => d.flag F.PL_STATUS_SYNCED && !d.isOn (domEtch (slotCore r.seq))

/-- The head record leaves the buffer; the LOST record when it has fallen to 32 entries (R485). -/
def Device.popStaged (d : Device) : Device :=
  let d := (d.modProof (fun p => { p with staged := p.staged.tail })).showStaged
  if d.proof.sawFull && decide (d.proof.staged.length ≤ 32) then
    let n := d.proof.lostSince
    (d.modProof (fun p => { p with sawFull := false, lostSince := 0 })).ownRecord 4 [n]
  else d

/-- RECORD_COMMIT (R484): the page read, merged and rewritten with verify.  vf: the verify results.
(DEDUCED, log entry 90.) -/
def Device.recordCommit (vf : List Bool) (d0 : Device) : Device :=
  let d : Device := { d0 with verifyFails := vf }
  match d.proof.staged with
  | [] => d
  | r :: _ =>
    let n := slotCore r.seq
    if !d.flag F.PL_STATUS_SYNCED then d
    else if (d.dom (domEtch n)).ignored && decide (d.domState (domEtch n) = 0) then d.loseRec.popStaged
    else if !d.isOn (domEtch n) then d
    else
      let a := plateBase n + 512 * slotPage r.seq
      let ue := d.ueAt a
      let d := d.note a
      let lost := if ue then ((List.range 8).filter (fun k => decide (64 * k ≠ slotByte r.seq)
          && decide (leNat ((List.range 4).map (fun i => d.byte (a + 64 * k + i))) ≠ 0))).length else 0
      let d := if ue then (d.bumpBy F.PL_LOST lost).raise 0x0114 n else d
      let d := if ue then d.modProof (fun p => { p with lostSince := p.lostSince + lost }) else d
      let old := if ue then List.replicate 512 0 else d.rdBytes a 512
      let x := d.plateWrite n (slotPage r.seq)
        (old.take (slotByte r.seq) ++ r.bytes ++ old.drop (slotByte r.seq + 64))
      let d := if x.2 then x.1 else (x.1.raiseBit (F.INT_FAULT_PLATE_FULL (intEtch n)) 0x0112 n).loseRec
      d.popStaged

/-! ### Synchronisation (R487) -/

/-- The word k of a slot of the ring as read: zero in an uncorrectable page. -/
def Device.slotWord (d : Device) (j k : Nat) : Nat := d.ld (slotAddr j + 4 * k) 4

/-- The slots of the ring that hold a record in its place. -/
def Device.ringSlots (d : Device) : List Nat :=
  (List.range 4096).filter (fun j => !d.proof.absent.contains (slotCore j) && d.isOn (domEtch (slotCore j))
    && decide (d.slotWord j 0 ≠ 0) && decide (d.slotWord j 0 % 4096 = j))

/-- The page's slots at or below a floor zeroed (R487 step 5, R495 step 3). -/
def Device.zeroPage (d : Device) (n pg floor : Nat) : Device :=
  let a := plateBase n + 512 * pg
  let old := d.rdBytes a 512
  let dead (k : Nat) : Bool := let s := leNat ((old.drop (64 * k)).take 4); decide (s ≠ 0) && decide (s ≤ floor)
  if (List.range 8).any dead then
    let new := (List.range 8).flatMap (fun k => if dead k then List.replicate 64 0 else (old.drop (64 * k)).take 64)
    let x := d.plateWrite n pg new
    if x.2 then x.1 else x.1.raiseBit (F.INT_FAULT_PLATE_FULL (intEtch n)) 0x0112 n
  else d

/-- The front end synchronises at the resume step of LOAD (R487). (DEDUCED, log entry 90.) -/
def Device.proofSync (d : Device) : Device :=
  let again := d.flag F.PL_STATUS_SYNCED
  let ue := (List.range 512).filter (fun g => d.isOn (domEtch (g / 8)) && !d.proof.absent.contains (g / 8)
    && d.ueAt (plateBase (g / 8) + 512 * (2040 + g % 8)))
  let d := d.each ue (fun d g => (d.note (plateBase (g / 8) + 512 * (2040 + g % 8))).raise 0x0114 (g / 8))
  let slots := d.ringSlots
  let newest := slots.foldl (fun m j => if d.slotWord m 0 < d.slotWord j 0 then j else m) (slots.headD 0)
  let top := if slots.isEmpty then 0 else d.slotWord newest 0
  let d := d.put F.PL_NEXT_SEQ (if again then max (d.fld F.PL_NEXT_SEQ) (top + 1) else top + 1)
  let ops := if again || slots.isEmpty then 0 else d.slotWord newest 2
  let pc := if slots.isEmpty then 1 else d.slotWord newest 3 % 2 ^ 24 + 1
  let d := if again then d
    else (d.put F.PL_OPSEC (d.fld F.PL_OPSEC + ops)).put F.PL_PCYCLE pc
  let pc := d.fld F.PL_PCYCLE
  let floor := (slots.filter (fun j => decide (d.slotWord j 1 % 65536 = 3))).foldl (fun m j => max m (d.slotWord j 8)) 0
  let floor := max floor (d.fld F.PL_FLOOR)
  let d := d.put F.PL_FLOOR floor
  let d := d.each (List.range 512) (fun d g =>
    if d.isOn (domEtch (g / 8)) && !d.proof.absent.contains (g / 8) then d.zeroPage (g / 8) (2040 + g % 8) floor else d)
  let d := if again then d
    else
      let rs := d.proof.staged
      let d := d.modProof (fun p => { p with staged := [], pend := p.pend.map (fun x => { x with
        base := { x.base with opsec := x.base.opsec + ops, pcycle := pc } }) })
      d.each rs (fun d r =>
        let x := d.numbered { r with opsec := r.opsec + ops, pcycle := pc }
        x.2.modProof (fun p => { p with staged := p.staged ++ [x.1] }))
  let d := (d.put F.PL_STATUS_SYNCED 1).put F.PL_STATUS_CLEARING 0
  (d.modProof (fun p => { p with timeAt := d.timebase })).ownRecord 1
    [(d.word F.BOOT_STATUS_CAUSE.addr).toNat, (d.word F.TOPO_ID_GRADE.addr).toNat, (d.word F.HG_STATUS_CAP.addr).toNat,
      d.fld F.BOOT_FW_VERSION, floor]

/-! ### Clearing (R495) -/

/-- A clear accepted: the CLEARED record staged, FLOOR raised, the SEQ returned, 0 where
the buffer is full and the record lost.  A second clear raises FLOOR. -/
def Device.proofClear (d : Device) (upto keysel ini : Nat) (signerHash : List Byte) : Nat × Device :=
  let floor := max (d.fld F.PL_FLOOR) (min upto (d.fld F.PL_NEXT_SEQ - 1))
  let snaps := [floor, keysel + 256 * ini] ++ (List.range 6).map (fun i => leNat ((signerHash.drop (4 * i)).take 4))
  let full := decide (64 ≤ d.proof.staged.length)
  let d := d.ownRecord 3 snaps
  let sq := if full then 0 else (d.proof.staged.getLast?.map Rec.seq).getD 0
  (sq, (((d.put F.PL_FLOOR floor).put F.PL_STATUS_CLEARING 1).modProof (fun p => { p with clearNext := 0 })))

/-- CLEAR_PAGE_ZERO (R495): the next page of the ring. -/
def Device.clearPage (vf : List Bool) (d0 : Device) : Device :=
  let d : Device := { d0 with verifyFails := vf }
  let g := d.proof.clearNext
  if !d.flag F.PL_STATUS_CLEARING then d
  else if !d.proof.absent.contains (g / 8) && !d.isOn (domEtch (g / 8)) then d
  else
    let d := if d.proof.absent.contains (g / 8) then d else d.zeroPage (g / 8) (2040 + g % 8) (d.fld F.PL_FLOOR)
    let d := d.modProof (fun p => { p with clearNext := g + 1 })
    if 511 ≤ g then d.put F.PL_STATUS_CLEARING 0 else d

/-! ### The read port (R494) -/

/-- The word w of the record that RD_SEQ of an initiator names: staged, from its slot, or zero.
(DEDUCED, log entry 90.) -/
def Device.recRead (ini w : Nat) (d : Device) : Nat × Device :=
  let s := d.fld (F.PL_RD_SEQ ini)
  match d.proof.staged.find? (fun r => decide (r.seq = s) && decide (s ≠ 0)) with
  | some r => (if s ≤ d.fld F.PL_FLOOR then 0 else leNat ((r.bytes.drop (4 * w)).take 4), d)
  | none =>
    let n := slotCore s
    let a := slotAddr s
    if d.proof.absent.contains n || !d.isOn (domEtch n) then (0, d)
    else if d.ueAt a then (0, (d.note a).raise 0x0114 n)
    else
      let held := d.ld a 4
      (if held ≤ d.fld F.PL_FLOOR then 0 else d.ld (a + 4 * w) 4, d.note a)

/-- The word w of the staged record that STAGE_SEL of an initiator names. (DEDUCED, log entry 90.) -/
def Device.stageRead (ini w : Nat) (d : Device) : Nat :=
  match d.proof.staged[d.fld (F.PL_STAGE_SEL ini)]? with
  | some r => leNat ((r.bytes.drop (4 * w)).take 4)
  | none => 0

/-! ### The fault collector (R497, R498) -/

/-- A code pushed onto FR.HIST and shown in FR.NEWEST. -/
def Device.history (d : Device) (code unit : Nat) : Device :=
  let e := BitVec.ofNat 32 (2 ^ 31 + (unit % 256) <<< 16 + code)
  let d := (List.range 23).reverse.foldl (fun (d : Device) i =>
    d.putWord (F.HG_FR_HIST_CODE (i + 1)).addr (d.word (F.HG_FR_HIST_CODE i).addr)) d
  ((d.putWord (F.HG_FR_HIST_CODE 0).addr e).putWord F.HG_FR_NEWEST_CODE.addr e).bump F.HG_FR_RAISED

/-- A code delivered to the collector. -/
def Device.collect (d : Device) (code unit : Nat) : Device :=
  let s := sev code
  let d := if s = .record then d else d.history code unit
  let d := if s = .fatal then d.enterFault else d
  d.admitCode code unit

end Sys2Proof.Machine
end

