-- ==== Sys2Proof/Machine/Identity.lean ====
section
/-! DEFINITION. What a part says of itself (R431, R444): DEVICE_ID and the image hash. -/

namespace Sys2Proof.Machine

/-- n bytes of a list, zeros where it ends. -/
def padTo (n : Nat) (l : List Byte) : List Byte := l.take n ++ List.replicate (n - l.length) 0

/-- DEVICE_ID: the first 32 bytes of the SHA-512 of the device public key (R431). -/
def Device.deviceId (d : Device) : List Byte := (sha512 d.sec.store.pubKey).take 32

/-- The image hash: SHA-512 of header bytes 0x000 to 0xDFF, zero before the owner signature has passed (R388,
R444). -/
def Device.imageHash (d : Device) : List Byte :=
  if d.bootc.trusted then padTo 64 (sha512 (d.bootc.header.take 0xE00)) else List.replicate 64 0

end Sys2Proof.Machine
end

