-- ==== Sys2Proof/Machine/Pair.lean ====
section
/-! DEFINITION. Redundant pair operation (R447 to R466): liveness, mirror packets, roles, lockstep, digests, failover,
divergence and resynchronisation, but for what starts and ends steps and frames. -/

namespace Sys2Proof.Machine

/-! ### Roles, states and liveness (R447, R451, R465) -/

def Device.pairRole (d : Device) : Nat := d.fld F.PAIR_STATUS_ROLE
def Device.pairState (d : Device) : Nat := d.fld F.PAIR_STATUS_STATE
def Device.setPairState (d : Device) (s : Nat) : Device := d.put F.PAIR_STATUS_STATE s
def Device.hbTimeout (d : Device) : Nat := d.fld F.PAIR_TIMING_HB_TIMEOUT

/-- A fault of the pair (R464). -/
def Device.pairFault (d : Device) (f : Fld) (code : Nat) : Device := d.raiseBit f code wholeDevice

/-- Whether the part is ALIVE (R451). -/
def Device.aliveNow (d : Device) : Bool :=
  (decide (d.boot = 7) || decide (d.boot = 8)) && d.flag F.PAIR_CFG_EN && decide (d.pairRole ≠ 0) &&
  (match d.pair.kickAt with
    | some t => decide (2 * d.since t ≤ d.hbTimeout)
    | none => false)

/-- The level of DIVERGE_N (R448, R460): asserted by this part or by the other. -/
def Device.showDiverge (d : Device) : Device :=
  d.put F.PAIR_STATUS_DIVERGE (b2n (d.pair.driving || d.pair.partDriving))

/-! ### Mirror packets (R295, R448, R452) -/

/-- A mirror packet presented to the mirror Press, before any packet of another channel. (DEDUCED, log entry 84.) -/
def Device.mirrorSend (kind num aux : Nat) (body : List Byte) (d : Device) : Device :=
  if !d.flag F.PAIR_STATUS_ALIVE then d
  else
    let k := d.fld F.PAIR_CFG_MPRESS
    let vc := d.fld F.PAIR_CFG_VC
    let sq := d.pair.txSeq
    let fn := nget (d.press k).fnum vc % 65535 + 1
    let mine (x : TxPkt) : Bool := decide (x.vc = vc)
    let new : List TxPkt :=
      [⟨vc, 0, fn, []⟩, ⟨vc, 0x35, 0, outHdr kind 0 0 num sq aux ++ body⟩, ⟨vc, 1, fn, []⟩]
    let d := (d.modPress k (fun p => { p with
      fnum := nput p.fnum vc fn
      txq := p.txq.filter mine ++ new ++ p.txq.filter (fun x => !mine x) })).setVote (16 + k) (domPress k) 2
    d.modPair (fun p => { p with txSeq := (sq + 1) % 2 ^ 32, sentAt := d.timebase })

/-- A CONTROL packet with its 16-byte body. -/
def Device.control (num : Nat) (body : List Byte) (d : Device) : Device := d.mirrorSend 0x43 num 0 (padTo 16 body)

/-- HELLO: the mirror sequence starts at 0 with it. -/
def Device.sendHello (d : Device) : Device :=
  let d := d.modPair (fun p => { p with txSeq := 0 })
  d.control 0 (leBytes 1 d.pairRole ++
    leBytes 1 (d.fld F.PAIR_STATUS_PROMOTED + 2 * d.fld F.HG_STATUS_FORCED) ++ leBytes 2 0 ++
    d.deviceId.take 4 ++ d.imageHash.take 8)

/-- A change of role (R449): HELLO follows. -/
def Device.setRole (d : Device) (r : Nat) : Device := (d.put F.PAIR_STATUS_ROLE r).sendHello

/-- ALIVE as it now holds; a part that becomes ALIVE sends HELLO, and a MATE waits for a LEAD (R449, R451). -/
def Device.showAlive (d : Device) : Device :=
  let a := d.aliveNow
  if a = d.flag F.PAIR_STATUS_ALIVE then d
  else
    let d := d.put F.PAIR_STATUS_ALIVE (b2n a)
    if a then (d.modPair (fun p => { p with joinAt := some (p.joinAt.getD d.timebase) })).sendHello else d

/-! ### The state set (R461) -/

/-- Whether an address is in a memory (and else in a register). -/
def isMem (a : Nat) : Bool := (memAt a).isSome

/-- One byte of memory or of a register. -/
def Device.peekByte (d : Device) (a : Nat) : Byte :=
  if isMem a then d.rdByte a else BitVec.ofNat 8 (bits (d.word (a - a % 4)).toNat (8 * (a % 4)) 8)
def Device.peekBytes (d : Device) (a n : Nat) : List Byte := (List.range n).map (fun i => d.peekByte (a + i))

/-- The streams of the listed channels, and of them those whose encoder tables are copied. -/
def Device.listed (d : Device) : List (Nat × Nat) :=
  d.pair.chans.map (fun c => (c / 32 % 8, d.streamOf (c / 32 % 8) (c % 32) % 4))
def Device.listedEnc (d : Device) : List (Nat × Nat) :=
  d.listed.filter (fun e => decide (d.fld (F.TRACER_STREAM_ENC_CFG0_TYPE e.1 e.2) ≠ 0))

/-- The queues whose records are copied: those of STIPPLE.DELAY, and every spill queue. -/
def Device.syncQueues (d : Device) : List Nat :=
  ((List.range 256).filter (fun i => d.flag (F.STIPPLE_DELAY0_VALID i))).map (fun i => d.fld (F.STIPPLE_DELAY0_QUEUE i)) ++
  ((List.range 64).filter (fun n => d.etchBound n && bit (d.ld (bindA n 255) 4) 31)).flatMap (fun n =>
    (List.range 64).map (fun k => bits (d.ld (bindA n 255) 4) 0 22 + k))

/-- A range cut into blocks of 4 KiB, the last of them partial. -/
def syncBlocks (kind q : Nat) (late : Bool) (a len : Nat) : List SyncItem :=
  (List.range (ceilDiv len 4096)).map (fun i => ⟨a + 4096 * i, min 4096 (len - 4096 * i), kind, q, late⟩)

/-- Blocks in ascending address order. -/
def insItem (x : SyncItem) : List SyncItem → List SyncItem
  | [] => [x]
  | y :: t => if x.addr ≤ y.addr then x :: y :: t else y :: insItem x t
def sortItems : List SyncItem → List SyncItem
  | [] => []
  | x :: t => insItem x (sortItems t)

/-- The blocks of the state set. (DEDUCED, log entry 85.) -/
def Device.stateSet (d : Device) : List SyncItem :=
  let cores := (List.range 64).flatMap (fun n =>
    syncBlocks 0 0 false (F.ETCH_STEP n).addr 4 ++ syncBlocks 0 0 false (F.ETCH_REWARD n).addr 4 ++
    syncBlocks 0 0 false (countA n 0) 2048 ++ syncBlocks 0 0 false (slotA n 0) 0x40000 ++
    syncBlocks 1 n false (ringA n 0) 0x40000 ++ syncBlocks 0 0 false (synA n 0) 0x180000)
  let tiles := (List.range 32).flatMap (fun n => syncBlocks 0 0 false (F.GRAVER_EMIT_STEP n).addr 4)
  let queues := d.syncQueues.flatMap (fun q =>
    syncBlocks 2 q false (d.descBase + 16 * q) 16 ++ syncBlocks 3 q false (d.desc q).ring (2 ^ (d.desc q).log2))
  let carried := d.pair.carry.flatMap (fun c => syncBlocks 0 0 false c.1 c.2)
  let enc := d.listedEnc.flatMap (fun e => syncBlocks 0 0 true (stateA e.1 e.2 0) 0x4000)
  sortItems (cores ++ tiles ++ queues ++ carried) ++ enc

/-- Whether byte x of the ring of a queue is occupied. -/
def Desc.holds (e : Desc) (a : Nat) : Bool :=
  let u := (a - e.ring) / 8
  decide ((u + e.units - e.head % e.units) % e.units < e.used)

/-- The entries of a delay ring that a block holds and that are occupied. -/
def Device.ringHeld (d : Device) (x : SyncItem) : List Nat :=
  ((d.core x.q).ring.map (fun e => ringA x.q e.2)).filter (fun a => decide (x.addr ≤ a) && decide (a < x.addr + x.len))

/-- The data of a block: of a delay ring its occupied entries, others zero. -/
def Device.itemBytes (d : Device) (x : SyncItem) : List Byte :=
  if x.kind = 1 then
    let held := d.ringHeld x
    (List.range x.len).map (fun i =>
      let a := x.addr + i
      if held.contains (a - a % 8) then d.peekByte a else 0)
  else if x.kind = 2 then
    let e := d.desc x.q
    leBytes 4 e.w0 ++ leBytes 4 e.w1 ++ leBytes 4 e.w2 ++ leBytes 4 e.w3
  else d.peekBytes x.addr x.len

/-- Whether a block of the bulk holds anything of the state set: rings only where occupied. (DEDUCED, log entry 85.) -/
def Device.itemLive (d : Device) (x : SyncItem) : Bool :=
  if x.kind = 1 then !(d.ringHeld x).isEmpty
  else if x.kind = 3 then
    let e := d.desc x.q
    (List.range (ceilDiv x.len 8)).any (fun i => e.holds (x.addr + 8 * i))
  else true

/-- The block after which the bulk ends, and the blocks of the cutover. -/
def Resync.bulkLen (r : Resync) : Nat := (r.set.filter (fun x => !x.late)).length

/-- Block i sent. -/
def Device.sendBlock (i : Nat) (d : Device) : Device :=
  match d.pair.resync.bind (fun r => r.set[i]?) with
  | none => d
  | some x => (d.mirrorSend 0x42 i x.len (leBytes 8 x.addr ++ d.itemBytes x)).bump F.PAIR_RESYNC_BLOCKS

/-- Keys whose values differ between two maps. -/
def changedKeys {α : Type} [DecidableEq α] (dflt : Nat → α) (m m' : List (Nat × α)) : List Nat :=
  ((m ++ m').map Prod.fst).filter (fun k => decide (mapGet dflt m k ≠ mapGet dflt m' k))

/-- Dirty tracking (R462 step 2): blocks already sent that the command has changed. -/
def Device.trackDirty (old d : Device) : Device :=
  match d.pair.resync with
  | none => d
  | some r =>
    if d.pairRole ≠ 1 ∨ old.pair.resync.isNone then d
    else
      let ch := changedKeys (fun _ => (0 : Byte)) old.mem d.mem ++ changedKeys resetWord old.regs d.regs
      let ringCh (n : Nat) : Bool := decide ((old.core n).ring ≠ (d.core n).ring)
      let dirt (x : SyncItem) : Bool := !x.late &&
        (ch.any (fun a => decide (x.addr ≤ a) && decide (a < x.addr + x.len)) ||
         (x.kind = 1 && ringCh x.q) || (x.kind = 2 && decide (old.desc x.q ≠ d.desc x.q)))
      let new := ((List.range (min r.next r.set.length)).filter (fun i =>
        !r.dirty.contains i && (match r.set[i]? with
          | some x => dirt x
          | none => false)))
      d.modPair (fun p => { p with resync := some { r with dirty := r.dirty ++ new } })

/-! ### Resynchronisation (R461, R462) -/

/-- A core brought to IDLE without finishing its step. -/
def Device.idleCore (d : Device) (n : Nat) : Device :=
  (((d.put (F.ETCH_CTRL_RUN n) 0).put (F.ETCH_CTRL_PAUSE n) 0).put (F.ETCH_STATUS_STATE n) 0).modCore n (fun c =>
    { c with phase := .idle, paused := false, primed := false, follows := false, fetches := [], draining := none
             rackQ := [], rackOut := [], scvWait := false })

/-- The MATE's cores IDLE, its Stipple net STOPPED, its Hatch IDLE (R462). (DEDUCED, log entry 85.) -/
def Device.quietMate (d : Device) : Device :=
  let d := d.each (List.range 64) Device.idleCore
  let d := ((d.put F.STIPPLE_CTRL_EN 0).put F.STIPPLE_STATUS_STATE 0).clearNet
  let d := (({ d with routers := Vector.replicate 112 {} } : Device).each (List.range 105) (fun d i =>
    d.modSource i (fun _ => {}))).modSeq (fun _ => {})
  let d := d.stippleVotes
  let d := if d.frameOn then d.meshRewind else d
  (d.put F.HATCH_CTRL_MODE 0).meshBoundary

/-- A MATE asks for a resynchronisation (R462 step 1), of a partner that runs the same image (R449). -/
def Device.askSync (d : Device) : Device :=
  if !d.pair.imageOk then d
  else
  let d := ((d.setPairState 2).modPair (fun p => { p with
    resync := some {}, wantSync := false, joinAt := none, decided := none, div := none, draft := none })).quietMate
  d.control 6 []

/-- A resynchronisation abandoned (R462, R463). -/
def Device.dropSync (d : Device) : Device :=
  d.modPair (fun p => { p with resync := none, holdStep := none, holdFrame := none })

/-- The last frame number seen on the first listed channel, 4 more, wrapping from 65,535 to 1 (R462 step 4). -/
def Device.nextCut (d : Device) : Nat :=
  let c := d.pair.chans.headD 0
  (nget (d.tracer (c / 32 % 8)).link.frameNum (c % 32) + 3) % 65535 + 1

/-- JOIN sent with CUT_FN. -/
def Device.sendJoin (d : Device) (r : Resync) : Device :=
  let fn := d.nextCut
  (d.modPair (fun p => { p with resync := some { r with cutFn := some fn, latch := [], tries := r.tries + 1 } })).control 7
    (leBytes 2 fn)

/-- Whether the cut is valid (R462 step 6): one T_c and one I_c, no unit in input frame I_c but later ones, and no
event of an earlier step unsent. -/
def Device.cutValid (d : Device) (r : Resync) : Option (Nat × Nat) :=
  match r.latch with
  | [] => none
  | (_, t, i) :: _ =>
    let earlier (s : Nat) : Bool := decide (2 ^ 31 ≤ stepDiff s t)
    let ok (e : Nat × Nat × Nat) : Bool := e.2.1 == t && e.2.2 == i
    let clear (ns : Nat × Nat) : Bool :=
      let x := d.stream ns.1 ns.2
      !x.units.any (fun u => decide (u.frame = some i) && earlier u.step) &&
      (!(d.listedEnc.contains ns) || !x.units.any (fun u => !u.encoded && earlier u.step)) &&
      (d.source (64 + ns.1)).sendQ.all (fun q => match q with
        | .event s _ _ _ _ => !earlier s
        | _ => true)
    if r.latch.all ok && d.listed.all clear then some (t, i) else none

/-- Every listed channel cut at the LEAD: the check of the cut, and the pause (R462 steps 6 and 7).
(DEDUCED, log entry 86.) -/
def Device.cutCheck (d : Device) : Device :=
  match d.pair.resync with
  | none => d
  | some r =>
    if d.pairRole ≠ 1 ∨ r.cutFn.isNone ∨ r.cut.isSome ∨ r.latch.length < d.pair.chans.length ∨ r.latch = [] then d
    else match d.cutValid r with
      | some c => d.modPair (fun p => { p with
          resync := some { r with cut := some c }, holdStep := some c.1, holdFrame := some c.2 })
      | none =>
        let d := d.pairFault F.PAIR_FAULT_RESYNC 0x0A09
        if r.tries < 4 then d.sendJoin r else d.dropSync.setPairState 4

/-- Whether the LEAD's pause is reached: every running core has completed step T_c - 1, and no frame runs. -/
def Device.pausedAt (d : Device) (t i : Nat) : Bool :=
  (d.boundCores.all (fun n => !d.flag (F.ETCH_CTRL_RUN n) ||
    (decide ((d.core n).phase = .waiting) && decide ((d.port n).opened = some t)))) &&
  (d.atBoundary && (d.listed.all (fun e => !(d.placing e.1).contains e.2 || decide ((d.stream e.1 e.2).nextI = i))))

/-- Both parts LOCKED (R462 step 10): 0x0A11, DIVERGE_N released, comparison from step T_c and the given frame. -/
def Device.locked (d : Device) (t f : Nat) : Device :=
  (((((d.dropSync.setPairState 3).put F.PAIR_JOIN_STEP t).bump F.PAIR_RESYNCS).raise 0x0A11 wholeDevice).modPair
    (fun p => { p with
      lockStep := t, lockFrame := f, ownSteps := [], prtSteps := [], ownFrames := [], prtFrames := []
      suspStep := [], suspFrame := [], div := none, decided := none, driving := false, partDriving := false
      swapped := false, wantSync := false })).showDiverge

/-- The LEAD's next block (R462 steps 2 to 4, 8 and 9). -/
def Device.resyncSend (d : Device) : Device :=
  match d.pair.resync with
  | none => d
  | some r =>
    let upd (d : Device) (r : Resync) : Device := d.modPair (fun p => { p with resync := some r })
    if d.pairRole ≠ 1 ∨ ¬ d.flag F.PAIR_STATUS_ALIVE then d
    else match r.cut with
      | some (t, i) =>
        if !d.pausedAt t i then d
        else match r.dirty with
          | x :: rest => (upd d { r with dirty := rest }).sendBlock x
          | [] =>
            if r.bulkLen + r.lateNext < r.set.length then
              (upd d { r with lateNext := r.lateNext + 1 }).sendBlock (r.bulkLen + r.lateNext)
            else
              let f := (d.fld F.HATCH_FRAME + 1) % 2 ^ 32
              (d.control 8 (leBytes 4 t ++ leBytes 4 i ++ leBytes 4 f)).locked t f
      | none =>
        if r.cutFn.isSome then d
        else if r.next < r.bulkLen then
          let live (j : Nat) : Bool := match r.set[j]? with
            | some x => d.itemLive x
            | none => false
          match ((List.range r.bulkLen).drop r.next).find? live with
          | some j => (upd d { r with next := j + 1 }).sendBlock j
          | none => upd d { r with next := r.bulkLen }
        else if r.dirty.length ≤ d.fld F.PAIR_CUT_BLOCKS ∨ (8 ≤ r.rounds ∧ r.left = 0) then d.sendJoin r
        else
          let r := if r.left = 0 then { r with rounds := r.rounds + 1, left := r.dirty.length } else r
          match r.dirty with
          | x :: rest => (upd d { r with dirty := rest, left := r.left - 1 }).sendBlock x
          | [] => upd d { r with left := 0 }

/-- A cut at a Frame Start of a listed channel that carries CUT_FN (R462 step 5). -/
def Device.resyncCut (d : Device) (n vc num : Nat) : Device :=
  match d.pair.resync with
  | none => d
  | some r =>
    if r.cutFn = some num ∧ d.pair.chans.contains (32 * n + vc) ∧ ¬ r.latch.any (fun e => e.1 = 32 * n + vc) then
      d.ingest n (.cut vc)
    else d

/-- Whether every byte of a range lies in memory or in a register. -/
def syncable (a n : Nat) : Bool :=
  (List.range n).all (fun i => isMem (a + i) || (regRow ((a + i) - (a + i) % 4)).isSome)

/-- Bytes written at their logical address by the MATE's resync engine (R461).  Which bucket an entry of a delay
ring belongs to is not in its 64 bits: it is a free value. -/
def Device.syncWrite (a : Nat) (l : List Byte) (d : Device) : Device :=
  let d := if isMem a then (d.copyBefore a l.length).stMany a (heldBytes a l)
    else d.each (List.range (l.length / 4)) (fun d i =>
      d.putWord (a + 4 * i) (BitVec.ofNat 32 (leNat ((l.drop (4 * i)).take 4))))
  let n := (a - etchBase 0) / 0x1000000
  let d := if inRange a (ringA n 0) 0x40000 ∧ n < 64 then
      let e0 := (a - ringA n 0) / 8
      let es := (List.range (l.length / 8)).map (· + e0)
      let d := d.modCore n (fun c => { c with ring := c.ring.filter (fun e => !es.contains e.2) })
      let d := d.each es (fun d e =>
        if d.ld (ringA n e) 8 = 0 then d
        else
          let r := d.draw
          r.2.modCore n (fun c => { c with ring := c.ring ++ [(r.1.toNat % 64, e)] }))
      d.put (F.ETCH_RING_FREE n) (32768 - (d.core n).ring.length)
    else d
  d.modRack (fun r => { r with cache := r.cache.filter (fun e =>
    !(decide (a ≤ d.descBase + 16 * e.1) && decide (d.descBase + 16 * e.1 < a + l.length))) })

/-! ### Digests (R456, R457, R460) -/

def rotl64 (x k : Nat) : Nat := (x <<< (k % 64) ||| x >>> (64 - k % 64)) % 2 ^ 64

/-- D(t), the step digest, over the cores that run. (DEDUCED, log entry 84.) -/
def Device.stepDigest (d : Device) : Nat :=
  (List.range 64).foldl (fun x n => if (d.core n).follows && d.etchBound n then x ^^^ rotl64 (d.core n).digest n else x) 0

/-- F(f), the frame digest; E_13 says whether a completion was BAD. -/
def Device.frameDigest (d : Device) (bad : Bool) : Nat :=
  let e (i : Nat) : Nat := if i = 13 then crc64From 0 [BitVec.ofNat 8 (b2n bad)] else vget d.hatch.dig i 0
  (List.range 14).foldl (fun x i => x ^^^ rotl64 (e i) i) 0

/-- Whether this part was SUSPECT in a step or frame. -/
def Device.suspect (d : Device) (kind num : Nat) : Bool :=
  (if kind = 0 then d.pair.suspStep else d.pair.suspFrame).contains num

/-- The decision of the LEAD (R460), sent before DRAFT of its effective frame. (DEDUCED, log entry 86.) -/
def Device.decideNow (d : Device) (own other : Bool) : Device :=
  let fe := (d.fld F.HATCH_FRAME + 1) % 2 ^ 32
  let out := b2n (own && !other)
  let d := if own && other then d.pairFault F.PAIR_FAULT_UNRESOLVED 0x0A03 else d
  let d := (d.modPair (fun p => { p with
    div := none, decided := if out = 1 then some (1, fe) else none })).control 5
    (leBytes 1 out ++ leBytes 3 0 ++ leBytes 4 fe)
  if out = 1 then d else d.setPairState 2

/-- A mismatch (R460). -/
def Device.mismatch (d : Device) (kind num : Nat) : Device :=
  let d := if kind = 0 then d.pairFault F.PAIR_FAULT_STEP_DIV 0x0A01 else d.pairFault F.PAIR_FAULT_FRAME_DIV 0x0A02
  let own := d.suspect kind num
  let d := (d.modPair (fun p => { p with driving := true })).showDiverge
  let d := ((d.put F.PAIR_LAST_DIV_VALID 1).put F.PAIR_LAST_DIV_KIND kind).put F.PAIR_LAST_DIV_NUM num
  let d := d.control 4 (leBytes 1 kind ++ leBytes 1 (b2n own) ++ leBytes 2 0 ++ leBytes 4 num)
  if d.pairRole ≠ 1 ∨ d.pair.decided.isSome then d
  else match d.pair.div with
    | some v => match v.other with
      | some o => d.decideNow own o
      | none => d
    | none => d.modPair (fun p => { p with div := some ⟨kind, num, d.timebase, own, none⟩ })

/-- Two digests of one number compared (R457). -/
def Device.compare (d : Device) (kind : Nat) (x y : Digest) : Device :=
  let d := d.bump (if kind = 0 then F.PAIR_STEP_CMP else F.PAIR_FRAME_CMP)
  if x.val = y.val then d else d.mismatch kind x.num

/-- A digest added to a list of at most 64: the oldest is dropped uncompared. -/
def Device.keepDigest (d : Device) (l : List Digest) (x : Digest) (f : PairUnit → List Digest → PairUnit) : Device :=
  let d := if 64 ≤ l.length then (d.bump F.PAIR_LAG_DROP).pairFault F.PAIR_FAULT_LAG 0x0A07 else d
  d.modPair (fun p => f p ((if 64 ≤ l.length then l.drop 1 else l) ++ [x]))

/-- A digest of this part or of the other, while LOCKED: compared with its counterpart, or held (R457).  Frames of
different draft levels are not compared. -/
def Device.digest (d : Device) (kind : Nat) (own : Bool) (x : Digest) : Device :=
  let p := d.pair
  let since := if kind = 0 then p.lockStep else p.lockFrame
  if d.pairState ≠ 3 ∨ 2 ^ 31 ≤ stepDiff x.num since then d
  else
    let mine := if kind = 0 then (if own then p.ownSteps else p.prtSteps) else (if own then p.ownFrames else p.prtFrames)
    let them := if kind = 0 then (if own then p.prtSteps else p.ownSteps) else (if own then p.prtFrames else p.ownFrames)
    let setMine (q : PairUnit) (l : List Digest) : PairUnit :=
      if kind = 0 then (if own then { q with ownSteps := l } else { q with prtSteps := l })
      else (if own then { q with ownFrames := l } else { q with prtFrames := l })
    let setThem (q : PairUnit) (l : List Digest) : PairUnit :=
      if kind = 0 then (if own then { q with prtSteps := l } else { q with ownSteps := l })
      else (if own then { q with prtFrames := l } else { q with ownFrames := l })
    match them.find? (fun y => y.num = x.num) with
    | none => d.keepDigest mine x setMine
    | some y =>
      let d := d.modPair (fun q => setThem q (them.filter (fun z => z.num ≠ x.num)))
      if kind = 1 ∧ x.draft ≠ y.draft then d
      else if own then d.compare kind x y else d.compare kind y x

/-- OPEN(t + 1): the digest of step t sent and held (R456). (DEDUCED, log entry 84.) -/
def Device.ownStepDigest (d : Device) (t : Nat) : Device :=
  if d.pairRole = 0 then d
  else (d.mirrorSend 0x40 t 0 (leBytes 8 d.stepDigest)).digest 0 true ⟨t, 0, d.stepDigest⟩

/-- A frame complete or aborted: its digest sent and held (R456). -/
def Device.ownFrameDigest (d : Device) (bad : Bool) : Device :=
  if d.pairRole = 0 then d
  else
    let f := d.fld F.HATCH_FRAME
    (d.mirrorSend 0x41 f 0 (leBytes 8 (d.frameDigest bad))).digest 1 true
      ⟨f, d.fld F.HATCH_STATUS_DRAFT, d.frameDigest bad⟩

/-! ### Failover (R458, R463) -/

/-- Promotion to LEAD (R449, R458, R460). -/
def Device.promote (d : Device) (state : Nat) : Device :=
  ((((d.put F.PAIR_STATUS_PROMOTED 1).bump F.PAIR_PROMOTIONS).raise 0x0A10 wholeDevice).setPairState state).setRole 1

/-- The partner evaluated after a loss (R458). (DEDUCED, log entry 86.) -/
def Device.failover (d : Device) : Device :=
  let lead := decide (d.pairRole = 1)
  let hb := d.pair.hbGone
  let mir := d.pair.mirGone
  if d.pairRole = 0 ∨ (¬ hb ∧ ¬ mir) then d
  else if hb ∧ ¬ mir then d.pairFault F.PAIR_FAULT_HB 0x0A05
  else if ¬ hb then
    let d := d.pairFault F.PAIR_FAULT_MIRROR 0x0A06
    if lead then d.dropSync.setPairState 4
    else (d.dropSync.setPairState 1).modPair (fun p => { p with wantSync := true })
  else if lead then
    ((d.pairFault F.PAIR_FAULT_LOST 0x0A04).dropSync.setPairState 5).modPair (fun p => { p with div := none, decided := none })
  else if d.pairState = 3 then
    ((d.pairFault F.PAIR_FAULT_LOST 0x0A04).dropSync.modPair (fun p => { p with
      div := none, decided := none, draft := none })).promote 5
  else (d.pairFault F.PAIR_FAULT_RESYNC 0x0A09).dropSync.setPairState 1

/-- The mirror link heard (R451): it is live again if it was not, and the parts exchange HELLO. -/
def Device.mirrorHeard (d : Device) : Device :=
  let was := d.flag F.PAIR_STATUS_MIRROR_LIVE
  let d := (d.put F.PAIR_STATUS_MIRROR_LIVE 1).modPair (fun p => { p with mirrorAt := d.timebase, mirGone := false })
  if was then d
  else
    let d := d.sendHello
    if d.pair.wantSync ∧ d.pairRole = 2 ∧ ¬ d.flag F.HG_STATUS_FORCED then d.askSync else d

/-- Entries of the receive queue of other Tracers, and packets that are no mirror packets, passed over. -/
def Device.mirrorValid (d : Device) (e : Nat × List Byte) : Bool :=
  decide (e.1 = d.fld F.PAIR_CFG_MTRACER) && decide (16 ≤ e.2.length) && decide (e.2.headD 0 = 1) &&
  (let k := (e.2.getD 1 0).toNat; decide (0x40 ≤ k) && decide (k ≤ 0x43))

/-- The mirror packet at the head, if it is of a kind and, for CONTROL, a command: its NUMBER, AUX and body; the
sequence is checked (R452). -/
def Device.mirrorTake (kind : Nat) (cmd : Option Nat) (d : Device) (f : Nat → Nat → List Byte → Device → Device) : Device :=
  match d.mirrorRx.filter d.mirrorValid with
  | [] => d
  | (n, b) :: rest =>
    let w (i : Nat) : Nat := leNat ((b.drop (4 * i)).take 4)
    if d.pairRole = 0 ∨ ¬ d.flag F.PAIR_CFG_EN ∨ (b.getD 1 0).toNat ≠ kind ∨ (cmd.isSome ∧ cmd ≠ some (w 1)) then d
    else
      let hello := decide (kind = 0x43) && decide (w 1 = 0)
      let gap := decide (w 2 ≠ d.pair.rxSeq) && !hello
      let d : Device := { d with mirrorRx := rest }
      let d := (d.modPair (fun p => { p with rxSeq := (w 2 + 1) % 2 ^ 32 })).when gap (fun d => d.bump F.PAIR_SEQ_GAP)
      let _ := n
      f (w 1) (w 3) (b.drop 16) d.mirrorHeard

def byteAt (l : List Byte) (i : Nat) : Nat := (l.getD i 0).toNat
def wordAt (l : List Byte) (i : Nat) : Nat := leNat ((l.drop i).take 4)

/-! ### Commands -/

/-- Both parts claim LEAD (R449): a part still in WAIT finds a live partner that already leads and becomes MATE, and the
partner stays; of two that both lead, or both still wait, the promoted one or the one with the higher DEVICE_ID becomes
MATE, with 0x0A0A.  How far the partner has come its KEEPALIVE tells. (DEDUCED, log entry 128.) -/
def Device.twoLeads (d : Device) (prom : Bool) (id : Nat) : Device :=
  let wait := decide (d.pairState = 1)
  let mine := d.flag F.PAIR_STATUS_PROMOTED
  if wait && d.pair.partState != 1 then d.setRole 2
  else if !wait && d.pair.partState ≤ 1 then d
  else
    let d := d.pairFault F.PAIR_FAULT_ROLE 0x0A0A
    let yield := if mine ≠ prom then mine else decide (id < leNat (d.deviceId.take 4))
    if yield then (d.setPairState 1).setRole 2 else d

/-- HELLO (R449): roles, image, and the start of a resynchronisation. -/
def Device.helloRx (d : Device) : Device :=
  d.mirrorTake 0x43 (some 0) (fun _ _ b d =>
    let role := byteAt b 0
    let prom := bit (byteAt b 1) 0
    let same := decide ((b.drop 8).take 8 = d.imageHash.take 8)
    let d := d.modPair (fun p => { p with
      partPromoted := prom, partForced := bit (byteAt b 1) 1, imageOk := same })
    let d := if same then d else d.pairFault F.PAIR_FAULT_IMAGE 0x0A0B
    let d := if d.pairRole = 1 ∧ role = 1 then d.twoLeads prom (wordAt b 4) else d
    if d.pairRole = 2 ∧ role = 1 ∧ same ∧ d.pairState = 1 ∧ ¬ d.flag F.HG_STATUS_FORCED then d.askSync else d)

/-- JOIN_WAIT_EXPIRE (R449). -/
def Device.joinWaitExpire (d : Device) : Device :=
  match d.pair.joinAt with
  | some t =>
    if d.flag F.PAIR_STATUS_ALIVE ∧ d.pairRole = 2 ∧ d.pairState = 1 ∧ d.fld F.PAIR_JOIN_WAIT ≤ d.since t then
      ((d.modPair (fun p => { p with joinAt := none })).setPairState 5).setRole 1
    else d
  | none => d

/-- DRAFT (R453): the draft and band of the MATE's next frame. -/
def Device.draftRx (d : Device) : Device :=
  d.mirrorTake 0x43 (some 1) (fun _ _ b d =>
    if d.pairRole = 2 ∧ d.pairState = 3 then
      ((d.modPair (fun p => { p with draft := some (wordAt b 0, byteAt b 4 % 4, byteAt b 5) })).put
        F.HATCH_NEXT_DRAFT_DRAFT (byteAt b 4)).put F.PWR_BAND_REQ (byteAt b 5)
    else d)

/-- KEEPALIVE (R452). -/
def Device.keepaliveRx (d : Device) : Device :=
  d.mirrorTake 0x43 (some 2) (fun _ _ b d => d.modPair (fun p => { p with
    partForced := decide (byteAt b 9 ≠ 0), partState := byteAt b 8 }))

/-- FORCED (R453). (DEDUCED, log entry 87.) -/
def Device.forcedRx (d : Device) : Device :=
  d.mirrorTake 0x43 (some 3) (fun _ _ b d => d.modPair (fun p => { p with partForced := decide (byteAt b 0 % 32 ≠ 0) }))

/-- DIVERGE (R460). -/
def Device.divergeRx (d : Device) : Device :=
  d.mirrorTake 0x43 (some 4) (fun _ _ b d =>
    let kind := byteAt b 0 % 2
    let other := decide (byteAt b 1 ≠ 0)
    let d := (d.modPair (fun p => { p with partDriving := true })).showDiverge
    if d.pairRole ≠ 1 ∨ d.pairState ≠ 3 ∨ d.pair.decided.isSome then d
    else match d.pair.div with
      | some v => d.decideNow v.own other
      | none => d.decideNow (d.suspect kind (wordAt b 4)) other)

/-- DECIDE (R460): the MATE resynchronises, or the roles swap at START of the effective frame. -/
def Device.decideRx (d : Device) : Device :=
  d.mirrorTake 0x43 (some 5) (fun _ _ b d =>
    if d.pairRole ≠ 2 ∨ d.pairState ≠ 3 then d
    else if byteAt b 0 = 0 then d.askSync
    else d.modPair (fun p => { p with decided := some (1, wordAt b 4) }))

/-- RESYNC_REQ at the LEAD (R462 step 1). -/
def Device.resyncReqRx (d : Device) : Device :=
  d.mirrorTake 0x43 (some 6) (fun _ _ _ d =>
    if d.pairRole = 1 ∧ d.pair.imageOk then
      (d.dropSync.setPairState 2).modPair (fun p => { p with resync := some { set := d.stateSet } })
    else d)

/-- JOIN at the MATE (R462 step 4). -/
def Device.joinRx (d : Device) : Device :=
  d.mirrorTake 0x43 (some 7) (fun _ _ b d =>
    match d.pair.resync with
    | some r => if d.pairRole = 2 then
        d.modPair (fun p => { p with resync := some { r with cutFn := some (leNat (b.take 2)), latch := [] } }) else d
    | none => d)

/-- NACK at the LEAD (R462 step 3). -/
def Device.nackRx (d : Device) : Device :=
  d.mirrorTake 0x43 (some 9) (fun _ _ b d =>
    match d.pair.resync with
    | some r =>
      let i := wordAt b 0
      if d.pairRole = 1 ∧ i < r.next ∧ ¬ r.dirty.contains i then
        d.modPair (fun p => { p with resync := some { r with dirty := r.dirty ++ [i] } })
      else d
    | none => d)

/-- STATE_BLOCK at the MATE (R461): one that is malformed is answered with NACK. -/
def Device.stateBlockRx (d : Device) : Device :=
  d.mirrorTake 0x42 none (fun i n b d =>
    if d.pairRole ≠ 2 ∨ d.pair.resync.isNone then d
    else
      let a := leNat (b.take 8)
      if n = 0 ∨ 4096 < n ∨ b.length ≠ 8 + n ∨ ¬ syncable a n then d.control 9 (leBytes 4 i)
      else (d.syncWrite a (b.drop 8)).bump F.PAIR_RESYNC_BLOCKS)

/-- STEP_DIGEST and FRAME_DIGEST (R457).  A FORCED partner ran D3. -/
def Device.stepDigestRx (d : Device) : Device :=
  d.mirrorTake 0x40 none (fun t _ b d => d.digest 0 false ⟨t, 0, leNat (b.take 8)⟩)
def Device.frameDigestRx (d : Device) : Device :=
  d.mirrorTake 0x41 none (fun f _ b d =>
    d.digest 1 false ⟨f, if d.pair.partForced then 3 else
      (match d.pair.ownFrames.find? (fun y => y.num = f) with
        | some y => y.draft
        | none => d.fld F.HATCH_STATUS_DRAFT), leNat (b.take 8)⟩)

/-- SUSPECT_WAIT_EXPIRE (R460). -/
def Device.suspectWait (d : Device) : Device :=
  match d.pair.div with
  | some v => if d.pairRole = 1 ∧ 2000 ≤ d.since v.at_ then d.decideNow v.own false else d
  | none => d

/-- HB_TOGGLE (R451). -/
def Device.hbToggle (d : Device) : Device :=
  if d.flag F.PAIR_STATUS_ALIVE ∧ d.aliveNow ∧ d.fld F.PAIR_TIMING_HB_HALF ≤ d.since d.pair.hbOutAt then
    d.modPair (fun p => { p with hbOut := !p.hbOut, hbOutAt := d.timebase })
  else d

/-- MIRROR_KEEPALIVE_DUE (R451). -/
def Device.mirrorDue (d : Device) : Device :=
  if d.flag F.PAIR_STATUS_ALIVE ∧ d.hbTimeout ≤ 2 * d.since d.pair.sentAt then
    d.control 2 (leBytes 4 d.openStep ++ leBytes 4 (d.fld F.HATCH_FRAME) ++ leBytes 1 d.pairState ++
      leBytes 1 (d.fld F.HG_STATUS_FORCED))
  else d

/-- PARTNER_HB_LOST and MIRROR_SILENT (R451, R458). (DEDUCED, log entry 87.) -/
def Device.partnerHbLost (d : Device) : Device :=
  if d.flag F.PAIR_CFG_EN ∧ ¬ d.pair.hbGone ∧ d.hbTimeout ≤ d.since d.pair.hbInAt then
    ((d.put F.PAIR_STATUS_HB_LIVE 0).modPair (fun p => { p with hbGone := true })).failover
  else d
/-- (DEDUCED, log entry 87.) -/
def Device.mirrorSilent (d : Device) : Device :=
  if d.flag F.PAIR_CFG_EN ∧ ¬ d.pair.mirGone ∧ d.hbTimeout ≤ d.since d.pair.mirrorAt ∧ ¬ d.mirrorRx.any d.mirrorValid then
    ((d.put F.PAIR_STATUS_MIRROR_LIVE 0).modPair (fun p => { p with mirGone := true, partState := 0 })).failover
  else d

/-- MATE_HB_IN_EDGE (R451). -/
def Device.hbInEdge (d : Device) : Device :=
  (d.put F.PAIR_STATUS_HB_LIVE 1).modPair (fun p => { p with hbInAt := d.timebase, hbGone := false })

/-- PAIR_KICK (R451, R465): only SCRIBE[3] keeps the part ALIVE. -/
def Device.pairKick (ini : Nat) (w : Word) (d : Device) : Device :=
  if ini = iniScribe 3 ∧ bit w.toNat 0 then (d.modPair (fun p => { p with kickAt := some d.timebase })).showAlive else d

/-- PAIR_KICK_EXPIRE (R451). -/
def Device.pairKickExpire (d : Device) : Device :=
  match d.pair.kickAt with
  | some t => if d.hbTimeout < 2 * d.since t then (d.modPair (fun p => { p with kickAt := none })).showAlive else d
  | none => d

/-- PAIR.CMD (R465): RESYNC at a MATE, DEMOTE at a LEAD, LEAVE; other uses are access errors (R463). -/
def Device.pairResyncCmd (ini off : Nat) (d : Device) : Device :=
  if d.pairRole = 2 then d.askSync else d.accError ini 4 off
/-- (DEDUCED, log entry 86.) -/
def Device.demote (ini off : Nat) (d : Device) : Device :=
  if d.pairRole ≠ 1 ∨ d.pair.decided.isSome ∨ d.pair.div.isSome then d.accError ini 4 off
  else
    let fe := (d.fld F.HATCH_FRAME + 1) % 2 ^ 32
    (d.modPair (fun p => { p with decided := some (1, fe), demoting := true })).control 5
      (leBytes 1 1 ++ leBytes 3 0 ++ leBytes 4 fe)
def Device.leave (d : Device) : Device :=
  (((d.dropSync.put F.PAIR_STATUS_ROLE 0).setPairState 0).modPair (fun p => { p with
    driving := false, partDriving := false, div := none, decided := none, draft := none, wantSync := false
    swapped := false })).showDiverge.showAlive
def Device.pairCmd (ini : Nat) (w : Word) (off : Nat) (d : Device) : Device :=
  match bits w.toNat 0 2 with
  | 1 => d.pairResyncCmd ini off
  | 2 => d.demote ini off
  | 3 => d.leave
  | _ => d.accError ini 4 off

/-! ### Lockstep at frame start (R453, R454, R460) -/

/-- Whether the pair lets the next START go out: a LOCKED MATE needs its DRAFT; a LEAD that cuts over holds the
START that consumes input frame I_c. -/
def Device.pairMayStart (d : Device) : Bool :=
  let f := (d.fld F.HATCH_FRAME + 1) % 2 ^ 32
  let drafted := match d.pair.draft with
    | some x => decide (x.1 = f)
    | none => false
  (decide (d.pairRole ≠ 2) || decide (d.pairState ≠ 3) || drafted) &&
  (match d.pair.holdFrame with
    | none => true
    | some i => d.listed.all (fun e => !(d.placing e.1).contains e.2 || decide ((d.stream e.1 e.2).nextI ≠ i)) &&
        d.listed.any (fun e => (d.placing e.1).contains e.2))

/-- What the pair does as frame f starts at a draft level: DRAFT from a LOCKED LEAD, a forced MATE out of lockstep,
a swap of roles. -/
def Device.pairStart (d : Device) (f dr : Nat) : Device :=
  let d := if d.pairRole = 1 ∧ d.pairState = 3 then
      d.control 1 (leBytes 4 f ++ leBytes 1 dr ++ leBytes 1 (d.fld F.PWR_BAND_REQ))
    else if d.pairRole = 2 ∧ d.pairState = 3 then
      match d.pair.draft with
      | some x => if x.2.1 = dr then d
        else ((d.pairFault F.PAIR_FAULT_DRAFT 0x0A08).setPairState 1).modPair (fun p => { p with wantSync := true })
      | none => d
    else d
  if d.pair.decided = some (1, f) then
    if d.pairRole = 1 then
      (d.modPair (fun p => { p with decided := none, swapped := true, wantSync := !p.demoting, demoting := false })).setRole 2
    else if d.pairRole = 2 then (d.modPair (fun p => { p with decided := none, draft := none })).promote d.pairState
    else d
  else d

/-- After START of the effective frame a former LEAD resynchronises from the new one (R460). -/
def Device.pairStarted (d : Device) : Device :=
  if d.pairRole = 2 ∧ d.pair.swapped ∧ d.pair.wantSync then d.askSync else d

/-! ### What a command's end brings (R453, R454, R457) -/

/-- Codes whose containment places results outside R55 under condition 7 of R56, and dropped input (R282). -/
def suspectCodes : List Nat :=
  [0x0103, 0x0108, 0x0110, 0x0113, 0x0120, 0x0121, 0x0124, 0x0180, 0x0183, 0x0184, 0x0185, 0x0186, 0x0203, 0x0210,
   0x0211, 0x0212, 0x0301, 0x0305, 0x0308, 0x0309, 0x0402, 0x0403, 0x0407, 0x0408, 0x040A, 0x0411, 0x0501, 0x0505,
   0x0507, 0x0511, 0x0610, 0x0613, 0x0616, 0x070A, 0x0712]

/-- The pair's part in the end of a command: ALIVE, SUSPECT, FORCED, dirty blocks, the check of a cut. -/
def Device.pairWatch (d old : Device) : Device :=
  let d := d.showAlive
  if d.pairRole = 0 then d
  else
    let d := if d.raising.any (fun c => suspectCodes.contains c.1) then
        d.modPair (fun p => { p with
          suspStep := d.openStep :: (p.suspStep.filter (· ≠ d.openStep)).take 127
          suspFrame := d.fld F.HATCH_FRAME :: (p.suspFrame.filter (· ≠ d.fld F.HATCH_FRAME)).take 127 })
      else d
    let forced := d.flag F.HG_STATUS_FORCED
    let d := if forced ≠ old.flag F.HG_STATUS_FORCED ∧ d.pairRole = 2 then
        let d := d.control 3 (leBytes 1 ((d.word F.HG_STATUS_CAP.addr).toNat % 32))
        if ¬ forced ∧ d.pair.wantSync ∧ d.flag F.PAIR_STATUS_MIRROR_LIVE then d.askSync else d
      else d
    (old.trackDirty d).cutCheck

end Sys2Proof.Machine
end

