-- ==== Sys2Proof/Machine/Mbox.lean ====
section
/-! DEFINITION. Doorbells, IBI requests and mailboxes (R415 to R422). -/

namespace Sys2Proof.Machine

/-! ### Doorbells (R421, R422) -/

/-- The doorbell word of receiver r: 7 the host, 2 to 5 the Scribes. -/
def bellAddr (r : Nat) : Option Nat :=
  if r = iniHost then some 0x0010500200
  else if isScribe r then some (0x0010500208 + 4 * (r - 2))
  else none

/-- Pending bits of the host that are enabled. -/
def Device.pendingBells (d : Device) : Nat :=
  (d.word F.MB_DB_HOST_MBOX_FULL.addr).toNat &&& (d.word F.MB_DB_HOST_EN.addr).toNat

/-- Doorbell bits set at a receiver.  An enabled bit of the host that changes from 0 to 1 requests an IBI while
ENINT is enabled (R422). -/
def Device.ring (r mask : Nat) (d : Device) : Device :=
  match bellAddr r with
  | none => d
  | some a =>
    let old := d.pendingBells
    let d := d.putWord a (d.word a ||| BitVec.ofNat 32 mask)
    let new := d.pendingBells
    if new ≠ old ∧ d.host.i3c.enInt then d.modI3c (fun x => { x with ibi := true }) else d

/-- Doorbell bits cleared at a receiver. -/
def Device.unring (r mask : Nat) (d : Device) : Device :=
  match bellAddr r with
  | none => d
  | some a => d.putWord a (d.word a &&& ~~~(BitVec.ofNat 32 mask))

def bellFull (i : Nat) : Nat := 1 <<< i
def bellDone (i : Nat) : Nat := 1 <<< (8 + i)
def bellTmo (i : Nat) : Nat := 1 <<< (16 + i)
def bellSw (b : Nat) : Nat := 1 <<< b

/-- The doorbell summary (R422): bit k is the OR of four enabled pending bits. -/
def Device.bellSummary (d : Device) : Nat :=
  ((List.range 8).map (fun k => b2n (decide (bits d.pendingBells (4 * k) 4 ≠ 0)) <<< k)).foldl (· + ·) 0

/-- IBI_REQUEST (R422): the target sends its mandatory byte; the controller acknowledges it or not.  A NACKed
request stands. -/
def Device.ibiRequest (acked : Bool) (d : Device) : Device :=
  let x := d.host.i3c
  if x.ibi ∧ x.enInt ∧ x.da.isSome then
    if d.pendingBells = 0 then d.modI3c (fun x => { x with ibi := false })
    else d.modI3c (fun x => { x with ibi := !acked, acked := acked, reply := [BitVec.ofNat 8 d.bellSummary] })
  else d

/-- A write of a doorbell register (R421): pending bits are cleared by ones, and set by ones where the host writes a
Scribe's software bits. (DEDUCED, log entry 80.) -/
def Device.bellWrite (ini a : Nat) (w : Word) (d : Device) : Device :=
  if a = 0x0010500204 then d.putWord a w
  else if a = 0x0010500200 then d.unring iniHost w.toNat
  else
    let r := 2 + (a - 0x0010500208) / 4
    if ini = iniHost then d.ring r (w.toNat / 2 ^ 24 * 2 ^ 24) else d.unring r w.toNat

/-! ### Mailboxes (R416 to R418) -/

def Device.mboxOwner (d : Device) (i : Nat) : Nat := d.fld (F.MBOX_LOCK i)
def Device.mboxFull (d : Device) (i : Nat) : Bool := d.flag (F.MBOX_STATUS_FULL i)
def Device.mboxRcvr (d : Device) (i : Nat) : Nat := d.fld (F.MB_MBOX_CFG_RCVR i)

/-- What a read of LOCK returns and does (R417). -/
def Device.lockRead (ini i : Nat) (d : Device) : Nat × Device :=
  let o := d.mboxOwner i
  let priv := d.fld (F.MB_MBOX_CFG_PRIV i)
  if o = ini then (0, d)
  else if o ≠ 0 then (o, d)
  else if priv ≠ 0 ∧ priv ≠ ini then (priv, d)
  else (0, d.put (F.MBOX_LOCK i) ini)

/-- The holder of a mailbox releases it: MBOX_LOCK_RELEASE (R417). -/
def Device.lockWrite (ini i : Nat) (w : Word) (off : Nat) (d : Device) : Device :=
  if ini = d.mboxOwner i ∧ w = 0 ∧ ¬ d.mboxFull i then d.put (F.MBOX_LOCK i) 0
  else d.accError ini (if ini = d.mboxOwner i then 4 else 2) off

/-- The sender's timeout (R418): TMO, the sender's doorbell bit, 0x0B02, once for a message. -/
def Device.mboxTmo (i : Nat) (d : Device) : Device :=
  (((d.put (F.MBOX_STATUS_TMO i) 1).ring (d.mboxOwner i) (bellTmo i)).raiseBit F.HOST_HFAULT_TMO 0x0B02 wholeDevice).modHost
    (fun h => { h with fullAt := nput h.fullAt i 0 })

/-- Whether a receiver cannot take a message now (R418 step 3). -/
def Device.deaf (d : Device) (r : Nat) : Bool :=
  isScribe r &&
  (let n := r - 2
   let waking := match (d.dom (domScribe n)).phase with
     | .pending _ | .wake _ _ _ => true
     | _ => false
   (decide (d.domState (domScribe n) = 0) && !waking) ||
   (decide (n ≠ 0) && !(vget d.scribes n {}).released))

/-- MBOX_SEND (R418). -/
def Device.mboxSend (i len : Nat) (d : Device) : Device :=
  let r := d.mboxRcvr i
  let d := ((d.put (F.MBOX_STATUS_LEN i) len).put (F.MBOX_STATUS_FULL i) 1).ring r (bellFull i)
  let d := d.modHost (fun h => { h with fullAt := nput h.fullAt i (d.timebase + 1), lost := h.lost && decide (i ≠ 0) })
  if d.deaf r then d.mboxTmo i else d

/-- MBOX_WITHDRAW (R418). -/
def Device.mboxWithdraw (i : Nat) (d : Device) : Device :=
  if d.mboxFull i then
    ((d.put (F.MBOX_STATUS_FULL i) 0).put (F.MBOX_STATUS_TMO i) 0).unring (d.mboxRcvr i) (bellFull i)
  else d

/-- A write of CTRL (R418). (DEDUCED, log entry 80.) -/
def Device.mboxCtrl (ini i : Nat) (w : Word) (off : Nat) (d : Device) : Device :=
  let len := bits w.toNat 0 7
  if ini ≠ d.mboxOwner i then d.accError ini 2 off
  else if bit w.toNat 31 then
    if d.mboxFull i then d.accError ini 2 off
    else if len = 0 ∨ 64 < len then d.accError ini 4 off
    else d.mboxSend i len
  else if bit w.toNat 30 then d.mboxWithdraw i
  else d

/-- FULL clears: the lock is released and the sender told (R418 step 5). -/
def Device.mboxDone (i : Nat) (d : Device) : Device :=
  ((d.put (F.MBOX_STATUS_FULL i) 0).ring (d.mboxOwner i) (bellDone i)).put (F.MBOX_LOCK i) 0

/-- A read of DATA[w] (R418 step 4): the receiver's read of the word that holds the last byte takes the message.
(DEDUCED, log entry 80.) -/
def Device.mboxRead (ini i w : Nat) (d : Device) : Device :=
  if ini = d.mboxRcvr i ∧ d.mboxFull i ∧ w = (d.fld (F.MBOX_STATUS_LEN i) - 1) / 4 then d.mboxDone i else d

/-- A write of DATA[w] (R418 step 2). -/
def Device.mboxData (ini i w : Nat) (v : Word) (off : Nat) (d : Device) : Device :=
  if ini = d.mboxOwner i ∧ ¬ d.mboxFull i then d.putWord (F.MBOX_DATA i w).addr v
  else d.accError ini 2 off

/-- A write of MBOX_CFG[i] (R419). -/
def Device.mboxCfg (ini i : Nat) (w : Word) (off : Nat) (d : Device) : Device :=
  let r := bits w.toNat 8 5
  if d.mboxFull i ∨ d.mboxOwner i ≠ 0 ∨ ¬ (r = 7 ∨ (2 ≤ r ∧ r ≤ 5)) then d.accError ini 4 off
  else (d.put (F.MB_MBOX_CFG_RCVR i) r).put (F.MB_MBOX_CFG_PRIV i) (bits w.toNat 0 5)

/-- MBOX_TIMEOUT_EXPIRE (R418). (DEDUCED, log entry 80.) -/
def Device.mboxExpire (i : Nat) (d : Device) : Device :=
  if d.mboxFull i ∧ nget d.host.fullAt i ≠ 0 ∧
      max 1 (d.fld F.MB_MBOX_TIMEOUT) ≤ d.since (nget d.host.fullAt i - 1) then d.mboxTmo i
  else d

/-- The bytes of the message in a mailbox. -/
def Device.mboxBytes (d : Device) (i : Nat) : List Byte :=
  ((List.range 16).flatMap (fun w => leBytes 4 (d.word (F.MBOX_DATA i w).addr).toNat)).take (d.fld (F.MBOX_STATUS_LEN i))

/-- A message put into a mailbox by a sender that holds its lock. -/
def Device.mboxPut (ini i : Nat) (l : List Byte) (d : Device) : Device :=
  let d := d.put (F.MBOX_LOCK i) ini
  let b := padTo 64 l
  let d := d.each (List.range 16) (fun d w =>
    d.putWord (F.MBOX_DATA i w).addr (BitVec.ofNat 32 (leNat ((b.drop (4 * w)).take 4))))
  d.mboxSend i l.length

/-- A reply (R423, R426): CMD and TAG of the request, no flags, STATUS, and the payload. -/
def replyOf (h : List Byte) (status : Nat) (body : List Byte) : List Byte :=
  h.take 1 ++ [0] ++ (h.drop 2).take 2 ++ leBytes 2 body.length ++ leBytes 2 status ++ body

/-- A reply that waits for MBOX[4]. -/
def Device.reply (h : List Byte) (status : Nat) (body : List Byte) (d : Device) : Device :=
  d.modHost (fun x => { x with replies := x.replies ++ [replyOf h status body] })

/-- A mailbox revoked (R420): emptied, its doorbell bits cleared, 0x0B03. -/
def Device.mboxRevoke (i : Nat) (d : Device) : Device :=
  let o := d.mboxOwner i
  let d := (d.unring (d.mboxRcvr i) (bellFull i)).unring o (bellDone i + bellTmo i)
  let d := (((d.put (F.MBOX_LOCK i) 0).put (F.MBOX_STATUS_FULL i) 0).put (F.MBOX_STATUS_TMO i) 0).put (F.MBOX_STATUS_LEN i) 0
  let d := d.each (List.range 16) (fun d w => d.putWord (F.MBOX_DATA i w).addr 0)
  d.raiseBit F.HOST_HFAULT_REVOKED 0x0B03 wholeDevice

/-- A private channel session revoked (R420): 0x0B04, the partial request discarded. -/
def Device.sessionRevoke (d : Device) : Device :=
  (d.modHost (fun h => { h with tag := none, parts := [] })).raiseBit F.HOST_HFAULT_REVOKED 0x0B04 wholeDevice

/-! ### Status (R415) -/

/-- The READY pin: high in READY and RUN (R405). -/
def Device.ready (d : Device) : Bool := decide (d.boot = 7) || decide (d.boot = 8)

/-- HSTAT as a read finds it. -/
def Device.hstat (d : Device) : Nat :=
  let da := d.host.i3c.da
  d.boot <<< 28 + b2n d.ready <<< 27 + b2n d.faultN <<< 26 + b2n (d.isOn (domScribe 0)) <<< 25 +
  d.fld F.HOST_HFAULT_ACC <<< 24 + (da.getD 0 % 128) <<< 16 + b2n da.isSome <<< 15 + d.bootc.inst % 16

end Sys2Proof.Machine
end

