-- ==== Sys2Proof/Machine/Security.lean ====
section
/-! DEFINITION. Identity and security (R431 to R446): the key store, tokens, attestation and the TAP, but for its
debug accesses. -/

namespace Sys2Proof.Machine

/-! ### Key store (R431, R433, R435) -/

/-- Whether a slot is programmed and not killed. -/
def KeyStore.live (k : KeyStore) (i : Nat) : Bool := bit k.programmed i && !bit k.killed i

/-- The active slot (R431): none on a BLANK part. -/
def KeyStore.active (k : KeyStore) : Option Nat := [3, 2, 1, 0].find? (fun i => k.live i)

/-- The active slot's hash. -/
def KeyStore.activeHash (k : KeyStore) : Option (List Byte) := k.active.map (fun i => padTo 64 (k.hashes.getD i []))

/-- KS.STATE and the slots as they stand (R446). -/
def Device.showKeys (d : Device) : Device :=
  let k := d.sec.store
  let d := ((((d.put F.KS_STATE_BLANK (b2n k.active.isNone)).put F.KS_STATE_CERT_OK (b2n k.certOk)).put
    F.KS_STATE_KILLED k.killed).put F.KS_STATE_PROGRAMMED k.programmed).put F.KS_STATE_ACTIVE (k.active.getD 0)
  let d := d.each (List.range 4) (fun d i => d.each (List.range 16) (fun d w =>
    d.put (F.KS_OWNER_HASH i w) (leNat ((((k.hashes.getD i []).drop (4 * w))).take 4))))
  d.each (List.range 34) (fun d w =>
    let v := leNat ((k.pubKey.drop (4 * w)).take 4)
    (d.put (F.KS_PUBKEY w) v).put (F.HOST_PUBKEY w) v)

/-- The end of FUSE at the key store (R433). -/
def Device.keyCheck (d : Device) : Device :=
  let k := d.sec.store
  let d := d.showKeys
  let d := if k.certOk then d else d.raiseBit F.KS_FAULT_CERT 0x0903 wholeDevice
  if k.keyOk then d else d.raiseBit F.KS_FAULT_KS 0x0906 wholeDevice

/-- A slot being programmed (R435, R436). -/
def Device.program (d : Device) (slot : Nat) (hash : List Byte) : Device :=
  d.modSec (fun s => { s with prov := some (slot, padTo 64 hash) })

/-- PROVISION_VERIFY (R435): the slot read back. -/
def Device.provisionVerify (ok : Bool) (d : Device) : Device :=
  match d.sec.prov with
  | none => d
  | some (slot, h) =>
    let d := d.modSec (fun s => { s with
      prov := none
      store := if ok then { s.store with
          programmed := s.store.programmed ||| 1 <<< slot, hashes := s.store.hashes.set slot h }
        else { s.store with killed := s.store.killed ||| 1 <<< slot } })
    let d := d.showKeys
    if ok then d.raise 0x0904 wholeDevice else d.raiseBit F.KS_FAULT_FUSE 0x0905 wholeDevice

/-! ### Nonces (R432, R440) -/

/-- The nonce of a path. -/
def Device.nonce (d : Device) (ini : Nat) : Option (List Byte) := (d.sec.nonces.find? (fun e => e.1 = ini)).map (·.2)

/-- A path's nonce as its registers show it: zero when none. -/
def Device.showNonce (ini : Nat) (d : Device) : Device :=
  let b := (d.nonce ini).getD []
  d.each (List.range 8) (fun d w =>
    let v := leNat ((b.drop (4 * w)).take 4)
    if ini = iniHost then d.put (F.HOST_TOKEN_NONCE w) v
    else if isScribeOrJtag ini then d.put (F.KS_NONCE w ini) v else d)

/-- A nonce consumed. -/
def Device.dropNonce (ini : Nat) (d : Device) : Device :=
  (d.modSec (fun s => { s with nonces := s.nonces.filter (fun e => e.1 ≠ ini) })).showNonce ini

/-- A new nonce of the random number generator, which replaces the path's. -/
def Device.newNonce (ini : Nat) (d : Device) : Device :=
  let r := d.draw
  ((r.2.dropNonce ini).modSec (fun s => { s with nonces := (ini, leBytes 32 r.1.toNat) :: s.nonces })).showNonce ini

/-! ### Tokens (R439 to R441) -/

def tokField (t : List Byte) (off n : Nat) : Nat := leNat ((t.drop off).take n)
def tokBytes (t : List Byte) (off n : Nat) : List Byte := (t.drop off).take n

/-- Whether a range of bytes is zero. -/
def zeros (t : List Byte) (off n : Nat) : Bool := (tokBytes t off n).all (· = 0)

/-- MAGIC and reserved fields (R439, R495). -/
def tokenForm (t : List Byte) : Bool :=
  let p := tokField t 4 2
  decide (t.length = 444) && decide (tokField t 0 4 = 0x90647E4B) && zeros t 7 9 && zeros t 0x135 3 &&
  (if p = 1 then zeros t 0x51 95 else if p = 2 then zeros t 0x54 92 else if p = 3 then zeros t 0x91 31 else true)

/-- Whether a path takes a purpose (R440). -/
def pathTakes (ini purpose : Nat) : Bool :=
  if ini = iniJtag then decide (purpose = 1) || decide (purpose = 3)
  else decide (purpose = 2) && (decide (ini = iniHost) || isScribe ini)

/-- Whether the signer may sign the purpose (R434, R440 step 5). -/
def Device.signerOk (d : Device) (t : List Byte) : Bool :=
  let purpose := tokField t 4 2
  let sel := tokField t 6 1
  let pub := tokBytes t 0xB0 133
  let h := padTo 64 (sha512 pub)
  if sel = 0 then decide (d.sec.store.activeHash = some h)
  else if sel = 0xFF then
    decide (h = padTo 64 Config.debugKeyHash) && decide (purpose = 1) &&
      (d.sec.store.active.isNone || d.flag F.KS_STATE_VENDOR_PERMIT)
  else match d.bootc.keys[sel - 1]? with
    | some k => decide (k.pub = pub) &&
        ((decide (purpose = 1) && bit k.auth 0) || (decide (purpose = 2) && bit k.auth 1))
    | none => false

/-- Whether LEVEL, SLOT and the part's state permit the token (R434, R436, R440 step 7). -/
def Device.tokenState (d : Device) (t : List Byte) : Bool :=
  let purpose := tokField t 4 2
  let active := d.sec.store.active
  if purpose = 1 then
    let level := tokField t 0x50 1
    if tokField t 6 1 = 0xFF then decide (level = 2) else decide (level = 1) && active.isSome
  else if purpose = 2 then active.isSome
  else match active with
    | some a => decide (a < 3) && decide (tokField t 0x90 1 = a + 1) && !bit d.sec.store.killed (a + 1) &&
        d.sec.prov.isNone
    | none => false

/-- REASON of a token: 0 when it passes (R433, R440). (DEDUCED, log entry 81.) -/
def Device.tokenReason (d : Device) (ini : Nat) (t : List Byte) (nonce : Option (List Byte)) : Nat :=
  if !d.sec.store.keyOk then 9
  else if !tokenForm t then 1
  else if !pathTakes ini (tokField t 4 2) then 2
  else if tokBytes t 0x10 32 ≠ d.deviceId then 3
  else if nonce ≠ some (tokBytes t 0x30 32) then 4
  else if !d.signerOk t then 5
  else if !ecdsaVerify (tokBytes t 0xB0 133) (t.take 0x138) (tokBytes t 0x138 132) then 6
  else if !d.tokenState t then 7
  else 0

/-- REASON, DONE and ERR of a path (R442, R445, R446); DONE of the host's is that of its report. (DEDUCED, log entry 81.) -/
def Device.pathResult (ini reason : Nat) (report : Bool) (d : Device) : Device :=
  let busy := b2n (d.sec.reqs.any (fun r => r.ini = ini && (ini != iniHost || r.report)))
  let err := b2n (decide (reason ≠ 0))
  let d := if ini = iniJtag then d.modJtag (fun j => { j with reason := reason }) else d
  if ini = iniHost then
    let d := if report then d.put F.HOST_ATT_STATUS_DONE 1 else d
    ((d.put F.HOST_ATT_STATUS_BUSY busy).put F.HOST_ATT_STATUS_ERR err).put F.HOST_ATT_STATUS_REASON reason
  else if ini = iniJtag ∧ ¬ d.flag (F.KS_TOKEN_STATUS_BUSY ini) then d
  else (((d.put (F.KS_TOKEN_STATUS_BUSY ini) busy).put (F.KS_TOKEN_STATUS_DONE ini) 1).put
    (F.KS_TOKEN_STATUS_ERR ini) err).put (F.KS_TOKEN_STATUS_REASON ini) reason

/-- A request put to the engine. -/
def Device.request (r : TokenReq) (d : Device) : Device :=
  d.modSec (fun s => { s with reqs := s.reqs ++ [r] })

/-- KS_TOKEN_SUBMIT (R440): a Scribe's token buffer. (DEDUCED, log entry 81.) -/
def Device.tokenSubmit (ini : Nat) (d : Device) : Device :=
  let t := ((List.range 111).flatMap (fun w => leBytes 4 (d.word (F.KS_TOKEN_BUF w ini).addr).toNat)).take 444
  (((d.put (F.KS_TOKEN_STATUS_BUSY ini) 1).put (F.KS_TOKEN_STATUS_DONE ini) 0).put (F.KS_TOKEN_STATUS_ERR ini) 0).request
    ⟨false, ini, t⟩

/-- A write of TOKEN_CTRL: a new nonce, a submission, or both in that order. -/
def Device.tokenCtrl (ini : Nat) (w : Word) (d : Device) : Device :=
  let d := d.when (bit w.toNat 1) (fun d => d.newNonce ini)
  d.when (bit w.toNat 0) (fun d => d.tokenSubmit ini)

/-- What an accepted token does (R436, R443, R495). -/
def Device.tokenAct (ini : Nat) (t : List Byte) (d : Device) : Nat × Device :=
  let purpose := tokField t 4 2
  if purpose = 1 then (0, (d.put F.KS_STATE_JTAG (tokField t 0x50 1)).raise 0x0902 wholeDevice)
  else if purpose = 2 then
    d.proofClear (tokField t 0x50 4) (tokField t 6 1) ini (padTo 64 (sha512 (tokBytes t 0xB0 133)))
  else (0, d.program (tokField t 0x90 1) (tokBytes t 0x50 64))

/-- The reply to a PROOF_CLEAR message, once its token is checked (R425): REFUSED when it is rejected. -/
def Device.clearReply (ini reason sq : Nat) (d : Device) : Device :=
  match d.host.clearTag with
  | some h => if ini = iniHost then
      let body := if reason = 0 then leBytes 4 sq else []
      (d.modHost (fun x => { x with clearTag := none })).reply h (if reason = 0 then 0 else 3) body
    else d
  | none => d

/-- TOKEN_CHECK_DONE (R440, R441): the engine's first request, when it is a token. -/
def Device.tokenDone (d0 : Device) : Device :=
  match d0.sec.reqs with
  | ⟨false, ini, t⟩ :: rest =>
    let nonce := d0.nonce ini
    let reason := d0.tokenReason ini t nonce
    let d := d0.modSec (fun s => { s with reqs := rest })
    let d := if reason = 0 ∨ 4 ≤ reason ∧ reason ≠ 9 then d.dropNonce ini else d
    let r := if reason = 0 then d.tokenAct ini t else (0, d.raiseBit F.KS_FAULT_TOKEN 0x0901 wholeDevice)
    ((r.2.pathResult ini reason false).clearReply ini reason r.1)
  | _ => d0

/-! ### Attestation (R444, R445) -/

/-- The report as the key store builds it (R444). -/
def Device.report (d : Device) (nonce : List Byte) : List Byte :=
  let k := d.sec.store
  let verified := !d.bootc.fw.isEmpty
  let b := leBytes 4 0x9064A77E ++ leBytes 2 1 ++ leBytes 2 516 ++
    leBytes 4 (d.word F.TOPO_ID_PART.addr).toNat ++
    leBytes 1 (d.bootc.inst % 16) ++ leBytes 1 d.boot ++ leBytes 1 (d.fld F.KS_STATE_JTAG) ++
    leBytes 1 (k.active.getD 0xFF) ++
    leBytes 4 (if verified then d.fld F.BOOT_FW_VERSION else 0) ++
    leBytes 4 (if verified then leNat ((d.bootc.header.drop 0x18).take 4) else 0) ++
    leBytes 4 (d.fld F.PL_NEXT_SEQ - 1) ++ leBytes 4 (d.fld F.PL_PCYCLE) ++ leBytes 8 d.timebase ++
    List.replicate 24 0 ++ padTo 64 nonce ++ d.imageHash ++
    padTo 64 (sha512 (padTo 512 d.bootc.fuseMap)) ++ (k.activeHash.getD (List.replicate 64 0)) ++
    padTo 32 d.deviceId ++ List.replicate 32 0
  b ++ padTo 132 (Config.ecdsaSign b)

/-- ATT_GO (R445). -/
def Device.attGo (ini off : Nat) (d : Device) : Device :=
  if d.flag F.HOST_ATT_STATUS_BUSY then d.accError ini 4 off
  else
    let nonce := (List.range 16).flatMap (fun w => leBytes 4 (d.word (F.HOST_ATT_NONCE w).addr).toNat)
    let d := d.each (List.range 129) (fun d w => d.put (F.HOST_REPORT w) 0)
    ((d.put F.HOST_ATT_STATUS_BUSY 1).put F.HOST_ATT_STATUS_DONE 0).request ⟨true, iniHost, nonce⟩

/-- A write of ATT_CTRL. -/
def Device.attCtrl (ini : Nat) (w : Word) (off : Nat) (d : Device) : Device :=
  let d := d.when (bit w.toNat 1) (fun d => d.newNonce iniHost)
  d.when (bit w.toNat 0) (fun d => d.attGo ini off)

/-- ATT_REPORT_DONE (R444, R445): the engine's first request, when it is a report. -/
def Device.reportDone (d0 : Device) : Device :=
  match d0.sec.reqs with
  | ⟨true, _, nonce⟩ :: rest =>
    let d := d0.modSec (fun s => { s with reqs := rest })
    if !d.sec.store.keyOk then d.pathResult iniHost 9 true
    else
      let b := d.report nonce
      let d := d.each (List.range 129) (fun d w => d.put (F.HOST_REPORT w) (leNat ((b.drop (4 * w)).take 4)))
      let d := d.pathResult iniHost 0 true
      -- by the firmware or the recovery agent
      if (vget d.scribes 0 {}).running ∧ ¬ (vget d.scribes 0 {}).halted then d.ring iniHost (bellSw 28) else d
  | _ => d0

/-- The certificate that CERT_SEL selects (R438, R445), and a word of it. -/
def Device.certBytes (d : Device) : List Byte :=
  match d.fld F.HOST_CERT_SEL with
  | 0 => d.sec.store.cert
  | 1 => d.sec.store.caCert
  | 2 => d.bootc.ownerCert
  | _ => []

/-! ### The TAP (R442, R443) -/

/-- n bits shifted out, least significant first. -/
def bitsOut (n x : Nat) : List Bool := (List.range n).map (fun i => x.testBit i)

/-- An instruction taken up with what its data register shifts out; boundary outputs end with those that drive
them. -/
def Device.jtagIr (ir : Nat) (out : List Bool) (d : Device) : Device :=
  d.modJtag (fun j => { j with
    ir := ir, out := out, extest := decide (ir = 0x03) || (decide (ir = 0x04) && j.extest), highz := decide (ir = 0x05) })

/-- BYPASS, and every instruction used outside its states. -/
def Device.jtagBypass (d : Device) : Device := d.jtagIr 0xFF [false]

def Device.jtagIdcode (d : Device) : Device := d.jtagIr 0x01 (bitsOut 32 0x1906474F)

/-- SAMPLE/PRELOAD: the levels at the cells captured and shifted out, the chain preloaded. (DEDUCED, log entry 83.) -/
def Device.jtagSample (pins load : BitVec 74) (d : Device) : Device :=
  (d.jtagIr 0x02 (bitsOut 74 pins.toNat)).modJtag (fun j => { j with bsr := load })

/-- EXTEST: the balls are driven from the chain. -/
def Device.jtagExtest (pins load : BitVec 74) (d : Device) : Device :=
  (d.jtagIr 0x03 (bitsOut 74 pins.toNat)).modJtag (fun j => { j with bsr := load })

/-- CLAMP: the outputs hold the chain's values, with the bypass register selected. -/
def Device.jtagClamp (d : Device) : Device :=
  (d.jtagIr 0x04 [false]).modJtag (fun j => { j with extest := true })

def Device.jtagHighz (d : Device) : Device := d.jtagIr 0x05 [false]

/-- CHALLENGE: a new nonce of the JTAG path shifted out. -/
def Device.jtagChallenge (d : Device) : Device :=
  let d := d.newNonce iniJtag
  d.jtagIr 0x10 (bitsOut 256 (leNat ((d.nonce iniJtag).getD [])))

/-- TOKEN: 444 bytes in ascending offset, submitted at Update-DR. -/
def Device.jtagToken (t : BitVec 3552) (d : Device) : Device :=
  (d.jtagIr 0x11 []).request ⟨false, iniJtag, leBytes 444 t.toNat⟩

/-- STATUS. -/
def Device.jtagStatus (d : Device) : Device :=
  let a := d.sec.store.active
  let busy := d.sec.reqs.any (fun r => r.ini = iniJtag) || d.sec.prov.isSome
  d.jtagIr 0x12 (bitsOut 32 (d.fld F.KS_STATE_JTAG <<< 30 + b2n busy <<< 29 + b2n a.isNone <<< 28 +
    d.sec.jtag.reason % 16 <<< 24 + a.getD 0 <<< 22))

/-- RELOCK. -/
def Device.jtagRelock (d : Device) : Device := (d.jtagIr 0x13 [false]).put F.KS_STATE_JTAG 0

/-- PROVISION (R435): on a BLANK part the lowest slot neither programmed nor killed is programmed.
(DEDUCED, log entry 83.) -/
def Device.jtagProvision (hash : BitVec 512) (d : Device) : Device :=
  let k := d.sec.store
  if k.active.isSome then d.jtagBypass
  else
    let d := d.jtagIr 0x14 []
    match d.sec.prov, (List.range 4).find? (fun i => !bit k.programmed i && !bit k.killed i) with
    | none, some i => d.program i (leBytes 64 hash.toNat)
    | _, _ => d

/-- SCAN: in VENDOR state with every clockless domain OFF; what the internal chains hold is open.
(DEDUCED, log entry 83.) -/
def Device.jtagScan (d : Device) : Device :=
  let off := ((List.range 118).map (· + 1) ++ (List.range 4).map (· + 123)).all (fun i => d.domState i = 0)
  if d.fld F.KS_STATE_JTAG = 2 ∧ off then
    let r := d.draw
    r.2.jtagIr 0x21 (bitsOut 256 r.1.toNat)
  else d.jtagBypass

/-- TEST_LOGIC_RESET: IDCODE is selected; the lock state stays. -/
def Device.jtagReset (d : Device) : Device :=
  d.modJtag (fun j => { j with ir := 0x01, out := [], extest := false, highz := false })

/-- The TAP's REASON after a reset: a request of its path that the reset discards is left refused (R441); the spec gives
that refusal no number: a free value that is not 0. (DESIGN CHOICE, log entry 127.) -/
def Device.jtagRefused (d : Device) : Nat × Device :=
  if d.sec.reqs.any (fun r => r.ini = iniJtag) then
    let r := d.draw
    (1 + r.1.toNat % 15, r.2)
  else (0, d)

/-- POR_N or RESET_N at the key store (R441, R443, R446). -/
def Device.secReset (d : Device) : Device :=
  let r := d.jtagRefused
  let d := r.2.modSec (fun s => { s with reqs := [], nonces := [], prov := s.prov })
  (d.put F.KS_STATE_JTAG 0).modJtag (fun j => { j with reason := r.1 })

end Sys2Proof.Machine
end

