-- ==== Sys2Proof/Machine/Image.lean ====
section
/-! DEFINITION. The configuration image as flash holds it (R376 to R386): flash contents, header, sections, the
firmware's signature, load records. -/

namespace Sys2Proof.Machine

/-! ### Flash (R376, R377) -/

def FlashDev.size (f : FlashDev) : Nat := if f.log2 = 0 then 0 else 2 ^ f.log2
def Flash.dev (f : Flash) (cs : Nat) : FlashDev := if cs = 0 then f.cs0 else f.cs1

/-- One byte of a device: 0xFF where nothing is programmed. -/
def Flash.byte (f : Flash) (cs off : Nat) : Byte := mapGet (fun _ => (0xFF : Byte)) f.bytes (cs * 2 ^ 32 + off)
def Flash.setByte (f : Flash) (cs off : Nat) (b : Byte) : Flash :=
  { f with bytes := mapPut (fun _ => (0xFF : Byte)) f.bytes (cs * 2 ^ 32 + off) b }

/-- One byte of the image's address space: CS0, then CS1. -/
def Flash.lin (f : Flash) (a : Nat) : Byte :=
  if a < f.cs0.size then f.byte 0 a else f.byte 1 (a - f.cs0.size)
def Flash.linBytes (f : Flash) (a n : Nat) : List Byte := (List.range n).map (fun i => f.lin (a + i))

/-! ### Header and sections (R379 to R381) -/

/-- A little-endian field of a byte string. -/
def fieldOf (h : List Byte) (off n : Nat) : Nat := leNat ((h.drop off).take n)
def zeroAt (h : List Byte) (off n : Nat) : Bool := ((h.drop off).take n).all (· = 0)

def nsect (h : List Byte) : Nat := fieldOf h 6 2
def imageLen (h : List Byte) : Nat := fieldOf h 8 4
def copyBase (h : List Byte) : Nat := fieldOf h 0x14 4 * 4096
def permitsEtch (h : List Byte) : Bool := bit (fieldOf h 0xC 4) 0
def permitsGraver (h : List Byte) : Bool := bit (fieldOf h 0xC 4) 1

/-- A section of the table. -/
structure Sect where
  type : Nat
  off : Nat
  len : Nat
  hash : List Byte
  deriving DecidableEq, Repr

def sectAt (h : List Byte) (i : Nat) : Sect :=
  let e := h.drop (0x100 + 96 * i)
  ⟨fieldOf e 0 2, fieldOf e 4 4, fieldOf e 8 4, (e.drop 0x20).take 64⟩
def sects (h : List Byte) : List Sect := (List.range (nsect h)).map (sectAt h)

/-- The section of a type, with its place in the table. -/
def sectOf (h : List Byte) (t : Nat) : Option (Nat × Sect) :=
  ((List.range (nsect h)).map (fun i => (i, sectAt h i))).find? (fun e => e.2.type = t)

/-- The checks of R381 on a header of 4,096 bytes, with the flash as found. (DEDUCED, log entry 72.) -/
def headerOk (f : Flash) (h : List Byte) : Bool :=
  let n := nsect h
  let ss := sects h
  let entry (i : Nat) : Bool :=
    let s := sectAt h i
    decide (1 ≤ s.type) && decide (s.type ≤ 8) && zeroAt h (0x102 + 96 * i) 2 && zeroAt h (0x10C + 96 * i) 20 &&
    decide (s.off % 4096 = 0) && decide (4096 ≤ s.off) && decide (1 ≤ s.len) && decide (s.off + s.len ≤ imageLen h)
  let rising (i : Nat) : Bool := decide ((sectAt h i).off + (sectAt h i).len ≤ (sectAt h (i + 1)).off)
  let types := ss.map Sect.type
  decide (fieldOf h 0 4 = 0x9064B007) && decide (fieldOf h 4 2 = 1) && decide (4 ≤ n) && decide (n ≤ 32) &&
  decide (fieldOf h 0xC 4 < 4) && zeroAt h 0x13 1 && zeroAt h 0x1C 36 && zeroAt h 0xC5 59 && zeroAt h 0xD00 256 &&
  zeroAt h 0xE84 380 && (List.range n).all entry && zeroAt h (0x100 + 96 * n) (96 * (32 - n)) &&
  decide (types.headD 0 = 1) && decide (types.getD 1 0 = 7) && types.contains 2 && types.contains 4 &&
  decide (types.eraseDups.length = types.length) && (List.range (n - 1)).all rising &&
  decide (imageLen h ≤ 536870912) && decide (imageLen h ≤ f.cs0.size + f.cs1.size) &&
  decide (lpBase ≤ copyBase h) && decide (copyBase h + imageLen h ≤ lpEnd)

/-! ### Firmware (R382, R388) -/

/-- The code of a firmware section. -/
def fwCode (fw : List Byte) : List Byte := (fw.drop 512).take (fieldOf fw 4 4)

/-- Whether the section's HASH matches. -/
def hashOk (h : List Byte) (i : Nat) (b : List Byte) : Bool := decide (padTo 64 (sha512 b) = (sectAt h i).hash)

/-- Whether the vendor's key and signature pass (R382). -/
def vendorOk (fw : List Byte) : Bool :=
  let pub := (fw.drop 0x40).take 133
  Config.firmwareKeyHashes.contains (sha512 pub) &&
  ecdsaVerify pub (fw.take 0x100 ++ fwCode fw) ((fw.drop 0x100).take 132)

/-! ### Load records (R383, R384) -/

/-- A load record. -/
structure LoadRec where
  kind : Nat
  off : Nat
  units : Nat
  data : List Byte
  ok : Bool
  deriving DecidableEq, Repr

/-- The record at the start of a byte string. -/
def recAt (b : List Byte) : LoadRec :=
  let len := fieldOf b 8 4
  ⟨fieldOf b 0 1, fieldOf b 4 4, fieldOf b 16 16, (b.drop 32).take len,
    zeroAt b 1 3 && zeroAt b 12 4 && decide (32 + len ≤ b.length)⟩

/-- The n records of a byte string. -/
def recsOf : Nat → List Byte → List LoadRec
  | 0, _ => []
  | n + 1, b =>
    let r := recAt b
    r :: recsOf n (b.drop (32 + ceilDiv (fieldOf b 8 4) 8 * 8))

/-- The records of the ECC section, which has no header and no count: they fill it. -/
def recsFill : Nat → List Byte → List LoadRec
  | 0, _ => []
  | fuel + 1, b => if b.length < 32 then (if b.isEmpty then [] else [⟨0, 0, 0, [], false⟩])
    else
      let r := recAt b
      r :: recsFill fuel (b.drop (32 + ceilDiv (fieldOf b 8 4) 8 * 8))

/-- The entries of a kind 5 record: address, value, and whether its reserved bytes are zero. -/
def regEntries (b : List Byte) : List (Nat × Word × Bool) :=
  (List.range (b.length / 16)).map (fun i =>
    let e := b.drop (16 * i)
    (fieldOf e 0 8, BitVec.ofNat 32 (fieldOf e 8 4), zeroAt e 12 4 && decide (fieldOf e 0 8 < 2 ^ 40)))

/-- The registers that the ECC section may write (R384): INT_CTRL, ECC_T_LO, ECC_T_HI, SCRUB_PERIOD and
PLATE_SCRUB of an integrity block; MC_CTRL and SCRUB_PERIOD of a memory controller. -/
def eccReg (a : Nat) : Bool :=
  match regLoc a with
  | some l => match l.blk with
    | .int => [0, 4, 8, 0xC].contains l.off
    | .plate => decide (l.off = 0x104)
    | .mc => [0, 8].contains l.off
    | _ => false
  | none => false

end Sys2Proof.Machine
end

