-- ==== Sys2Proof/Machine/Recovery.lean ====
section
/-! DEFINITION. Faults and recovery (R501 to R512): pins, declaration of a faulty party, revocation, Scribe liveness
and restart, retirement. -/

namespace Sys2Proof.Machine

/-- The ALERT_N output (R502): true while asserted. (DEDUCED, log entry 99.) -/
def Device.alertN (d : Device) : Bool := decide (d.pendingBells &&& 0x05000000 ≠ 0)

/-- The DIVERGE_N output (R503): true while this part asserts it. (DEDUCED, log entry 99.) -/
def Device.divergeN (d : Device) : Bool := d.pair.driving && decide (d.pairRole ≠ 0)

/-! ### Scribes -/

def Device.scribe (d : Device) (n : Nat) : Scribe := vget d.scribes n {}
def Device.modScribe (d : Device) (n : Nat) (f : Scribe → Scribe) : Device := { d with scribes := vmod d.scribes n f }

/-- SCRIBE_STATE of a Scribe: 0 RUNNING, 1 DECLARED, 2 RESTARTING, 3 FAILED. -/
def scribeStateFld (n : Nat) : Fld := ⟨F.HG_SCRIBE_STATE_S0.addr, 2 * n, 2⟩

/-- A Scribe released: its firmware runs, its watchdog counts from now. -/
def Device.release (n : Nat) (d : Device) : Device :=
  d.modScribe n (fun s => { s with running := true, released := true, kickAt := d.timebase })

/-! ### Declaration and revocation (R504 to R509) -/

/-- A flash session closed by revocation (R399). -/
def Device.sessionClose (d : Device) : Device :=
  if d.flag F.BOOT_FLASH_SESSION_ACTIVE then
    ((d.put F.BOOT_FLASH_SESSION_ACTIVE 0).modBoot (fun b => { b with erased := [] })).raise 0x0814 wholeDevice
  else d

/-- Every ownable resource of a claimant revoked, Rack claims aside (R507). -/
def Device.revokeAll (c : Nat) (d : Device) : Device :=
  let d := d.each ((List.range 8).filter (fun i => c ≠ 0 && d.mboxOwner i = c)) (fun d i => d.mboxRevoke i)
  let d := if c = iniHost ∧ d.host.tag.isSome then d.sessionRevoke else d
  let d := d.each (List.range 32) (fun d n =>
    d.each ((List.range 16).filter (fun b => d.fld (F.GRAVER_BANK_OWN_OWNER n b) = c)) (fun d b =>
      ((d.put (F.GRAVER_BANK_OWN_OWNER n b) 0).put (F.GRAVER_BANK_OWN_PENDING n b) 0).raiseBit
        F.HG_FR_FAULT_BANK_REVOKED 0x0712 n))
  let d := d.each (d.rack.resvs.filter (fun r => r.ini = c)) (fun d r =>
    (d.resvPad r).rackFault F.RACK_FAULT_REVOKED 0x0186 r.queue)
  let d := d.each (((d.rack.waits.filter (fun w => w.claimant = c)).map Waiting.queue).eraseDups) (fun d q =>
    (d.dropWaits q (fun w => decide (w.claimant = c))).rackFault F.RACK_FAULT_REVOKED 0x0186 q)
  if d.flag F.BOOT_FLASH_SESSION_ACTIVE ∧ d.fld F.BOOT_FLASH_SESSION_OWNER = c then d.sessionClose else d

/-- The power cycle of a declared Scribe begins (R510): its client's votes are cleared, and client 31 overrides its
domain to OFF. -/
def Device.scribeDown (n : Nat) (d : Device) : Device :=
  let d := d.each (List.range 8) (fun d w => d.putWord (F.PWR_VOTE (1 + n) w).addr 0)
  let d := d.each (List.range domCount) (fun d i => d.settle i)
  let d := if n = 0 then d.modHost (fun h =>
      { h with tag := none, parts := [], replies := [], flashTag := none, clearTag := none,
               lost := d.mboxFull 0 && decide (d.mboxRcvr 0 = 2) }) else d
  (((d.put (scribeStateFld n) 1).modScribe n (fun s => { s with running := false, restartAt := none })).override
    (domScribe n) 3)

/-- A party declared faulty (R504, R506). (DEDUCED, log entry 91.) -/
def Device.declare (c : Nat) (d : Device) : Device :=
  if d.declared c then d
  else
    let w := F.HG_DECLARED (c / 32)
    let d := (d.put w (d.fld w ||| 1 <<< (c % 32))).raiseBit F.HG_FR_FAULT_DECLARE 0x0710 c
    let d := d.ring iniHost (bellSw 24)
    let d := if isScribe c then d.scribeDown (c - 2) else d
    (d.revokeAll c).modRack (fun r => { r with sweeping := r.sweeping ++ [c] })

/-- The DECLARED bit clears when the sweep and any restart have ended (R506 step 4). -/
def Device.undeclare (c : Nat) (d : Device) : Device :=
  let restarting := isScribe c && (let s := d.fld (scribeStateFld (c - 2)); decide (s = 1) || decide (s = 2))
  if d.rack.sweeping.contains c || restarting then d
  else
    let w := F.HG_DECLARED (c / 32)
    d.put w (bits (d.fld w) 0 32 - bits (d.fld w) (c % 32) 1 <<< (c % 32))

/-- HG_DECLARE (R504): by a Scribe or by JTAG, naming neither 0, nor 1, nor the writer. (DEDUCED, log entry 91.) -/
def Device.hgDeclare (ini : Nat) (w : Word) (off : Nat) (d : Device) : Device :=
  let c := bits w.toNat 0 7
  if isScribeOrJtag ini ∧ 2 ≤ c ∧ c ≠ ini then d.declare c else d.accError ini 4 off

/-- The queues whose descriptors name a claimant, as the sweep finds them: those cached, and those of the table that
are not all zero. -/
def Device.naming (d : Device) (c : Nat) : List Nat :=
  let base := d.descBase
  let inTable := (d.mem.filter (fun e => inRange e.1 base 0x4000000)).map (fun e => (e.1 - base) / 16)
  let names (q : Nat) : Bool :=
    let e := match d.cached q with
      | some l => l.desc
      | none => (⟨0, d.ld (base + 16 * q + 4) 4, 0, 0⟩ : Desc)
    decide (e.pclaim = c) || decide (e.cclaim = c)
  ((inTable ++ d.rack.cache.map Prod.fst).eraseDups).filter names

/-- DECLARE_SWEEP_DONE (R509). (DEDUCED, log entry 91.) -/
def Device.sweepDone (c : Nat) (d : Device) : Device :=
  if d.rack.sweeping.contains c then
    let d := d.each (d.naming c) (fun d q => (d.fetchDesc q).1)
    (d.modRack (fun r => { r with sweeping := r.sweeping.filter (· ≠ c) })).undeclare c
  else d

/-! ### Scribe liveness and restart (R510) -/

/-- SCRIBE_WD_EXPIRE; the first kick of a Scribe that restarts has a limit of its own. (DEDUCED, log entry 91.) -/
def Device.scribeWdExpire (n : Nat) (d : Device) : Device :=
  let ms := d.fld F.HG_SCRIBE_WD
  if d.power.wdOn ∧ ms ≠ 0 ∧ d.fld (scribeStateFld n) ≠ 2 ∧ (d.scribe n).running ∧ ¬ (d.scribe n).halted ∧ 100000 * ms ≤ d.since (d.scribe n).kickAt then
    (d.raiseBit F.HG_FR_FAULT_SCRIBE_WD 0x0711 n).declare (2 + n)
  else d

/-- The override of a restart becomes ON when the domain reads OFF. -/
def Device.scribeUp (d : Device) : Device :=
  d.each (List.range 4) (fun d n =>
    if d.fld (scribeStateFld n) = 1 ∧ d.domState (domScribe n) = 0 ∧ d.vote 31 (domScribe n) = 3 ∧
        ¬ d.flag F.HG_STATUS_SHUTDOWN then d.override (domScribe n) 2
    else d)

/-- A restart that fails (R510): the Scribe stays in reset until RESET_N. -/
def Device.restartFails (n : Nat) (d : Device) : Device :=
  let d := (d.put (scribeStateFld n) 3).modScribe n (fun s => { s with running := false, restartAt := none })
  ((d.override (domScribe n) 0).raiseBit F.HG_FR_FAULT_RESTART_FAIL 0x0714 n).undeclare (2 + n)

/-- The firmware loaded into a Scribe's local SRAM. -/
def Device.loadFw (n : Nat) (d : Device) : Device := d.stMany (scribeBase n) (fwCode d.bootc.fw)

/-- The FW section as the image copy holds it (R381). -/
def Device.fwCopy (d : Device) : List Byte :=
  let s := sectAt d.bootc.header 0
  d.rdBytes (copyBase d.bootc.header + s.off) s.len

/-- SCRIBE_RESTART: the domain of a declared Scribe reads ON again; SCRIBE[0], or the ROM for SCRIBE[0] itself,
reads the FW section from the image copy, checks it and releases the Scribe. -/
def Device.scribeRestart (n : Nat) (d : Device) : Device :=
  if d.fld (scribeStateFld n) ≠ 1 ∨ ¬ d.isOn (domScribe n) ∨ d.vote 31 (domScribe n) ≠ 2 ∨
      (n ≠ 0 ∧ ¬ (d.scribe 0).running) then d
  else
    let fw := d.fwCopy
    if hashOk d.bootc.header 0 fw && (decide (n ≠ 0) || vendorOk fw) then
      let d := d.modBoot (fun b => { b with fw := fw })
      ((d.loadFw n).put (scribeStateFld n) 2).release n |>.modScribe n (fun s => { s with restartAt := some d.timebase })
    else d.restartFails n

/-- A write of HG.SCRIBE_KICK (R510): each Scribe kicks its own bit; its first kick completes a restart. -/
def Device.scribeKick (ini : Nat) (w : Word) (off : Nat) (d : Device) : Device :=
  let k := bits w.toNat 0 4
  if !isScribe ini then d.accError ini 4 off
  else
    let n := ini - 2
    let own := 1 <<< n
    let d := if k &&& own ≠ k then d.accError ini 4 off else d
    if k &&& own = 0 then d
    else
      let d := d.modScribe n (fun s => { s with kickAt := d.timebase })
      if d.fld (scribeStateFld n) = 2 then
        let d := (d.put (scribeStateFld n) 0).modScribe n (fun s => { s with restartAt := none })
        ((d.override (domScribe n) 0).raise 0x0713 n).undeclare ini
      else d

/-- SCRIBE_RESTART_TIMEOUT. -/
def Device.restartTimeout (n : Nat) (d : Device) : Device :=
  let ms := d.fld F.HG_SCRIBE_WD
  match (d.scribe n).restartAt with
  | some t =>
    if d.fld (scribeStateFld n) = 2 ∧ ms ≠ 0 ∧ 200000 * ms < d.since t then d.restartFails n else d
  | none => d

/-! ### Retirement and restart of the part (R511, R512) -/

/-- A write of HG.RETIRE[r]: bits set. -/
def Device.hgRetire (ini r : Nat) (w : Word) (off : Nat) (d : Device) : Device :=
  if isScribe ini then d.put (F.HG_RETIRE r) (d.fld (F.HG_RETIRE r) ||| bits w.toNat 0 14) else d.accError ini 4 off

/-- A write of HG.CMD: 1 asks for a restart of the part; others are access errors. -/
def Device.hgCmd (ini : Nat) (w : Word) (off : Nat) (d : Device) : Device :=
  if isScribeOrJtag ini ∧ bits w.toNat 0 2 = 1 then
    (d.raise 0x0716 wholeDevice).modBoot (fun b => { b with restart := true })
  else d.accError ini 4 off

/-- A write of HG.SCRIBE_WD. -/
def Device.scribeWd (ini : Nat) (w : Word) (off : Nat) (d : Device) : Device :=
  if isScribe ini then d.put F.HG_SCRIBE_WD (bits w.toNat 0 16) else d.accError ini 4 off

end Sys2Proof.Machine
end

