-- ==== Sys2Proof/Machine/Frame.lean ====
section
/-! DEFINITION. What spans units: the start of the Stipple net and its OPENs, Hatch frames from START to their end,
aborts, the cutover of a MATE, the tick of TIMEBASE. -/

namespace Sys2Proof.Machine

/-! ### The Stipple net (R157, R166, R196) -/

/-- STIPPLE_START (R166): the net, the emitters, the Tracers, the readout of the Presses. -/
def Device.stippleStart (d : Device) : Device :=
  let d := d.put F.STIPPLE_CTRL_EN 1
  if d.stState ≠ 0 then d
  else
    let d := d.stippleStartCore
    if d.stState ≠ 2 then d
    else
      let s0 := d.fld F.STIPPLE_STEP_START
      let d := d.each (List.range 32) (fun d n =>
        let d := d.put (F.GRAVER_EMIT_STEP n) s0
        if !(d.tile n).emitOn && d.srcEn (72 + n) then d.queueOut (72 + n) (.close s0) else d)
      let d := d.each (List.range 8) (fun d n => d.tracerNetStart n)
      d.each (List.range 4) (fun d k => d.pressNetStart k)

/-- The spike-count export of an IDLE, OFF or unbound core at OPEN(t) (R196 item 4): zeros for step t - 1. -/
def Device.zeroExport (d : Device) (n t : Nat) : Device :=
  let u := stepDiff t 1
  if d.scvDue n u && decide (t ≠ d.fld F.STIPPLE_STEP_START) then
    d.scvPush n u false (List.replicate (d.scvTokens n) 0)
  else d

/-- OPEN_ARRIVE (R157) at source i: the port of a core, a Tracer, an emitter or the delay unit. -/
def Device.openArrive (i : Nat) (d : Device) : Device :=
  match d.arrived i [9] with
  | none => d
  | some u =>
    let t := bits (u.headD 0) 8 32
    if !d.isOn domStipple then d
    else if i < 64 then
      let idle := !d.flag (F.ETCH_CTRL_RUN i) || decide (d.domState (domEtch i) = 0) || !d.etchBound i
      let due := idle && d.scvDue i (stepDiff t 1) && decide (t ≠ d.fld F.STIPPLE_STEP_START)
      if due && decide (2 ≤ (d.core i).scvBuf.length) then d.scvStall i
      else (if due then d.zeroExport i t else d).openCore i t u
    else if i < 72 then (d.takeArr i u).tracerOpen (i - 64) t
    else if i < 104 then
      let d := d.takeArr i u
      if !(d.tile (i - 72)).emitOn && d.srcEn i && decide (2 ≤ d.stState) then d.queueOut i (.close ((t + 1) % 2 ^ 32))
      else d
    else
      ((d.takeArr i u).when (d.srcEn 104) (fun d => d.modSeq (fun s => { s with delayOpen := s.delayOpen ++ [t] }))).ownStepDigest
        (stepDiff t 1)

/-- SCV_SNAPSHOT (R196): the copy of a core whose completion waits for it, once a buffer is free.  ue: tokens of the
export buffer that read uncorrectable. -/
def Device.scvSnapshot (n : Nat) (ue : List Nat) (d : Device) : Device :=
  if (d.core n).scvWait then
    if (d.core n).scvBuf.length < 2 then
      ((d.scvCopy n (d.fld (F.ETCH_STEP n)) ue).modCore n (fun c => { c with scvWait := false })).tryComplete n
    else d.scvStall n
  else d

/-! ### Frames (R241, R242) -/

/-- A mode that comes into force: entering SCHED numbers input frames from 0 (R277). -/
def Device.modeEnter (d old : Device) : Device :=
  if old.hatch.mode ≠ 2 ∧ d.hatch.mode = 2 then d.each (List.range 8) (fun d n => d.tracerSched n) else d

/-- HATCH_MODE_WRITE (R253). -/
def Device.hatchModeWrite (w : Word) (d : Device) : Device := (d.hatchMode w).modeEnter d

/-- The level of the next frame: NEXT_DRAFT, D3 while FORCED, the partner's at a LOCKED MATE (R241, R367, R453). -/
def Device.nextDraft (d : Device) : Nat :=
  let own := if d.flag F.HATCH_NEXT_DRAFT_FORCED then 3 else d.fld F.HATCH_NEXT_DRAFT_DRAFT
  if d.pairRole = 2 ∧ d.pairState = 3 ∧ ¬ d.flag F.HATCH_NEXT_DRAFT_FORCED then
    match d.pair.draft with
    | some x => x.2.1
    | none => own
  else own

/-- Whether START may go out (R241). -/
def Device.mayStart (d : Device) : Bool :=
  decide (d.fld F.HATCH_STATUS_FSTATE = 1) && decide (d.hatch.mode = 2) &&
  (match d.hatch.startAt with
    | some t => decide (d.fld F.HATCH_FRAME_CFG_MIN_PERIOD ≤ d.since t)
    | none => true) &&
  (bitsSet 8 (d.fld F.HATCH_FRAME_CFG_TRACER_MASK)).all (fun n => bit d.hatch.ready n) &&
  (List.range 4).all (fun k => (d.press k).trailer.isNone) && d.pairMayStart

/-- HATCH_FRAME_START (R241): what the boundary fixes, then START(f + 1, d) to every unit. -/
def Device.frameStart (d : Device) : Device :=
  if !d.mayStart then d
  else
    let f := (d.fld F.HATCH_FRAME + 1) % 2 ^ 32
    let d := d.tripBoundary.bandStart
    let dr := d.nextDraft
    let d := (d.tempUpdate.monitorStart dr).pairStart f dr
    let d := d.meshStart dr
    let d := d.each (List.range 8) (fun d n => d.tracerStart n dr)
    let d := d.each (List.range 4) (fun d k => d.pressStart k dr)
    d.pairStarted

/-- What a frame leaves to its Presses: its marks, stamp, annotations and units. -/
def Device.trailerOf (d : Device) (marks : Nat) (abort : Option Nat) : Trailer :=
  let fr := d.consumed
  { frame := d.fld F.HATCH_FRAME, draft := d.fld F.HATCH_STATUS_DRAFT, marks := consumedMarks fr ||| marks
    at_ := d.timebase, stamp := consumedStamp fr, abort := abort, anns := fr.flatMap TFrame.anns
    units := fr.foldl (fun k x => k + x.count) 0 }

/-- The input of a frame released at every Tracer (R281). -/
def Device.tracersEnd (d : Device) : Device := d.each (List.range 8) (fun d n => d.tracerEnd n)

/-- FRAME_COMPLETE (R242): every node has reported. -/
def Device.frameComplete (d : Device) : Device :=
  if d.fld F.HATCH_STATUS_FSTATE = 2 ∧ d.meshDone then
    let bad := d.meshBad
    let d := (d.pressEnd (d.trailerOf (if bad then 2 else 0) none)).tracersEnd.monitorEnd
    let d := (d.ownFrameDigest bad).modHatch (fun h => { h with lastBad := bad, lastAborted := false })
    (d.tripBoundary.meshBoundary).modeEnter d
  else d

/-! ### Aborts (R247, R248) -/

/-- Whether the stall sentinel is suspended (R247): a port waits on an export port whose step is not complete, or
on a Tracer whose buffer holds no input of the frame. (DEDUCED, log entry 98.) -/
def Device.sentinelOff (d : Device) : Bool :=
  (List.range 112).any (fun s =>
    let r := d.hr s
    let waits (p : Nat) : Bool := (vget r.inq p []).isEmpty &&
      ((List.range 5).any (fun o => (r.ptr true o).run && decide ((r.ptr true o).sel = p)) || (r.ptr false p).run)
    let export_ := match d.servedTile s, d.servedCore s with
      | none, some n => d.flag (F.SCV_CFG_EN n) && (d.core n).scvBuf.isEmpty
      | _, _ => false
    let input := decide (s % 14 = 0) &&
      (let n := s / 14
       r.edgeBusy && (List.range 4).all (fun k =>
         let x := d.stream n k
         x.units.all (fun u => u.frame.isNone || decide (u.frame ≠ x.cur))))
    (waits pLocal && export_) || (waits pWest && input))

/-- STALL_SENTINEL_EXPIRE (R247). -/
def Device.sentinelExpire (cuts : List Cut) (d : Device) : Device := d.sentinel d.sentinelOff cuts

/-- The bytes of a section in the image copy; none where the copy reads uncorrectable. -/
def Device.copySection (d : Device) (t : Nat) : Option (List Byte) :=
  match sectOf d.bootc.header t with
  | none => some []
  | some e =>
    let a := copyBase d.bootc.header + e.2.off
    if d.damage.any (fun x => x.2.ue && decide (a < x.1 + 1024) && decide (x.1 < a + e.2.len)) then none
    else some (d.rdBytes a e.2.len)

/-- The records of NET and WEIGHTS in the image copy. -/
def Device.copyRecs (d : Device) : Option (List LoadRec) :=
  match d.copySection 2, d.copySection 3 with
  | some a, some b => some (recsOf (fieldOf a 4 4) (a.drop 64) ++ recsOf (fieldOf b 4 4) (b.drop 64))
  | _, _ => none

/-- The blocks of the records of a kind that name unit i, from offset lo up to hi of its window, written again.
(DEDUCED, log entry 92.) -/
def Device.rewriteUnit (d : Device) (recs : List LoadRec) (kind i base lo hi : Nat) : Device :=
  d.each (recs.filter (fun r => decide (r.kind = kind) && bit r.units i)) (fun d r =>
    d.each (List.range (r.data.length / 4096)) (fun d b =>
      let o := r.off + 4096 * b
      if lo ≤ o ∧ o < hi then d.loadWords (base + o) ((r.data.drop (4096 * b)).take 4096) else d))

/-- Whether a tile halted at a program-store word that reads uncorrectable. -/
def Device.progUe (d : Device) (n : Nat) : Bool :=
  decide (d.fld (F.GRAVER_STATUS_STATE n) = 3) && d.ueAt (graverBase n + 0x40000 + 8 * (d.tile n).pc)

/-- What an aborted frame leaves: its trailer with ABORT, its input released, its digest. -/
def Device.abortOut (d : Device) : Device :=
  let bad := d.meshBad
  let d := (d.pressEnd (d.trailerOf (4 + if bad then 2 else 0) (some d.hatch.abortCode))).tracersEnd
  d.ownFrameDigest bad

/-- A rewind that fails (R248): 0x0211, MODE IDLE. -/
def Device.rewindFail (d : Device) : Device :=
  ((d.modHatch (fun h => { h with abortCode := 0x0211 })).abortOut).rewindFails

/-- ABORT_COMPLETE (R248 steps 3 to 6): discard, rewind, and the memories of a router or tile that read
uncorrectable rewritten from the image copy. (DEDUCED, log entry 92.)  The frame monitor of R52 times completed frames
only: an aborted frame is not timed. (DESIGN CHOICE, log entry 111.) -/
def Device.abortComplete (d : Device) : Device :=
  if d.fld F.HATCH_STATUS_FSTATE ≠ 3 then d
  else
    let hrs := (List.range 112).filter (fun s => (d.hr s).ue)
    let tiles := (List.range 32).filter d.progUe
    let recs := if hrs.isEmpty && tiles.isEmpty then some [] else d.copyRecs
    match recs with
    | none => d.rewindFail
    | some rs =>
      let d := d.abortOut
      let d := d.each hrs (fun d s => d.rewriteUnit rs 3 s (hrBase s) 0x10000 0x40000)
      let d := d.each tiles (fun d n => d.rewriteUnit rs 2 n (graverBase n) 0x40000 0x80000)
      (d.tripBoundary.meshAbortEnd).modeEnter d

/-- REWIND_TIMEOUT (R248). -/
def Device.rewindExpire (d : Device) : Device :=
  if d.fld F.HATCH_STATUS_FSTATE = 3 ∧ 15000 ≤ d.since d.hatch.abortAt then d.rewindFail else d

/-! ### Cuts and the cutover of a MATE (R462) -/

/-- FRAME_START_PACKET, with the cut of R462 where it carries CUT_FN. -/
def Device.frameStartPacket (n : Nat) (k : ShortPkt) (d : Device) : Device :=
  if d.rxLive n then (d.frameStartPkt n k).resyncCut n (d.rxChannel n k.vc.val) k.num.val else d

/-- CUTOVER (R462 step 9): steps, frames and streams take their values, and the MATE's nets start. -/
def Device.cutoverRx (d : Device) : Device :=
  d.mirrorTake 0x43 (some 8) (fun _ _ b d =>
    if d.pairRole ≠ 2 ∨ d.pair.resync.isNone then d
    else
      let t := wordAt b 0
      let i := wordAt b 4
      let f := wordAt b 8
      let ss : List (Nat × Nat) := (List.range 8).flatMap (fun n => (List.range 4).map (fun s => (n, s)))
      let steps := ss.map (fun e => d.fld (F.TRACER_STREAM_STEP e.1 e.2))
      let d := d.put F.STIPPLE_STEP_START t
      let d := d.each d.boundCores (fun d n => (d.put (F.ETCH_CTRL_RUN n) 1).etchRun n)
      let d := d.stippleStart
      let d := d.each (ss.zip steps) (fun d e =>
        let n := e.1.1
        let s := e.1.2
        let d := d.put (F.TRACER_STREAM_STEP n s) ((t + e.2) % 2 ^ 32)
        let d := d.put (F.TRACER_STREAM_FRAME n s) ((i + d.fld (F.TRACER_STREAM_FRAME n s)) % 2 ^ 32)
        d.modStream n s (fun x => { x with
          nextI := (i + x.nextI) % 2 ^ 32
          frames := x.frames.map (fun y => { y with idx := (i + y.idx) % 2 ^ 32 })
          units := x.units.map (fun u => { u with
            step := (t + u.step) % 2 ^ 32, frame := u.frame.map (fun k => (i + k) % 2 ^ 32) }) }))
      let d := (d.put F.HATCH_FRAME (stepDiff f 1)).put F.HATCH_CTRL_MODE 2
      d.modeApply.locked t f)

/-! ### TIMEBASE (R467) -/

/-- The 1 ms marks that TIMEBASE passes in n ticks: a policy sample at each (R366). -/
def Device.policySamples (d : Device) (n : Nat) : Device :=
  let k := d.timebase / 100000 - (d.timebase - n) / 100000
  d.each (List.range (min k 1001)) (fun d _ => d.policySample)

/-- A counter that counts in units of 1,024 ticks, with the ticks left from before: the counter and the rest. -/
def unitCount (rest n : Nat) : Nat × Nat := ((rest + n) / 1024, (rest + n) % 1024)

/-- TIMEBASE_TICK (R467): n ticks of REFCLK with the levels of TRIG_IN, and what counts ticks.
(DESIGN CHOICE, log entry 100.) -/
def Device.tick (n trig : Nat) (d : Device) : Device :=
  let d : Device := { d with timebase := (d.timebase + n) % 2 ^ 64 }
  let d := (d.timerTicks n trig).countSeconds.policySamples n
  let d := if d.flag F.HG_STATUS_LIMITING then
      let c := unitCount d.power.limitRest n
      (d.bumpBy F.HG_LIMIT_TIME c.1).modPower (fun p => { p with limitRest := c.2 })
    else d
  let d := if !d.blockWaits then d
    else
      let c := unitCount d.rack.blockRest n
      (d.bumpBy F.RACK_BLOCK_WAIT c.1).modRack (fun r => { r with blockRest := c.2 })
  if d.fld F.HATCH_STATUS_FSTATE = 2 ∧ ¬ d.sentinelOff then d.modHatch (fun h => { h with idle := h.idle + n }) else d

end Sys2Proof.Machine
end

