-- ==== Sys2Proof/Machine/Bus.lean ====
section
/-! DEFINITION. Register-path accesses: addresses and views of the host window (R414, R415), who reaches what
(R34, R35, R193), the access codes of R12, and what writes and reads of particular registers do. -/

namespace Sys2Proof.Machine

/-! ### Addresses -/

/-- The register or memory that a device address names, the views of the host window resolved (R414, R415,
R445, R496). -/
def busAddr (a : Nat) : Nat :=
  if inRange a hostBase 0x10000 then
    let o := a - hostBase
    if o = 0x10 then 0x0010200800
    else if o = 0x14 then 0x0010200804
    else if o = 0x18 then 0x0010200000
    else if o = 0x1C then 0x0010200820
    else if o = 0x20 then 0x0010500840
    else if inRange o 0x100 0x20 then 0x0010001000 + (o - 0x100)
    else if inRange o 0x200 0x600 then 0x0010500000 + o
    else if o = 0x2010 then 0x0010600000
    else if inRange o 0x3000 0x1000 then 0x0010400000 + (o - 0x3000)
    else a
  else a

/-- The window offset that an access error of an access reports (R415); IND_DATA for one of the indirect port.
(DEDUCED, log entry 7.) -/
def busOff (a : Nat) : Nat := if inRange a hostBase 0x10000 then a - hostBase else 0x1008

/-- What a window of the indirect port can open at all: neither the boot ROM, nor the Scribes' SRAM, nor the global
registers outside the host window (R34, R427). -/
def mayOpen (a : Nat) : Bool := inRange a hostBase 0x10000 || decide (0x0020400000 ≤ a)

/-- Whether the windows that policy has opened let the host make an access (R34, R427). -/
def Device.indOpen (d : Device) (a : Nat) (wr : Bool) : Bool :=
  mayOpen a && (List.range 8).any (fun i =>
    let base := d.fld (F.HOST_IND_WIN0_BASE_HI i) <<< 32 + d.fld (F.HOST_IND_WIN1_BASE_LO i) <<< 12
    d.flag (F.HOST_IND_WIN0_VALID i) && inRange a base (2 ^ d.fld (F.HOST_IND_WIN1_SIZE i)) &&
    (if wr then d.flag (F.HOST_IND_WIN0_WR i) else d.flag (F.HOST_IND_WIN0_RD i)))

/-- Whether an initiator reaches an address at all (R32, R34): a Scribe and JTAG the whole map, Hardground all of it
but what Scribes alone reach, the host its window, and through the indirect port what policy has opened. -/
def Device.reach (d : Device) (ini a : Nat) (wr : Bool) : Bool :=
  isScribeOrJtag ini ||
  (decide (ini = iniHost) && (inRange a hostBase 0x10000 || d.indOpen a wr)) ||
  (decide (ini = iniHg) && decide (0x0010000000 ≤ a) && !inRange a (scribeBase 0) 0x400000)

/-- The domain that must be ON for an address, and whether its unit is bound (R35). (DEDUCED, log entry 9.) -/
def Device.served (d : Device) (a dom : Nat) : Bool :=
  d.domState dom == 2 &&
  (if inRange a 0x0100000000 0x40000000 then d.etchBound ((a - 0x0100000000) / 0x1000000)
   else if inRange a 0x0200000000 0x20000000 then d.graverBound ((a - 0x0200000000) / 0x1000000)
   else if inRange a 0x0400000000 0x4000000 then d.etchBound ((a - 0x0400000000) / 0x100000)
   else true)

/-- Whether an initiator is a Scribe that makes no access: held in reset, not yet released or declared (R31, R506),
halted, or in a domain that is not ON. (DEDUCED, log entry 94.) -/
def Device.shut (d : Device) (ini : Nat) : Bool :=
  isScribe ini &&
  !((d.scribe (ini - 2)).running && !(d.scribe (ini - 2)).halted && d.isOn (domScribe (ini - 2)))

/-- The integrity block that a place in an integrity page belongs to. -/
def intBlkOf (l : Loc) (a : Nat) : Option IntBlk :=
  match l.blk with
  | .mc => if h : l.idx < 4 then some (.mc ⟨l.idx, h⟩) else none
  | .int =>
    if a < 0x0100000000 then (if h : l.idx < 4 then some (.scribe ⟨l.idx, h⟩) else none)
    else if a < 0x0200000000 then (if h : l.idx < 64 then some (.etch ⟨l.idx, h⟩) else none)
    else if a < 0x0300000000 then (if h : l.idx < 32 then some (.graver ⟨l.idx, h⟩) else none)
    else if a < 0x0310000000 then (if h : l.idx < 8 then some (.tracer ⟨l.idx, h⟩) else none)
    else if a < 0x0320000000 then (if h : l.idx < 4 then some (.press ⟨l.idx, h⟩) else none)
    else if a < 0x0330000000 then some .rack
    else if h : l.idx < 4 then some (.scribe ⟨l.idx, h⟩) else none
  | _ => none

/-! ### Access codes (R12, R14) -/

/-- A register written under the access codes of its fields. -/
def Device.regSet (d : Device) (a : Nat) (r : RegRow) (w : Word) : Device :=
  d.each r.fields (fun d f =>
    let x : Fld := ⟨a, f.lo, f.len⟩
    let v := bits w.toNat f.lo f.len
    match f.acc with
    | .rw => d.put x v
    | .w1c => d.put x (d.fld x - (d.fld x &&& v))
    | .w1s => d.put x (d.fld x ||| v)
    | _ => d)

/-- The value that a read of a register returns: its fields but those that are write-only. -/
def Device.regVal (d : Device) (a : Nat) (r : RegRow) : Nat :=
  (r.fields.filter (fun f => f.acc ≠ .wo)).foldl (fun x f => x + d.fld ⟨a, f.lo, f.len⟩ <<< f.lo) 0

/-- A read of a register: RC fields return to their reset value, and codes tied to the counter may be raised
again (R12, R542). -/
def Device.regGet (d : Device) (a : Nat) (r : RegRow) : Nat × Device :=
  let v := d.regVal a r
  let rc := r.fields.filter (fun f => f.acc = .rc)
  if rc.isEmpty then (v, d) else (v, (d.each rc (fun d f => d.put ⟨a, f.lo, f.len⟩ f.reset)).rearm a)

/-! ### The indirect access port (R427, R428) -/

/-- The address in IND_ADDR. -/
def Device.indAddr (d : Device) : Nat := d.fld F.HOST_IND_ADDR_HI <<< 32 + d.fld F.HOST_IND_ADDR_LO <<< 2

/-- An access of the indirect port begins. -/
def Device.indStart (d : Device) (wr : Bool) : Device :=
  (((d.put F.HOST_IND_STATUS_BUSY 1).put F.HOST_IND_STATUS_ERR 0).put F.HOST_IND_STATUS_REASON 0).modHost (fun h =>
    { h with ind := some (d.indAddr, wr) })

/-- The address advanced by 4. -/
def Device.indNext (d : Device) : Device :=
  let a := (d.indAddr + 4) % 2 ^ 40
  (d.put F.HOST_IND_ADDR_LO (a >>> 2)).put F.HOST_IND_ADDR_HI (a >>> 32)

/-- A write of IND_CTRL: IND_READ and IND_WRITE. -/
def Device.indCtrl (w : Word) (d : Device) : Device :=
  let d := d.put F.HOST_IND_CTRL_AUTOINC (bits w.toNat 2 1)
  if bit w.toNat 0 then d.indStart (bit w.toNat 1) else d

/-- A write of IND_DATA, and a read of it (IND_AUTOINC_WRITE, IND_AUTOINC_READ). -/
def Device.indDataWrite (w : Word) (d : Device) : Device :=
  let d := d.put F.HOST_IND_DATA w.toNat
  if d.flag F.HOST_IND_CTRL_AUTOINC then (d.indStart true).indNext else d
def Device.indDataRead (d : Device) : Nat × Device :=
  (d.fld F.HOST_IND_DATA, if d.flag F.HOST_IND_CTRL_AUTOINC then d.indNext.indStart false else d)

/-! ### Writes of registers -/

/-- Whether the mesh is in SCHED, and whether the Stipple net runs: states in which tables are fixed. -/
def Device.sched (d : Device) : Bool := decide (d.hatch.mode = 2)
def Device.netOn (d : Device) : Bool := decide (d.stState ≠ 0)

/-- Writes in the global blocks of AON below the timers (R64, R353, R369, R373, R405, R465, R515).
(DEDUCED, log entry 95.) -/
def Device.writeAon (ini : Nat) (l : Loc) (a : Nat) (r : RegRow) (w : Word) (off : Nat) (d : Device) : Device :=
  match l.blk with
  | .boot =>
    if l.off = 4 then
      let d := d.put F.BOOT_CTRL_RECOVERY_HOLD (bits w.toNat 0 1)
      if bit w.toNat 1 then
        (if d.boot = 9 then d.modBoot (fun b => { b with reboot := true }) else d.accError ini 4 off)
      else d
    else if l.off = 0x1C then (if ini = iniHg ∧ ¬ bit w.toNat 31 then d.sessionClose else d)
    else d.regSet a r w
  | .pwr =>
    if 0x1000 ≤ l.off then d.voteWrite ini ((l.off - 0x1000) / 32) ((l.off % 32) / 4) w off
    else
      let d := d.regSet a r w
      if l.off = 0 then d.gateClocks else if l.off = 8 then d.bandStart else d
  | .hg =>
    if l.off = 4 then d.hgCfg ini off w
    else if l.off = 8 then d.hgKick ini off
    else if l.off = 0xC then d.hgRelease ini w off
    else if l.off = 0x100 then d.hgDeclare ini w off
    else if l.off = 0x120 then d.scribeKick ini w off
    else if l.off = 0x124 then d.scribeWd ini w off
    else if l.off = 0x12C then d.hgCmd ini w off
    else if inRange l.off 0x140 0x20 then d.hgRetire ini ((l.off - 0x140) / 4) w off
    else if l.off < 0x100 || isScribe ini then d.regSet a r w
    else d.accError ini 4 off
  | .pair =>
    if l.off = 0x14 then d.pairKick ini w
    else if l.off = 0x18 then d.pairCmd ini w off
    else (d.regSet a r w).showAlive
  | _ => d.regSet a r w

/-- Writes in the timer unit (R469, R471, R475, R479). -/
def Device.writeTimer (l : Loc) (a : Nat) (r : RegRow) (w : Word) (d : Device) : Device :=
  match l.blk with
  | .tmr =>
    if l.off = 8 then d.gstart (bits w.toNat 0 8)
    else if l.off = 0x10 then (d.regSet a r w).outCfg 0
    else if l.off = 0x14 then (d.regSet a r w).outCfg 1
    else d.regSet a r w
  | _ =>
    if l.off = 0 then
      -- LINK is Reserved in an odd channel (R14, R482)
      let w := if l.idx % 2 = 1 then setBits w 29 1 0 else w
      ((d.regSet a r w).timerCtrl l.idx).showOuts
    else if l.off = 4 then d.countWrite l.idx w
    else (d.regSet a r w).showOuts

/-- Writes in the host window, the mailboxes and doorbells, the Proof log and the key store (R415 to R428, R440,
R445, R446, R496). -/
def Device.writeHost (ini : Nat) (l : Loc) (a : Nat) (r : RegRow) (w : Word) (off : Nat) (d : Device) : Device :=
  let bank := if r.banked then a + bankStride * ini else a
  match l.blk with
  | .mbox =>
    if l.off = 0 then d.lockWrite ini l.idx w off
    else if l.off = 8 then d.mboxCtrl ini l.idx w off
    else if 0x40 ≤ l.off then d.mboxData ini l.idx ((l.off - 0x40) / 4) w off
    else d.regSet a r w
  | .mb =>
    if l.off < 0x300 then d.bellWrite ini a w
    else if inRange l.off 0x800 0x20 then d.mboxCfg ini ((l.off - 0x800) / 4) w off
    else if l.off = 0x844 then d.ring iniHost (w.toNat / 2 ^ 24 * 2 ^ 24)
    else if ini = iniHost then d
    else d.regSet a r w
  | .pl => if l.off = 0x1C ∧ ¬ isScribe ini then d.accError ini 4 off else d.regSet bank r w
  | .ks => if l.off = 0x10 then d.tokenCtrl ini w else d.regSet bank r w
  | _ =>
    if l.off = 8 then
      let d := d.regSet a r w
      if d.flag F.HOST_HFAULT_ACC then d else d.put F.HOST_ACC_INFO_VALID 0
    else if inRange l.off 0x1000 0x10 then
      if d.flag F.HOST_IND_STATUS_BUSY then d.accError ini 4 off
      else if l.off = 0x1008 then d.indDataWrite w
      else if l.off = 0x100C then d.indCtrl w
      else d.regSet a r w
    else if inRange l.off 0x1020 0x40 then
      if ini = iniHost then d
      else d.each r.fields (fun d f => d.put ⟨a, f.lo, f.len⟩ (bits w.toNat f.lo f.len))
    else if l.off = 0x2000 then d.attCtrl ini w off
    else if inRange l.off 0x2040 0x40 ∧ d.flag F.HOST_ATT_STATUS_BUSY then d.accError ini 4 off
    else d.regSet a r w

/-- Writes in an Etch window, the Stipple control and its ports, and the spike-count exports (R98, R113, R127,
R168, R197). -/
def Device.writeEvent (ini : Nat) (l : Loc) (a : Nat) (r : RegRow) (w : Word) (off : Nat) (d : Device) : Device :=
  match l.blk with
  | .etch =>
    if l.off = 0 then d.etchCtrlWrite l.idx w
    else if l.off = 0x10010 then d.modCore l.idx (fun c => { c with rewWrite := some (bits w.toNat 0 8) })
    else if l.off = 0x10020 then d.fixCtrlWrite l.idx w
    else
      let d := d.regSet a r w
      if l.off = 0x3C ∧ ¬ d.flag (F.ETCH_FAULT_ACC_OVF l.idx) then d.put (F.ETCH_ACC_OVF_SLOT_VALID l.idx) 0 else d
  | .port => if l.off < 0x80 ∧ d.netOn then d.accError ini 4 off else d.regSet a r w
  | .scv => if l.off = 0 ∧ d.netOn then d.accError ini 4 off else d.regSet a r w
  | _ =>
    if l.off = 0 then
      let d := d.put F.STIPPLE_CTRL_STALL_ACTION (bits w.toNat 1 1)
      if bit w.toNat 0 then d.stippleStart else d.stippleStop
    else if 0x20000 ≤ l.off ∧ d.netOn then d.accError ini 4 off
    else
      let d := d.regSet a r w
      if l.off = 0x28 ∨ l.off = 0x2C then d.stippleVotes else d

/-- Writes in a Graver window (R175, R191, R195, R201). (DEDUCED, log entry 95.) -/
def Device.writeGraver (ini : Nat) (l : Loc) (a : Nat) (r : RegRow) (w : Word) (off : Nat) (d : Device) : Device :=
  let n := l.idx
  if l.off = 0 then d.tileRunWrite n w
  else if l.off = 0x20 then
    let d := d.regSet a r w
    if d.frameOn then d else d.tileBoundary n
  else if inRange l.off 0x40 0x40 then d.bankOwnWrite ini n ((l.off - 0x40) / 4) w off
  else
    let d := d.regSet a r w
    if l.off = 0x80 then
      let d := if d.flag (F.GRAVER_FAULT_BUSY n) then d else d.put (F.GRAVER_BUSY_INFO_VALID n) 0
      if d.flag (F.GRAVER_FAULT_SP_UE n) then d else d.put (F.GRAVER_UE_INFO_VALID n) 0
    else d

/-- Writes of Hatch registers (R248, R251, R253). -/
def Device.writeHatch (l : Loc) (a : Nat) (r : RegRow) (w : Word) (d : Device) : Device :=
  match l.blk with
  | .hatch =>
    if l.off = 0 then
      let d := d.hatchModeWrite w
      if bit w.toNat 2 then d.hatchAbort [] else d
    else if l.off = 0x80 then d.loadWindow w
    else d.regSet a r w
  | _ => d.regSet a r w

/-- Writes in a Tracer or Press window (R269, R270, R300, R301). (DEDUCED, log entries 95, 96.) -/
def Device.writeCsi (ini : Nat) (p : CsiPort) (l : Loc) (a : Nat) (r : RegRow) (w : Word) (off : Nat) (d : Device) :
    Device :=
  if l.off = 0 then d.linkCtrlWrite ini p w off
  else if (l.off = 4 ∨ l.off = 0xC) ∧ d.flag p.enabled then d.accError ini 4 off
  else match p with
    | .rx n =>
      if (inRange l.off 0x100 0x114 || decide (0x1000 ≤ l.off)) && (d.netOn || d.sched) then d.accError ini 4 off
      else
        let d := d.regSet a r w
        if l.off = 0x10 ∧ d.word a = 0 then d.put (F.TRACER_ERR_HDR_VALID n.val) 0 else d
    | .tx k =>
      if l.off = 0x150 then d.repeatWrite k.val w
      else if 0x100 ≤ l.off ∧ l.off ≠ 0x158 ∧ d.sched then d.accError ini 4 off
      else d.regSet a r w

/-- Writes in the Rack window (R318, R322). -/
def Device.writeRack (ini : Nat) (l : Loc) (a : Nat) (r : RegRow) (w : Word) (off : Nat) (d : Device) : Device :=
  let bank := if r.banked then a + bankStride * ini else a
  if l.off = 0 then d.rackCtrlWrite w
  else if l.off = 0x104 then d.dqCmdWrite ini (bits w.toNat 0 4)
  else if l.off = 0x120 then d.swCmdWrite ini (bits w.toNat 0 3)
  else if 0x200 ≤ l.off ∧ d.sched then d.accError ini 4 off
  else
    let d := d.regSet bank r w
    if l.off = 0x40 ∧ d.word a = 0 then d.put F.RACK_LAST_Q_VALID 0 else d

/-- The banks whose strength a write of ECC_T changes (R328). -/
def Device.eccBanks (d : Device) (a lo : Nat) (w : Word) : List Nat :=
  ((List.range 16).filter (fun k => bits w.toNat (2 * k) 2 ≠ bits (d.word a).toNat (2 * k) 2)).map (· + lo)

/-- Writes in an integrity block or a memory controller (R328, R332, R339, R340, R344, R346, R347). -/
def Device.writeInt (ini : Nat) (b : IntBlk) (l : Loc) (a : Nat) (r : RegRow) (w : Word) (off : Nat) (d : Device) :
    Device :=
  match b with
  | .mc m =>
    if l.off = 0 then
      (if bits w.toNat 4 3 ≠ d.fld (F.MC_CTRL_T m.val) ∧ ¬ d.mcClear m.val then d.accError ini 4 off
       else d.regSet a r w)
    else if l.off = 0x18 then (if bit w.toNat 0 then d.invalGo ini m.val off else d)
    else if l.off = 0x44 then (if bit w.toNat 0 then d.logClear b else d)
    else if inRange l.off 0x400 0x200 then d.remapWrite ini b ((l.off - 0x400) / 128) (l.off % 128 / 4) w off
    else if l.off = 0x604 then d.rawCmd ini b (bits w.toNat 0 3) []
    else
      let d := d.regSet a r w
      if l.off = 0x40 ∧ d.word a = 0 then d.put (F.MC_UE_INFO_VALID m.val) 0 else d
  | _ =>
    if l.off = 4 ∨ l.off = 8 then
      (if (d.eccBanks a (if l.off = 8 then 16 else 0) w).all (d.bankClear b) then d.regSet a r w
       else d.accError ini 4 off)
    else if l.off = 0x1C then (if bit w.toNat 0 then d.logClear b else d)
    else if l.off = 0xC4 then d.rawCmd ini b (bits w.toNat 0 3) []
    else if 0x400 ≤ l.off then d.remapWrite ini b ((l.off - 0x400) / 32) (l.off % 32 / 4) w off
    else
      -- RAW_SEL.PLATE is Reserved but in an Etch block (R14, R346)
      let w := if l.off = 0xC0 && !b.isEtch then setBits w 31 1 0 else w
      let d := d.regSet a r w
      if l.off = 0x18 ∧ d.word a = 0 then d.put (F.INT_UE_INFO_VALID b.base) 0 else d

/-- A 32-bit write of a register that exists and is served. -/
def Device.regWrite (ini : Nat) (l : Loc) (a : Nat) (r : RegRow) (w : Word) (off : Nat) (d : Device) : Device :=
  match l.blk with
  | .topo | .contract | .boot | .pwr | .hg | .pair => d.writeAon ini l a r w off
  | .tmr | .timer => d.writeTimer l a r w
  | .mbox | .mb | .pl | .ks | .host => d.writeHost ini l a r w off
  | .etch | .stipple | .port | .scv => d.writeEvent ini l a r w off
  | .graver => d.writeGraver ini l a r w off
  | .hatch | .hr => d.writeHatch l a r w
  | .tracer => if h : l.idx < 8 then d.writeCsi ini (.rx ⟨l.idx, h⟩) l a r w off else d
  | .press => if h : l.idx < 4 then d.writeCsi ini (.tx ⟨l.idx, h⟩) l a r w off else d
  | .rack => d.writeRack ini l a r w off
  | .plate => d.regSet a r w
  | .int | .mc => match intBlkOf l a with
    | some b => d.writeInt ini b l a r w off
    | none => d

/-! ### Memories through the register path (R66, R67, R123, R193, R200, R234, R343) -/

/-- The unit number that 0x0108 reports for an SRAM address. -/
def sramUnit (a : Nat) : Nat := match intPlace a with
  | some p => p.unit
  | none => wholeDevice

/-- What an access that meets an uncorrectable word or page leaves (R343): its code and an access error.  A Scribe's
own local SRAM has it declared. -/
def Device.busUe (d : Device) (ini a off : Nat) : Device :=
  let d := d.note a
  let d := if lpBase ≤ a then d
    else if inRange a 0x0400000000 0x4000000 then d.raise 0x0113 (platePlace a).1
    else d.raise 0x0108 (sramUnit a)
  let d := if isScribe ini ∧ inRange a (scribeBase (ini - 2)) 0x80000 then
      ({ d with scribeUe := d.scribeUe ++ [ini - 2] } : Device)
    else d
  d.accError ini 4 off

/-- A word of a memory of a unit or of the address space written through the register path. (DEDUCED, log entry 11.) -/
def Device.memPut (ini a off : Nat) (l : List Byte) (d : Device) : Device :=
  if d.ueAt a && decide (l.length < codeSize a) then d.busUe ini a off
  else
    let d := d.note a
    if inRange a 0x0100000000 0x40000000 ∧ inRange (a % 0x1000000) 0x100000 0x180000 then
      d.synWrite ((a - 0x0100000000) / 0x1000000) (((a % 0x1000000) - 0x100000) / 4) (leNat l)
    else d.st a (heldBytes a l)

/-- Whether a unit's memory takes 32-bit words only (R10, R67, R193). (DEDUCED, log entry 93.) -/
def wordOnly (a : Nat) : Bool := inRange a 0x0100000000 0x2FFFFFFFF && !inRange a 0x0400000000 0x4000000

/-- Whether a memory write is refused by the rule of its memory: plate memory and the boot ROM, the delay ring, tile
memories of a tile that is not IDLE, state tables while the Stipple net is not STOPPED (R286), tables of a mesh in
SCHED, the Rack's table. -/
def Device.memShut (d : Device) (a : Nat) : Bool :=
  decide (a < 0x40000) || inRange a 0x0400000000 0x4000000 ||
  (inRange a 0x0100000000 0x40000000 && inRange (a % 0x1000000) 0xC0000 0x40000) ||
  (inRange a 0x0200000000 0x20000000 && decide (a % 0x1000000 < 0x400000) &&
    decide (d.fld (F.GRAVER_STATUS_STATE ((a - 0x0200000000) / 0x1000000)) ≠ 0)) ||
  (inRange a 0x0300000000 0x8000000 && inRange (a % 0x1000000) 0x10000 0x10000 && decide (d.stState ≠ 0)) ||
  (inRange a 0x0340000000 0x1C00000 && d.sched) || d.inTable a

/-- The scratchpad lane that an address of a tile window names: tile, lane offset, and 0 the lane itself, 1 the SET
alias, 2 the CLEAR alias (R193, R200). -/
def laneOf (a : Nat) : Option (Nat × Nat × Nat) :=
  if inRange a 0x0200000000 0x20000000 ∧ 0x400000 ≤ a % 0x1000000 then
    some ((a - 0x0200000000) / 0x1000000, a % 0x400000, a % 0x1000000 / 0x400000 - 1)
  else none

/-- Whether an initiator may read or write a lane (R193). (DEDUCED, log entry 104.) -/
def Device.laneOpen (d : Device) (ini n o : Nat) (wr : Bool) : Bool :=
  let owner := d.fld (F.GRAVER_BANK_OWN_OWNER n (o / 0x40000))
  if owner ≠ 0 then decide (owner = ini) else !wr || decide (d.fld (F.GRAVER_STATUS_STATE n) = 0)

/-! ### The register path (R10, R34, R35) -/

/-- A write of bytes at a device address by an initiator.  An access error is of kind 0 width or alignment, 1
unmapped, 2 not owner, 3 refused by R34, 4 another rule (R415). (DEDUCED, log entry 93.) -/
def Device.busWrite (ini a0 : Nat) (l : List Byte) (d : Device) : Device :=
  let a := busAddr a0
  let off := busOff a0
  if !d.reach ini a0 true then d.accError ini 3 off
  else if d.shut ini then d.accError ini 4 off
  else match laneOf a with
    | some (n, o, op) =>
      if l.length ≠ 4 ∨ a % 4 ≠ 0 then d.accError ini 0 off
      else if !d.served a (domGraver n) then d.accError ini 1 off
      else if !d.laneOpen ini n o true then d.accError ini 2 off
      else d.laneWrite ini n o op (BitVec.ofNat 32 (leNat l)) off
    | none =>
      match regLoc a, regRow (a / 4 * 4) with
      | some p, some r =>
        if l.length ≠ 4 ∨ a % 4 ≠ 0 then d.accError ini 0 off
        else if !d.served a (p.dom a) then d.accError ini 1 off
        else d.regWrite ini p a r (BitVec.ofNat 32 (leNat l)) off
      | _, _ =>
        match memAt a with
        | some m =>
          if a % l.length ≠ 0 ∨ 8 < l.length ∨ l = [] ∨ (wordOnly a ∧ l.length ≠ 4) then d.accError ini 0 off
          else if !d.served a m.dom then d.accError ini 1 off
          else if d.memShut a then d.accError ini 4 off
          else d.memPut ini a off l
        | none => d.accError ini 1 off

/-! ### Reads -/

/-- The word that a register shows, without any effect of reading it. -/
def Device.regShow (d : Device) (ini : Nat) (l : Loc) (a : Nat) (r : RegRow) : Nat :=
  let bank := if r.banked then a + bankStride * ini else a
  match l.blk with
  | .tmr =>
    if l.off = 0 then d.timebase % 2 ^ 32 else if l.off = 4 then d.timebase >>> 32 % 2 ^ 32 else d.regVal a r
  | .pl =>
    if inRange l.off 0x40 0x40 then (d.recRead ini ((l.off - 0x40) / 4)).1
    else if inRange l.off 0x80 0x40 then d.stageRead ini ((l.off - 0x80) / 4)
    else if l.off = 0 then d.regVal a r ||| b2n d.waitsDomain <<< 29
    else d.regVal bank r
  | .mbox =>
    if l.off = 4 then
      (d.regVal a r &&& 0xC000007F) + d.fld (F.MB_MBOX_CFG_RCVR l.idx) <<< 24 + d.fld (F.MB_MBOX_CFG_PRIV l.idx) <<< 16
    else d.regVal a r
  | .host =>
    if l.off = 0 then d.hstat
    else if l.off = 0x200C then d.certBytes.length
    else if 0x2800 ≤ l.off then leNat ((d.certBytes.drop (l.off - 0x2800)).take 4)
    else d.regVal a r
  | .hatch =>
    if l.off = 4 then d.regVal a r ||| b2n (decide (d.fld F.HATCH_STATUS_FSTATE = 2) && d.sentinelOff) <<< 28
    else d.regVal a r
  | .timer => if l.off = 0x20 then (d.capqRead l.idx).1 else d.regVal a r
  | _ => d.regVal bank r

/-- A latched pair of an energy or a stamp: the low half read latches the high one (R363). -/
def Device.pairHalf (d : Device) (ini : Nat) (low : Bool) (lo hi : Fld) : Nat × Device :=
  if low then (d.fld lo, d.latchHi ini hi.addr (d.fld hi)) else d.takeHi ini hi.addr (d.fld hi)

/-- A 32-bit read of a register that exists and is served, with what reading it does. -/
def Device.regRead (ini : Nat) (l : Loc) (a : Nat) (r : RegRow) (off : Nat) (d : Device) : Nat × Device :=
  let bank := if r.banked then a + bankStride * ini else a
  match l.blk with
  | .pwr =>
    if inRange l.off 0x500 0x90 then
      let k := (l.off - 0x500) / 16
      if l.off % 16 = 0 then d.regGet a r
      else d.pairHalf ini (decide (l.off % 16 = 4)) (F.PWR_RAIL_ENERGY_LO k) (F.PWR_RAIL_ENERGY_HI k)
    else if l.off = 0x604 ∨ l.off = 0x608 then
      d.pairHalf ini (decide (l.off = 0x604)) F.PWR_PKG_ENERGY_LO F.PWR_PKG_ENERGY_HI
    else d.regGet a r
  | .tmr => if l.off = 0 then d.tbLo ini else if l.off = 4 then d.tbHi ini else d.regGet a r
  | .timer =>
    if l.off = 4 then d.pairRead ini l.idx F.TIMER_COUNT
    else if l.off = 0x14 then d.pairRead ini l.idx F.TIMER_CAP_RISE
    else if l.off = 0x18 then d.pairRead ini l.idx F.TIMER_CAP_FALL
    else if l.off = 0x20 then d.capqRead l.idx
    else d.regGet a r
  | .pl => if inRange l.off 0x40 0x40 then d.recRead ini ((l.off - 0x40) / 4)
    else if inRange l.off 0x80 0x40 ∨ l.off = 0 then (d.regShow ini l a r, d)
    else d.regGet bank r
  | .mbox =>
    if l.off = 0 then d.lockRead ini l.idx
    else if 0x40 ≤ l.off then (d.regVal a r, d.mboxRead ini l.idx ((l.off - 0x40) / 4))
    else (d.regShow ini l a r, d)
  | .host =>
    if inRange l.off 0x1000 0x10 ∧ d.flag F.HOST_IND_STATUS_BUSY then (0, d.accError ini 4 off)
    else if l.off = 0x1008 then d.indDataRead
    else if l.off = 0 ∨ 0x2800 ≤ l.off ∨ l.off = 0x200C then (d.regShow ini l a r, d)
    else d.regGet a r
  | .hatch => if l.off = 4 then (d.regShow ini l a r, d) else d.regGet a r
  | .tracer =>
    if l.off = 0x214 ∨ l.off = 0x218 then
      d.pairHalf ini (decide (l.off = 0x214)) (F.TRACER_TR_LAST_STAMP_LO l.idx) (F.TRACER_TR_LAST_STAMP_HI l.idx)
    else d.regGet a r
  | _ => d.regGet bank r

/-- Bytes of a memory read through the register path: zero and an access error where they are uncorrectable; the
boot ROM's are its own. -/
def Device.memGet (ini a off n : Nat) (d : Device) : List Byte × Device :=
  if a < 0x40000 then ((List.range n).map (fun i => Config.bootRom (a + i)), d)
  else if d.ueAt a then (List.replicate n 0, d.busUe ini a off)
  else (d.rdBytes a n, d.note a)

/-- A read of n bytes at a device address by an initiator.  A lane whose word a tile writes in the same bank cycle reads
as undefined data, a free value (R190). -/
def Device.busRead (ini a0 n : Nat) (d : Device) : List Byte × Device :=
  let a := busAddr a0
  let off := busOff a0
  let bad (k : Nat) : List Byte × Device := (List.replicate n 0, d.accError ini k off)
  if !d.reach ini a0 false then bad 3
  else if d.shut ini then bad 4
  else match laneOf a with
    | some (t, o, _) =>
      if n ≠ 4 ∨ a % 4 ≠ 0 then bad 0
      else if !d.served a (domGraver t) then bad 1
      else if !d.laneOpen ini t o false then bad 2
      else if (d.tile t).held.any (heldBy (o / 32) (· = 8)) then
        let r := (d.modTile t (fun x => x.unhold (o / 32) (· = 8))).draw
        (leBytes 4 (r.1.toNat % 2 ^ 32), r.2)
      else d.memGet ini (graverBase t + 0x400000 + o) off 4
    | none =>
      match regLoc a, regRow (a / 4 * 4) with
      | some p, some r =>
        if n ≠ 4 ∨ a % 4 ≠ 0 then bad 0
        else if !d.served a (p.dom a) then bad 1
        else
          let x := d.regRead ini p a r off
          (leBytes 4 x.1, x.2)
      | _, _ =>
        match memAt a with
        | some m =>
          if n = 0 ∨ a % n ≠ 0 ∨ 8 < n ∨ (wordOnly a ∧ n ≠ 4) then bad 0
          else if !d.served a m.dom then bad 1
          else if d.inTable a then bad 1
          else d.memGet ini a off n
        | none => bad 1

/-- A grant that the register port of an address makes to a group of two or more requests counts (R36, R62).  A tied
request is one that the port granted while another of its group stood; the loser's request is a later command. -/
def Device.tie (tied : Bool) (ini a0 : Nat) (wr : Bool) (d : Device) : Device :=
  let a := busAddr a0
  let granted := d.reach ini a0 wr && !d.shut ini && (match regLoc a with
    | some p => d.served a (p.dom a)
    | none => false)
  if tied && granted then d.bump F.CONTRACT_ARB_TIES else d

/-- The same for a grant of a Rack queue's serialiser (R315). -/
def Device.tieRack (tied : Bool) (d : Device) : Device :=
  if tied && d.isOn domRack then d.bump F.CONTRACT_ARB_TIES else d

/-- The host's word accesses of its window (R409, R411), by byte offset. -/
def Device.hostWrite (off : Nat) (w : Word) (d : Device) : Device :=
  d.busWrite iniHost (hostBase + off) (leBytes 4 w.toNat)
def Device.hostRead (off : Nat) (d : Device) : Nat × Device :=
  let x := d.busRead iniHost (hostBase + off) 4
  (leNat x.1, x.2)

/-- A 32-bit read without any effect, as a snapshot takes it (R493); none where it fails. -/
def Device.peek (d : Device) (a0 : Nat) : Option Nat :=
  let a := busAddr a0
  match regLoc a, regRow a with
  | some p, some r =>
    if a % 4 = 0 ∧ d.served a (p.dom a) then some (d.regShow 2 p a r) else none
  | _, _ =>
    match memAt a with
    | some m =>
      if a % 4 ≠ 0 ∨ !d.served a m.dom ∨ d.ueAt a then none
      else if a < 0x40000 then some (leNat ((List.range 4).map (fun i => Config.bootRom (a + i))))
      else some (d.ld a 4)
    | none => none

end Sys2Proof.Machine
end

