-- ==== Sys2Proof/Machine/Bind.lean ====
section
/-! DEFINITION. Binding (R20 to R24, R244, R390, R391): which sites are enabled, which site each logical unit takes,
relocated routers, and the plate memory that follows its site (R122). -/

namespace Sys2Proof.Machine

/-- Whether a site is enabled (R390). -/
def Device.siteEnabled (d : Device) (s : Nat) : Bool :=
  !bit (d.fld (F.TOPO_SITE_STATUS_FUSE_DIS (s / 14))) (s % 14) &&
  !bit (d.fld (F.TOPO_SITE_STATUS_BIST_FAIL (s / 14))) (s % 14)

/-- The columns of a type, and how many logical units of it a row has (R20). -/
def typeCols (etch : Bool) : List Nat := if etch then etchCols else gravCols
def typePer (etch : Bool) : Nat := if etch then 8 else 4

/-- The enabled columns of a type in a row, from the west. -/
def Device.enabledCols (d : Device) (etch : Bool) (r : Nat) : List Nat :=
  (typeCols etch).filter (fun c => d.siteEnabled (14 * r + c))

/-! ### Plate memory by site (R122) -/

/-- Where the plate memory of a site stands while no logical core is bound to it, and its registers.
(DEDUCED, log entry 68.) -/
def plateHome (s : Nat) : Nat := 0x0900000000 + 0x100000 * s
/-- (DEDUCED, log entry 68.) -/
def plateRegHome (s : Nat) : Nat := 0x0A00000000 + 0x1000 * s

/-- A sparse map with one range moved to another, whose contents it replaces. -/
def mapMove {α : Type} (src dst len : Nat) (f : Nat → Nat → α → α) (m : List (Nat × α)) : List (Nat × α) :=
  (mapClear dst len m).map (fun e => if inRange e.1 src len then (e.1 - src + dst, f e.1 (e.1 - src + dst) e.2) else e)

/-- The plate memory and the kept plate registers moved between a window and a site's own place.
(DEDUCED, log entry 68.) -/
def Device.movePlate (src dst rsrc rdst : Nat) (d : Device) : Device :=
  { d with
    mem := mapNorm (fun _ => (0 : Byte)) (mapMove src dst 0x100000 (fun _ _ b => b) d.mem)
    valid := mapMove src dst 0x100000 (fun _ _ b => b) d.valid
    damage := mapMove src dst 0x100000 (fun _ _ x => x) d.damage
    regs := mapNorm resetWord (mapMove rsrc rdst 0x100 (fun a b w => w ^^^ resetWord a ^^^ resetWord b) d.regs) }

def Device.plateIn (n s : Nat) (d : Device) : Device :=
  d.movePlate (plateHome s) (plateBase n) (plateRegHome s) (etchBase n + 0x900)
def Device.plateOut (n s : Nat) (d : Device) : Device :=
  d.movePlate (plateBase n) (plateHome s) (etchBase n + 0x900) (plateRegHome s)

/-- Every bound core's plate memory back at its site. -/
def Device.platesHome (d : Device) : Device :=
  d.each ((List.range 64).filter (fun n => d.etchBound n)) (fun d n => d.plateOut n (d.etchSite n))

/-! ### Binding a row -/

/-- The registers, the domain and the log of a logical unit that is bound to a column, or to none (R22, R28). -/
def Device.setSite (etch : Bool) (n r : Nat) (c : Option Nat) (d : Device) : Device :=
  let v := b2n c.isSome
  let col := c.getD 0
  let row := if c.isSome then r else 0
  let dom := if etch then domEtch n else domGraver n
  let d := if etch then
      ((d.put (F.TOPO_ETCH_SITE_VALID n) v).put (F.TOPO_ETCH_SITE_ROW n) row).put (F.TOPO_ETCH_SITE_COL n) col
    else
      ((d.put (F.TOPO_GRAVER_SITE_VALID n) v).put (F.TOPO_GRAVER_SITE_ROW n) row).put (F.TOPO_GRAVER_SITE_COL n) col
  let d := d.modDom dom (fun x => { x with held := c.isNone })
  if etch then
    d.modProof (fun p => { p with absent :=
      (p.absent.filter (· ≠ n)) ++ (if c.isNone then [n] else []) })
  else d

/-- The column a logical unit is bound to. -/
def Device.unitCol (d : Device) (etch : Bool) (n : Nat) : Option Nat :=
  if etch then (if d.etchBound n then some (d.fld (F.TOPO_ETCH_SITE_COL n)) else none)
  else if d.graverBound n then some (d.fld (F.TOPO_GRAVER_SITE_COL n)) else none

/-- The binding of one type in one row computed (R20, R21): the units, and the spare column. -/
def Device.bindType (etch : Bool) (r : Nat) (d : Device) : Device :=
  let per := typePer etch
  let cs := d.enabledCols etch r
  let units := (List.range per).map (· + per * r)
  let old := units.map (fun n => (n, d.unitCol etch n))
  let moved := old.filter (fun e => e.2 ≠ cs[e.1 % per]?)
  let d := if etch then d.each moved (fun d e => match e.2 with
      | some c => d.plateOut e.1 (14 * r + c)
      | none => d) else d
  let d := d.each units (fun d n => d.setSite etch n r cs[n % per]?)
  let d := if etch then d.each moved (fun d e => match cs[e.1 % per]? with
      | some c => d.plateIn e.1 (14 * r + c)
      | none => d) else d
  let spare := cs.getD per 0xF
  if etch then d.put (F.TOPO_SITE_EN_ETCH_SPARE_COL r) spare else d.put (F.TOPO_SITE_EN_GRAVER_SPARE_COL r) spare

/-- SHIFT and CLOSED of the routers of one type in a row (R244). (DEDUCED, log entry 92.) -/
def Device.relocType (etch : Bool) (r : Nat) (d : Device) : Device :=
  let per := typePer etch
  let cols := typeCols etch
  d.each (List.range cols.length) (fun d k =>
    let c := cols.getD k 0
    let s := 14 * r + c
    let mine := decide (k < per) && decide (d.unitCol etch (per * r + k) = some c)
    let shift := decide (k < per) && (match d.unitCol etch (per * r + k) with
      | some x => decide (x ≠ c)
      | none => false)
    (d.put (F.HR_RELOC_SHIFT s) (b2n shift)).put (F.HR_RELOC_CLOSED s) (b2n !mine))

/-- The binding of a row computed and written (R391). -/
def Device.bindRow (r : Nat) (d : Device) : Device :=
  let en := (List.range 14).foldl (fun m c => if d.siteEnabled (14 * r + c) then m + 2 ^ c else m) 0
  let d := d.put (F.TOPO_SITE_EN_EN r) en
  (((d.bindType true r).bindType false r).relocType true r).relocType false r

/-- HATCH.STATUS.RELOC (R245). -/
def Device.showReloc (d : Device) : Device :=
  d.put F.HATCH_STATUS_RELOC (b2n ((List.range 112).any (fun s => d.flag (F.HR_RELOC_SHIFT s))))

/-- Whether a row has its logical count of a type. -/
def Device.fullRow (d : Device) (etch : Bool) (r : Nat) : Bool :=
  decide (typePer etch ≤ (d.enabledCols etch r).length)

/-- The header permits a degraded mode of a type (R22, R379). -/
def Device.permits (d : Device) (etch : Bool) : Bool :=
  if etch then permitsEtch d.bootc.header else permitsGraver d.bootc.header

end Sys2Proof.Machine
end

