-- ==== Sys2Proof/Machine/Resume.lean ====
section
/-! DEFINITION. Resume at boot (R133, R134): the scan of the fix log, the choice of a set, its restoration, and the
reset of traces. -/

namespace Sys2Proof.Machine

/-- A fix set as the scan finds it: its first page, SEQ, STEP, LCORE, NREG and S of its header, whether its header and
commit page stand, and whether it is valid. -/
structure FixSet where
  start : Nat
  seq : Nat
  step : Nat
  lcore : Nat
  nreg : Nat
  size : Nat
  done : Bool
  valid : Bool
  deriving DecidableEq, Repr

/-- The address of a page of the fix log. -/
def logPage (n p : Nat) : Nat := plateBase n + 512 * (p % 2040)

/-- The set whose header stands at a page, if one does.  It is valid when its header and commit page read and agree
and the CRC matches, for which every data page must read (R124, R343). -/
def Device.setAt (d : Device) (n p : Nat) : Option FixSet :=
  let a := logPage n p
  if d.ueAt a ∨ d.ld a 4 ≠ 0x9064F1C5 then none
  else
    let s := d.ld (a + 0x10) 2
    let z := logPage n (p + s - 1)
    let clean := (List.range (s - 2)).all (fun i => !d.ueAt (logPage n (p + 1 + i)))
    let body := (List.range (s - 1)).flatMap (fun i => d.rdBytes (logPage n (p + i)) 512)
    let done := decide (2 ≤ s) && decide (s ≤ 2040) && !d.ueAt z && decide (d.ld z 4 = 0x9064C0A1) &&
      decide (d.ld (z + 4) 4 = d.ld (a + 4) 4) && decide (d.ld (z + 8) 4 = s)
    some ⟨p, d.ld (a + 4) 4, d.ld (a + 8) 4, d.ld (a + 0xC) 1, d.ld (a + 0xF) 1, s, done,
      done && clean && decide (d.ld (z + 0x10) 8 = crc64 body)⟩

/-- Insertion by descending SEQ. -/
def insSet (x : FixSet) : List FixSet → List FixSet
  | [] => [x]
  | y :: t => if y.seq ≤ x.seq then x :: y :: t else y :: insSet x t

/-- Whether a valid set may be restored (R134 step 2). -/
def Device.setFits (d : Device) (n : Nat) (x : FixSet) : Bool :=
  let a := logPage n x.start
  decide (x.lcore = n) && decide (d.rdBytes (a + 0x20) 32 = padTo 32 d.netHash) &&
  decide (d.rdBytes (a + 0x40) 256 = (d.fixTable n).flatMap (fun e => leBytes 4 e.1 ++ leBytes 4 e.2))

/-- The choice among the valid sets, newest first: OUTCOME as R136 codes it, and the set.
(DEDUCED, log entry 36; PRESUMED, log entry 58.) -/
def Device.chooseSet (d : Device) (n : Nat) : Bool → List FixSet → Nat × Option FixSet
  | _, [] => (0, none)
  | newest, x :: t =>
    if x.size = 2 ∧ x.nreg = 0 then (3, none)
    else if d.setFits n x then (if newest then 1 else 2, some x)
    else d.chooseSet n false t

/-- The regions overwritten with the stream of a set (R134 step 3). (DEDUCED, log entry 36.) -/
def Device.restoreSet (n : Nat) (x : FixSet) (d : Device) : Device :=
  let stream := (List.range (x.size - 2)).flatMap (fun i => d.rdBytes (logPage n (x.start + 1 + i)) 512)
  ((d.fixRegions n).foldl (fun (acc : Device × List Byte) r =>
    ((List.range r.2).foldl (fun (d : Device) k => d.synWrite n (r.1 + k) (leNat ((acc.2.drop (4 * k)).take 4))) acc.1,
     acc.2.drop (4 * r.2))) (d, stream)).1

/-- Traces zeroed: the trace block of every learnable row, W6 and W7 of every slot (R134 step 4).
(DEDUCED, log entry 37.) -/
def Device.resetTraces (n : Nat) (d : Device) : Device :=
  let d := d.each (List.range 16384) (fun d a =>
    let ax := axonOf (d.ld (axonA n a) 8)
    if ax.learnable then
      (d.synWrite n ax.traceWord 0).synWrite n (ax.traceWord + 1) 0
    else d)
  d.each (List.range 8192) (fun d s => (d.stN (slotA n s + 24) 4 0).stN (slotA n s + 28) 4 0)

/-- Resume of one core with the RESUME value of NET (R134).  The second result says whether the core lacks a usable
set though it has enabled regions. (DEDUCED, log entry 36.) -/
def Device.resume (n choice : Nat) (d : Device) : Device × Bool :=
  let bad := (List.range 2040).filter (fun p => (d.damageAt (logPage n p)).isSome)
  let d := d.each bad (fun d p => d.note (logPage n p))
  let found := (List.range 2040).filterMap (fun p => d.setAt n p)
  let sets := (found.filter FixSet.valid).foldr insSet []
  let top := sets.head?
  let d := match top with
    | some x => (((d.put (F.ETCH_FIX_SEQ n) x.seq).put (F.ETCH_FIX_STEP n) x.step).put (F.ETCH_FIX_LOG_HEAD n)
        ((x.start + x.size) % 2040)).put (F.ETCH_FIX_LOG_PAGES n) x.size
    | none => d
  let newer (x : FixSet) : Bool := match top with
    | some y => decide (y.seq < x.seq)
    | none => true
  let cut := found.any (fun x => !x.done && newer x)
  let lost := found.any (fun x => x.done && !x.valid && newer x)
  let d := if cut then d.raiseBit (F.ETCH_FIX_STATUS_ABANDONED n) 0x0415 n else d
  let (outcome, pick) := if choice = 0 then (0, none) else d.chooseSet n (!lost) sets
  let d := match pick with
    | some x => d.restoreSet n x
    | none => d
  let d := d.resetTraces n
  let d := ((d.put (F.ETCH_RESUME_STATUS_VALID n) 1).put (F.ETCH_RESUME_STATUS_CHOICE n) choice).put
    (F.ETCH_RESUME_STATUS_OUTCOME n) outcome
  let d := if choice ≠ 0 ∧ outcome ≠ 1 then d.raise 0x0414 n else d
  (d, pick.isNone && !(d.fixRegions n).isEmpty)

end Sys2Proof.Machine
end

