-- ==== Sys2Proof/Machine/Load.lean ====
section
/-! DEFINITION. LOAD (R383 to R386, R394 to R396): sections checked and acted on, spare substitution, and the contents
of POLICY, OWNER_KEYS, IDENTITY and PROOF_TRIGGERS. -/

namespace Sys2Proof.Machine

/-- What ends LOAD: the code, the section's table entry and the record, and the device as it stands. -/
structure LoadFail where
  dev : Device
  code : Nat
  sect : Nat
  rcd : Nat

abbrev LoadM := Except LoadFail Device

/-- LOAD goes on unless a condition fails. -/
def need (c : Bool) (code sect rcd : Nat) (d : Device) : LoadM :=
  if c then .ok d else .error ⟨d, code, sect, rcd⟩

/-- A step of LOAD over a list. -/
def loadEach {α : Type} (l : List α) (f : Device → α → LoadM) (d : Device) : LoadM := l.foldlM f d

/-! ### Records (R383, R384, R394) -/

/-- A load section: place in the table, type, records. -/
structure LoadSect where
  idx : Nat
  type : Nat
  recs : List LoadRec

/-- The kinds a section may hold (R384). -/
def kindOk (type kind : Nat) : Bool :=
  match type with
  | 7 => decide (kind = 5)
  | 2 => decide (1 ≤ kind) && decide (kind ≤ 6)
  | _ => decide (kind = 2) || decide (kind = 4)

/-- The window of a unit of a kind, and how many there are. -/
def kindWin (kind : Nat) : Nat := if kind = 3 then 0x40000 else 0x1000000
def kindUnits (kind : Nat) : Nat := if kind = 1 then 64 else if kind = 2 then 32 else 112

/-- The units a record of kinds 1 to 3 names. -/
def LoadRec.named (r : LoadRec) : List Nat := (List.range (kindUnits r.kind)).filter (fun n => bit r.units n)

/-- Whether a record's fields keep R383 and R384, and its units are bound (R394). (DEDUCED, log entry 69.) -/
def Device.recOk (d : Device) (type : Nat) (r : LoadRec) : Bool :=
  let len := r.data.length
  r.ok && kindOk type r.kind &&
  (if r.kind ≤ 3 then
    decide (r.off % 4096 = 0) && decide (len % 4096 = 0) && decide (r.units < 2 ^ kindUnits r.kind) &&
    r.named.all (fun n => if r.kind = 1 then d.etchBound n else if r.kind = 2 then d.graverBound n else true)
  else if r.kind = 4 then
    decide (len % 16 = 0) && decide (r.units = 0) && decide (lpBase + 16 * r.off + len ≤ lpEnd)
  else if r.kind = 5 then
    decide (len % 16 = 0) && decide (r.units = 0) && decide (r.off = 0) &&
    (regEntries r.data).all (fun e => e.2.2 && (type != 7 || eccReg e.1))
  else decide (len % 4 = 0) && decide (r.off = 0) && decide (r.units < 2 ^ 40))

/-- The first record that breaks its rules. (DEDUCED, log entry 69.) -/
def Device.badRec (d : Device) (type : Nat) (l : List LoadRec) : Option Nat := l.findIdx? (fun r => !d.recOk type r)

/-- The header of NET or WEIGHTS: RESUME, NREC, BOUND_OFF, and whether its own rules hold (R384, R385). -/
def netHeader (net : Bool) (b : List Byte) : Nat × Nat × Nat × Bool :=
  let resume := fieldOf b 0 1
  let bo := fieldOf b 8 4
  let bound (i : Nat) : Nat := fieldOf b (bo + 4 * i) 4
  let admitted := (List.range 8).all (fun k => decide (bound (((k / 4 * 4 + 3) * 8) * 4 + k % 4) ≠ 0))
  (resume, fieldOf b 4 4, bo, decide (64 ≤ b.length) && zeroAt b 1 3 && zeroAt b 0xC 52 &&
    (if net then decide (resume ≤ 2) && decide (64 ≤ bo) && decide (bo + 1024 ≤ b.length) && admitted
     else decide (resume = 0) && decide (bo = 0)))

/-! ### Writes (R393, R394) -/

/-- The domain of a Tracer or Press window, which wakes when a record first addresses it. -/
def portDom (a : Nat) : Option Nat :=
  if inRange a 0x0300000000 0x8000000 then some (domTracer ((a - 0x0300000000) / 0x1000000))
  else if inRange a 0x0310000000 0x4000000 then some (domPress ((a - 0x0310000000) / 0x1000000))
  else none

/-- A domain voted ON by client 1 during boot, and ON, its memories cleared, unless it is held OFF. -/
def Device.bootOn (i : Nat) (d : Device) : Device :=
  if (d.dom i).held ∨ (d.dom i).ignored then d
  else
    let d := d.put (voteFld 1 i) 2
    if d.isOn i then d
    else
      let d := (((d.clearValid i).setDom i 2).bump F.PWR_WAKES).modDom i (fun x => { x with phase := .steady })
      if 115 ≤ i ∧ i < 119 then d.pressStop (i - 115) else d

/-- Whether a start that a register write asked for was refused by its own unit. -/
def Device.startRefused (d : Device) (a v : Nat) : Bool :=
  (decide (a = stippleBase) && bit v 0 && d.flag F.STIPPLE_STATUS_CFG_ERR) ||
  (decide (a = rackBase) && bit v 0 && !d.flag F.RACK_CTRL_EN) ||
  ((portDom a).isSome && decide (a % 0x1000000 = 0) && bit v 31 &&
    (if a < 0x0310000000 then d.flag (F.TRACER_LINK_STATUS_CFG_ERR ((a - 0x0300000000) / 0x1000000))
     else d.flag (F.PRESS_LINK_STATUS_CFG_ERR ((a - 0x0310000000) / 0x1000000)))) ||
  (decide (a ≥ 0x0310000000) && decide (a < 0x0314000000) && decide (a % 0x1000000 = 0x150) && bit v 31 &&
    !d.flag (F.PRESS_REPEAT_EN ((a - 0x0310000000) / 0x1000000)))

/-- One register or word write of a record: refused when it is an access error or a start refused. -/
def Device.recWrite (sect rcd : Nat) (d : Device) (e : Nat × Nat) : LoadM :=
  let d := match portDom e.1 with
    | some i => d.bootOn i
    | none => d
  let n := nget d.accErr 2
  let d := d.busWrite 2 e.1 (leBytes 4 e.2)
  if nget d.accErr 2 ≠ n ∨ d.startRefused e.1 e.2 then .error ⟨d, 0x0813, sect, rcd⟩
  else .ok (if e.1 = rackBase then d.rackRunning else d)

/-- The 32-bit writes of a record of kind 5 or 6. -/
def LoadRec.writes (r : LoadRec) : List (Nat × Nat) :=
  if r.kind = 5 then (regEntries r.data).map (fun e => (e.1, e.2.1.toNat))
  else (List.range (r.data.length / 4)).map (fun i => (r.units + 4 * i, fieldOf r.data (4 * i) 4))

/-- The window of unit n of a kind. -/
def kindBase (kind n : Nat) : Nat := if kind = 1 then etchBase n else if kind = 2 then graverBase n else hrBase n

/-- The physical site of unit n of a kind (R395). -/
def Device.kindSite (d : Device) (kind n : Nat) : Nat :=
  if kind = 1 then d.etchSite n else if kind = 2 then d.graverSite n else n

/-- The tokens of a block counted at every output of its tree, from router s on (R249, R254). -/
def Device.blockSent : Nat → Nat → Nat → Device → Device
  | 0, _, _, d => d
  | fuel + 1, s, sites, d =>
    d.each (loadOuts s sites) (fun d e =>
      let d := (List.range 258).foldl (fun d _ => d.countToken s e.1) d
      match (if e.1 = pLocal then none else neighbour s e.1) with
      | some (s', _) => Device.blockSent fuel s' e.2 d
      | none => d)

/-- A block of a load window sent once to every site of its target set, written there and marked in the maps
(R249 to R251, R395): block j of the window, from offset o of each named unit's window. -/
def Device.castBlock (d : Device) (kind : Nat) (named : List Nat) (o j : Nat) (l : List Byte) : Device :=
  let d := Device.blockSent 22 (scribeSite 0) (maskOf (named.map (d.kindSite kind))) d
  d.each named (fun d n =>
    let f := F.HR_LOAD_MAP (d.kindSite kind n) (j / 32)
    let d := d.loadWords (kindBase kind n + o) l
    d.put f (d.fld f ||| 1 <<< (j % 32)))

/-- The blocks of a record sent to the named units, in load windows of at most 2,048 blocks of the one target set, which
the model numbers on from the last (R395). (DESIGN CHOICE, log entry 125.) -/
def Device.loadRec (r : LoadRec) (named : List Nat) (d : Device) : Device :=
  d.each (List.range (r.data.length / 4096)) (fun d k =>
    let d := if k % 2048 = 0 then d.loadWindow (BitVec.ofNat 32 (d.fld F.HATCH_LOAD_CTRL + 1)) else d
    d.castBlock r.kind named (r.off + 4096 * k) (k % 2048) ((r.data.drop (4096 * k)).take 4096))

/-- Whether a receiver takes every block of a record (R251): blocks outside its window, or where nothing is, are
rejected and stay missing. -/
def LoadRec.fits (r : LoadRec) : Bool :=
  r.named.all (fun n => (List.range (r.data.length / 4096)).all (fun k =>
    let o := r.off + 4096 * k
    decide (o + 4096 ≤ kindWin r.kind) &&
    ((memAt (kindBase r.kind n + o)).isSome || (regRow (kindBase r.kind n + o)).isSome)))

/-- A record acted on. -/
def Device.actRec (sect : Nat) (d : Device) (x : Nat × LoadRec) : LoadM :=
  let r := x.2
  if r.kind ≤ 3 then
    if r.fits then .ok (d.loadRec r r.named)
    else .error ⟨d.raise 0x080C (r.named.headD 0), 0x080E, sect, x.1⟩
  else if r.kind = 4 then .ok (d.stMany (lpBase + 16 * r.off) r.data)
  else loadEach r.writes (Device.recWrite sect x.1) d

def Device.actRecs (s : LoadSect) (d : Device) : LoadM :=
  loadEach ((List.range s.recs.length).zip s.recs) (Device.actRec s.idx) d

/-- A load section read and checked: its hash, its header, its records. -/
def Device.openSect (idx type : Nat) (b : List Byte) (d : Device) : Except LoadFail LoadSect :=
  if !hashOk d.bootc.header idx b then .error ⟨d, 0x0806, idx, 0⟩
  else
    let h := netHeader (decide (type = 2)) b
    let l := if type = 7 then recsFill b.length b else recsOf h.2.1 (b.drop 64)
    if type ≠ 7 ∧ h.2.2.2 = false then .error ⟨d, 0x0813, idx, 0⟩
    else match d.badRec type l with
      | some i => .error ⟨d, 0x0813, idx, i⟩
      | none => .ok ⟨idx, type, l⟩

/-! ### Bad sites (R396) -/

/-- One unit loaded again from the start with all its records. (DEDUCED, log entry 71.) -/
def Device.reload (etch : Bool) (ss : List LoadSect) (d : Device) (n : Nat) : LoadM :=
  let dom := if etch then domEtch n else domGraver n
  let base := kindBase (if etch then 1 else 2) n
  let d := (((d.domainOff dom).setDom dom 0).modDom dom (fun x => { x with phase := .steady })).bootOn dom
  loadEach ss (fun d s => loadEach ((List.range s.recs.length).zip s.recs) (fun d x =>
    let r := x.2
    if r.kind = (if etch then 1 else 2) then .ok (if r.named.contains n then d.loadRec r [n] else d)
    else if 5 ≤ r.kind then
      loadEach (r.writes.filter (fun e => inRange e.1 base 0x1000000)) (Device.recWrite s.idx x.1) d
    else .ok d) d) d

/-- A site declared bad after its resend rounds (R395, R396). (DEDUCED, log entry 71.) -/
def Device.badSite (ss : List LoadSect) (d : Device) (s : Nat) : LoadM :=
  let etch := isEtchSite s
  let r := s / 14
  let d := d.raise 0x080C s
  let units := (List.range (typePer etch)).map (· + typePer etch * r)
  let old := units.map (fun n => (n, d.unitCol etch n))
  let f := F.TOPO_SITE_STATUS_BIST_FAIL r
  let d := d.put f (d.fld f ||| 2 ^ (s % 14))
  if !d.fullRow etch r && !d.permits etch then .error ⟨d, 0x080E, 0, 0⟩
  else
    let full := d.fullRow etch r
    let d := (d.bindRow r).showReloc
    let moved := (old.filter (fun e => d.unitCol etch e.1 ≠ e.2)).map (·.1)
    let lost := moved.filter (fun n => (d.unitCol etch n).isNone)
    let d := d.each lost (fun d n =>
      let dom := if etch then domEtch n else domGraver n
      ((d.domainOff dom).setDom dom 0).modDom dom (fun x => { x with phase := .steady }))
    let d := if full then (d.bump F.BOOT_LOAD_STATS_SUBST).raise 0x080D s else d
    loadEach (moved.filter (fun n => !lost.contains n)) (Device.reload etch ss) d

/-! ### POLICY (R365, R386, R427, R466) -/

/-- The records of POLICY; none where they do not fill the section. -/
def policyRecs : Nat → List Byte → Option (List (Nat × List Byte))
  | _, [] => some []
  | 0, _ => none
  | fuel + 1, b =>
    let len := fieldOf b 2 2
    let all := 4 + ceilDiv len 4 * 4
    if b.length < 4 + len then none
    else (policyRecs fuel (b.drop all)).map (fun t => (fieldOf b 0 2, (b.drop 4).take len) :: t)

/-- The power record, if it keeps R365; with CAP, WARN and WD_MS as HG.CFG holds them. (DEDUCED, log entry 70.) -/
def powerRec (v : List Byte) : Option (PolicyRec × Nat) :=
  let np := fieldOf v 12 1
  let pts := (List.range np).map (fun i => fieldOf v (13 + i) 1)
  let o := 13 + np
  let start := fieldOf v o 1
  let win := fieldOf v 0 2
  let last := pts.getD (np - 1) 0
  let ok := decide (v.length = o + 5) && decide (1 ≤ win) && decide (win ≤ 1000) && decide (1 ≤ np) &&
    decide (np ≤ 16) && decide (start < np) && decide (bits (pts.getD start 0) 2 3 = 5) &&
    decide (bits last 0 2 = 3) && decide (bits last 2 3 = 0)
  if ok then
    some ({ winMs := win, pSust := min 95000 (fieldOf v 2 4), tSoft := sgn 16 (fieldOf v 6 2), bHi := fieldOf v 8 1,
            bLo := fieldOf v 9 1, dwell := fieldOf v 10 2, points := pts, start := start },
      fieldOf v (o + 1) 1 <<< 24 + fieldOf v (o + 2) 1 <<< 16 + fieldOf v (o + 3) 2)
  else none

/-- The host-access ranges of a record. -/
def hostRec (v : List Byte) : Option (List (Nat × Nat × Nat)) :=
  if v.length % 20 ≠ 0 then none
  else some ((List.range (v.length / 20)).map (fun i =>
    (fieldOf v (20 * i) 8, fieldOf v (20 * i + 8) 8, fieldOf v (20 * i + 16) 4)))

/-- The pair record written to its registers (R466). (DEDUCED, log entry 70.) -/
def Device.pairRec (v : List Byte) (d : Device) : Option Device :=
  let f (i : Nat) : Nat := fieldOf v i 1
  let nch := fieldOf v 11 1
  let nca := fieldOf v (12 + nch) 1
  let o := 13 + nch
  if v.length ≠ o + 12 * nca ∨ nch < 1 ∨ 32 < nch ∨ 16 < nca ∨ 10000 < fieldOf v 7 2 then none
  else
    let role := if f 0 = 1 then 1 else if f 0 = 2 then 2 else 0
    let d := (((((d.put F.PAIR_CFG_ROLE_CFG (f 0)).put F.PAIR_CFG_OUT_MODE (f 1)).put F.PAIR_CFG_MTRACER (f 2)).put
      F.PAIR_CFG_MPRESS (f 3)).put F.PAIR_CFG_VC (f 4)).put F.PAIR_CUT_BLOCKS (fieldOf v 9 2)
    let d := (d.put F.PAIR_TIMING_HB_HALF (fieldOf v 5 2)).put F.PAIR_TIMING_HB_TIMEOUT (fieldOf v 7 2)
    let d := d.modPair (fun p => { p with
      chans := (List.range nch).map (fun i => f (12 + i))
      carry := (List.range nca).map (fun i => (fieldOf v (o + 12 * i) 8, fieldOf v (o + 12 * i + 8) 4)) })
    let d := if d.bootc.pairRole = 3 then d.put F.PAIR_STATUS_ROLE role else d
    some (d.put F.PAIR_CFG_EN (b2n (decide (d.fld F.PAIR_STATUS_ROLE ≠ 0))))

/-- POLICY passed to its owners. (DEDUCED, log entry 69.) -/
def Device.takePolicy (idx : Nat) (b : List Byte) (d : Device) : LoadM :=
  match policyRecs (b.length + 1) b with
  | none => .error ⟨d, 0x0813, idx, 0⟩
  | some l =>
    if 1 < (l.filter (fun e => e.1 = 1)).length then .error ⟨d, 0x0813, idx, 0⟩
    else loadEach ((List.range l.length).zip l) (fun d x =>
      let bad : LoadM := .error ⟨d, 0x0813, idx, x.1⟩
      match x.2.1 with
      | 1 => match powerRec x.2.2 with
        | some r =>
          -- START's level is that of the first frame (R365)
          let d := d.put F.HATCH_NEXT_DRAFT_DRAFT (bits (r.1.points.getD r.1.start 0) 0 2)
          .ok ((d.modPower (fun p => { p with policy := r.1, point := r.1.start })).putWord F.HG_CFG_CAP.addr
            (BitVec.ofNat 32 r.2))
        | none => bad
      | 2 => match hostRec x.2.2 with
        | some r => .ok (d.modBoot (fun c => { c with ranges := c.ranges ++ r }))
        | none => bad
      | 3 => match d.pairRec x.2.2 with
        | some d => .ok d
        | none => bad
      | _ => .ok d) d

/-! ### OWNER_KEYS, IDENTITY, PROOF_TRIGGERS (R437, R438, R492) -/

def Device.takeKeys (idx : Nat) (b : List Byte) (d : Device) : LoadM :=
  let n := fieldOf b 0 4
  let e (i : Nat) : List Byte := b.drop (8 + 144 * i)
  let ok := decide (n ≤ 8) && decide (b.length = 8 + 144 * n) && decide (fieldOf b 4 4 < 2) &&
    (List.range n).all (fun i => zeroAt (e i) 133 3 && decide (fieldOf (e i) 136 4 < 4) && zeroAt (e i) 140 4)
  if ok then
    .ok ((d.put F.KS_STATE_VENDOR_PERMIT (fieldOf b 4 1)).modBoot (fun c => { c with
      keys := (List.range n).map (fun i => ⟨(e i).take 133, fieldOf (e i) 136 4⟩) }))
  else .error ⟨d, 0x0813, idx, 0⟩

def Device.takeIdentity (idx : Nat) (b : List Byte) (d : Device) : LoadM :=
  let n := fieldOf b 0x40 4
  if n ≤ 2048 ∧ b.length = 68 + n then .ok (d.modBoot (fun c => { c with ownerCert := b.drop 0x44 }))
  else .error ⟨d, 0x0813, idx, 0⟩

def Device.takeTriggers (idx : Nat) (b : List Byte) (d : Device) : LoadM :=
  let n := fieldOf b 0 4
  let e (i : Nat) : List Byte := b.drop (8 + 80 * i)
  let codes := (List.range n).map (fun i => fieldOf (e i) 0 2)
  let entry (i : Nat) : Bool :=
    let x := e i
    let dep := fieldOf x 4 2
    decide (fieldOf x 2 1 < 2) && decide (fieldOf x 3 1 ≤ 8) && decide (1 ≤ dep) && decide (dep ≤ 4096) &&
    zeroAt x 6 2 && zeroAt x 0xC 4 && (List.range 8).all (fun k => decide (fieldOf x (0x10 + 8 * k) 8 < 2 ^ 40))
  if n ≤ 256 ∧ b.length = 8 + 80 * n ∧ zeroAt b 4 4 ∧ codes.eraseDups.length = n ∧ (List.range n).all entry then
    .ok (d.modProof (fun p => { p with trigs := (List.range n).map (fun i =>
      let x := e i
      ⟨fieldOf x 0 2, bit (fieldOf x 2 1) 0, fieldOf x 4 2, fieldOf x 8 4,
        (List.range (fieldOf x 3 1)).map (fun k => fieldOf x (0x10 + 8 * k) 8)⟩) }))
  else .error ⟨d, 0x0813, idx, 0⟩

/-- A section passed to its owner (R394 step 6). -/
def Device.takeSect (idx type : Nat) (b : List Byte) (d : Device) : LoadM :=
  match type with
  | 4 => d.takePolicy idx b
  | 5 => d.takeKeys idx b
  | 6 => d.takeIdentity idx b
  | 8 => d.takeTriggers idx b
  | _ => .ok d

/-! ### The whole of LOAD (R394) -/

/-- The bytes of a section in flash. -/
def Device.sectBytes (d : Device) (s : Sect) : List Byte := d.flash.linBytes s.off s.len

/-- Sections with their table entries. -/
def Device.sectList (d : Device) : List (Nat × Sect) :=
  (List.range (nsect d.bootc.header)).map (fun i => (i, sectAt d.bootc.header i))

/-- Step 1: the ECC section. -/
def Device.loadEcc (d : Device) : LoadM := do
  let s ← d.openSect 1 7 (d.sectBytes (sectAt d.bootc.header 1))
  d.actRecs s

/-- Steps 2 and 3: the image copied, each section hashed in turn, NET and then WEIGHTS acted on. -/
def Device.loadStream (d : Device) : Except LoadFail (List LoadSect × Device) := do
  let d := d.hatchModeWrite 1
  let d := d.stMany (copyBase d.bootc.header) (d.flash.linBytes 0 (imageLen d.bootc.header))
  let go (acc : List LoadSect × Device) (e : Nat × Sect) : Except LoadFail (List LoadSect × Device) := do
    let b := acc.2.sectBytes e.2
    if e.2.type = 2 then
      let s ← acc.2.openSect e.1 2 b
      let d ← acc.2.actRecs s
      let d : Device := { d with netHash := (sha512 b).take 32 }
      let held := acc.1
      let d ← loadEach held (fun d s => d.actRecs s) d
      .ok (s :: held, d)
    else if e.2.type = 3 then
      let s ← acc.2.openSect e.1 3 b
      if acc.1.any (fun t => t.type = 2) then
        let d ← acc.2.actRecs s
        .ok (acc.1 ++ [s], d)
      else .ok (acc.1 ++ [s], acc.2)
    else
      let d ← need (hashOk acc.2.bootc.header e.1 b) 0x0806 e.1 0 acc.2
      .ok (acc.1, d)
  (d.sectList.drop 2).foldlM go ([], d)

/-- Step 5: resume of every bound core, and the scan of the Proof log (R487). -/
def Device.loadResume (choice : Nat) (d : Device) : LoadM :=
  let r := (List.range 64).foldl (fun (acc : Device × Bool) n =>
    if d.etchBound n then
      let x := acc.1.resume n choice
      (x.1, acc.2 || x.2)
    else acc) (d, false)
  need (!(decide (choice = 2) && r.2)) 0x0414 0 0 r.1.proofSync

/-- The whole of LOAD up to the hand-over. -/
def Device.loadAll (e : LoadEnv) (d : Device) : LoadM := do
  let d ← need e.readOk 0x0801 0 0 d
  let d ← d.loadEcc
  let x ← d.loadStream
  let d := (x.2.put F.BOOT_LOAD_STATS_ROUNDS (if e.bad.isEmpty ∧ ¬ e.router then e.rounds.val else 3)).put
    F.BOOT_LOAD_STATS_RESENT e.resent.toNat
  let d ← need (!e.router) 0x080E 0 0 (if e.router then d.raise 0x080C wholeDevice else d)
  let d ← loadEach (e.bad.map Fin.val) (Device.badSite x.1) d
  let net := match sectOf d.bootc.header 2 with
    | some y => d.sectBytes y.2
    | none => []
  let h := netHeader true net
  let d ← d.loadResume h.1
  let d ← loadEach d.sectList (fun d y => d.takeSect y.1 y.2.type (d.sectBytes y.2)) d
  let bounds := ((List.range 256).map (fun i => (i, fieldOf net (h.2.2.1 + 4 * i) 4))).filter (fun b => b.2 ≠ 0)
  let d := (d.modPower (fun p => { p with bounds := bounds })).hatchModeWrite 2
  .ok ((d.each [1, 2, 3] (fun d n => (d.loadFw n).release n)).modBoot (fun b => { b with loaded := true }))

end Sys2Proof.Machine
end

