-- ==== Sys2Proof/Machine/Boot.lean ====
section
/-! DEFINITION. Reset and boot (R375, R376, R387 to R404): the reset pins, the boot states, RECOVERY, and flash
sessions. -/

namespace Sys2Proof.Machine

/-! ### Reset (R268, R300, R329, R375, R413, R465, R467, R496, R501) -/

/-- Addresses whose contents no reset touches: plate memory, that of unbound sites, and its kept registers. -/
def plateMem (a : Nat) : Bool := inRange a 0x0400000000 0x4000000 || inRange a 0x0900000000 0x10000000
def plateReg (a : Nat) : Bool := inRange a 0x0A00000000 0x1000000

/-- The state tables of the Tracers, which RESET_N does not clear (R300); their domain's way to ON does (R327, R348).
(DEDUCED, log entry 53.) -/
def stateTable (a : Nat) : Bool := inRange a 0x0300000000 0x8000000 && inRange (a % 0x1000000) 0x10000 0x10000

/-- POR_ASSERT (R375, R387), and AON_BROWNOUT, which acts as it does (R526): everything at its reset value but plate
memory, flash, fuses and the key store. -/
def Device.porAssert (d0 : Device) : Device :=
  let r := d0.jtagRefused
  let d := r.2.platesHome
  { mem := List.filter (fun e => plateMem (Prod.fst e)) d.mem
    valid := List.filter (fun e => plateMem (Prod.fst e)) d.valid
    damage := List.filter (fun e => plateMem (Prod.fst e)) d.damage
    regs := List.filter (fun e => plateReg (Prod.fst e)) d.regs
    flash := d.flash
    fuses := d.fuses
    sec := { store := d.sec.store, jtag := { reason := r.1 } }
    freeCtr := d.freeCtr }

/-- Bursts of repeat paths in progress that lose bytes at a change of RESET_N (R298). (DEDUCED, log entry 97.) -/
def Device.cuts (cut : List (Fin 4)) (d : Device) : Device := d.each cut (fun d k => d.repeatCut k.val)

/-- RESET_N asserted (R375, R387): every domain but AON goes OFF, registers reset but for what is kept.
(DEDUCED, log entry 53.) -/
def Device.resetNow (d0 : Device) : Device :=
  let held := d0.faultN && d0.flag F.HG_STATUS_SHUTDOWN
  let d := d0.platesHome
  let d := d.each ((List.range 126).map (· + 1)) (fun d i => d.resetHidden i)
  let keep (a : Nat) : Bool := plateMem a || stateTable a
  let regs := d.regs.map (fun e => d.resetEntry e)
  let d : Device := { d with
    regs := mapNorm resetWord regs
    mem := List.filter (fun e => keep (Prod.fst e)) d.mem
    valid := List.filter (fun e => keep (Prod.fst e)) d.valid
    damage := List.filter (fun e => keep (Prod.fst e)) d.damage
    corrQ := [], rawBuf := [], platePos := [], inval := [], scribeUe := [], hiLatch := [], accErr := []
    spent := List.filter (fun e => d.keepMask (Prod.fst e) != 0) d.spent
    doms := Vector.replicate 127 {}
    hatch := {}
    power := { failedTs := d.power.failedTs, tripAt := d.power.tripAt,
               tripLimit := d.power.tripLimit, limit := d.power.limit, capBelow := d.power.capBelow,
               limitRest := d.power.limitRest, railAvg := d.power.railAvg, railRest := d.power.railRest }
    timers := {}
    host := {}
    pair := { hbOut := d.pair.hbOut, hbOutAt := d.pair.hbOutAt, hbInAt := d.pair.hbInAt }
    faultN := held
    netHash := []
    bootc := { rst := true, por := d.bootc.por, pairRole := d.bootc.pairRole, inst := d.bootc.inst } }
  let d := (d.modProof (fun p => { p with trigs := [], absent := [] })).modRack (fun r => { r with sweeping := [] })
  -- Hardground keeps its causes (R375), and with them the forced point of the first frame; ROLE is that of the straps (R465)
  ((d.secReset.put F.BOOT_STATUS_STATE 0).put F.HATCH_NEXT_DRAFT_FORCED (b2n (d.flag F.HG_STATUS_FORCED))).put
    F.PAIR_STATUS_ROLE (if d.bootc.pairRole % 4 = 3 then 0 else d.bootc.pairRole % 4)

def Device.resetAssert (cut : List (Fin 4)) (d : Device) : Device :=
  if d.bootc.por then d else (d.cuts cut).resetNow

/-- Whether the release is held after a shutdown (R370). -/
def Device.releaseHeld (d : Device) : Bool :=
  d.flag F.HG_STATUS_SHUTDOWN && !(d.flag F.PWR_TS_MAX_VALID && !d.hotAt 100)

/-- RESET_RELEASE: the boot begins at FUSE, with every bucket of the Proof log full (R491). -/
def Device.releaseNow (d : Device) : Device :=
  ((({ d with faultN := false } : Device).modProof (fun p => { p with
    buckets := [], global := ⟨4096, d.timebase⟩ })).modBoot (fun b => { b with
    por := false, rst := false, releasedAt := d.timebase })).put F.BOOT_STATUS_STATE 1
/-- (DEDUCED, log entry 67.) -/
def Device.resetRelease (cut : List (Fin 4)) (d : Device) : Device :=
  if (d.bootc.por || d.bootc.rst) && !d.releaseHeld then (d.cuts cut).releaseNow else d

/-- An assertion and release of RESET_N that the part makes itself (R401, R408, R512). -/
def Device.resetPulse (d : Device) : Device :=
  if d.bootc.por then d else if d.resetNow.releaseHeld then d.resetNow else d.resetNow.releaseNow

/-! ### RECOVERY and FAULT (R398, R404) -/

/-- A boot that ends in FAULT. -/
def Device.toFault (code : Nat) (d : Device) : Device :=
  (d.enterFault.put F.BOOT_STATUS_CAUSE code).raise code wholeDevice

/-- A boot that ends in RECOVERY with a code already raised. (DEDUCED, log entry 73.) -/
def Device.toRecovery (code : Nat) (d : Device) : Device :=
  let d := (d.put F.BOOT_STATUS_STATE 9).put F.BOOT_STATUS_CAUSE code
  let keep (i : Nat) : Bool := decide (i = domScribe 0)
  let d := d.each (((List.range 126).map (· + 1)).filter (fun i => !keep i)) (fun d i =>
    let d := (d.put (voteFld 1 i) 0).domainOff i
    (d.setDom i 0).modDom i (fun x => { x with phase := .steady }))
  let d : Device := { d with hatch := {} }
  let d := (d.put F.HATCH_CTRL_MODE 0).bootOn (domTracer 0)
  let d := d.release 0
  let d := if d.isOn (domTracer 0) then
      ((d.linkCtrlWrite 2 (.rx 0) (d.word (tracerBase 0) ||| 0x80000000) 0).put (F.TRACER_RX_VCMAP_EN 0 0) 1).put
        (F.TRACER_RX_VCMAP_ROLE 0 0) 2
    else d
  let d := ((((d.put (F.HOST_IND_WIN0_VALID 0) 1).put (F.HOST_IND_WIN0_RD 0) 1).put (F.HOST_IND_WIN0_WR 0) 1).put
    (F.HOST_IND_WIN0_BASE_HI 0) 3).put (F.HOST_IND_WIN1_SIZE 0) 24
  d.ring iniHost (bellSw 26)

/-- A code raised that ends the boot in RECOVERY. -/
def Device.recover (code : Nat) (d : Device) : Device := (d.raise code wholeDevice).toRecovery code

/-! ### FUSE and ROM (R376, R387, R402, R522) -/

/-- BOOT_FUSE. -/
def Device.bootFuse (d : Device) : Device :=
  if d.boot ≠ 1 then d
  else if !d.fuses.majority then d.toFault 0x0807
  else
    let f := d.fuses
    let d := d.each (List.range 8) (fun d r => d.put (F.TOPO_SITE_STATUS_FUSE_DIS r) (f.siteDis.getD r 0))
    let d := (d.put F.TOPO_ID_GRADE f.grade).modBoot (fun b => { b with
      pairRole := f.pairRole % 4, inst := f.inst % 16, latched := true, fuseMap := f.map })
    let d := d.put F.PAIR_STATUS_ROLE (if f.pairRole % 4 = 3 then 0 else f.pairRole % 4)
    (d.modI3c (fun x => { x with hj := true })).keyCheck.put F.BOOT_STATUS_STATE 2

/-- BOOT_ROM: SCRIBE[0] is awake; whether its checks pass, and whether the flash answers. -/
def Device.bootRom (selfOk flashOk : Bool) (d : Device) : Device :=
  if d.boot ≠ 2 ∨ ¬ d.isOn (domScribe 0) then d
  else if !selfOk then d.toFault 0x0807
  else
    let f := d.flash
    let d := ((((d.put F.BOOT_XSPI_CS0_LOG2 f.cs0.log2).put F.BOOT_XSPI_CS1_LOG2 f.cs1.log2).put
      F.BOOT_XSPI_CS1_PRESENT (b2n (decide (f.cs1.log2 ≠ 0)))).put F.BOOT_XSPI_MHZ 25).put F.BOOT_XSPI_MODE_8D 0
    if f.cs0.log2 = 0 ∨ !flashOk then d.recover 0x0801
    else if d.flag F.BOOT_CTRL_RECOVERY_HOLD then d.recover 0x080F
    else
      ((d.release 0).modBoot (fun b => { b with header := f.linBytes 0 4096 })).put F.BOOT_STATUS_STATE 3

/-! ### VERIFY (R376, R388) -/

/-- The mode and clock of the header. -/
def Device.xspiMode (d : Device) : Device :=
  let h := d.bootc.header
  let dev (f : FlashDev) : Bool := decide (f.log2 = 0) || (f.sfdp && f.octal)
  let octal := decide (fieldOf h 0x10 1 = 1) && dev d.flash.cs0 && dev d.flash.cs1
  let mhz := fieldOf h 0x11 1
  let mhz := if mhz = 0 then 25 else min mhz (if octal then 200 else 50)
  (d.put F.BOOT_XSPI_MODE_8D (b2n octal)).put F.BOOT_XSPI_MHZ mhz

/-- BOOT_VERIFY: whether the flash answers. (DEDUCED, log entry 71.) -/
def Device.bootVerify (readOk : Bool) (d : Device) : Device :=
  if d.boot ≠ 3 then d
  else
    let h := d.bootc.header
    let pub := (h.drop 0x40).take 133
    if !headerOk d.flash h then d.recover 0x0802
    else if d.sec.store.activeHash ≠ some (padTo 64 (sha512 pub)) then d.recover 0x0803
    else if !ecdsaVerify pub (h.take 0xE00) ((h.drop 0xE00).take 132) then d.recover 0x0804
    else
      let d := ((d.modBoot (fun b => { b with trusted := true })).put F.BOOT_IMAGE_LEN (imageLen h)).xspiMode
      let s := sectAt h 0
      let fw := d.flash.linBytes s.off s.len
      if !readOk then d.recover 0x0801
      else if !hashOk h 0 fw then d.recover 0x0806
      else if !vendorOk fw || decide (458752 - 512 < fieldOf fw 4 4) || decide (s.len < 512 + fieldOf fw 4 4) then
        d.recover 0x0805
      else
        (((d.modBoot (fun b => { b with fw := fw })).put F.BOOT_FW_VERSION (fieldOf fw 0 4)).loadFw 0).put
          F.BOOT_STATUS_STATE 4

/-! ### BIST and binding (R389 to R392, R511) -/

/-- A unit outside the grid that failed: 0x080B, held OFF (R392). (DEDUCED, log entry 107.) -/
def Device.holdOff (i : Nat) (d : Device) : Device :=
  (d.modDom i (fun x => { x with held := true })).raise 0x080B wholeDevice

/-- BOOT_BIST: every verdict is recorded before the boot looks at what it may go on without. -/
def Device.bootBist (v : Verdict) (d : Device) : Device :=
  if d.boot ≠ 4 then d
  else
    let d := d.each (List.range 4) (fun d m =>
      if (v.mcs.map Fin.val).contains m then d else (d.bootOn (domMc m)).put (F.MC_STATUS_TRAINED m) 1)
    let retired (s : Nat) : Bool := bit (d.fld (F.HG_RETIRE (s / 14))) (s % 14)
    let failed := (List.range 112).filter (fun s =>
      (v.sites.map Fin.val).contains s || (v.routers.map Fin.val).contains s || retired s)
    let d := d.each failed (fun d s =>
      let f := F.TOPO_SITE_STATUS_BIST_FAIL (s / 14)
      let d := d.put f (d.fld f ||| 2 ^ (s % 14))
      let d := if retired s then d.raise 0x0715 s else d
      if bit (d.fld (F.TOPO_SITE_STATUS_FUSE_DIS (s / 14))) (s % 14) then d else d.raise 0x0808 s)
    let d := d.each v.tracers (fun d n => d.holdOff (domTracer n.val))
    let d := d.each v.presses (fun d k => d.holdOff (domPress k.val))
    if !v.mcs.isEmpty || !v.scribes.isEmpty || v.rack || v.stipple then d.recover 0x080B
    else if !v.routers.isEmpty then d.recover 0x080A
    else
      let d := (d.each (List.range 8) (fun d r => d.bindRow r)).showReloc
      let short (etch : Bool) : Bool := !d.permits etch && (List.range 8).any (fun r => !d.fullRow etch r)
      if short true || short false then d.recover 0x080A else d.put F.BOOT_STATUS_STATE 5

/-- BOOT_WAVES (R393): every bound Etch and Graver domain, and those of the first wave. (DEDUCED, log entry 67.) -/
def Device.bootWaves (d : Device) : Device :=
  if d.boot ≠ 5 then d
  else
    let tiles := ((List.range 64).filter d.etchBound).map domEtch ++ ((List.range 32).filter d.graverBound).map domGraver
    let rest := (List.range 8).map domHatch ++ [domStipple, domRack] ++ [1, 2, 3].map domScribe
    (d.each (rest ++ tiles) (fun d i => d.bootOn i)).put F.BOOT_STATUS_STATE 6

/-! ### LOAD and READY (R394 to R397) -/

/-- BOOT_LOAD. -/
def Device.bootLoad (e : LoadEnv) (d : Device) : Device :=
  if d.boot ≠ 6 ∨ d.bootc.loaded then d
  else match d.loadAll e with
    | .ok d => d
    | .error x =>
      let d := if x.code = 0x0806 ∨ x.code = 0x0813 then
          (x.dev.put F.BOOT_ERR_INFO_SECTION x.sect).put F.BOOT_ERR_INFO_RECORD x.rcd
        else x.dev
      if x.code = 0x0414 then d.toRecovery x.code else d.recover x.code

/-- The limit of R397: 2,000 ms from the release. -/
def Device.bootLate (d : Device) : Bool := decide (200000000 < d.since d.bootc.releasedAt)
def Device.lateNow (d : Device) : Device :=
  if d.bootLate && !d.bootc.late then (d.modBoot (fun b => { b with late := true })).raise 0x0812 wholeDevice else d

/-- BOOT_READY: the READY pin rises; watchdogs and pair logic count from here (R367, R449, R510). -/
def Device.bootReady (d : Device) : Device :=
  if d.boot ≠ 6 ∨ ¬ d.bootc.loaded then d
  else
    let d := ((d.put F.BOOT_STATUS_STATE 7).put F.BOOT_READY_TIME (d.since d.bootc.releasedAt)).lateNow
    let d := d.modPower (fun p => { p with wdOn := true, wdSince := d.timebase })
    let d := d.each (List.range 4) (fun d n => d.modScribe n (fun s => { s with kickAt := d.timebase }))
    (d.ring iniHost (bellSw 25)).showAlive

/-- BOOT_TIME_LIMIT. -/
def Device.bootTimeLimit (d : Device) : Device := if 1 ≤ d.boot ∧ d.boot ≤ 6 then d.lateNow else d

/-! ### Flash sessions (R399, R400) -/

/-- An operation rejected (R400). -/
def Device.flashReject (d : Device) : Device := (d.bump F.BOOT_IMGLOAD_ERR).raise 0x0810 wholeDevice

/-- A session opened by the first operation with load sequence 0 while none is active. (DEDUCED, log entry 74.) -/
def Device.sessionOpen (path seq : Nat) (d : Device) : Device :=
  if d.flag F.BOOT_FLASH_SESSION_ACTIVE ∨ seq ≠ 0 then d
  else (((d.put F.BOOT_FLASH_SESSION_ACTIVE 1).put F.BOOT_FLASH_SESSION_OWNER path).put F.BOOT_NEXT_SEQ 0).modBoot
    (fun b => { b with erased := [] })

/-- Whether an operation keeps its row of R400, in the session it belongs to. -/
def Device.flashOk (path : Nat) (op : FlashOp) (d : Device) : Bool :=
  let dev := d.flash.dev op.cs
  d.flag F.BOOT_FLASH_SESSION_ACTIVE && decide (d.fld F.BOOT_FLASH_SESSION_OWNER = path) &&
  decide (op.seq = d.fld F.BOOT_NEXT_SEQ) &&
  (match op.kind with
    | 0 => dev.erases.contains op.aux && decide (0 < op.aux) && decide (op.off % op.aux = 0) &&
      decide (op.off + op.aux ≤ dev.size)
    | 1 => decide (1 ≤ op.data.length) && decide (op.data.length = op.aux) && decide (op.aux ≤ 4096) &&
      (List.range op.aux).all (fun i => d.bootc.erased.any (fun e =>
        decide (e.1 = op.cs) && inRange (op.off + i) e.2.1 e.2.2))
    | _ => decide (op.data.length = 64))

/-- An operation offered to the agent: begun, or rejected. -/
def Device.flashBegin (path : Nat) (op : FlashOp) (d : Device) : Device × Bool :=
  let d := d.sessionOpen path op.seq
  if d.flashOk path op then (d.modBoot (fun b => { b with op := some (op, path) }), true) else (d.flashReject, false)

/-- The operation of an image-load packet (R296); none for a packet that is not one. -/
def flashPacket (b : List Byte) : Option FlashOp :=
  let k := (b.getD 1 0).toNat
  if b.length < 16 ∨ b.headD 0 ≠ 1 ∨ k < 0x50 ∨ 0x52 < k then none
  else
    some ⟨if k = 0x51 then 0 else if k = 0x50 then 1 else 2, fieldOf b 4 4, b2n (bit (fieldOf b 2 1) 0), fieldOf b 8 4,
      fieldOf b 12 4, b.drop 16⟩

/-- IMAGE_LOAD_WRITE, IMAGE_LOAD_ERASE, IMAGE_LOAD_END: the agent takes the packet at the head of what the Tracers have
accepted, if it is of that kind and no operation is in progress; packets of no kind are passed over. -/
def Device.imageLoad (kind : Nat) (d : Device) : Device :=
  if d.boot ≠ 9 ∨ d.bootc.op.isSome then d
  else
    let q := d.imageRx.dropWhile (fun e => (flashPacket e.2).isNone)
    match q with
    | [] => d
    | e :: rest =>
      match flashPacket e.2 with
      | some op => if op.kind = kind then (({ d with imageRx := rest } : Device).flashBegin (8 + e.1) op).1 else d
      | none => d

/-- What the operation in progress does to the flash (R400). (DEDUCED, log entry 74.) -/
def Device.flashDo (op : FlashOp) (d : Device) : Device :=
  match op.kind with
  | 0 =>
    let lo := op.cs * 2 ^ 32 + op.off
    let d : Device := { d with flash := { d.flash with bytes := mapClear lo op.aux d.flash.bytes } }
    d.modBoot (fun b => { b with erased := b.erased ++ [(op.cs, op.off, op.aux)] })
  | 1 =>
    let f := (List.range op.data.length).foldl (fun f i => f.setByte op.cs (op.off + i) (op.data.getD i 0)) d.flash
    { d with flash := f }
  | _ =>
    if padTo 64 (sha512 (d.flash.linBytes 0 op.aux)) = op.data then
      (((d.put F.BOOT_FLASH_SESSION_ACTIVE 0).put F.BOOT_STATUS_IMAGE_OK 1).modBoot (fun b => { b with erased := [] }))
    else d.raise 0x0811 wholeDevice

/-- A reply of the host path's flash command, NEXT_SEQ in its body when it was out of sequence (R425, R426).
(DEDUCED, log entry 74.) -/
def Device.flashReply (status : Nat) (d : Device) : Device :=
  match d.host.flashTag with
  | some h =>
    let body := if status = 0 ∨ status = 5 ∨ status = 7 then leBytes 4 (d.fld F.BOOT_NEXT_SEQ) else []
    (d.modHost (fun x => { x with flashTag := none })).reply h status body
  | none => d

/-- FLASH_OPERATION_DONE. -/
def Device.flashDone (d : Device) : Device :=
  match d.bootc.op with
  | some (op, path) =>
    let d := (d.flashDo op).modBoot (fun b => { b with op := none })
    let d := d.put F.BOOT_NEXT_SEQ (d.fld F.BOOT_NEXT_SEQ + 1)
    let bad := decide (op.kind = 2) && d.flag F.BOOT_FLASH_SESSION_ACTIVE
    if path = iniHost then d.flashReply (if bad then 7 else 0) else d
  | none => d

end Sys2Proof.Machine
end

