-- ==== Sys2Proof/Machine/I3c.lean ====
section
/-! DEFINITION. The I3C target (R406 to R413): common command codes, private transfers, Hot-Join, and the target
reset pattern. -/

namespace Sys2Proof.Machine

/-- What a transfer returned: acknowledged, with bytes. -/
def Device.ack (bytes : List Byte) (d : Device) : Device := d.modI3c (fun x => { x with acked := true, reply := bytes })
def Device.nack (d : Device) : Device := d.modI3c (fun x => { x with acked := false, reply := [] })

/-- A transfer addressed to the target, at its dynamic or its static address, while REFCLK is gated (R412): NACKed, the
clocks restored and SCRIBE[0] voted ON. (DEDUCED, log entry 101.) -/
def Device.clocked (f : Device → Device) (d : Device) : Device :=
  if d.power.gated then ((d.modPower (fun p => { p with gated := false })).setVote 0 (domScribe 0) 2).nack else f d

/-- A command code sent to the target: directly, when it holds a dynamic address and its clocks run, or to all.
Without a dynamic address nothing answers a direct command code. (DEDUCED, log entry 76.) -/
def Device.ccc (direct : Bool) (f : Device → Device) (d : Device) : Device :=
  if direct then (if d.host.i3c.da.isSome then d.clocked f else d.nack) else f d

/-- A command code that the target logic answers by itself (R412). -/
def Device.cccGet (bytes : Device → List Byte) (d : Device) : Device :=
  if d.host.i3c.da.isSome then d.ack (bytes d) else d.nack

/-! ### Command codes (R407, R408) -/

/-- ENEC and DISEC: ENINT is bit 0, ENHJ bit 3. -/
def Device.enec (direct : Bool) (ev : Byte) (d : Device) : Device :=
  d.ccc direct (fun d => (d.modI3c (fun x => { x with
    enInt := x.enInt || bit ev.toNat 0, enHj := x.enHj || bit ev.toNat 3 })).ack [])
def Device.disec (direct : Bool) (ev : Byte) (d : Device) : Device :=
  d.ccc direct (fun d => (d.modI3c (fun x => { x with
    enInt := x.enInt && !bit ev.toNat 0, enHj := x.enHj && !bit ev.toNat 3, hj := x.hj && !bit ev.toNat 3 })).ack [])

/-- ENTAS0 to ENTAS3: no effect. -/
def Device.entas (direct : Bool) (d : Device) : Device := d.ccc direct (fun d => d.ack [])

/-- RSTDAA. -/
def Device.rstdaa (d : Device) : Device := (d.modI3c (fun x => { x with da := none, hdr := false })).ack []

/-- The provisional ID (R407). -/
def Device.pid (d : Device) : Nat := 0x3A7 <<< 33 + 0x9064 <<< 16 + (d.bootc.inst % 16) <<< 12 + 0x0B1

/-- A dynamic address assigned: Hot-Join requests stop (R413). (DEDUCED, log entry 101.) -/
def Device.assign (a : BitVec 7) (d : Device) : Device := d.modI3c (fun x => { x with da := some a.toNat, hj := false })

/-- ENTDAA: the target arbitrates with PID, BCR and DCR while it holds no address. -/
def Device.entdaa (a : BitVec 7) (won : Bool) (d : Device) : Device :=
  if d.host.i3c.da.isSome then d.nack
  else
    let id := beBytes 6 d.pid ++ [0x26, 0x00]
    if won then (d.assign a).ack id else d.ack id

/-- SETDASA at the static address, and SETNEWDA. -/
def Device.setdasa (a : BitVec 7) (d : Device) : Device :=
  if d.host.i3c.da.isSome then d.nack else d.clocked (fun d => (d.assign a).ack [])
def Device.setnewda (a : BitVec 7) (d : Device) : Device := d.ccc true (fun d => (d.assign a).ack [])

/-- SETMWL and SETMRL: values outside their range are NACKed. (DEDUCED, log entry 49.) -/
def Device.setmwl (direct : Bool) (v : BitVec 16) (d : Device) : Device :=
  d.ccc direct (fun d => if 8 ≤ v.toNat ∧ v.toNat ≤ 260 then (d.modI3c (fun x => { x with mwl := v.toNat })).ack []
    else d.nack)
def Device.setmrl (direct : Bool) (v : BitVec 16) (d : Device) : Device :=
  d.ccc direct (fun d => if 4 ≤ v.toNat ∧ v.toNat ≤ 256 then (d.modI3c (fun x => { x with mrl := v.toNat })).ack []
    else d.nack)
def Device.getmwl (d : Device) : Device := d.ccc true (fun d => d.ack (beBytes 2 d.host.i3c.mwl))
/-- (DEDUCED, log entry 76.) -/
def Device.getmrl (d : Device) : Device := d.ccc true (fun d => d.ack (beBytes 2 d.host.i3c.mrl))

/-- ENTHDR0. -/
def Device.enthdr0 (d : Device) : Device := (d.modI3c (fun x => { x with hdr := true })).ack []

/-- RSTACT: a defining byte set, or read back by a direct GET.  Bytes other than 0x00, 0x01 and 0x02 are NACKed.
(DEDUCED, log entry 76.) -/
def Device.rstact (direct : Bool) (byte : Option Byte) (d : Device) : Device :=
  match byte with
  | some b => d.ccc direct (fun d =>
      if b.toNat ≤ 2 then (d.modI3c (fun x => { x with rstAct := b.toNat })).ack [] else d.nack)
  | none => d.ccc true (fun d => d.ack [BitVec.ofNat 8 d.host.i3c.rstAct])

/-- TARGET_RESET_PATTERN. -/
def Device.resetPattern (d : Device) : Device := if d.host.i3c.rstAct = 0 then d else d.resetPulse

/-- GETSTATUS: the count of protocol errors since the last one is spent. -/
def Device.statusWord (d : Device) : Nat :=
  let n := ((List.range 32).filter (fun i => bit d.pendingBells i)).length
  b2n d.ready <<< 12 + d.boot <<< 8 + b2n d.host.i3c.protoErr <<< 5 + min 15 n
def Device.getstatus (d : Device) : Device :=
  if d.host.i3c.da.isSome then (d.ack (beBytes 2 d.statusWord)).modI3c (fun x => { x with protoErr := false }) else d.nack

def Device.getpid (d : Device) : Device := d.cccGet (fun d => beBytes 6 d.pid)
def Device.getbcr (d : Device) : Device := d.cccGet (fun _ => [0x26])
def Device.getdcr (d : Device) : Device := d.cccGet (fun _ => [0x00])
def Device.getcaps (d : Device) : Device := d.cccGet (fun _ => [0x01, 0x01])
def Device.getmxds (d : Device) : Device := d.ccc true (fun d => d.ack [0x00, 0x00])

/-- UNSUPPORTED_CCC: a direct one is NACKed, a broadcast one ignored. -/
def Device.unsupported (direct : Bool) (d : Device) : Device :=
  if direct then (if d.host.i3c.da.isSome then d.clocked Device.nack else d.nack) else d

/-- I3C_PROTOCOL_ERROR. -/
def Device.protocolError (d : Device) : Device :=
  ((d.modI3c (fun x => { x with protoErr := true })).bump F.HOST_I3C_ERR).raiseBit F.HOST_HFAULT_PROTO 0x0B05 wholeDevice

/-! ### Private transfers (R409 to R412) -/

/-- The words of a private write, from the offset in force on. (DEDUCED, log entry 75.) -/
def privWords : List Byte → Device → Device
  | a :: b :: c :: e :: t, d =>
    let o := d.host.i3c.offset
    let d := if o ≤ 0xFFFC then
        (d.hostWrite o (BitVec.ofNat 32 (leNat [a, b, c, e]))).modI3c (fun x => { x with offset := o + 4 })
      else d.accError iniHost 4 0xFFFC
    privWords t d
  | [], d => d
  | _, d => d.accError iniHost 0 (min 0xFFFC d.host.i3c.offset)

/-- A private write: its offset, then data. (DEDUCED, log entry 75.) -/
def Device.privWrite (l : List Byte) (d : Device) : Device :=
  match l with
  | a :: b :: t =>
    let o := leNat [a, b]
    let d := (d.modI3c (fun x => { x with offset := o })).ack []
    if o % 4 ≠ 0 then d.accError iniHost 0 o else privWords t d
  | [] => d.ack []
  | _ => (d.ack []).accError iniHost 0 (min 0xFFFC d.host.i3c.offset)

/-- n words read from the offset in force. -/
def privRead : Nat → Device → List Byte × Device
  | 0, d => ([], d)
  | n + 1, d =>
    let o := d.host.i3c.offset
    let r := if o ≤ 0xFFFC then
        let x := d.hostRead o
        (leBytes 4 x.1, x.2.modI3c (fun y => { y with offset := o + 4 }))
      else (List.replicate 4 0, d.accError iniHost 4 0xFFFC)
    let t := privRead n r.2
    (r.1 ++ t.1, t.2)

/-- A private read of n bytes. -/
def Device.privReadBytes (n : Nat) (d : Device) : Device :=
  let o := d.host.i3c.offset
  if o % 4 ≠ 0 then (d.accError iniHost 0 o).ack (List.replicate n 0)
  else
    let r := privRead (ceilDiv n 4) d
    let d := if n % 4 = 0 then r.2 else r.2.accError iniHost 0 (min 0xFFFC (r.2.host.i3c.offset - 4))
    d.ack (r.1.take n)

/-- A private transfer at the dynamic address: in SDR, or in HDR-DDR with the command code it carries. -/
def Device.privateAt (ddr : Option Byte) (code : Byte) (f : Device → Device) (d : Device) : Device :=
  if d.host.i3c.da.isNone then d.nack
  else match ddr with
    | none => (d.modI3c (fun x => { x with hdr := false })).clocked f
    | some c => if d.host.i3c.hdr then d.clocked (fun d => if c = code then f d else d.nack) else d.nack

/-- PRIVATE_WRITE and PRIVATE_READ. -/
def Device.privateWrite (ddr : Option Byte) (l : List Byte) (d : Device) : Device := d.privateAt ddr 0x01 (fun d => d.privWrite l)
def Device.privateRead (ddr : Option Byte) (n : Nat) (d : Device) : Device := d.privateAt ddr 0x81 (fun d => d.privReadBytes n)

/-- I2C_TRANSFER at the static address, while no dynamic address is held; Hot-Join requests stop (R410, R413). -/
def Device.i2cTransfer (w : List Byte) (n : Nat) (d : Device) : Device :=
  if d.host.i3c.da.isSome then d.nack
  else (d.modI3c (fun x => { x with hj := false })).clocked (fun d =>
    let d := if w.isEmpty then d else d.privWrite w
    if n = 0 then d else d.privReadBytes n)

/-- HOT_JOIN_REQUEST (R413). (DEDUCED, log entry 76.) -/
def Device.hotJoin (acked : Bool) (d : Device) : Device :=
  let x := d.host.i3c
  let due := match x.hjAt with
    | some t => decide (100000 ≤ d.since t)
    | none => true
  if x.hj && x.enHj && x.da.isNone && d.bootc.latched && due then
    d.modI3c (fun y => { y with hj := !acked, hjAt := some d.timebase, acked := acked, reply := [] })
  else d

end Sys2Proof.Machine
end

