-- ==== Sys2Proof/Machine/Message.lean ====
section
/-! DEFINITION. Firmware messages (R423 to R427) and the indirect access port (R428). -/

namespace Sys2Proof.Machine

/-! ### The message server (R398, R424, R425) -/

/-- Whether SCRIBE[0] serves messages: by the ROM agent in RECOVERY, by firmware in READY and RUN.
(DEDUCED, log entry 77.) -/
def Device.serving (d : Device) : Bool :=
  (d.scribe 0).running && !(d.scribe 0).halted && d.isOn (domScribe 0) && (d.ready || decide (d.boot = 9))

/-- The request in MBOX[0] as the server finds it: FULL, addressed to SCRIBE[0], and not one lost with a declaration
of SCRIBE[0] (R510). -/
def Device.asked (d : Device) : Bool := d.serving && d.mboxFull 0 && decide (d.mboxRcvr 0 = 2) && !d.host.lost

/-- The commands of R425, and those that only firmware serves. -/
def knownCmds : List Nat := [1, 2, 3, 4, 5, 6, 0x10, 0x11, 0x12, 0x20]
def firmwareCmds : List Nat := [4, 5, 6, 0x20]
def flashCmds : List Nat := [0x10, 0x11, 0x12]

def msgCmd (b : List Byte) : Nat := (b.getD 0 0).toNat
def msgMore (b : List Byte) : Bool := bit (b.getD 1 0).toNat 0
def msgTag (b : List Byte) : Nat := fieldOf b 2 2
def msgPlen (b : List Byte) : Nat := fieldOf b 4 2

/-- The payload of a final part with the parts before it; none where its length or its tag is wrong (R424). -/
def Device.payload (d : Device) (b : List Byte) : Option (List Byte) :=
  if b.length ≠ 8 + msgPlen b then none
  else match d.host.tag with
    | none => some (b.drop 8)
    | some t =>
      let l := d.host.parts ++ b.drop 8
      if t = msgTag b ∧ l.length ≤ 1024 then some l else none

/-- The request in MBOX[0] taken by the server: the message leaves the mailbox. -/
def Device.takeMsg (d : Device) : Device := (d.mboxDone 0).modHost (fun h => { h with tag := none, parts := [] })

/-- The server serves the request in MBOX[0] with a command's meaning, which answers STATUS, payload and the device, or
no reply yet.  A command that R425 does not list, a wrong length, and one that this server does not serve are
answered alike for every command. (DEDUCED, log entry 77.) -/
def Device.serve (cmd : Nat) (f : List Byte → List Byte → Device → Option (Nat × List Byte) × Device) (d : Device) :
    Device :=
  let b := d.mboxBytes 0
  let c := msgCmd b
  if !d.asked || msgMore b || (c != cmd && knownCmds.contains c) then d
  else
    let pl := d.payload b
    let d := d.takeMsg
    if !knownCmds.contains c then d.reply b 1 []
    else match pl with
      | none => d.reply b 2 []
      | some p =>
        if (d.ready && flashCmds.contains c) || (!d.ready && firmwareCmds.contains c) then d.reply b 6 []
        else
          let r := f b p d
          match r.1 with
          | some x => r.2.reply b x.1 x.2
          | none => r.2

/-- MESSAGE_PART (R424). -/
def Device.messagePart (d : Device) : Device :=
  let b := d.mboxBytes 0
  if !d.asked || !msgMore b then d
  else
    let fresh := match d.host.tag with
      | none => true
      | some t => decide (t = msgTag b)
    let l := d.host.parts ++ b.drop 8
    let ok := fresh && decide (b.length = 8 + msgPlen b) && decide (l.length ≤ 1024)
    let d := d.takeMsg
    if ok then (d.modHost (fun h => { h with tag := some (msgTag b), parts := l })).reply b 0 [] else d.reply b 2 []

/-! ### Commands (R425) -/

/-- PING. -/
def Device.ping (d : Device) : Device :=
  d.serve 1 (fun _ p d => (some (if p.length ≤ 56 then (0, p) else (2, [])), d))

/-- GET_VERSION: the ROM agent reports FW_VERSION 0. -/
def Device.getVersion (d : Device) : Device :=
  d.serve 2 (fun _ p d =>
    if !p.isEmpty then (some (2, []), d)
    else
      let fw := if d.ready then d.fld F.BOOT_FW_VERSION else 0
      (some (0, leBytes 4 fw ++ leBytes 4 (fieldOf d.bootc.header 0x18 4) ++ leBytes 4 (d.word F.TOPO_ID_GRADE.addr).toNat
        ++ leBytes 4 Config.romVersion.toNat), d))

/-- GET_STATE. -/
def Device.getState (d : Device) : Device :=
  d.serve 3 (fun _ p d =>
    if !p.isEmpty then (some (2, []), d)
    else
      let t := pat 8 (asr (sgn 16 (d.fld F.PWR_TS_MAX_TEMP)) 3)
      (some (0, leBytes 1 d.boot ++ leBytes 1 (d.fld F.CONTRACT_STATUS_DRAFT) ++ leBytes 1 (d.fld F.CONTRACT_STATUS_VB)
        ++ leBytes 1 t ++ leBytes 2 (d.fld F.HG_FR_NEWEST_CODE) ++ [0, 0]), d))

/-- READ_FAULTS: the history, newest first (R498). -/
def Device.readFaults (d : Device) : Device :=
  d.serve 4 (fun _ p d =>
    if !p.isEmpty then (some (2, []), d)
    else
      let l := (List.range 24).filter (fun i => bit (d.word (F.HG_FR_HIST_CODE i).addr).toNat 31)
      (some (0, l.flatMap (fun i => leBytes 2 (d.fld (F.HG_FR_HIST_CODE i)))), d))

/-- OPEN_WINDOW (R427): a range inside one of the POLICY ranges, whose size a window can hold, in the lowest free
window. (DEDUCED, log entry 78.) -/
def Device.openWindow (d : Device) : Device :=
  d.serve 5 (fun _ p d =>
    if p.length ≠ 20 then (some (2, []), d)
    else
      let base := fieldOf p 0 8
      let size := fieldOf p 8 8
      let perm := fieldOf p 16 1 % 4
      let lg := (List.range 41).find? (fun k => decide (12 ≤ k) && decide (2 ^ k = size))
      let inside := d.bootc.ranges.any (fun r =>
        decide (r.1 ≤ base) && decide (base + size ≤ r.1 + r.2.1) && decide (perm &&& r.2.2 = perm))
      match lg, (List.range 8).find? (fun i => !d.flag (F.HOST_IND_WIN0_VALID i)) with
      | some k, some i =>
        if inside && decide (base % 4096 = 0) && decide (base < 2 ^ 40) then
          let d := (((d.put (F.HOST_IND_WIN0_VALID i) 1).put (F.HOST_IND_WIN0_RD i) (perm % 2)).put (F.HOST_IND_WIN0_WR i)
            (perm / 2)).put (F.HOST_IND_WIN0_BASE_HI i) (base >>> 32)
          let d := (d.put (F.HOST_IND_WIN1_BASE_LO i) (base >>> 12)).put (F.HOST_IND_WIN1_SIZE i) k
          (some (0, leBytes 4 i), d)
        else (some (3, []), d)
      | _, _ => (some (3, []), d))

/-- CLOSE_WINDOW. -/
def Device.closeWindow (d : Device) : Device :=
  d.serve 6 (fun _ p d =>
    if p.length ≠ 4 then (some (2, []), d)
    else
      let i := fieldOf p 0 1
      if i < 8 then (some (0, []), (d.putWord (F.HOST_IND_WIN0_VALID i).addr 0).putWord (F.HOST_IND_WIN1_SIZE i).addr 0)
      else (some (3, []), d))

/-- A flash operation of the host path (R399, R400): begun, out of rule, or busy. (DEDUCED, log entry 78.) -/
def Device.flashMsg (b : List Byte) (op : FlashOp) (d : Device) : Option (Nat × List Byte) × Device :=
  if d.bootc.op.isSome then (some (4, []), d)
  else
    let r := d.flashBegin iniHost op
    if r.2 then (none, r.1.modHost (fun h => { h with flashTag := some b }))
    else (some (5, leBytes 4 (r.1.fld F.BOOT_NEXT_SEQ)), r.1)

/-- The chip select of a flash command. -/
def msgCs (b : List Byte) : Nat := b2n (bit (b.getD 1 0).toNat 1)

/-- FLASH_ERASE, FLASH_WRITE, FLASH_END. -/
def Device.flashErase (d : Device) : Device :=
  d.serve 0x10 (fun b p d => if p.length ≠ 12 then (some (2, []), d)
    else d.flashMsg b ⟨0, fieldOf p 0 4, msgCs b, fieldOf p 4 4, fieldOf p 8 4, []⟩)
def Device.flashWrite (d : Device) : Device :=
  d.serve 0x11 (fun b p d => if p.length < 9 then (some (2, []), d)
    else d.flashMsg b ⟨1, fieldOf p 0 4, msgCs b, fieldOf p 4 4, p.length - 8, p.drop 8⟩)
def Device.flashEnd (d : Device) : Device :=
  d.serve 0x12 (fun b p d => if p.length ≠ 72 then (some (2, []), d)
    else d.flashMsg b ⟨2, fieldOf p 0 4, msgCs b, 0, fieldOf p 4 4, p.drop 8⟩)

/-- PROOF_CLEAR: the token is queued on the host path; the reply follows its check. (DEDUCED, log entry 78.) -/
def Device.proofClearMsg (d : Device) : Device :=
  d.serve 0x20 (fun b p d =>
    if p.length ≠ 444 then (some (2, []), d)
    else if d.host.clearTag.isSome then (some (4, []), d)
    else (none, (d.request ⟨false, iniHost, p⟩).modHost (fun h => { h with clearTag := some b })))

/-! ### The indirect access port (R428) -/

/-- Whether a 32-bit access finds a register or a memory that is served (R35). -/
def Device.mapped (d : Device) (a : Nat) : Bool :=
  match laneOf a with
  | some (t, _, _) => d.served a (domGraver t)
  | none => match regLoc a, regRow (a / 4 * 4) with
    | some p, some _ => d.served a (p.dom a)
    | _, _ => match memAt a with
      | some m => d.served a m.dom && !d.inTable a
      | none => false

/-- The end of an access with an error. (DEDUCED, log entry 79.) -/
def Device.indFail (reason : Nat) (d : Device) : Device :=
  ((d.put F.HOST_IND_STATUS_ERR 1).put F.HOST_IND_STATUS_REASON reason).raiseBit F.HOST_HFAULT_IND 0x0B06 wholeDevice

/-- IND_ACCESS_DONE. (DEDUCED, log entry 79.) -/
def Device.indDone (d : Device) : Device :=
  match d.host.ind with
  | none => d
  | some (a, wr) =>
    let d := (d.put F.HOST_IND_STATUS_BUSY 0).modHost (fun h => { h with ind := none })
    if !d.indOpen a wr then (d.accError iniHost 3 0x1008).indFail 1
    else
      let ok := d.mapped (busAddr a)
      let ue := d.ueAt (busAddr a)
      let d := if wr then d.busWrite iniHost a (leBytes 4 (d.fld F.HOST_IND_DATA))
        else
          let r := d.busRead iniHost a 4
          r.2.put F.HOST_IND_DATA (leNat r.1)
      if !ok then d.indFail 2 else if ue then d.indFail 3 else d

/-- IND_READ and IND_WRITE: the host writes IND_CTRL with GO. -/
def Device.indGo (wr autoinc : Bool) (d : Device) : Device :=
  d.hostWrite 0x100C (BitVec.ofNat 32 (1 + 2 * b2n wr + 4 * b2n autoinc))

/-- IND_AUTOINC_READ and IND_AUTOINC_WRITE: IND_DATA read, or written. -/
def Device.indAutoRead (d : Device) : Device :=
  let r := d.hostRead 0x1008
  { r.2 with rdata := BitVec.ofNat 32 r.1 }
def Device.indAutoWrite (v : Word) (d : Device) : Device := d.hostWrite 0x1008 v

end Sys2Proof.Machine
end

