-- ==== Sys2Proof/Machine/Commit.lean ====
section
/-! DEFINITION. The end of a command: Scribes whose own memory was uncorrectable are declared, codes raised are
delivered, replies and restarts that wait take place, and the maps stand in their canonical form.  And the register
path as commands that write one register use it. -/

namespace Sys2Proof.Machine

/-! ### The end of a command -/

/-- SCRIBE[n] met an uncorrectable word of its own SRAM in the command (R343): 0x0130, and it is declared. -/
def Device.scribeFaults (d : Device) : Device :=
  d.each d.scribeUe.eraseDups (fun d n => (d.raise 0x0130 n).declare (2 + n))

/-- A reply that waits enters MBOX[4] once its lock is free or SCRIBE[0]'s, and it is empty (R417, R424). -/
def Device.replyOut (d : Device) : Device :=
  match d.host.replies with
  | [] => d
  | b :: rest =>
    if !d.mboxFull 4 && (decide (d.mboxOwner 4 = 0) || decide (d.mboxOwner 4 = 2)) then
      (d.modHost (fun h => { h with replies := rest })).mboxPut 2 4 b
    else d

/-- Insertion of a code behind those not larger. -/
def insCode (x : Nat × Nat) : List (Nat × Nat) → List (Nat × Nat)
  | [] => [x]
  | y :: t => if x.1 < y.1 then x :: y :: t else y :: insCode x t

/-- The codes of one command in ascending order (R486, R498), equal codes as they were raised.
(DEDUCED, log entry 17.) -/
def sortCodes (l : List (Nat × Nat)) : List (Nat × Nat) := l.foldl (fun acc x => insCode x acc) []

/-- One code delivered (R497, R498); for an ALERT code the firmware sets DB_HOST bit 24 while SCRIBE[0] runs
(R502). -/
def Device.collectOne (d : Device) (c : Nat × Nat) : Device :=
  let d := d.collect c.1 c.2
  if sev c.1 = .alert ∧ (d.scribe 0).running ∧ ¬ (d.scribe 0).halted then d.ring iniHost (bellSw 24) else d

/-- Every code of the command delivered. (DEDUCED, log entry 17.) -/
def Device.collectAll (d : Device) : Device := d.each (sortCodes d.raising) Device.collectOne

/-- A restart that the command asked for: HG.CMD, or BOOT.CTRL.REBOOT (R401, R512). -/
def Device.restarts (d : Device) : Device := if d.bootc.restart || d.bootc.reboot then d.resetPulse else d

/-- The marks of the command cleared, the maps in canonical form. -/
def Device.tidy (d : Device) : Device :=
  { d with
    raising := []
    verifyFails := []
    scribeUe := []
    regs := mapNorm resetWord d.regs
    mem := mapNorm (fun _ => (0 : Byte)) d.mem
    valid := mapNorm (fun _ => false) d.valid }

/-- The end of a command: `old` is the device before it, `d` after its own effect. -/
def Device.commit (old d : Device) : Device :=
  ((((d.scribeFaults.scribeUp.replyOut).pairWatch old).collectAll).restarts).tidy

/-- The state after a command whose own effect leaves the device d. -/
def State.after (s : State) (d : Device) : State := { s with dev := s.dev.commit d }

/-- A command whose own effect is f. -/
def State.run (s : State) (f : Device → Device) : State := s.after (f s.dev)

/-! ### Register accesses by name -/

/-- The address at which an initiator finds a register: the host has views of doorbells, mailboxes, the Proof log and
some words in its window (R414, R415). -/
def iniAddr (ini : Ini) (a : Nat) : Nat :=
  if ini = .host then
    if inRange a 0x0010500200 0x600 then hostBase + (a - 0x0010500000)
    else if inRange a 0x0010400000 0x1000 then hostBase + 0x3000 + (a - 0x0010400000)
    else if inRange a 0x0010001000 0x20 then hostBase + 0x100 + (a - 0x0010001000)
    else if a = 0x0010200800 then hostBase + 0x10
    else if a = 0x0010200804 then hostBase + 0x14
    else a
  else a

/-- A 32-bit write of a register. -/
def Device.writeReg (ini : Ini) (a : Nat) (w : Word) (d : Device) : Device :=
  d.busWrite ini.num (iniAddr ini a) (leBytes 4 w.toNat)

/-- A 32-bit write of a register with one field at a value and its other bits as they stand. -/
def Device.writeFld (ini : Ini) (f : Fld) (v : Nat) (d : Device) : Device :=
  d.writeReg ini f.addr (setBits (d.word f.addr) f.lo f.len v)

/-- A write of a register that has one field set and every other bit 0, for registers of commands. -/
def Device.writeCmd (ini : Ini) (f : Fld) (v : Nat) (d : Device) : Device :=
  d.writeReg ini f.addr (setBits 0 f.lo f.len v)

/-- Bytes read at an address by an initiator, kept as the answer of the command. -/
def Device.readBytes (ini a n : Nat) (d : Device) : Device :=
  let r := d.busRead ini a n
  { r.2 with rbytes := r.1, rdata := BitVec.ofNat 32 (leNat r.1) }

/-- A 32-bit read of a register. -/
def Device.readReg (ini : Ini) (a : Nat) (d : Device) : Device := d.readBytes ini.num (iniAddr ini a) 4

/-- An access of a register whose effect takes more operands than a word: the checks of the register path, then
the effect with the window offset for an access error. -/
def Device.viaPath (ini : Ini) (a : Nat) (f : Nat → Device → Device) (d : Device) : Device :=
  let off := busOff a
  if !d.reach ini.num a true then d.accError ini.num 3 off
  else if d.shut ini.num then d.accError ini.num 4 off
  else match regLoc a with
    | some p => if !d.served a (p.dom a) then d.accError ini.num 1 off else f off d
    | none => d.accError ini.num 1 off

/-- The unit whose registers serve a block: a plate memory's raw access, log and table belong to its core. -/
def IntBlk.block : IntBlk → IntBlk
  | .plate n => .etch n
  | b => b

/-- The addresses of a block's REMAP entry e of bank or channel k, of LOG_CLEAR and of RAW_CMD (R346, R347). -/
def IntBlk.remapAddr (b : IntBlk) (k e : Nat) : Nat :=
  match b with
  | .mc m => mcBase m.val + 0x400 + 128 * k + 4 * e
  | _ => b.base + 0x400 + 32 * k + 4 * e
def IntBlk.logClearAddr (b : IntBlk) : Nat :=
  match b with
  | .mc m => (F.MC_LOG_CLEAR m.val).addr
  | _ => (F.INT_LOG_CLEAR b.base).addr
def IntBlk.rawCmdAddr (b : IntBlk) : Nat :=
  match b with
  | .mc m => (F.MC_RAW_CMD m.val).addr
  | _ => (F.INT_RAW_CMD b.base).addr

/-! ### Commands that no unit's own file holds -/

/-- A link moves one unit (R40); `flip` names bits that the link disturbs, which R41 excludes and the checks of
R141 and R226 exist to find. -/
def Device.linkMove (l : LinkId) (flip : List Nat) (d : Device) : Device :=
  match l with
  | .stippleOut s o => d.linkOut s o flip
  | .stippleIn i => d.linkSource i flip
  | .stippleRack => d.linkRack flip
  | .hatchOut s o => d.hatchOut s o flip
  | .hatchIn s p => d.hatchIn s p flip
  | .hatchLoad n kind data => d.hatchLoad n kind data.toNat flip

/-- RECORD_STAGE (R493): the oldest record that awaits snapshots takes them and is staged; a read that fails gives 0
and its bit in SNAP_ERR. -/
def Device.recordStage (d : Device) : Device :=
  match d.proof.pend with
  | [] => d
  | x :: rest =>
    let vals := x.addrs.map d.peek
    let err := ((List.range vals.length).filter (fun i => (vals.getD i none).isNone)).foldl (fun e i => e + 1 <<< i) 0
    let r : Rec := { x.base with snaps := vals.map (fun v => v.getD 0), snapErr := err }
    (d.modProof (fun p => { p with pend := rest })).stage r

/-- JTAG_DEBUG (R443): in OWNER or VENDOR state initiator 6 reads and writes, and halts Scribes; else the instruction
selects BYPASS.  tied: the access is granted out of a group of two or more requests (R62). (DEDUCED, log entry 83.) -/
def Device.jtagDebug (op : DebugOp) (tied : Bool) (d : Device) : Device :=
  if d.fld F.KS_STATE_JTAG = 1 ∨ d.fld F.KS_STATE_JTAG = 2 then
    match op with
    | .read a len =>
      let d := (d.tie tied iniJtag a.toNat false).readBytes iniJtag a.toNat len
      d.jtagIr 0x20 (d.rbytes.flatMap (fun b => bitsOut 8 b.toNat))
    | .write a l => ((d.tie tied iniJtag a.toNat true).busWrite iniJtag a.toNat l).jtagIr 0x20 [false]
    | .halt n => (d.modScribe n (fun s => { s with halted := true })).jtagIr 0x20 [false]
    | .go n => (d.modScribe n (fun s => { s with halted := false })).jtagIr 0x20 [false]
  else d.jtagBypass

end Sys2Proof.Machine
end

