-- ==== Sys2Proof/Machine/CmdBoot.lean ====
section
/-! DEFINITION. The meanings of commands. Reset and boot (R387 to R405, R526). -/

namespace Sys2Proof.Machine

/-- POR_ASSERT (R387): Assertion of POR_N returns the part to POR with every non-AON domain OFF. -/
def execPorAssert (s : State) : Host.Outcome State Fault Refusal :=
  .next (s.run (fun d => d.porAssert))

/-- RESET_ASSERT (R387): Assertion of RESET_N returns the part to POR, keeping AON state where chapters say so. -/
def execResetAssert (cut : List (Fin 4)) (s : State) : Host.Outcome State Fault Refusal :=
  .next (s.run (fun d => d.resetAssert cut))

/-- RESET_RELEASE (R387): Release of POR_N or RESET_N starts boot at FUSE, subject to the post-shutdown hold. -/
def execResetRelease (cut : List (Fin 4)) (s : State) : Host.Outcome State Fault Refusal :=
  .next (s.run (fun d => d.resetRelease cut))

/-- AON_BROWNOUT (R526): VDD_AON falling below 0.70 V acts as an assertion of POR_N. -/
def execAonBrownout (s : State) : Host.Outcome State Fault Refusal :=
  .next (s.run (fun d => d.porAssert))

/-- BOOT_FUSE (R387): FUSE senses the fuse map, sets fuse topology and grade, latches straps and checks the key store. -/
def execBootFuse (s : State) : Host.Outcome State Fault Refusal :=
  .next (s.run (fun d => d.bootFuse))

/-- BOOT_ROM (R387): ROM self-checks, tests SCRIBE[0] SRAM, discovers the xSPI flash and reads the header. -/
def execBootRom (selfOk flashOk : Bool) (s : State) : Host.Outcome State Fault Refusal :=
  .next (s.run (fun d => d.bootRom selfOk flashOk))

/-- BOOT_VERIFY (R388): VERIFY checks the header, owner key and signature and reads and vendor-verifies the FW section. -/
def execBootVerify (readOk : Bool) (s : State) : Host.Outcome State Fault Refusal :=
  .next (s.run (fun d => d.bootVerify readOk))

/-- BOOT_BIST (R389): BIST trains the controllers, tests every site and unit, reconciles with fuses and computes the
binding. -/
def execBootBist (v : Verdict) (s : State) : Host.Outcome State Fault Refusal :=
  .next (s.run (fun d => d.bootBist v))

/-- BOOT_WAVES (R393): WAVES powers the bound domains ON in waves of at most 8. -/
def execBootWaves (s : State) : Host.Outcome State Fault Refusal :=
  .next (s.run (fun d => d.bootWaves))

/-- BOOT_LOAD (R394): LOAD applies ECC, streams the image into the copy region, loads sections, resends, substitutes
spares, resumes and sets SCHED. -/
def execBootLoad (env : LoadEnv) (s : State) : Host.Outcome State Fault Refusal :=
  .next (s.run (fun d => d.bootLoad env))

/-- BOOT_READY (R387): On completion of LOAD the part enters READY and asserts the READY pin. -/
def execBootReady (s : State) : Host.Outcome State Fault Refusal :=
  .next (s.run (fun d => d.bootReady))

/-- BOOT_TIME_LIMIT (R397): A boot exceeding 2,000 ms records 0x0812 and continues. -/
def execBootTimeLimit (s : State) : Host.Outcome State Fault Refusal :=
  .next (s.run (fun d => d.bootTimeLimit))

/-- REBOOT (R401): A write of BOOT.CTRL.REBOOT in RECOVERY restarts boot at FUSE as a release of RESET_N does. -/
def execReboot (ini : Ini) (s : State) : Host.Outcome State Fault Refusal :=
  .next (s.run (fun d => d.writeFld ini F.BOOT_CTRL_REBOOT 1))

/-- IMAGE_LOAD_WRITE (R400): An image-load WRITE packet programs its data into flash when in sequence and in an erased
range. -/
def execImageLoadWrite (s : State) : Host.Outcome State Fault Refusal :=
  .next (s.run (fun d => d.imageLoad 1))

/-- IMAGE_LOAD_ERASE (R400): An image-load ERASE packet erases aligned flash sectors when in sequence. -/
def execImageLoadErase (s : State) : Host.Outcome State Fault Refusal :=
  .next (s.run (fun d => d.imageLoad 0))

/-- IMAGE_LOAD_END (R400): An image-load END packet hashes the written range and closes the session on a match. -/
def execImageLoadEnd (s : State) : Host.Outcome State Fault Refusal :=
  .next (s.run (fun d => d.imageLoad 2))

/-- FLASH_OPERATION_DONE (R400): A flash erase or program finishes, NEXT_SEQ increments and the recovery agent may take
the next image-load packet. -/
def execFlashOperationDone (s : State) : Host.Outcome State Fault Refusal :=
  .next (s.run (fun d => d.flashDone))

/-- FLASH_SESSION_REVOKE (R399): A Hardground write of FLASH_SESSION.ACTIVE = 0 closes the session and raises 0x0814. -/
def execFlashSessionRevoke (s : State) : Host.Outcome State Fault Refusal :=
  .next (s.run (fun d => d.writeFld .hg F.BOOT_FLASH_SESSION_ACTIVE 0))

end Sys2Proof.Machine
end

