-- ==== Sys2Proof/Machine/CmdBus.lean ====
section
/-! DEFINITION. The meanings of commands. Register accesses and link transfers (R10 to R14, R34, R40). -/

namespace Sys2Proof.Machine

/-- REGISTER_WRITE (R12): A 32-bit register write to a field that has no row of its own sets the field under its access
code, or is discarded as an access error under R10.  tied: the port grants the access out of a group of two or more
requests (R36, R62). -/
def execRegisterWrite (ini : Ini) (a : BitVec 40) (bytes : List Byte) (s : State) (tied : Bool := false) :
    Host.Outcome State Fault Refusal :=
  .next (s.run (fun d => (d.tie tied ini.num a.toNat true).busWrite ini.num a.toNat bytes))

/-- RC_READ (R12): A read of an RC counter or field returns its value and then clears it to its reset value, keeping a
coinciding increment under R13.  tied: the port grants the access out of a group of two or more requests (R36, R62). -/
def execRcRead (ini : Ini) (a : BitVec 40) (len : Fin 9) (s : State) (tied : Bool := false) :
    Host.Outcome State Fault Refusal :=
  .next (s.run (fun d => (d.tie tied ini.num a.toNat false).readBytes ini.num a.toNat len))

/-- LINK_TRANSFER (R40): One token or flit crosses a link or port by a two-phase REQ/ACK handshake, once the receiver
has room. -/
def execLinkTransfer (l : LinkId) (flip : List Nat) (s : State) : Host.Outcome State Fault Refusal :=
  .next (s.run (fun d => d.linkMove l flip))

end Sys2Proof.Machine
end

