-- ==== Sys2Proof/Machine/CmdCsi2.lean ====
section
/-! DEFINITION. The meanings of commands. CSI-2 ports (R257 to R271, R352). -/

namespace Sys2Proof.Machine

/-- LONG_PACKET_RECEIVE (R261): A receive port checks a whole long packet and passes it to ingest, or discards it on a
header, CRC, length, type or frame error. -/
def execLongPacketReceive (n : Fin 8) (k : LongPkt) (s : State) : Host.Outcome State Fault Refusal :=
  .next (s.run (fun d => d.longPacket n k))

/-- FRAME_START_PACKET (R264): A Frame Start short packet opens a frame on its virtual channel, closing an open one as
incomplete. -/
def execFrameStartPacket (n : Fin 8) (k : ShortPkt) (s : State) : Host.Outcome State Fault Refusal :=
  .next (s.run (fun d => d.frameStartPacket n k))

/-- FRAME_END_PACKET (R264): A Frame End short packet closes the open frame complete or incomplete, or is a sync error
when none is open. -/
def execFrameEndPacket (n : Fin 8) (k : ShortPkt) (s : State) : Host.Outcome State Fault Refusal :=
  .next (s.run (fun d => d.frameEndPkt n k))

/-- LINE_MARKER_PACKET (R264): A Line Start or Line End short packet is checked for sequence errors. -/
def execLineMarkerPacket (n : Fin 8) (isEnd : Bool) (k : ShortPkt) (s : State) : Host.Outcome State Fault Refusal :=
  .next (s.run (fun d => d.lineMarker n isEnd k))

/-- GENERIC_SHORT_PACKET (R260): A generic short packet is counted and ignored. -/
def execGenericShortPacket (n : Fin 8) (dt : Fin 8) (k : ShortPkt) (s : State) : Host.Outcome State Fault Refusal :=
  .next (s.run (fun d => d.genericShort n dt k))

/-- PHY_BURST_ERROR (R265): A PHY error or uncorrectable header discards the packet in progress and the rest of the
burst. -/
def execPhyBurstError (n : Fin 8) (header : Bool) (s : State) : Host.Outcome State Fault Refusal :=
  .next (s.run (fun d => d.phyBurstError n header))

/-- LINK_ENABLE (R269): A write of LINK_CTRL.EN = 1 checks the configuration and enables the port from the next LP-11,
or refuses with 0x0607. -/
def execLinkEnable (ini : Ini) (p : CsiPort) (s : State) : Host.Outcome State Fault Refusal :=
  .next (s.run (fun d => d.writeFld ini p.en 1))

/-- LINK_DISABLE (R269): A write of LINK_CTRL.EN = 0 disables the port at the end of the burst in progress. -/
def execLinkDisable (ini : Ini) (p : CsiPort) (s : State) : Host.Outcome State Fault Refusal :=
  .next (s.run (fun d => d.writeFld ini p.en 0))

/-- LINK_DISABLE_TIMEOUT (R269): If no LP-11 is seen within 100 µs of the disable write, the port is disabled at once
and a partial packet discarded. -/
def execLinkDisableTimeout (p : CsiPort) (s : State) (part : Option PartPkt := none) :
    Host.Outcome State Fault Refusal :=
  .next (s.run (fun d => d.linkDisableTimeout p part))

/-- LANE_ACTIVITY_WAKE (R267): An HS request on a Tracer whose domain is not ON raises its wake vote, and bursts before
ON are counted lost. -/
def execLaneActivityWake (n : Fin 8) (s : State) : Host.Outcome State Fault Refusal :=
  .next (s.run (fun d => d.laneWake n))

/-- PERIODIC_DESKEW (R259): A D-PHY transmit port at 1,500 Mbps and above sends a deskew sequence every DESKEW_PERIOD. -/
def execPeriodicDeskew (k : Fin 4) (s : State) : Host.Outcome State Fault Refusal :=
  .next (s.run (fun d => d.periodicDeskew k))

/-- PACKET_TRANSMIT (R262): A transmit port sends a ready packet whole once its payload is in the Press buffer, ending
the burst when none is ready. -/
def execPacketTransmit (k : Fin 4) (ue : Bool) (s : State) : Host.Outcome State Fault Refusal :=
  .next (s.run (fun d => d.packetTransmit k ue))

/-- DESKEW_RECEIVE (R259): A D-PHY receive port at 1,500 Mbps and above completes an initial or periodic deskew sequence
from the transmitter, accepts data from then on and updates LINK_STATUS.DESKEWED. -/
def execDeskewReceive (n : Fin 8) (ok : Bool) (s : State) : Host.Outcome State Fault Refusal :=
  .next (s.run (fun d => d.deskewReceive n ok))

/-- LP11_STOP_STATE (R269): All lanes of a port enter LP-11 at the end of a burst, which is when a pending enable or
disable takes effect and a short packet is found cut off. -/
def execLp11StopState (p : CsiPort) (s : State) : Host.Outcome State Fault Refusal :=
  .next (s.run (fun d => d.stopState p))

/-- ARR_HOLD_EXPIRE (R352): A Tracer or Press hardware vote is lowered once nothing is pending and ARR_HOLD ticks have
passed since the last burst or pending output. -/
def execArrHoldExpire (p : CsiPort) (s : State) : Host.Outcome State Fault Refusal :=
  .next (s.run (fun d => d.arrHold p))

end Sys2Proof.Machine
end

