-- ==== Sys2Proof/Machine/CmdEtch.lean ====
section
/-! DEFINITION. The meanings of commands. Etch cores: steps, events, run control (R72, R92 to R100, R149). -/

namespace Sys2Proof.Machine

/-- ETCH_STEP_OPEN (R72): On OPEN the core opens the step: it empties the due delay-ring bucket, drains the due spill
queue, sweeps traces and asserts EARLY flags. -/
def execEtchStepOpen (n : Fin 64) (s : State) : Host.Outcome State Fault Refusal :=
  .next (s.run (fun d => d.etchStepOpen n))

/-- EVENT_CONSUME (R72): The core takes an event of the step from its input buffer, looks up the axon entry and reads
the synapse row into accumulators or the delay ring. -/
def execEventConsume (n : Fin 64) (bufUe : Bool) (s : State) : Host.Outcome State Fault Refusal :=
  .next (s.run (fun d => d.eventConsume n bufUe))

/-- OVERFLOW_ROW_FETCH_DONE (R92): An outstanding overflow row fetch from LPDDR4X returns and its SPARSE entries are
applied. -/
def execOverflowRowFetchDone (n : Fin 64) (i : Fin 8) (s : State) : Host.Outcome State Fault Refusal :=
  .next (s.run (fun d => d.overflowDone n i))

/-- UPDATE_PASS (R72): Once the step is all-in and consumed, the core updates slots 0 to NSLOTS minus 1, emits spikes,
sends closes and acknowledgements and reports completion. -/
def execUpdatePass (n : Fin 64) (s : State) : Host.Outcome State Fault Refusal :=
  .next (s.run (fun d => d.updatePass n))

/-- EVENT_SEND (R149): A source sends a unicast or multicast event once it holds credit for every destination,
decrementing the credits. -/
def execEventSend (i : Fin 105) (s : State) : Host.Outcome State Fault Refusal :=
  .next (s.run (fun d => if 64 ≤ i.val ∧ i.val < 72 then d.tracerSend (i - 64) else d.eventSend i))

/-- FLAG_LINE_RELEASE (R95): A core's flag line deasserts once the update pass of its step has completed and 20 ns have
passed. -/
def execFlagLineRelease (n : Fin 64) (pin : Fin 4) (s : State) : Host.Outcome State Fault Refusal :=
  .next (s.run (fun d => d.flagLineRelease n pin))

/-- ETCH_RUN (R99): A write of CTRL.RUN = 1 enters RUN at the next step opening. -/
def execEtchRun (ini : Ini) (n : Fin 64) (s : State) : Host.Outcome State Fault Refusal :=
  .next (s.run (fun d => d.writeFld ini (F.ETCH_CTRL_RUN n) 1))

/-- ETCH_STOP (R99): A write of CTRL.RUN = 0 makes the core IDLE once its open step has finished, or at once between
steps. -/
def execEtchStop (ini : Ini) (n : Fin 64) (s : State) : Host.Outcome State Fault Refusal :=
  .next (s.run (fun d => d.writeFld ini (F.ETCH_CTRL_RUN n) 0))

/-- ETCH_PAUSE (R100): A write of CTRL.PAUSE = 1 makes the core enter PAUSED after the update pass in progress or the
next one. -/
def execEtchPause (ini : Ini) (n : Fin 64) (s : State) : Host.Outcome State Fault Refusal :=
  .next (s.run (fun d => d.writeFld ini (F.ETCH_CTRL_PAUSE n) 1))

/-- ETCH_RESUME (R100): A write of CTRL.PAUSE = 0 resumes the core at the next opening. -/
def execEtchResume (ini : Ini) (n : Fin 64) (s : State) : Host.Outcome State Fault Refusal :=
  .next (s.run (fun d => d.writeFld ini (F.ETCH_CTRL_PAUSE n) 0))

end Sys2Proof.Machine
end

