-- ==== Sys2Proof/Machine/CmdFix.lean ====
section
/-! DEFINITION. The meanings of commands. Fixing learned weights into plate memory (R127 to R132). -/

namespace Sys2Proof.Machine

/-- FIX_REQUEST (R127): A write of FIX_CTRL.REQ checks size, wear tokens, state, lateness and pair state and either sets
PENDING or refuses the fix. -/
def execFixRequest (ini : Ini) (n : Fin 64) (next : Bool) (s : State) : Host.Outcome State Fault Refusal :=
  .next (s.run (fun d => d.writeReg ini (F.ETCH_FIX_CTRL_REQ n).addr (BitVec.ofNat 32 (2 ^ 31 + b2n next <<< 30))))

/-- FIX_SNAPSHOT (R127): At the snapshot boundary the pending fix enters COPYING and writes the header page. -/
def execFixSnapshot (n : Fin 64) (vf : List Bool) (s : State) : Host.Outcome State Fault Refusal :=
  .next (s.run (fun d => d.fixSnapshot n vf))

/-- FIX_PAGE_COPY (R127): The fix engine copies the next data page of the region stream to plate memory with verify. -/
def execFixPageCopy (n : Fin 64) (vf : List Bool) (s : State) : Host.Outcome State Fault Refusal :=
  .next (s.run (fun d => d.fixPageCopy n vf))

/-- FIX_COPY_FIRST (R128): A write to an uncopied page during COPYING first stages that page, waiting when the staging
buffer is full. -/
def execFixCopyFirst (ini : Ini) (n : Fin 64) (off : BitVec 22) (v : Word) (s : State) :
    Host.Outcome State Fault Refusal :=
  .next (s.run (fun d => d.writeReg ini (etchBase n + 4 * off.toNat) v))

/-- FIX_COMMIT (R127): After the last data page the commit page is written, the fix returns to IDLE and FIX_SEQ,
FIX_STEP, FIX_LOG and DONE are updated. -/
def execFixCommit (n : Fin 64) (vf : List Bool) (s : State) : Host.Outcome State Fault Refusal :=
  .next (s.run (fun d => d.fixCommit n vf))

/-- FIX_ERASE (R132): A write of FIX_CTRL.ERASE while IDLE writes a tombstone set and sets ERASED. -/
def execFixErase (ini : Ini) (n : Fin 64) (vf : List Bool) (s : State) : Host.Outcome State Fault Refusal :=
  .next (s.run (fun d =>
    d.viaPath ini (F.ETCH_FIX_CTRL_ERASE n).addr (fun _ d => ({ d with verifyFails := vf } : Device).fixCtrlWrite n (BitVec.ofNat 32 (2 ^ 29)))))

/-- WEAR_REFILL (R129): The wear bucket gains a token at WEAR_CFG.RATE per second up to DEPTH. -/
def execWearRefill (n : Fin 64) (s : State) : Host.Outcome State Fault Refusal :=
  .next (s.run (fun d => d.wearRefill n))

end Sys2Proof.Machine
end

