-- ==== Sys2Proof/Machine/CmdGraver.lean ====
section
/-! DEFINITION. The meanings of commands. Graver tiles: instructions, frames, bank ownership, the scratchpad, spike-count export
(R174 to R211). -/

namespace Sys2Proof.Machine

/-- TILE_END (R174): The sequencer's END instruction ends issue for the frame. -/
def execTileEnd (n : Fin 32) (s : State) : Host.Outcome State Fault Refusal :=
  .next (s.run (fun d => d.tileEnd n))

/-- TILE_LOOP (R179): A LOOP instruction repeats its BODY instructions COUNT times at its LEVEL. -/
def execTileLoop (n : Fin 32) (s : State) : Host.Outcome State Fault Refusal :=
  .next (s.run (fun d => d.tileLoop n))

/-- MMA (R211): An MMA occupies the masked arrays and accumulates A x W products, group-scaled and privileged-zeroed,
into the target set. -/
def execMma (n : Fin 32) (ph : Phase) (clash : List Clash) (s : State) : Host.Outcome State Fault Refusal :=
  .next (s.run (fun d => match ph with
    | .issue => d.issue n 2
    | .execute => d.mmaRun n clash))

/-- MMA_COMPLETE (R184): An MMA completes LAT array cycles after its occupancy, making its set ready for DRAIN. -/
def execMmaComplete (n : Fin 32) (k : Nat) (s : State) : Host.Outcome State Fault Refusal :=
  .next (s.run (fun d => d.mmaComplete n k))

/-- DRAIN (R185): A DRAIN reads the set row by row through rotation, requantisation, the LUT and packing, writing to a
bank, the Hatch output or the emitter. -/
def execDrain (n : Fin 32) (ph : Phase) (s : State) (clash : List Clash := []) (parUe : BitVec 4 := 0) :
    Host.Outcome State Fault Refusal :=
  .next (s.run (fun d => match ph with
    | .issue => d.issue n 3
    | .execute => d.drainRun n clash parUe.toNat))

/-- LDS (R206): An LDS writes S-port words of the masked arrays from an address generator or the landed S stream. -/
def execLds (n : Fin 32) (ph : Phase) (clash : List Clash) (s : State) : Host.Outcome State Fault Refusal :=
  .next (s.run (fun d => match ph with
    | .issue => d.issue n 4
    | .execute => d.ldsRun n clash))

/-- MOVE (R186): A MOVE sends NWORDS scratchpad words to the tile's Hatch output as two tokens each. -/
def execMove (n : Fin 32) (ph : Phase) (clash : List Clash) (s : State) : Host.Outcome State Fault Refusal :=
  .next (s.run (fun d => match ph with
    | .issue => d.issue n 5
    | .execute => d.moveRun n clash))

/-- WAITL (R178): A WAITL holds issue until landing counter LC reaches N. -/
def execWaitl (n : Fin 32) (s : State) : Host.Outcome State Fault Refusal :=
  .next (s.run (fun d => d.waitl n))

/-- SYNC (R177): A SYNC holds issue until the named units have completed their issued instructions. -/
def execSync (n : Fin 32) (s : State) : Host.Outcome State Fault Refusal :=
  .next (s.run (fun d => d.syncUnits n))

/-- SETAG (R179): A SETAG sets the base and strides of an address generator. -/
def execSetag (n : Fin 32) (s : State) : Host.Outcome State Fault Refusal :=
  .next (s.run (fun d => d.setAg n))

/-- EMIT_CLOSE (R195): A CLOSE instruction sends the closes of N steps from E to all 64 cores and advances E by N. -/
def execEmitClose (n : Fin 32) (ph : Phase) (s : State) : Host.Outcome State Fault Refusal :=
  .next (s.run (fun d => match ph with
    | .issue => d.issue n 9
    | .execute => d.emitClose n))

/-- GATE (R180): A GATE reads one scratchpad bit and sets the predicate of the next L instructions. -/
def execGate (n : Fin 32) (clash : List Clash) (s : State) : Host.Outcome State Fault Refusal :=
  .next (s.run (fun d => d.gate n clash))

/-- TILE_FRAME_DONE (R174): A tile whose program has ended and whose issued instructions have completed reports frame
completion with its BAD bit. -/
def execTileFrameDone (n : Fin 32) (s : State) : Host.Outcome State Fault Refusal :=
  .next (s.run (fun d => d.tileFrameDone n))

/-- EMITTER_EVENT_SEND (R195): An emitter event of step E is sent once STIPPLE.STEP reaches E − 1 and credit allows. -/
def execEmitterEventSend (n : Fin 32) (s : State) : Host.Outcome State Fault Refusal :=
  .next (s.run (fun d => d.eventSend (72 + n)))

/-- TILE_RUN_WRITE (R175): A write of GRAVER CTRL.RUN takes effect at the next frame boundary or when the frame in
progress completes. -/
def execTileRunWrite (ini : Ini) (n : Fin 32) (run : Bool) (s : State) : Host.Outcome State Fault Refusal :=
  .next (s.run (fun d => d.writeFld ini (F.GRAVER_CTRL n) (b2n run)))

/-- BANK_CLAIM (R191): A write of REQ with the writer's initiator number to a free bank sets PENDING for the next frame
boundary. -/
def execBankClaim (ini : Ini) (n : Fin 32) (b : Fin 16) (s : State) : Host.Outcome State Fault Refusal :=
  .next (s.run (fun d => d.writeCmd ini (F.GRAVER_BANK_OWN_REQ n b) ini.num))

/-- BANK_RELEASE (R191): A write of REQ = 0 by the owner sets PENDING to return the bank at the next frame boundary. -/
def execBankRelease (ini : Ini) (n : Fin 32) (b : Fin 16) (s : State) : Host.Outcome State Fault Refusal :=
  .next (s.run (fun d => d.writeCmd ini (F.GRAVER_BANK_OWN_REQ n b) 0))

/-- BANK_REVOKE (R191): A REQ write by Hardground sets the bank owner at once and clears PENDING. -/
def execBankRevoke (n : Fin 32) (b : Fin 16) (owner : Fin 32) (s : State) : Host.Outcome State Fault Refusal :=
  .next (s.run (fun d => d.writeCmd .hg (F.GRAVER_BANK_OWN_REQ n b) owner))

/-- SCRATCHPAD_LANE_WRITE (R193): A register-path write replaces one 32-bit lane of a scratchpad word and recomputes its
check bits. -/
def execScratchpadLaneWrite (ini : Ini) (n : Fin 32) (lane : BitVec 20) (v : Word) (s : State) :
    Host.Outcome State Fault Refusal :=
  .next (s.run (fun d => d.writeReg ini (graverBase n + 0x400000 + 4 * lane.toNat) v))

/-- SET_ALIAS_WRITE (R193): A write through the SET alias ORs the data into the lane in one read-modify-write. -/
def execSetAliasWrite (ini : Ini) (n : Fin 32) (lane : BitVec 20) (v : Word) (s : State) :
    Host.Outcome State Fault Refusal :=
  .next (s.run (fun d => d.writeReg ini (graverBase n + 0x800000 + 4 * lane.toNat) v))

/-- CLEAR_ALIAS_WRITE (R193): A write through the CLEAR alias clears the lane bits that are 1 in the data in one
read-modify-write. -/
def execClearAliasWrite (ini : Ini) (n : Fin 32) (lane : BitVec 20) (v : Word) (s : State) :
    Host.Outcome State Fault Refusal :=
  .next (s.run (fun d => d.writeReg ini (graverBase n + 0xC00000 + 4 * lane.toNat) v))

/-- SCV_SNAPSHOT (R196): At the end of an export step's update pass the export port copies and clears the counters into
a free export buffer, waiting if none is free. -/
def execScvSnapshot (n : Fin 64) (s : State) (ue : List (Fin 128) := []) :
    Host.Outcome State Fault Refusal :=
  .next (s.run (fun d => d.scvSnapshot n (ue.map Fin.val)))

end Sys2Proof.Machine
end

