-- ==== Sys2Proof/Machine/CmdHatch.lean ====
section
/-! DEFINITION. The meanings of commands. The Hatch mesh: schedules, tokens, landings, frames, aborts, broadcast load (R230 to
R253). -/

namespace Sys2Proof.Machine

/-- SLOT_RUN (R231): A RUN slot-table entry makes the output port perform COUNT transfers from its named input. -/
def execSlotRun (r : Fin 112) (p : Fin 5) (s : State) : Host.Outcome State Fault Refusal :=
  .next (s.run (fun d => d.slotRun r p))

/-- SLOT_LOOP (R231): A LOOP slot- or fan-table entry jumps back BODY entries until its count is exhausted. -/
def execSlotLoop (r : Fin 112) (out : Bool) (p : Fin 5) (s : State) : Host.Outcome State Fault Refusal :=
  .next (s.run (fun d => d.slotLoop r out p))

/-- SLOT_END (R231): An END slot- or fan-table entry completes the port's schedule for the frame. -/
def execSlotEnd (r : Fin 112) (out : Bool) (p : Fin 5) (s : State) : Host.Outcome State Fault Refusal :=
  .next (s.run (fun d => d.slotEnd r out p))

/-- FAN_RUN (R230): A RUN fan-table entry offers COUNT input tokens to the outputs in OMASK, releasing each when all
have taken it. -/
def execFanRun (r : Fin 112) (p : Fin 5) (s : State) : Host.Outcome State Fault Refusal :=
  .next (s.run (fun d => d.fanRun r p))

/-- TOKEN_TAKE (R232): An output port takes a copy of the next offered token and sends it on, the input releasing it
when every OMASK output has taken it. -/
def execTokenTake (r : Fin 112) (o : Fin 5) (s : State) : Host.Outcome State Fault Refusal :=
  .next (s.run (fun d => d.tokenTake r o))

/-- TOKEN_LANDING (R236): A pair of tokens leaving through a local or memory port lands as one word in a bank, port
FIFO, LPDDR4X or is discarded, and may increment a landing counter. -/
def execTokenLanding (r : Fin 112) (p : Fin 5) (clash : List Clash) (s : State) : Host.Outcome State Fault Refusal :=
  .next (s.run (fun d => d.tokenLanding r p clash))

/-- MEM_PORT_READ (R239): A memory edge port reads its source-list entry from LPDDR4X and offers the tokens in order. -/
def execMemPortRead (r : Fin 112) (s : State) : Host.Outcome State Fault Refusal :=
  .next (s.run (fun d => d.memPortRead r))

/-- HATCH_FRAME_START (R241): When the previous frame is complete, MIN_PERIOD has passed and the Tracers are ready, the
controller broadcasts START with the sampled draft level. -/
def execHatchFrameStart (s : State) : Host.Outcome State Fault Refusal :=
  .next (s.run (fun d => d.frameStart))

/-- ROUTER_DONE (R242): A router whose enabled ports have reached END and whose endpoints have completed reports DONE
with BAD on the frame tree. -/
def execRouterDone (r : Fin 112) (s : State) : Host.Outcome State Fault Refusal :=
  .next (s.run (fun d => d.routerDone r))

/-- FRAME_COMPLETE (R242): When every node has reported DONE, the frame is complete at the controller. -/
def execFrameComplete (s : State) : Host.Outcome State Fault Refusal :=
  .next (s.run (fun d => d.frameComplete))

/-- STALL_SENTINEL_EXPIRE (R247): When STALL_LIMIT ticks pass with no progress and no suspension, the sentinel raises
0x0210, records STALL_CHAN and starts an abort. -/
def execStallSentinelExpire (cuts : List Cut) (s : State) : Host.Outcome State Fault Refusal :=
  .next (s.run (fun d => d.sentinelExpire cuts))

/-- HATCH_ABORT (R248): A write of HATCH.CTRL.ABORT = 1 raises 0x0212 and runs the abort and rewind sequence. -/
def execHatchAbort (ini : Ini) (cuts : List Cut) (s : State) : Host.Outcome State Fault Refusal :=
  .next (s.run (fun d => d.viaPath ini F.HATCH_CTRL_ABORT.addr (fun _ d => d.hatchAbort cuts)))

/-- ABORT_COMPLETE (R248): The abort ends after rewind and rewrite, incrementing ABORTS and setting FSTATE to BOUNDARY. -/
def execAbortComplete (s : State) : Host.Outcome State Fault Refusal :=
  .next (s.run (fun d => d.abortComplete))

/-- REWIND_TIMEOUT (R248): A rewind not complete within 150 µs raises 0x0211 and sets HATCH mode to IDLE. -/
def execRewindTimeout (s : State) : Host.Outcome State Fault Refusal :=
  .next (s.run (fun d => d.rewindExpire))

/-- HATCH_MODE_WRITE (R253): A write of HATCH.CTRL.MODE takes effect at the next frame boundary or at once when no frame
runs. -/
def execHatchModeWrite (ini : Ini) (mode : BitVec 2) (s : State) : Host.Outcome State Fault Refusal :=
  .next (s.run (fun d => d.writeFld ini F.HATCH_CTRL_MODE mode.toNat))

/-- LOAD_BLOCK_RECEIVE (R251): A load receiver writes a broadcast-load block and sets its LOAD_MAP bit when CRC, window
and link checks pass. -/
def execLoadBlockReceive (r : Fin 112) (s : State) : Host.Outcome State Fault Refusal :=
  .next (s.run (fun d => d.loadBlock r))

/-- LOAD_WINDOW_WRITE (R251): A write of HATCH.LOAD_CTRL.WINDOW clears every LOAD_MAP. -/
def execLoadWindowWrite (ini : Ini) (win : BitVec 16) (s : State) : Host.Outcome State Fault Refusal :=
  .next (s.run (fun d => d.writeCmd ini F.HATCH_LOAD_CTRL win.toNat))

end Sys2Proof.Machine
end

