-- ==== Sys2Proof/Machine/CmdHost.lean ====
section
/-! DEFINITION. The meanings of commands. Mailboxes, messages and the indirect port (R416 to R428). -/

namespace Sys2Proof.Machine

/-- MBOX_LOCK_READ (R417): A read of MBOX LOCK takes the lock for the reader when free, or returns the current owner.
tied: granted out of a group of two or more requests (R62, R417). -/
def execMboxLockRead (ini : Ini) (i : Fin 8) (s : State) (tied : Bool := false) :
    Host.Outcome State Fault Refusal :=
  .next (s.run (fun d => (d.tie tied ini.num (iniAddr ini (F.MBOX_LOCK i).addr) false).readReg ini (F.MBOX_LOCK i).addr))

/-- MBOX_LOCK_RELEASE (R417): A write of 0 to LOCK by the owner while FULL = 0 releases the lock. -/
def execMboxLockRelease (ini : Ini) (i : Fin 8) (s : State) : Host.Outcome State Fault Refusal :=
  .next (s.run (fun d => d.writeReg ini (F.MBOX_LOCK i).addr 0))

/-- MBOX_SEND (R418): A CTRL write with SEND by the owner sets LEN and FULL and the receiver's MBOX_FULL doorbell. -/
def execMboxSend (ini : Ini) (i : Fin 8) (len : BitVec 7) (s : State) : Host.Outcome State Fault Refusal :=
  .next (s.run (fun d => d.writeReg ini (F.MBOX_CTRL_SEND i).addr (BitVec.ofNat 32 (2 ^ 31 + len.toNat))))

/-- MBOX_WITHDRAW (R418): A CTRL write with WITHDRAW clears FULL, TMO and the receiver's doorbell and keeps the lock. -/
def execMboxWithdraw (ini : Ini) (i : Fin 8) (s : State) : Host.Outcome State Fault Refusal :=
  .next (s.run (fun d => d.writeReg ini (F.MBOX_CTRL_WITHDRAW i).addr 0x40000000))

/-- MBOX_TAKE (R418): The receiver's read of the word holding the last byte clears FULL, releases the lock and sets
MBOX_DONE. -/
def execMboxTake (ini : Ini) (i : Fin 8) (s : State) : Host.Outcome State Fault Refusal :=
  .next (s.run (fun d => d.readReg ini (F.MBOX_DATA i ((d.fld (F.MBOX_STATUS_LEN i) - 1) / 4)).addr))

/-- MBOX_TIMEOUT_EXPIRE (R418): FULL standing for MBOX_TIMEOUT ticks sets TMO and MBOX_TMO and raises 0x0B02. -/
def execMboxTimeoutExpire (i : Fin 8) (s : State) : Host.Outcome State Fault Refusal :=
  .next (s.run (fun d => d.mboxExpire i))

/-- PING (R425): Message PING returns its payload. -/
def execPing (s : State) : Host.Outcome State Fault Refusal :=
  .next (s.run (fun d => d.ping))

/-- GET_VERSION (R425): Message GET_VERSION returns firmware, image, topology and ROM versions. -/
def execGetVersion (s : State) : Host.Outcome State Fault Refusal :=
  .next (s.run (fun d => d.getVersion))

/-- GET_STATE (R425): Message GET_STATE returns boot state, draft, band, temperature and newest fault. -/
def execGetState (s : State) : Host.Outcome State Fault Refusal :=
  .next (s.run (fun d => d.getState))

/-- READ_FAULTS (R425): Message READ_FAULTS returns up to 24 fault codes newest first. -/
def execReadFaults (s : State) : Host.Outcome State Fault Refusal :=
  .next (s.run (fun d => d.readFaults))

/-- OPEN_WINDOW (R427): Message OPEN_WINDOW grants an indirect access window inside the POLICY host-access ranges, or
returns REFUSED. -/
def execOpenWindow (s : State) : Host.Outcome State Fault Refusal :=
  .next (s.run (fun d => d.openWindow))

/-- CLOSE_WINDOW (R425): Message CLOSE_WINDOW closes an indirect access window. -/
def execCloseWindow (s : State) : Host.Outcome State Fault Refusal :=
  .next (s.run (fun d => d.closeWindow))

/-- FLASH_ERASE (R425): Message FLASH_ERASE performs an R400 erase operation in RECOVERY. -/
def execFlashErase (s : State) : Host.Outcome State Fault Refusal :=
  .next (s.run (fun d => d.flashErase))

/-- FLASH_WRITE (R425): Message FLASH_WRITE performs an R400 write operation in RECOVERY. -/
def execFlashWrite (s : State) : Host.Outcome State Fault Refusal :=
  .next (s.run (fun d => d.flashWrite))

/-- FLASH_END (R425): Message FLASH_END performs an R400 END hash check in RECOVERY. -/
def execFlashEnd (s : State) : Host.Outcome State Fault Refusal :=
  .next (s.run (fun d => d.flashEnd))

/-- PROOF_CLEAR (R425): Message PROOF_CLEAR presents a signed clear token on the host path. -/
def execProofClear (s : State) : Host.Outcome State Fault Refusal :=
  .next (s.run (fun d => d.proofClearMsg))

/-- MESSAGE_PART (R424): A non-final part of a multi-part request is collected and acknowledged with PLEN 0. -/
def execMessagePart (s : State) : Host.Outcome State Fault Refusal :=
  .next (s.run (fun d => d.messagePart))

/-- IND_READ (R428): IND_CTRL.GO without WRITE performs one 32-bit read at the indirect address into IND_DATA. -/
def execIndRead (autoinc : Bool) (s : State) : Host.Outcome State Fault Refusal :=
  .next (s.run (fun d => d.indGo false autoinc))

/-- IND_WRITE (R428): IND_CTRL.GO with WRITE performs one 32-bit write of IND_DATA at the indirect address. -/
def execIndWrite (autoinc : Bool) (s : State) : Host.Outcome State Fault Refusal :=
  .next (s.run (fun d => d.indGo true autoinc))

/-- IND_AUTOINC_READ (R428): With AUTOINC a read of IND_DATA advances the address and starts the next read. -/
def execIndAutoincRead (s : State) : Host.Outcome State Fault Refusal :=
  .next (s.run (fun d => d.indAutoRead))

/-- IND_AUTOINC_WRITE (R428): With AUTOINC a write of IND_DATA performs a write and advances the address. -/
def execIndAutoincWrite (v : Word) (s : State) : Host.Outcome State Fault Refusal :=
  .next (s.run (fun d => d.indAutoWrite v))

/-- IND_ACCESS_DONE (R428): An indirect access completes, clearing BUSY and setting ERR and raising 0x0B06 on refusal. -/
def execIndAccessDone (s : State) : Host.Outcome State Fault Refusal :=
  .next (s.run (fun d => d.indDone))

end Sys2Proof.Machine
end

