-- ==== Sys2Proof/Machine/CmdI3c.lean ====
section
/-! DEFINITION. The meanings of commands. The I3C target: CCCs, transfers, in-band requests (R406 to R413, R422). -/

namespace Sys2Proof.Machine

/-- ENEC (R408): CCC ENEC enables in-band interrupts and Hot-Join. -/
def execEnec (direct : Bool) (ev : Byte) (s : State) : Host.Outcome State Fault Refusal :=
  .next (s.run (fun d => d.enec direct ev))

/-- DISEC (R408): CCC DISEC disables in-band interrupts and Hot-Join. -/
def execDisec (direct : Bool) (ev : Byte) (s : State) : Host.Outcome State Fault Refusal :=
  .next (s.run (fun d => d.disec direct ev))

/-- ENTAS (R408): CCC ENTAS0 to ENTAS3 are accepted without effect. -/
def execEntas (direct : Bool) (s : State) : Host.Outcome State Fault Refusal :=
  .next (s.run (fun d => d.entas direct))

/-- RSTDAA (R408): CCC RSTDAA clears the dynamic address so the static address answers again. -/
def execRstdaa (s : State) : Host.Outcome State Fault Refusal :=
  .next (s.run (fun d => d.rstdaa))

/-- ENTDAA (R408): CCC ENTDAA arbitrates with PID, BCR and DCR and assigns a dynamic address. -/
def execEntdaa (a : BitVec 7) (won : Bool) (s : State) : Host.Outcome State Fault Refusal :=
  .next (s.run (fun d => d.entdaa a won))

/-- SETMWL (R408): CCC SETMWL sets the maximum write length, NACKing values outside 8 to 260. -/
def execSetmwl (direct : Bool) (v : BitVec 16) (s : State) : Host.Outcome State Fault Refusal :=
  .next (s.run (fun d => d.setmwl direct v))

/-- SETMRL (R408): CCC SETMRL sets the maximum read length, NACKing values outside 4 to 256. -/
def execSetmrl (direct : Bool) (v : BitVec 16) (s : State) : Host.Outcome State Fault Refusal :=
  .next (s.run (fun d => d.setmrl direct v))

/-- ENTHDR0 (R408): CCC ENTHDR0 enters HDR-DDR mode. -/
def execEnthdr0 (s : State) : Host.Outcome State Fault Refusal :=
  .next (s.run (fun d => d.enthdr0))

/-- RSTACT (R408): CCC RSTACT configures the target reset action, which acts as a RESET_N assertion at the next reset
pattern. -/
def execRstact (direct : Bool) (byte : Option Byte) (s : State) : Host.Outcome State Fault Refusal :=
  .next (s.run (fun d => d.rstact direct byte))

/-- TARGET_RESET_PATTERN (R408): A target reset pattern with RSTACT configured to reset acts as a RESET_N pulse. -/
def execTargetResetPattern (s : State) : Host.Outcome State Fault Refusal :=
  .next (s.run (fun d => d.resetPattern))

/-- SETDASA (R408): CCC SETDASA assigns a dynamic address at the static address. -/
def execSetdasa (a : BitVec 7) (s : State) : Host.Outcome State Fault Refusal :=
  .next (s.run (fun d => d.setdasa a))

/-- SETNEWDA (R408): CCC SETNEWDA changes the dynamic address. -/
def execSetnewda (a : BitVec 7) (s : State) : Host.Outcome State Fault Refusal :=
  .next (s.run (fun d => d.setnewda a))

/-- GETMWL (R408): CCC GETMWL returns the maximum write length. -/
def execGetmwl (s : State) : Host.Outcome State Fault Refusal :=
  .next (s.run (fun d => d.getmwl))

/-- GETMRL (R408): CCC GETMRL returns the maximum read length. -/
def execGetmrl (s : State) : Host.Outcome State Fault Refusal :=
  .next (s.run (fun d => d.getmrl))

/-- GETPID (R407): CCC GETPID returns the provisional ID built from the instance straps. -/
def execGetpid (s : State) : Host.Outcome State Fault Refusal :=
  .next (s.run (fun d => d.getpid))

/-- GETBCR (R407): CCC GETBCR returns 0x26. -/
def execGetbcr (s : State) : Host.Outcome State Fault Refusal :=
  .next (s.run (fun d => d.getbcr))

/-- GETDCR (R407): CCC GETDCR returns 0x00. -/
def execGetdcr (s : State) : Host.Outcome State Fault Refusal :=
  .next (s.run (fun d => d.getdcr))

/-- GETSTATUS (R408): CCC GETSTATUS returns READY, boot state, protocol error and pending doorbell count. -/
def execGetstatus (s : State) : Host.Outcome State Fault Refusal :=
  .next (s.run (fun d => d.getstatus))

/-- GETMXDS (R408): CCC GETMXDS returns no clock limit. -/
def execGetmxds (s : State) : Host.Outcome State Fault Refusal :=
  .next (s.run (fun d => d.getmxds))

/-- GETCAPS (R408): CCC GETCAPS returns I3C v1.1 and HDR-DDR capability. -/
def execGetcaps (s : State) : Host.Outcome State Fault Refusal :=
  .next (s.run (fun d => d.getcaps))

/-- UNSUPPORTED_CCC (R408): A direct CCC not listed is NACKed and a broadcast one ignored. -/
def execUnsupportedCcc (direct : Bool) (s : State) : Host.Outcome State Fault Refusal :=
  .next (s.run (fun d => d.unsupported direct))

/-- I3C_PROTOCOL_ERROR (R408): A target protocol error TE0 to TE6 is handled per the specification, counted and raises
0x0B05. -/
def execI3cProtocolError (s : State) : Host.Outcome State Fault Refusal :=
  .next (s.run (fun d => d.protocolError))

/-- PRIVATE_WRITE (R409): An SDR or HDR-DDR private write sets the window offset and writes whole words to the host
window. -/
def execPrivateWrite (ddr : Option Byte) (bytes : List Byte) (s : State) : Host.Outcome State Fault Refusal :=
  .next (s.run (fun d => d.privateWrite ddr bytes))

/-- PRIVATE_READ (R409): An SDR or HDR-DDR private read returns words from the offset in force, advancing it. -/
def execPrivateRead (ddr : Option Byte) (len : Fin 257) (s : State) : Host.Outcome State Fault Refusal :=
  .next (s.run (fun d => d.privateRead ddr len))

/-- I2C_TRANSFER (R410): A legacy I2C transfer at the static address is served as a private transfer until a dynamic
address is held. -/
def execI2cTransfer (wr : List Byte) (rd : Fin 257) (s : State) : Host.Outcome State Fault Refusal :=
  .next (s.run (fun d => d.i2cTransfer wr rd))

/-- HOT_JOIN_REQUEST (R413): After release the target issues a Hot-Join at a bus-available condition, repeating no
sooner than 1 ms. -/
def execHotJoinRequest (acked : Bool) (s : State) : Host.Outcome State Fault Refusal :=
  .next (s.run (fun d => d.hotJoin acked))

/-- IBI_REQUEST (R422): An enabled doorbell bit changing to 1 requests an IBI carrying the doorbell summary byte. -/
def execIbiRequest (acked : Bool) (s : State) : Host.Outcome State Fault Refusal :=
  .next (s.run (fun d => d.ibiRequest acked))

end Sys2Proof.Machine
end

