-- ==== Sys2Proof/Machine/CmdIntegrity.lean ====
section
/-! DEFINITION. The meanings of commands. Memory integrity: Burnishers, correction, remapping, invalidation, raw access, refresh
(R333 to R344). -/

namespace Sys2Proof.Machine

/-- SCRUB_READ (R341): A Burnisher reads the next location of its memory, queueing correctable errors and reporting
uncorrectable ones. -/
def execScrubRead (b : IntBlk) (vf : List Bool) (clash : Option Clash) (s : State) (bitmap : Bool := false) :
    Host.Outcome State Fault Refusal :=
  .next (s.run (fun d => d.scrubRead b vf clash bitmap))

/-- CORRECTION_WRITEBACK (R338): The Burnisher writes back the corrected value of a queued location in one access and
logs its hit. -/
def execCorrectionWriteback (b : IntBlk) (s : State) : Host.Outcome State Fault Refusal :=
  .next (s.run (fun d => d.correction b))

/-- REMAP_WRITE (R340): A write of VALID = 1 to a REMAP entry remaps its location to a spare, copying its content. -/
def execRemapWrite (ini : Ini) (b : IntBlk) (k e : Fin 32) (v : Word) (s : State) : Host.Outcome State Fault Refusal :=
  .next (s.run (fun d => d.writeReg ini (b.remapAddr k e) (v ||| 0x80000000)))

/-- LOG_CLEAR (R339): A write of LOG_CLEAR empties the correctable-error log. -/
def execLogClear (ini : Ini) (b : IntBlk) (s : State) : Host.Outcome State Fault Refusal :=
  .next (s.run (fun d => d.writeReg ini b.logClearAddr 1))

/-- INVAL_GO (R333): A write of INVAL_CMD.GO starts clearing the valid bits of a range of LPDDR4X pages. -/
def execInvalGo (ini : Ini) (m : Fin 4) (s : State) : Host.Outcome State Fault Refusal :=
  .next (s.run (fun d => d.writeCmd ini (F.MC_INVAL_CMD_GO m) 1))

/-- INVAL_DONE (R333): The page invalidation completes and INVAL_CMD.BUSY clears. -/
def execInvalDone (m : Fin 4) (s : State) : Host.Outcome State Fault Refusal :=
  .next (s.run (fun d => d.invalDone m))

/-- RAW_READ (R344): RAW_CMD READ fetches a word or page with its check bits, without correction. -/
def execRawRead (ini : Ini) (b : IntBlk) (s : State) : Host.Outcome State Fault Refusal :=
  .next (s.run (fun d => d.viaPath ini b.rawCmdAddr (fun _ d => d.rawCmd ini.num b.block 1 [])))

/-- RAW_WRITE (R344): RAW_CMD WRITE stores data and check bits unchanged, verifying plate writes. -/
def execRawWrite (ini : Ini) (b : IntBlk) (vf : List Bool) (s : State) : Host.Outcome State Fault Refusal :=
  .next (s.run (fun d => d.viaPath ini b.rawCmdAddr (fun _ d => d.rawCmd ini.num b.block 2 vf)))

/-- RAW_GET (R344): RAW_CMD GET moves a 32-byte chunk of the raw buffer to RAW_DATA. -/
def execRawGet (ini : Ini) (b : IntBlk) (s : State) : Host.Outcome State Fault Refusal :=
  .next (s.run (fun d => d.viaPath ini b.rawCmdAddr (fun _ d => d.rawCmd ini.num b.block 3 [])))

/-- RAW_PUT (R344): RAW_CMD PUT moves RAW_DATA into a chunk of the raw buffer, and is refused for SRAM. -/
def execRawPut (ini : Ini) (b : IntBlk) (s : State) : Host.Outcome State Fault Refusal :=
  .next (s.run (fun d => d.viaPath ini b.rawCmdAddr (fun _ d => d.rawCmd ini.num b.block 4 [])))

/-- REFRESH_RATE_POLL (R337): Every 1 ms each controller reads its device temperature and applies the required refresh
rate or reports HOT. -/
def execRefreshRatePoll (m rate : Fin 4) (hot : Bool) (s : State) : Host.Outcome State Fault Refusal :=
  .next (s.run (fun d => d.refreshPoll m rate hot))

end Sys2Proof.Machine
end

