-- ==== Sys2Proof/Machine/CmdPair.lean ====
section
/-! DEFINITION. The meanings of commands. Redundant pair operation (R449 to R465). -/

namespace Sys2Proof.Machine

/-- HELLO (R449): A received CONTROL HELLO resolves roles and image match and may start resynchronisation. -/
def execHello (s : State) : Host.Outcome State Fault Refusal :=
  .next (s.run (fun d => d.helloRx))

/-- JOIN_WAIT_EXPIRE (R449): A MATE that receives no LEAD HELLO within JOIN_WAIT becomes LEAD and runs alone. -/
def execJoinWaitExpire (s : State) : Host.Outcome State Fault Refusal :=
  .next (s.run (fun d => d.joinWaitExpire))

/-- DRAFT (R453): A received CONTROL DRAFT supplies the draft and band for the MATE's next frame start. -/
def execDraft (s : State) : Host.Outcome State Fault Refusal :=
  .next (s.run (fun d => d.draftRx))

/-- KEEPALIVE (R452): A received CONTROL KEEPALIVE refreshes mirror liveness and the partner's FORCED state. -/
def execKeepalive (s : State) : Host.Outcome State Fault Refusal :=
  .next (s.run (fun d => d.keepaliveRx))

/-- FORCED (R453): A received CONTROL FORCED informs the LEAD of the MATE's Hardground forced state. -/
def execForced (s : State) : Host.Outcome State Fault Refusal :=
  .next (s.run (fun d => d.forcedRx))

/-- DIVERGE (R460): A received CONTROL DIVERGE gives the partner's SUSPECT bit for a mismatch decision. -/
def execDiverge (s : State) : Host.Outcome State Fault Refusal :=
  .next (s.run (fun d => d.divergeRx))

/-- DECIDE (R460): A received CONTROL DECIDE makes the MATE resynchronise or swap roles from the effective frame. -/
def execDecideMsg (s : State) : Host.Outcome State Fault Refusal :=
  .next (s.run (fun d => d.decideRx))

/-- RESYNC_REQ (R462): A received RESYNC_REQ makes the LEAD start dirty tracking and send the state set. -/
def execResyncReq (s : State) : Host.Outcome State Fault Refusal :=
  .next (s.run (fun d => d.resyncReqRx))

/-- JOIN (R462): A received JOIN sets the CSI-2 frame number at which both parts cut their input. -/
def execJoin (s : State) : Host.Outcome State Fault Refusal :=
  .next (s.run (fun d => d.joinRx))

/-- CUTOVER (R462): A received CUTOVER makes the MATE set its steps, frames and streams and start its Stipple net and
schedule. -/
def execCutover (s : State) : Host.Outcome State Fault Refusal :=
  .next (s.run (fun d => d.cutoverRx))

/-- NACK (R462): A received NACK marks its state block dirty for resending. -/
def execNack (s : State) : Host.Outcome State Fault Refusal :=
  .next (s.run (fun d => d.nackRx))

/-- STATE_BLOCK (R461): A received STATE_BLOCK is written by the MATE's resync engine at its logical address. -/
def execStateBlock (s : State) : Host.Outcome State Fault Refusal :=
  .next (s.run (fun d => d.stateBlockRx))

/-- RESYNC_BLOCK_SEND (R462): The LEAD sends the next bulk or dirty state block as a STATE_BLOCK packet. -/
def execResyncBlockSend (s : State) : Host.Outcome State Fault Refusal :=
  .next (s.run (fun d => d.resyncSend))

/-- STEP_DIGEST (R457): A received STEP_DIGEST is compared with the part's own digest of that step. -/
def execStepDigest (s : State) : Host.Outcome State Fault Refusal :=
  .next (s.run (fun d => d.stepDigestRx))

/-- FRAME_DIGEST (R457): A received FRAME_DIGEST is compared with the part's own digest of that frame. -/
def execFrameDigest (s : State) : Host.Outcome State Fault Refusal :=
  .next (s.run (fun d => d.frameDigestRx))

/-- SUSPECT_WAIT_EXPIRE (R460): After 20 µs without the partner's SUSPECT bit the LEAD takes it as 0 and decides. -/
def execSuspectWaitExpire (s : State) : Host.Outcome State Fault Refusal :=
  .next (s.run (fun d => d.suspectWait))

/-- HB_TOGGLE (R451): While ALIVE the part toggles MATE_HB_OUT every HB_HALF ticks. -/
def execHbToggle (s : State) : Host.Outcome State Fault Refusal :=
  .next (s.run (fun d => d.hbToggle))

/-- MIRROR_KEEPALIVE_DUE (R451): An ALIVE part with no mirror packet for HB_TIMEOUT/2 ticks sends CONTROL KEEPALIVE. -/
def execMirrorKeepaliveDue (s : State) : Host.Outcome State Fault Refusal :=
  .next (s.run (fun d => d.mirrorDue))

/-- PARTNER_HB_LOST (R458): No MATE_HB_IN edge for HB_TIMEOUT ticks marks the partner heartbeat lost and evaluates
failover. -/
def execPartnerHbLost (s : State) : Host.Outcome State Fault Refusal :=
  .next (s.run (fun d => d.partnerHbLost))

/-- MIRROR_SILENT (R458): No valid mirror packet for HB_TIMEOUT ticks marks the mirror link silent and evaluates
failover. -/
def execMirrorSilent (s : State) : Host.Outcome State Fault Refusal :=
  .next (s.run (fun d => d.mirrorSilent))

/-- PAIR_KICK (R451): A write of PAIR.KICK by SCRIBE[3] keeps the part ALIVE. -/
def execPairKick (ini : Ini) (s : State) : Host.Outcome State Fault Refusal :=
  .next (s.run (fun d => d.writeCmd ini F.PAIR_KICK 1))

/-- PAIR_RESYNC_CMD (R465): PAIR.CMD RESYNC on a MATE requests a resynchronisation. -/
def execPairResyncCmd (ini : Ini) (s : State) : Host.Outcome State Fault Refusal :=
  .next (s.run (fun d => d.writeCmd ini F.PAIR_CMD 1))

/-- DEMOTE (R465): PAIR.CMD DEMOTE on a LEAD swaps roles at the next frame. -/
def execDemote (ini : Ini) (s : State) : Host.Outcome State Fault Refusal :=
  .next (s.run (fun d => d.writeCmd ini F.PAIR_CMD 2))

/-- LEAVE (R465): PAIR.CMD LEAVE makes the part single and releases DIVERGE_N. -/
def execLeave (ini : Ini) (s : State) : Host.Outcome State Fault Refusal :=
  .next (s.run (fun d => d.writeCmd ini F.PAIR_CMD 3))

/-- MATE_HB_IN_EDGE (R451): An edge on MATE_HB_IN restarts the partner-heartbeat timeout and sets HB_LIVE again after a
loss. -/
def execMateHbInEdge (s : State) : Host.Outcome State Fault Refusal :=
  .next (s.run (fun d => d.hbInEdge))

/-- PAIR_KICK_EXPIRE (R451): When SCRIBE[3] has not written PAIR.KICK within HB_TIMEOUT/2 ticks the part stops being
ALIVE, holding MATE_HB_OUT and sending no mirror packets. -/
def execPairKickExpire (s : State) : Host.Outcome State Fault Refusal :=
  .next (s.run (fun d => d.pairKickExpire))

end Sys2Proof.Machine
end

