-- ==== Sys2Proof/Machine/CmdPower.lean ====
section
/-! DEFINITION. The meanings of commands. Power domains, bands, sensors, the power policy and Hardground (R351 to R370). -/

namespace Sys2Proof.Machine

/-- VOTE_WRITE (R353): A write of PWR.VOTE by a client's owner sets its votes and re-resolves the domain states. -/
def execVoteWrite (ini : Ini) (cl : Fin 32) (w : Fin 8) (v : Word) (s : State) : Host.Outcome State Fault Refusal :=
  .next (s.run (fun d => d.writeReg ini (F.PWR_VOTE cl w).addr v))

/-- DOMAIN_RAISE (R357): A domain whose resolved state rises begins its wake order, subject to the inrush limits. -/
def execDomainRaise (i : Fin 127) (s : State) : Host.Outcome State Fault Refusal :=
  .next (s.run (fun d => d.domainRaise i))

/-- WAKE_STEP_READY (R357): A wake step reports ready and the next begins, the last opening isolation and reporting ON. -/
def execWakeStepReady (i : Fin 127) (s : State) : Host.Outcome State Fault Refusal :=
  .next (s.run (fun d => d.wakeStep i))

/-- WAKE_STEP_TIMEOUT (R357): A wake step not ready within twice its maximum leaves the domain OFF and raises 0x0709. -/
def execWakeStepTimeout (i : Fin 127) (s : State) : Host.Outcome State Fault Refusal :=
  .next (s.run (fun d => d.wakeTimeout i))

/-- LOWER_HOLD_EXPIRE (R354): A lower resolved state that has stood for HOLD ticks starts the domain's leaving sequence. -/
def execLowerHoldExpire (i : Fin 127) (s : State) : Host.Outcome State Fault Refusal :=
  .next (s.run (fun d => d.holdExpire i))

/-- DOMAIN_ISOLATE (R355): Once the unit is quiescent and its boundary links are empty, isolation closes and the
supplies switch to RET or OFF. -/
def execDomainIsolate (i : Fin 127) (s : State) : Host.Outcome State Fault Refusal :=
  .next (s.run (fun d => d.isolate i))

/-- DRAIN_LIMIT_EXPIRE (R355): A lowering not quiescent within DRAIN_LIMIT is abandoned, counted and raises 0x0702. -/
def execDrainLimitExpire (i : Fin 127) (s : State) : Host.Outcome State Fault Refusal :=
  .next (s.run (fun d => d.drainExpire i))

/-- FORCED_LOWER_TIMEOUT (R356): A domain not quiescent within 10 µs of a Hardground override has its in-flight
transfers discarded and raises 0x070A. -/
def execForcedLowerTimeout (i : Fin 127) (s : State) : Host.Outcome State Fault Refusal :=
  .next (s.run (fun d => d.forcedTimeout i))

/-- I3C_ADDRESS_WAKE (R360): An I3C address match while SCRIBE[0] is not ON restores gated clocks and votes SCRIBE[0]
ON. -/
def execI3cAddressWake (s : State) : Host.Outcome State Fault Refusal :=
  .next (s.run (fun d => d.addressWake))

/-- BAND_CHANGE_START (R361): At a frame boundary, or at once with no frame, a new BAND_REQ starts the voltage slew with
TRANSITION set. -/
def execBandChangeStart (s : State) : Host.Outcome State Fault Refusal :=
  .next (s.run (fun d => d.bandStart))

/-- BAND_CHANGE_END (R361): When the supply is in the target band and rings recalibrate, VB takes the target and
TRANSITION clears. -/
def execBandChangeEnd (s : State) : Host.Outcome State Fault Refusal :=
  .next (s.run (fun d => d.bandEnd))

/-- SENSOR_SAMPLE (R362): Each thermal sensor is sampled every 10 µs, updating TS_MAX and reporting failed self-checks. -/
def execSensorSample (i : Fin 16) (reading : Option (BitVec 16)) (s : State) : Host.Outcome State Fault Refusal :=
  .next (s.run (fun d => d.sensorSample i reading))

/-- RAIL_SAMPLE (R363): Each rail monitor samples every 1 µs, updating power averages and energy counts. -/
def execRailSample (r : Fin 9) (mw : BitVec 32) (s : State) : Host.Outcome State Fault Refusal :=
  .next (s.run (fun d => d.railSample r mw))

/-- POWER_POLICY_STEP (R366): At each frame boundary the power policy chooses a ladder point and writes NEXT_DRAFT and
BAND_REQ. -/
def execPowerPolicyStep (s : State) : Host.Outcome State Fault Refusal :=
  .next (s.run (fun d => d.policyStep))

/-- CAP_EXCEEDED (R367): PKG_POWER above HG.CFG.CAP applies a current limit within 2 µs, raises 0x0701 and sets the
forced point. -/
def execCapExceeded (s : State) : Host.Outcome State Fault Refusal :=
  .next (s.run (fun d => d.capExceeded))

/-- THERMAL_WARN (R367): TS_MAX at or above WARN raises 0x0703. -/
def execThermalWarn (s : State) : Host.Outcome State Fault Refusal :=
  .next (s.run (fun d => d.thermalWarn))

/-- THERMAL_TRIP (R367): TS_MAX at 110 °C raises 0x0704 and sets the forced point. -/
def execThermalTrip (s : State) : Host.Outcome State Fault Refusal :=
  .next (s.run (fun d => d.thermalTrip))

/-- TRIP_LIMIT_TIMER (R367): If no frame boundary follows a trip within 1 ms and the cause stands, a current limit at
half the cap applies. -/
def execTripLimitTimer (s : State) : Host.Outcome State Fault Refusal :=
  .next (s.run (fun d => d.tripLimitTimer))

/-- MC_HOT_CAUSE (R367): A controller reporting HOT sets the MC_HOT cause and the forced point. -/
def execMcHotCause (s : State) : Host.Outcome State Fault Refusal :=
  .next (s.run (fun d => d.mcHotCause))

/-- SENSOR_CAUSE (R367): A sensor failing its self-check sets the SENSOR cause and the forced point. -/
def execSensorCause (s : State) : Host.Outcome State Fault Refusal :=
  .next (s.run (fun d => d.sensorCause))

/-- WATCHDOG_EXPIRE (R367): No HG.KICK for WD_MS ms from READY raises 0x0706 and sets the forced point. -/
def execWatchdogExpire (s : State) : Host.Outcome State Fault Refusal :=
  .next (s.run (fun d => d.watchdogExpire))

/-- CAUSE_CLEAR (R367): A Hardground cause whose clearing condition is met clears, FORCED staying until RELEASE. -/
def execCauseClear (cause : Fin 5) (s : State) : Host.Outcome State Fault Refusal :=
  .next (s.run (fun d => d.causeClear cause))

/-- HG_KICK (R367): A write of HG.KICK restarts the policy watchdog. -/
def execHgKick (ini : Ini) (s : State) : Host.Outcome State Fault Refusal :=
  .next (s.run (fun d => d.writeCmd ini F.HG_KICK 1))

/-- HG_RELEASE (R367): A write of HG.RELEASE ends the forced state when no cause is set. -/
def execHgRelease (ini : Ini) (s : State) : Host.Outcome State Fault Refusal :=
  .next (s.run (fun d => d.writeCmd ini F.HG_RELEASE 1))

/-- HG_CFG_WRITE (R369): A Scribe write of HG.CFG sets CAP, WARN and WD_MS within their fixed ceilings and restarts the
watchdog. -/
def execHgCfgWrite (ini : Ini) (v : Word) (s : State) : Host.Outcome State Fault Refusal :=
  .next (s.run (fun d => d.writeReg ini F.HG_CFG_CAP.addr v))

/-- REGULATOR_FLOOR_TIMEOUT (R368): Regulators holding the 0.56 V floor for 100 µs start the shutdown sequence. -/
def execRegulatorFloorTimeout (s : State) : Host.Outcome State Fault Refusal :=
  .next (s.run (fun d => d.floorTimeout))

/-- THERMAL_SHUTDOWN (R370): A sample at or above 115 °C asserts FAULT_N, empties every domain, turns them OFF or RET
and holds the part in FAULT. -/
def execThermalShutdown (s : State) : Host.Outcome State Fault Refusal :=
  .next (s.run (fun d => d.thermalShutdown))

end Sys2Proof.Machine
end

