-- ==== Sys2Proof/Machine/CmdProof.lean ====
section
/-! DEFINITION. The meanings of commands. The Proof log, faults and recovery (R484 to R512). -/

namespace Sys2Proof.Machine

/-- RECORD_STAGE (R493): When its last snapshot read completes, the record is staged with its sequence number. -/
def execRecordStage (s : State) : Host.Outcome State Fault Refusal :=
  .next (s.run (fun d => d.recordStage))

/-- RECORD_COMMIT (R484): The head staged record is merged into its plate page and written with verify once the core's
domain is ON. -/
def execRecordCommit (vf : List Bool) (s : State) : Host.Outcome State Fault Refusal :=
  .next (s.run (fun d => d.recordCommit vf))

/-- TIME_RECORD (R488): While synchronised, a TIME record is staged every TIME_PERIOD seconds. -/
def execTimeRecord (s : State) : Host.Outcome State Fault Refusal :=
  .next (s.run (fun d => d.timeRecord))

/-- CLEAR_PAGE_ZERO (R495): With CLEARING set the front end zeroes the next page of slots at or below FLOOR. -/
def execClearPageZero (vf : List Bool) (s : State) : Host.Outcome State Fault Refusal :=
  .next (s.run (fun d => d.clearPage vf))

/-- BUCKET_REFILL (R491): The Proof log's per-code and global buckets gain tokens from TIMEBASE. -/
def execBucketRefill (s : State) : Host.Outcome State Fault Refusal :=
  .next (s.run (fun d => d.bucketRefill))

/-- HG_DECLARE (R504): A write of HG.DECLARE declares the named party faulty, raising 0x0710 and starting revocation.
tied: served out of a group of two or more declarations (R62, R505). -/
def execHgDeclare (ini : Ini) (party : Fin 128) (s : State) (tied : Bool := false) :
    Host.Outcome State Fault Refusal :=
  .next (s.run (fun d => (d.tie tied ini.num (iniAddr ini F.HG_DECLARE.addr) true).writeCmd ini F.HG_DECLARE party))

/-- DECLARE_SWEEP_DONE (R509): The Rack's sweep of the descriptor table for a declared claimant completes and its
DECLARED bit clears. -/
def execDeclareSweepDone (party : Fin 128) (s : State) : Host.Outcome State Fault Refusal :=
  .next (s.run (fun d => d.sweepDone party))

/-- SCRIBE_WD_EXPIRE (R510): A Scribe that misses its kick for SCRIBE_WD ms is declared with 0x0711. -/
def execScribeWdExpire (n : Fin 4) (s : State) : Host.Outcome State Fault Refusal :=
  .next (s.run (fun d => d.scribeWdExpire n))

/-- SCRIBE_RESTART (R510): When a declared Scribe's domain reads ON again, its firmware is reloaded, checked and
released. -/
def execScribeRestart (n : Fin 4) (s : State) : Host.Outcome State Fault Refusal :=
  .next (s.run (fun d => d.scribeRestart n))

/-- SCRIBE_KICK (R510): A write of HG.SCRIBE_KICK bit n by SCRIBE[n] restarts its watchdog and completes a restart with
0x0713. -/
def execScribeKick (ini : Ini) (mask : BitVec 4) (s : State) : Host.Outcome State Fault Refusal :=
  .next (s.run (fun d => d.writeCmd ini F.HG_SCRIBE_KICK mask.toNat))

/-- SCRIBE_RESTART_TIMEOUT (R510): A restart that fails its check or has not kicked within 2 x SCRIBE_WD raises 0x0714
and holds the Scribe in reset. -/
def execScribeRestartTimeout (n : Fin 4) (s : State) : Host.Outcome State Fault Refusal :=
  .next (s.run (fun d => d.restartTimeout n))

/-- PART_RESTART (R512): A write of HG.CMD RESTART records 0x0716 and acts as an assertion and release of RESET_N. -/
def execPartRestart (ini : Ini) (s : State) : Host.Outcome State Fault Refusal :=
  .next (s.run (fun d => d.writeCmd ini F.HG_CMD 1))

end Sys2Proof.Machine
end

