-- ==== Sys2Proof/Machine/CmdRack.lean ====
section
/-! DEFINITION. The meanings of commands. Rack queues (R306 to R323, R164). -/

namespace Sys2Proof.Machine

/-- RACK_PRODUCE (R308): A produce is resolved against the ring, writing the record and any PAD and committing, or
waiting, dropping or rejecting.  tied: the queue's serialiser grants it out of a group of two or more requests (R62,
R315). -/
def execRackProduce (s : State) (tied ue : Bool := false) :
    Host.Outcome State Fault Refusal :=
  .next (s.run (fun d => (d.tieRack tied).rackProduceReq ue))

/-- BLOCKED_PRODUCE_RETRY (R309): A produce waiting under BLOCK retries when the head advances. -/
def execBlockedProduceRetry (q : BitVec 22) (s : State) (ue : Bool := false) :
    Host.Outcome State Fault Refusal :=
  .next (s.run (fun d => d.blockedRetry q.toNat ue))

/-- RACK_CONSUME (R311): A hardware consume takes the head DATA record, passing PADs, or waits while the queue is empty. -/
def execRackConsume (claimant : Fin 128) (q : BitVec 22) (s : State) (tied ue : Bool := false) :
    Host.Outcome State Fault Refusal :=
  .next (s.run (fun d => (d.tieRack tied).rackConsume claimant q.toNat ue))

/-- CONSUME_DUE (R164): A consume-due takes the head record only when it is due by DUE16 and answers KIND 1, or answers
KIND 2. -/
def execConsumeDue (s : State) (tied ue : Bool := false) :
    Host.Outcome State Fault Refusal :=
  .next (s.run (fun d => (d.tieRack tied).consumeDueReq ue))

/-- DQ_READ (R322): DQ_CMD READ returns the selected descriptor in DQ_DATA. -/
def execDqRead (ini : Ini) (s : State) : Host.Outcome State Fault Refusal :=
  .next (s.run (fun d => d.writeReg ini 0x0320000104 1))

/-- DQ_INIT (R322): DQ_CMD INIT writes DQ_DATA as the descriptor of an invalid or frozen queue after its checks. -/
def execDqInit (ini : Ini) (s : State) : Host.Outcome State Fault Refusal :=
  .next (s.run (fun d => d.writeReg ini 0x0320000104 2))

/-- DQ_DISABLE (R322): DQ_CMD DISABLE clears VALID after the operation in progress and discards waiting produces. -/
def execDqDisable (ini : Ini) (s : State) : Host.Outcome State Fault Refusal :=
  .next (s.run (fun d => d.writeReg ini 0x0320000104 3))

/-- CLAIM_P (R313): CLAIM_P takes the producer claim of the selected queue when it is 0. -/
def execClaimP (ini : Ini) (s : State) : Host.Outcome State Fault Refusal :=
  .next (s.run (fun d => d.writeReg ini 0x0320000104 4))

/-- CLAIM_C (R313): CLAIM_C takes the consumer claim of the selected queue when it is 0. -/
def execClaimC (ini : Ini) (s : State) : Host.Outcome State Fault Refusal :=
  .next (s.run (fun d => d.writeReg ini 0x0320000104 5))

/-- RELEASE_P (R313): RELEASE_P gives up the writer's producer claim. -/
def execReleaseP (ini : Ini) (s : State) : Host.Outcome State Fault Refusal :=
  .next (s.run (fun d => d.writeReg ini 0x0320000104 6))

/-- RELEASE_C (R313): RELEASE_C gives up the writer's consumer claim. -/
def execReleaseC (ini : Ini) (s : State) : Host.Outcome State Fault Refusal :=
  .next (s.run (fun d => d.writeReg ini 0x0320000104 7))

/-- REVOKE_P (R314): REVOKE_P by Hardground closes an open reservation as PAD, discards waiting produces and clears
PCLAIM. -/
def execRevokeP (ini : Ini) (s : State) : Host.Outcome State Fault Refusal :=
  .next (s.run (fun d => d.writeReg ini 0x0320000104 8))

/-- REVOKE_C (R314): REVOKE_C by Hardground abandons the peeked record and clears CCLAIM. -/
def execRevokeC (ini : Ini) (s : State) : Host.Outcome State Fault Refusal :=
  .next (s.run (fun d => d.writeReg ini 0x0320000104 9))

/-- FLUSH_ONE (R322): DQ_CMD FLUSH_ONE writes back the cached descriptor of the selected queue. -/
def execFlushOne (ini : Ini) (s : State) : Host.Outcome State Fault Refusal :=
  .next (s.run (fun d => d.writeReg ini 0x0320000104 10))

/-- RESERVE (R319): SW_CMD RESERVE resolves a record of SW_LEN bytes and opens a reservation, or returns FULL. -/
def execReserve (ini : Ini) (s : State) : Host.Outcome State Fault Refusal :=
  .next (s.run (fun d => d.writeReg ini 0x0320000120 1))

/-- COMMIT (R319): SW_CMD COMMIT writes the header and commits the open reservation. -/
def execCommit (ini : Ini) (s : State) : Host.Outcome State Fault Refusal :=
  .next (s.run (fun d => d.writeReg ini 0x0320000120 2))

/-- SW_ABORT (R319): SW_CMD ABORT converts the open reservation into a committed PAD record. -/
def execSwAbort (ini : Ini) (s : State) : Host.Outcome State Fault Refusal :=
  .next (s.run (fun d => d.writeReg ini 0x0320000120 3))

/-- PEEK (R319): SW_CMD PEEK returns the head DATA record's header and payload address, or EMPTY. -/
def execPeek (ini : Ini) (s : State) : Host.Outcome State Fault Refusal :=
  .next (s.run (fun d => d.writeReg ini 0x0320000120 4))

/-- SW_RELEASE (R319): SW_CMD RELEASE advances HEAD past the peeked record. -/
def execSwRelease (ini : Ini) (s : State) : Host.Outcome State Fault Refusal :=
  .next (s.run (fun d => d.writeReg ini 0x0320000120 5))

/-- RESERVATION_TIMEOUT (R319): A reservation open longer than RSV_LIMIT ticks is aborted as PAD and raises 0x0183. -/
def execReservationTimeout (q : BitVec 22) (s : State) : Host.Outcome State Fault Refusal :=
  .next (s.run (fun d => d.resvTimeout q.toNat))

/-- RH_IN_RECORD (R317): The Rack's Hatch endpoint turns TOKENS taken tokens into one record produced to the entry's
queue. -/
def execRhInRecord (s : State) : Host.Outcome State Fault Refusal :=
  .next (s.run (fun d => d.rhInRecord))

/-- RH_OUT_RECORD (R317): The Rack's Hatch endpoint consumes a record and offers TOKENS tokens for it, waiting for the
record. -/
def execRhOutRecord (s : State) : Host.Outcome State Fault Refusal :=
  .next (s.run (fun d => d.rhOutRecord))

/-- RACK_START (R323): A write of RACK.CTRL.EN = 1 while STOPPED checks the table base, invalidates it on first start
and enters STARTING. -/
def execRackStart (ini : Ini) (s : State) : Host.Outcome State Fault Refusal :=
  .next (s.run (fun d => d.writeFld ini F.RACK_CTRL_EN 1))

/-- RACK_RUNNING (R323): The Rack enters RUNNING within 20 µs of starting. -/
def execRackRunning (s : State) : Host.Outcome State Fault Refusal :=
  .next (s.run (fun d => d.rackRunning))

/-- RACK_STOP (R323): A write of RACK.CTRL.EN = 0 enters STOPPING, completes operations and flushes the cache. -/
def execRackStop (ini : Ini) (s : State) : Host.Outcome State Fault Refusal :=
  .next (s.run (fun d => d.writeFld ini F.RACK_CTRL_EN 0))

/-- RACK_STOPPED (R323): When the flush completes the Rack empties its cache and becomes STOPPED. -/
def execRackStopped (s : State) : Host.Outcome State Fault Refusal :=
  .next (s.run (fun d => d.rackStopped))

/-- RACK_FLUSH (R306): A write of RACK.CTRL.FLUSH writes every dirty descriptor to the table. -/
def execRackFlush (ini : Ini) (s : State) : Host.Outcome State Fault Refusal :=
  .next (s.run (fun d => d.writeFld ini F.RACK_CTRL_FLUSH 1))

end Sys2Proof.Machine
end

