-- ==== Sys2Proof/Machine/CmdSecurity.lean ====
section
/-! DEFINITION. The meanings of commands. Attestation, tokens, JTAG and provisioning (R435 to R445). -/

namespace Sys2Proof.Machine

/-- ATT_GO (R445): A write of ATT_CTRL.GO clears REPORT and queues a signed report over ATT_NONCE. -/
def execAttGo (ini : Ini) (s : State) : Host.Outcome State Fault Refusal :=
  .next (s.run (fun d => d.writeReg ini F.HOST_ATT_CTRL_GO.addr 1))

/-- ATT_NEW_NONCE (R440): A write of ATT_CTRL.NEW_NONCE creates a new host-path token nonce. -/
def execAttNewNonce (ini : Ini) (s : State) : Host.Outcome State Fault Refusal :=
  .next (s.run (fun d => d.writeReg ini F.HOST_ATT_CTRL_GO.addr 2))

/-- ATT_REPORT_DONE (R444): The key store finishes signing a report, setting DONE and DB_HOST bit 28. -/
def execAttReportDone (s : State) : Host.Outcome State Fault Refusal :=
  .next (s.run (fun d => d.reportDone))

/-- KS_TOKEN_SUBMIT (R440): A Scribe write of TOKEN_CTRL.SUBMIT queues its token buffer for checking. -/
def execKsTokenSubmit (ini : Ini) (s : State) : Host.Outcome State Fault Refusal :=
  .next (s.run (fun d => d.writeReg ini 0x0010600010 1))

/-- KS_NEW_NONCE (R440): A Scribe write of TOKEN_CTRL.NEW_NONCE creates a new nonce for that Scribe's path. -/
def execKsNewNonce (ini : Ini) (s : State) : Host.Outcome State Fault Refusal :=
  .next (s.run (fun d => d.writeReg ini 0x0010600010 2))

/-- TOKEN_CHECK_DONE (R440): The token engine finishes checking a token and either applies it or rejects it with REASON
and 0x0901. -/
def execTokenCheckDone (s : State) : Host.Outcome State Fault Refusal :=
  .next (s.run (fun d => d.tokenDone))

/-- BYPASS (R442): JTAG BYPASS selects the 1-bit bypass register. -/
def execBypass (s : State) : Host.Outcome State Fault Refusal :=
  .next (s.run (fun d => d.jtagBypass))

/-- IDCODE (R442): JTAG IDCODE shifts out 0x1906_474F. -/
def execIdcode (s : State) : Host.Outcome State Fault Refusal :=
  .next (s.run (fun d => d.jtagIdcode))

/-- SAMPLE_PRELOAD (R442): JTAG SAMPLE/PRELOAD captures and preloads the boundary-scan chain. -/
def execSamplePreload (pins load : BitVec 74) (s : State) : Host.Outcome State Fault Refusal :=
  .next (s.run (fun d => d.jtagSample pins load))

/-- EXTEST (R442): JTAG EXTEST drives the balls from the boundary-scan chain. -/
def execExtest (pins load : BitVec 74) (s : State) : Host.Outcome State Fault Refusal :=
  .next (s.run (fun d => d.jtagExtest pins load))

/-- CLAMP (R442): JTAG CLAMP holds the boundary-scan outputs while selecting bypass. -/
def execClamp (s : State) : Host.Outcome State Fault Refusal :=
  .next (s.run (fun d => d.jtagClamp))

/-- HIGHZ (R442): JTAG HIGHZ places the covered outputs in high impedance. -/
def execHighz (s : State) : Host.Outcome State Fault Refusal :=
  .next (s.run (fun d => d.jtagHighz))

/-- CHALLENGE (R442): JTAG CHALLENGE shifts out a new 256-bit JTAG nonce. -/
def execChallenge (s : State) : Host.Outcome State Fault Refusal :=
  .next (s.run (fun d => d.jtagChallenge))

/-- TOKEN (R442): JTAG TOKEN shifts in a 444-byte token and submits it at Update-DR. -/
def execToken (t : BitVec 3552) (s : State) : Host.Outcome State Fault Refusal :=
  .next (s.run (fun d => d.jtagToken t))

/-- JTAG_STATUS (R442): JTAG STATUS shifts out lock state, busy, blank, reason and active slot. -/
def execJtagStatus (s : State) : Host.Outcome State Fault Refusal :=
  .next (s.run (fun d => d.jtagStatus))

/-- RELOCK (R443): JTAG RELOCK returns the lock state to LOCKED at Update-DR. -/
def execRelock (s : State) : Host.Outcome State Fault Refusal :=
  .next (s.run (fun d => d.jtagRelock))

/-- PROVISION (R435): JTAG PROVISION on a BLANK part programs the owner key hash into the lowest free slot. -/
def execProvision (hash : BitVec 512) (s : State) : Host.Outcome State Fault Refusal :=
  .next (s.run (fun d => d.jtagProvision hash))

/-- PROVISION_VERIFY (R435): Within 20 ms the key store reads the slot back, marking it programmed or killed. -/
def execProvisionVerify (ok : Bool) (s : State) : Host.Outcome State Fault Refusal :=
  .next (s.run (fun d => d.provisionVerify ok))

/-- JTAG_DEBUG (R443): JTAG DEBUG in OWNER or VENDOR state gives initiator-6 access to Scribe ranges, raw access and
Scribe halting. -/
def execJtagDebug (op : DebugOp) (s : State) (tied : Bool := false) :
    Host.Outcome State Fault Refusal :=
  .next (s.run (fun d => d.jtagDebug op tied))

/-- JTAG_SCAN (R442): JTAG SCAN in VENDOR state with clockless domains OFF accesses internal scan chains. -/
def execJtagScan (s : State) : Host.Outcome State Fault Refusal :=
  .next (s.run (fun d => d.jtagScan))

/-- TEST_LOGIC_RESET (R442): The TAP enters Test-Logic-Reset through TMS or TRST_N and selects IDCODE, leaving the lock
state unchanged. -/
def execTestLogicReset (s : State) : Host.Outcome State Fault Refusal :=
  .next (s.run (fun d => d.jtagReset))

end Sys2Proof.Machine
end

