-- ==== Sys2Proof/Machine/CmdStipple.lean ====
section
/-! DEFINITION. The meanings of commands. The Stipple net: flits, arrivals, the step barrier, spill requests (R141 to R167). -/

namespace Sys2Proof.Machine

/-- FLIT_FORWARD (R144): A Stipple router checks a flit and forwards it on a west-first minimal path or replicates a
multicast along the dimension-ordered tree. -/
def execFlitForward (r : Fin 112) (p : Fin 5) (s : State) : Host.Outcome State Fault Refusal :=
  .next (s.run (fun d => d.flitForward r p))

/-- EVENT_ARRIVE (R150): An event reaching a destination port is placed in its source's partition, or is discarded on
tag, duplicate, full or off-core checks, or wakes a core in RET. -/
def execEventArrive (n : Fin 64) (s : State) : Host.Outcome State Fault Refusal :=
  .next (s.run (fun d => d.eventArrive n))

/-- CLOSE_ARRIVE (R155): A close reaching a destination records its COUNT and may declare the step all-in. -/
def execCloseArrive (n : Fin 64) (s : State) : Host.Outcome State Fault Refusal :=
  .next (s.run (fun d => d.closeArrive n))

/-- ACK_ARRIVE (R151): An acknowledgement reaching a source adds FREED to its credit for the destination core. -/
def execAckArrive (i : Fin 105) (s : State) : Host.Outcome State Fault Refusal :=
  .next (s.run (fun d => d.ackArrive i))

/-- DONE_REDUCE (R157): A router on the barrier tree, having received DONE from all its children, sends the summed NDONE
towards the sequencer. -/
def execDoneReduce (r : Fin 112) (s : State) : Host.Outcome State Fault Refusal :=
  .next (s.run (fun d => d.doneReduce r))

/-- STEP_ADVANCE (R157): When the barrier sum reaches NCORES and MIN_PERIOD has passed, the sequencer sets S to t + 1
and broadcasts OPEN. -/
def execStepAdvance (s : State) : Host.Outcome State Fault Refusal :=
  .next (s.run (fun d => d.stepAdvance))

/-- OPEN_ARRIVE (R157): An OPEN delivered to a port, emitter, Tracer or the delay unit triggers proxy closes and DONE
for idle sources and the opening of running cores. -/
def execOpenArrive (i : Fin 105) (s : State) : Host.Outcome State Fault Refusal :=
  .next (s.run (fun d => d.openArrive i))

/-- COUNT_STALL_TIMEOUT (R159): A port waiting STEP_LIMIT ticks for a matching count or a possibly lost close raises
0x0305 and declares all-in or holds. -/
def execCountStallTimeout (n : Fin 64) (s : State) : Host.Outcome State Fault Refusal :=
  .next (s.run (fun d => d.stallTimeout n))

/-- DELAY_UNIT_INJECT (R162): On OPEN(u − 1) the delay unit consumes each due head record of its queues, injects it as
an event of step u and then closes step u. -/
def execDelayUnitInject (s : State) : Host.Outcome State Fault Refusal :=
  .next (s.run (fun d => d.delayInject))

/-- STIPPLE_START (R166): A write of STIPPLE.CTRL.EN = 1 checks window sums, grants windows, sends proxy closes and
broadcasts OPEN(STEP_START). -/
def execStippleStart (ini : Ini) (s : State) : Host.Outcome State Fault Refusal :=
  .next (s.run (fun d => d.writeFld ini F.STIPPLE_CTRL_EN 1))

/-- STIPPLE_STOP (R167): A write of STIPPLE.CTRL.EN = 0 sets STOPPING so that no OPEN is issued after the open step
completes. -/
def execStippleStop (ini : Ini) (s : State) : Host.Outcome State Fault Refusal :=
  .next (s.run (fun d => d.writeFld ini F.STIPPLE_CTRL_EN 0))

/-- STIPPLE_STOPPED (R167): After the open step completes, events of the next step are discarded, credits and counts
cleared and STATE becomes STOPPED. -/
def execStippleStopped (s : State) : Host.Outcome State Fault Refusal :=
  .next (s.run (fun d => d.stippleStopped))

/-- RACK_REQUEST_SEND (R164): An Etch port sends a produce or consume-due request to the Rack once it holds a record
credit. -/
def execRackRequestSend (n : Fin 64) (s : State) : Host.Outcome State Fault Refusal :=
  .next (s.run (fun d => d.rackRequestSend n))

/-- RACK_RESPONSE_ARRIVE (R164): A Rack response reaching an Etch port returns its credit and completes a produce or
delivers or ends a spill drain. -/
def execRackResponseArrive (n : Fin 64) (s : State) : Host.Outcome State Fault Refusal :=
  .next (s.run (fun d => d.rackResponse n))

/-- RACK_RESPONSE_TIMEOUT (R164): While LOSS is set, a core that has waited STEP_LIMIT ticks for a Rack response stops
waiting and counts the spill lost. -/
def execRackResponseTimeout (n : Fin 64) (s : State) : Host.Outcome State Fault Refusal :=
  .next (s.run (fun d => d.rackTimeout n))

end Sys2Proof.Machine
end

