-- ==== Sys2Proof/Machine/CmdTimers.lean ====
section
/-! DEFINITION. The meanings of commands. TIMEBASE and the timers (R467 to R479). -/

namespace Sys2Proof.Machine

/-- TIMEBASE_TICK (R467): TIMEBASE increments at every REFCLK tick. -/
def execTimebaseTick (ticks : BitVec 32) (trig : BitVec 4) (s : State) : Host.Outcome State Fault Refusal :=
  .next (s.run (fun d => d.tick ticks.toNat trig.toNat))

/-- TIMER_COUNT_TICK (R470): At a count tick of an enabled, gated-on channel the count advances, wraps or reverses and
sets WRAP. -/
def execTimerCountTick (i : Fin 8) (s : State) : Host.Outcome State Fault Refusal :=
  .next (s.run (fun d => d.countTick i))

/-- TB_LO_READ (R468): A read of TB_LO returns TIMEBASE bits 31:0 and latches the high half for the reader. -/
def execTbLoRead (ini : Ini) (s : State) : Host.Outcome State Fault Refusal :=
  .next (s.run (fun d => d.readReg ini F.TMR_TB_LO.addr))

/-- TB_HI_READ (R468): A read of TB_HI returns and clears the reader's latched high half, or the live value. -/
def execTbHiRead (ini : Ini) (s : State) : Host.Outcome State Fault Refusal :=
  .next (s.run (fun d => d.readReg ini F.TMR_TB_HI.addr))

/-- TIMER_COUNT_WRITE (R471): A COUNT write replaces the count at the next tick and restarts the prescaler. -/
def execTimerCountWrite (ini : Ini) (i : Fin 8) (v : Word) (s : State) : Host.Outcome State Fault Refusal :=
  .next (s.run (fun d => d.writeReg ini (F.TIMER_COUNT i).addr v))

/-- TIMER_PERIOD_WRITE (R471): A PERIOD write takes effect at the next tick. -/
def execTimerPeriodWrite (ini : Ini) (i : Fin 8) (v : Word) (s : State) : Host.Outcome State Fault Refusal :=
  .next (s.run (fun d => d.writeReg ini (F.TIMER_PERIOD i).addr v))

/-- LINKED_LOW_READ (R473): A read of the low half of a linked pair's COUNT or capture latches the high half for the
reader. -/
def execLinkedLowRead (ini : Ini) (i : Fin 8) (which : Fin 3) (s : State) : Host.Outcome State Fault Refusal :=
  .next (s.run (fun d => d.readReg ini (match which.val with
    | 0 => F.TIMER_COUNT i
    | 1 => F.TIMER_CAP_RISE i
    | _ => F.TIMER_CAP_FALL i).addr))

/-- GSTART (R475): A write of GSTART enables the named channels and restarts their prescalers in the same tick. -/
def execGstart (ini : Ini) (mask : BitVec 8) (s : State) : Host.Outcome State Fault Refusal :=
  .next (s.run (fun d => d.writeCmd ini F.TMR_GSTART mask.toNat))

/-- CAPTURE_EDGE (R477): An accepted edge of the capture source writes CAP_RISE or CAP_FALL, may restart the count and
pushes the capture queue. -/
def execCaptureEdge (i : Fin 8) (rise : Bool) (s : State) : Host.Outcome State Fault Refusal :=
  .next (s.run (fun d => d.captureEdge i rise))

/-- CAPQ_VAL_READ (R478): A read of CAPQ_VAL returns and removes the oldest queued capture and latches its edge and
stamp. -/
def execCapqValRead (ini : Ini) (i : Fin 8) (s : State) : Host.Outcome State Fault Refusal :=
  .next (s.run (fun d => d.readReg ini (F.TIMER_CAPQ_VAL i).addr))

/-- TRIG_PULSE_END (R479): A PULSE-mode TRIG_OUT returns low after PW + 1 ticks. -/
def execTrigPulseEnd (j : Fin 2) (s : State) : Host.Outcome State Fault Refusal :=
  .next (s.run (fun d => d.pulseEnd j))

end Sys2Proof.Machine
end

