-- ==== Sys2Proof/Machine/CmdTracer.lean ====
section
/-! DEFINITION. The meanings of commands. Tracers and Presses (R273 to R297). -/

namespace Sys2Proof.Machine

/-- INPUT_UNIT_ACCEPT (R273): An accepted input packet on an enabled stream becomes an input unit, is stamped, paced to
a step and frame, and buffered or dropped. -/
def execInputUnitAccept (n : Fin 8) (s : State) : Host.Outcome State Fault Refusal :=
  .next (s.run (fun d => d.inputUnit n))

/-- ENCODER_UNIT (R286): A stream encoder takes a buffered unit and converts its elements into LC, DELTA or RATE events. -/
def execEncoderUnit (n : Fin 8) (j : Fin 4) (ue : List Nat) (s : State) : Host.Outcome State Fault Refusal :=
  .next (s.run (fun d => d.encoderUnit n j ue))

/-- TRACER_EVENT_SEND (R287): A queued Tracer event is sent once STIPPLE.STEP reaches its step minus 1 and credit
allows. -/
def execTracerEventSend (n : Fin 8) (s : State) : Host.Outcome State Fault Refusal :=
  .next (s.run (fun d => d.tracerSend n))

/-- TRACER_STEP_CLOSE (R278): A Tracer closes step u once every encoding stream has passed u and every event up to u has
been sent. -/
def execTracerStepClose (n : Fin 8) (s : State) : Host.Outcome State Fault Refusal :=
  .next (s.run (fun d => d.tracerClose n))

/-- TRACER_FRAME_READY (R279): A Tracer declares the next Hatch frame ready when every placing stream holds its input
frame as required. -/
def execTracerFrameReady (n : Fin 8) (s : State) : Host.Outcome State Fault Refusal :=
  .next (s.run (fun d => d.tracerReady n))

/-- PLACEMENT_TOKEN (R284): A Tracer offers the next placement token under its PD list once its bytes are present or the
frame end is known. -/
def execPlacementToken (n : Fin 8) (ue : BitVec 16) (s : State) : Host.Outcome State Fault Refusal :=
  .next (s.run (fun d => d.placeToken n ue.toNat))

/-- UNIT_RELEASE (R281): A unit is released from the Tracer buffer once its frame has completed or aborted and its
encoder has consumed it. -/
def execUnitRelease (n : Fin 8) (j : Fin 4) (s : State) : Host.Outcome State Fault Refusal :=
  .next (s.run (fun d => d.unitRelease n j))

/-- PRESS_TOKEN_TAKE (R290): A Press takes a token under its output descriptor list and packs it into a TENSOR_DATA
packet, or discards it beyond the list. -/
def execPressTokenTake (k : Fin 4) (s : State) : Host.Outcome State Fault Refusal :=
  .next (s.run (fun d => d.pressTake k))

/-- FRAME_TRAILER_SEND (R291): When its frame is complete or aborted, each result stream sends FRAME_TRL with the final
marks and Frame End. -/
def execFrameTrailerSend (k : Fin 4) (s : State) : Host.Outcome State Fault Refusal :=
  .next (s.run (fun d => d.frameTrailer k))

/-- READOUT_GROUP (R292): When STIPPLE.STEP passes a readout group, the Press consumes its records and sends them as
READOUT parts. -/
def execReadoutGroup (k : Fin 4) (s : State) : Host.Outcome State Fault Refusal :=
  .next (s.run (fun d => d.readoutGroup k))

/-- ANNOTATION_SEND (R293): After a frame's trailer the Press sends its annotation records and FRAME_SUMMARY. -/
def execAnnotationSend (k : Fin 4) (s : State) : Host.Outcome State Fault Refusal :=
  .next (s.run (fun d => d.annotationSend k))

/-- HEARTBEAT_SEND (R294): Every HB_CFG.PERIOD µs the Press sends one HEARTBEAT frame, replacing a waiting one. -/
def execHeartbeatSend (k : Fin 4) (s : State) : Host.Outcome State Fault Refusal :=
  .next (s.run (fun d => d.heartbeat k))

/-- REPEAT_BURST (R297): The AON repeat path copies a burst received on a Tracer's lanes onto a Press's lanes byte for
byte. -/
def execRepeatBurst (k : Fin 4) (bytes : List Byte) (pkts : Nat) (s : State) : Host.Outcome State Fault Refusal :=
  .next (s.run (fun d => d.repeatBurst k bytes pkts))

end Sys2Proof.Machine
end

