-- ==== Sys2Proof/Machine/Dispatch.lean ====
section
/-! DEFINITION. What each command does: one arm per constructor, one meaning per arm. -/

namespace Sys2Proof.Machine

/-- The effect of a command on everything but the queue. -/
def exec (i : Instr) (s : State) : Host.Outcome State Fault Refusal :=
  match i with
  -- Register accesses and link transfers (R10 to R14, R34, R40).
  | .registerWrite ini a bytes t => Sys2Proof.Machine.execRegisterWrite ini a bytes s t
  | .rcRead ini a len t => Sys2Proof.Machine.execRcRead ini a len s t
  | .linkTransfer l flip => Sys2Proof.Machine.execLinkTransfer l flip s
  -- Etch cores: steps, events, run control (R72, R92 to R100, R149).
  | .etchStepOpen n => Sys2Proof.Machine.execEtchStepOpen n s
  | .eventConsume n bufUe => Sys2Proof.Machine.execEventConsume n bufUe s
  | .overflowRowFetchDone n k => Sys2Proof.Machine.execOverflowRowFetchDone n k s
  | .updatePass n => Sys2Proof.Machine.execUpdatePass n s
  | .eventSend n => Sys2Proof.Machine.execEventSend n s
  | .flagLineRelease n pin => Sys2Proof.Machine.execFlagLineRelease n pin s
  | .etchRun ini n => Sys2Proof.Machine.execEtchRun ini n s
  | .etchStop ini n => Sys2Proof.Machine.execEtchStop ini n s
  | .etchPause ini n => Sys2Proof.Machine.execEtchPause ini n s
  | .etchResume ini n => Sys2Proof.Machine.execEtchResume ini n s
  -- Fixing learned weights into plate memory (R127 to R132).
  | .fixRequest ini n next => Sys2Proof.Machine.execFixRequest ini n next s
  | .fixSnapshot n vf => Sys2Proof.Machine.execFixSnapshot n vf s
  | .fixPageCopy n vf => Sys2Proof.Machine.execFixPageCopy n vf s
  | .fixCopyFirst ini n off v => Sys2Proof.Machine.execFixCopyFirst ini n off v s
  | .fixCommit n vf => Sys2Proof.Machine.execFixCommit n vf s
  | .fixErase ini n vf => Sys2Proof.Machine.execFixErase ini n vf s
  | .wearRefill n => Sys2Proof.Machine.execWearRefill n s
  -- The Stipple net: flits, arrivals, the step barrier, spill requests (R141 to R167).
  | .flitForward r p => Sys2Proof.Machine.execFlitForward r p s
  | .eventArrive n => Sys2Proof.Machine.execEventArrive n s
  | .closeArrive n => Sys2Proof.Machine.execCloseArrive n s
  | .ackArrive n => Sys2Proof.Machine.execAckArrive n s
  | .doneReduce r => Sys2Proof.Machine.execDoneReduce r s
  | .stepAdvance => Sys2Proof.Machine.execStepAdvance s
  | .openArrive n => Sys2Proof.Machine.execOpenArrive n s
  | .countStallTimeout n => Sys2Proof.Machine.execCountStallTimeout n s
  | .delayUnitInject => Sys2Proof.Machine.execDelayUnitInject s
  | .stippleStart ini => Sys2Proof.Machine.execStippleStart ini s
  | .stippleStop ini => Sys2Proof.Machine.execStippleStop ini s
  | .stippleStopped => Sys2Proof.Machine.execStippleStopped s
  | .rackRequestSend n => Sys2Proof.Machine.execRackRequestSend n s
  | .rackResponseArrive n => Sys2Proof.Machine.execRackResponseArrive n s
  | .rackResponseTimeout n => Sys2Proof.Machine.execRackResponseTimeout n s
  -- Graver tiles: instructions, frames, bank ownership, the scratchpad, spike-count export (R174 to R211).
  | .tileEnd n => Sys2Proof.Machine.execTileEnd n s
  | .tileLoop n => Sys2Proof.Machine.execTileLoop n s
  | .mma n ph clash => Sys2Proof.Machine.execMma n ph clash s
  | .mmaComplete n k => Sys2Proof.Machine.execMmaComplete n k s
  | .drain n ph clash parUe => Sys2Proof.Machine.execDrain n ph s clash parUe
  | .lds n ph clash => Sys2Proof.Machine.execLds n ph clash s
  | .move n ph clash => Sys2Proof.Machine.execMove n ph clash s
  | .waitl n => Sys2Proof.Machine.execWaitl n s
  | .sync n => Sys2Proof.Machine.execSync n s
  | .setag n => Sys2Proof.Machine.execSetag n s
  | .emitClose n ph => Sys2Proof.Machine.execEmitClose n ph s
  | .gate n clash => Sys2Proof.Machine.execGate n clash s
  | .tileFrameDone n => Sys2Proof.Machine.execTileFrameDone n s
  | .emitterEventSend n => Sys2Proof.Machine.execEmitterEventSend n s
  | .tileRunWrite ini n run => Sys2Proof.Machine.execTileRunWrite ini n run s
  | .bankClaim ini n b => Sys2Proof.Machine.execBankClaim ini n b s
  | .bankRelease ini n b => Sys2Proof.Machine.execBankRelease ini n b s
  | .bankRevoke n b owner => Sys2Proof.Machine.execBankRevoke n b owner s
  | .scratchpadLaneWrite ini n lane v => Sys2Proof.Machine.execScratchpadLaneWrite ini n lane v s
  | .setAliasWrite ini n lane v => Sys2Proof.Machine.execSetAliasWrite ini n lane v s
  | .clearAliasWrite ini n lane v => Sys2Proof.Machine.execClearAliasWrite ini n lane v s
  | .scvSnapshot n ue => Sys2Proof.Machine.execScvSnapshot n s ue
  -- The Hatch mesh: schedules, tokens, landings, frames, aborts, broadcast load (R230 to R253).
  | .slotRun r p => Sys2Proof.Machine.execSlotRun r p s
  | .slotLoop r out p => Sys2Proof.Machine.execSlotLoop r out p s
  | .slotEnd r out p => Sys2Proof.Machine.execSlotEnd r out p s
  | .fanRun r p => Sys2Proof.Machine.execFanRun r p s
  | .tokenTake r o => Sys2Proof.Machine.execTokenTake r o s
  | .tokenLanding r p clash => Sys2Proof.Machine.execTokenLanding r p clash s
  | .memPortRead r => Sys2Proof.Machine.execMemPortRead r s
  | .hatchFrameStart => Sys2Proof.Machine.execHatchFrameStart s
  | .routerDone r => Sys2Proof.Machine.execRouterDone r s
  | .frameComplete => Sys2Proof.Machine.execFrameComplete s
  | .stallSentinelExpire cuts => Sys2Proof.Machine.execStallSentinelExpire cuts s
  | .hatchAbort ini cuts => Sys2Proof.Machine.execHatchAbort ini cuts s
  | .abortComplete => Sys2Proof.Machine.execAbortComplete s
  | .rewindTimeout => Sys2Proof.Machine.execRewindTimeout s
  | .hatchModeWrite ini mode => Sys2Proof.Machine.execHatchModeWrite ini mode s
  | .loadBlockReceive r => Sys2Proof.Machine.execLoadBlockReceive r s
  | .loadWindowWrite ini win => Sys2Proof.Machine.execLoadWindowWrite ini win s
  -- CSI-2 ports (R257 to R271, R352).
  | .longPacketReceive n k => Sys2Proof.Machine.execLongPacketReceive n k s
  | .frameStartPacket n k => Sys2Proof.Machine.execFrameStartPacket n k s
  | .frameEndPacket n k => Sys2Proof.Machine.execFrameEndPacket n k s
  | .lineMarkerPacket n isEnd k => Sys2Proof.Machine.execLineMarkerPacket n isEnd k s
  | .genericShortPacket n dt k => Sys2Proof.Machine.execGenericShortPacket n dt k s
  | .phyBurstError n header => Sys2Proof.Machine.execPhyBurstError n header s
  | .linkEnable ini p => Sys2Proof.Machine.execLinkEnable ini p s
  | .linkDisable ini p => Sys2Proof.Machine.execLinkDisable ini p s
  | .linkDisableTimeout p part => Sys2Proof.Machine.execLinkDisableTimeout p s part
  | .laneActivityWake n => Sys2Proof.Machine.execLaneActivityWake n s
  | .periodicDeskew k => Sys2Proof.Machine.execPeriodicDeskew k s
  | .packetTransmit k ue => Sys2Proof.Machine.execPacketTransmit k ue s
  | .deskewReceive n ok => Sys2Proof.Machine.execDeskewReceive n ok s
  | .lp11StopState p => Sys2Proof.Machine.execLp11StopState p s
  | .arrHoldExpire p => Sys2Proof.Machine.execArrHoldExpire p s
  -- Tracers and Presses (R273 to R297).
  | .inputUnitAccept n => Sys2Proof.Machine.execInputUnitAccept n s
  | .encoderUnit n j ue => Sys2Proof.Machine.execEncoderUnit n j ue s
  | .tracerEventSend n => Sys2Proof.Machine.execTracerEventSend n s
  | .tracerStepClose n => Sys2Proof.Machine.execTracerStepClose n s
  | .tracerFrameReady n => Sys2Proof.Machine.execTracerFrameReady n s
  | .placementToken n ue => Sys2Proof.Machine.execPlacementToken n ue s
  | .unitRelease n j => Sys2Proof.Machine.execUnitRelease n j s
  | .pressTokenTake k => Sys2Proof.Machine.execPressTokenTake k s
  | .frameTrailerSend k => Sys2Proof.Machine.execFrameTrailerSend k s
  | .readoutGroup k => Sys2Proof.Machine.execReadoutGroup k s
  | .annotationSend k => Sys2Proof.Machine.execAnnotationSend k s
  | .heartbeatSend k => Sys2Proof.Machine.execHeartbeatSend k s
  | .repeatBurst k bytes pkts => Sys2Proof.Machine.execRepeatBurst k bytes pkts s
  -- Rack queues (R306 to R323, R164).
  | .rackProduce t ue => Sys2Proof.Machine.execRackProduce s t ue
  | .blockedProduceRetry q ue => Sys2Proof.Machine.execBlockedProduceRetry q s ue
  | .rackConsume claimant q t ue => Sys2Proof.Machine.execRackConsume claimant q s t ue
  | .consumeDue t ue => Sys2Proof.Machine.execConsumeDue s t ue
  | .dqRead ini => Sys2Proof.Machine.execDqRead ini s
  | .dqInit ini => Sys2Proof.Machine.execDqInit ini s
  | .dqDisable ini => Sys2Proof.Machine.execDqDisable ini s
  | .claimP ini => Sys2Proof.Machine.execClaimP ini s
  | .claimC ini => Sys2Proof.Machine.execClaimC ini s
  | .releaseP ini => Sys2Proof.Machine.execReleaseP ini s
  | .releaseC ini => Sys2Proof.Machine.execReleaseC ini s
  | .revokeP ini => Sys2Proof.Machine.execRevokeP ini s
  | .revokeC ini => Sys2Proof.Machine.execRevokeC ini s
  | .flushOne ini => Sys2Proof.Machine.execFlushOne ini s
  | .reserve ini => Sys2Proof.Machine.execReserve ini s
  | .commit ini => Sys2Proof.Machine.execCommit ini s
  | .swAbort ini => Sys2Proof.Machine.execSwAbort ini s
  | .peek ini => Sys2Proof.Machine.execPeek ini s
  | .swRelease ini => Sys2Proof.Machine.execSwRelease ini s
  | .reservationTimeout q => Sys2Proof.Machine.execReservationTimeout q s
  | .rhInRecord => Sys2Proof.Machine.execRhInRecord s
  | .rhOutRecord => Sys2Proof.Machine.execRhOutRecord s
  | .rackStart ini => Sys2Proof.Machine.execRackStart ini s
  | .rackRunning => Sys2Proof.Machine.execRackRunning s
  | .rackStop ini => Sys2Proof.Machine.execRackStop ini s
  | .rackStopped => Sys2Proof.Machine.execRackStopped s
  | .rackFlush ini => Sys2Proof.Machine.execRackFlush ini s
  -- Memory integrity: Burnishers, correction, remapping, invalidation, raw access, refresh (R333 to R344).
  | .scrubRead b vf clash bitmap => Sys2Proof.Machine.execScrubRead b vf clash s bitmap
  | .correctionWriteback b => Sys2Proof.Machine.execCorrectionWriteback b s
  | .remapWrite ini b k e v => Sys2Proof.Machine.execRemapWrite ini b k e v s
  | .logClear ini b => Sys2Proof.Machine.execLogClear ini b s
  | .invalGo ini m => Sys2Proof.Machine.execInvalGo ini m s
  | .invalDone m => Sys2Proof.Machine.execInvalDone m s
  | .rawRead ini b => Sys2Proof.Machine.execRawRead ini b s
  | .rawWrite ini b vf => Sys2Proof.Machine.execRawWrite ini b vf s
  | .rawGet ini b => Sys2Proof.Machine.execRawGet ini b s
  | .rawPut ini b => Sys2Proof.Machine.execRawPut ini b s
  | .refreshRatePoll m rate hot => Sys2Proof.Machine.execRefreshRatePoll m rate hot s
  -- Power domains, bands, sensors, the power policy and Hardground (R351 to R370).
  | .voteWrite ini cl w v => Sys2Proof.Machine.execVoteWrite ini cl w v s
  | .domainRaise n => Sys2Proof.Machine.execDomainRaise n s
  | .wakeStepReady n => Sys2Proof.Machine.execWakeStepReady n s
  | .wakeStepTimeout n => Sys2Proof.Machine.execWakeStepTimeout n s
  | .lowerHoldExpire n => Sys2Proof.Machine.execLowerHoldExpire n s
  | .domainIsolate n => Sys2Proof.Machine.execDomainIsolate n s
  | .drainLimitExpire n => Sys2Proof.Machine.execDrainLimitExpire n s
  | .forcedLowerTimeout n => Sys2Proof.Machine.execForcedLowerTimeout n s
  | .i3cAddressWake => Sys2Proof.Machine.execI3cAddressWake s
  | .bandChangeStart => Sys2Proof.Machine.execBandChangeStart s
  | .bandChangeEnd => Sys2Proof.Machine.execBandChangeEnd s
  | .sensorSample n reading => Sys2Proof.Machine.execSensorSample n reading s
  | .railSample r mw => Sys2Proof.Machine.execRailSample r mw s
  | .powerPolicyStep => Sys2Proof.Machine.execPowerPolicyStep s
  | .capExceeded => Sys2Proof.Machine.execCapExceeded s
  | .thermalWarn => Sys2Proof.Machine.execThermalWarn s
  | .thermalTrip => Sys2Proof.Machine.execThermalTrip s
  | .tripLimitTimer => Sys2Proof.Machine.execTripLimitTimer s
  | .mcHotCause => Sys2Proof.Machine.execMcHotCause s
  | .sensorCause => Sys2Proof.Machine.execSensorCause s
  | .watchdogExpire => Sys2Proof.Machine.execWatchdogExpire s
  | .causeClear cause => Sys2Proof.Machine.execCauseClear cause s
  | .hgKick ini => Sys2Proof.Machine.execHgKick ini s
  | .hgRelease ini => Sys2Proof.Machine.execHgRelease ini s
  | .hgCfgWrite ini v => Sys2Proof.Machine.execHgCfgWrite ini v s
  | .regulatorFloorTimeout => Sys2Proof.Machine.execRegulatorFloorTimeout s
  | .thermalShutdown => Sys2Proof.Machine.execThermalShutdown s
  -- Reset and boot (R387 to R405, R526).
  | .porAssert => Sys2Proof.Machine.execPorAssert s
  | .resetAssert cut => Sys2Proof.Machine.execResetAssert cut s
  | .resetRelease cut => Sys2Proof.Machine.execResetRelease cut s
  | .aonBrownout => Sys2Proof.Machine.execAonBrownout s
  | .bootFuse => Sys2Proof.Machine.execBootFuse s
  | .bootRom selfOk flashOk => Sys2Proof.Machine.execBootRom selfOk flashOk s
  | .bootVerify readOk => Sys2Proof.Machine.execBootVerify readOk s
  | .bootBist v => Sys2Proof.Machine.execBootBist v s
  | .bootWaves => Sys2Proof.Machine.execBootWaves s
  | .bootLoad env => Sys2Proof.Machine.execBootLoad env s
  | .bootReady => Sys2Proof.Machine.execBootReady s
  | .bootTimeLimit => Sys2Proof.Machine.execBootTimeLimit s
  | .reboot ini => Sys2Proof.Machine.execReboot ini s
  | .imageLoadWrite => Sys2Proof.Machine.execImageLoadWrite s
  | .imageLoadErase => Sys2Proof.Machine.execImageLoadErase s
  | .imageLoadEnd => Sys2Proof.Machine.execImageLoadEnd s
  | .flashOperationDone => Sys2Proof.Machine.execFlashOperationDone s
  | .flashSessionRevoke => Sys2Proof.Machine.execFlashSessionRevoke s
  -- The I3C target: CCCs, transfers, in-band requests (R406 to R413, R422).
  | .enec direct ev => Sys2Proof.Machine.execEnec direct ev s
  | .disec direct ev => Sys2Proof.Machine.execDisec direct ev s
  | .entas direct => Sys2Proof.Machine.execEntas direct s
  | .rstdaa => Sys2Proof.Machine.execRstdaa s
  | .entdaa a won => Sys2Proof.Machine.execEntdaa a won s
  | .setmwl direct v => Sys2Proof.Machine.execSetmwl direct v s
  | .setmrl direct v => Sys2Proof.Machine.execSetmrl direct v s
  | .enthdr0 => Sys2Proof.Machine.execEnthdr0 s
  | .rstact direct byte => Sys2Proof.Machine.execRstact direct byte s
  | .targetResetPattern => Sys2Proof.Machine.execTargetResetPattern s
  | .setdasa a => Sys2Proof.Machine.execSetdasa a s
  | .setnewda a => Sys2Proof.Machine.execSetnewda a s
  | .getmwl => Sys2Proof.Machine.execGetmwl s
  | .getmrl => Sys2Proof.Machine.execGetmrl s
  | .getpid => Sys2Proof.Machine.execGetpid s
  | .getbcr => Sys2Proof.Machine.execGetbcr s
  | .getdcr => Sys2Proof.Machine.execGetdcr s
  | .getstatus => Sys2Proof.Machine.execGetstatus s
  | .getmxds => Sys2Proof.Machine.execGetmxds s
  | .getcaps => Sys2Proof.Machine.execGetcaps s
  | .unsupportedCcc direct => Sys2Proof.Machine.execUnsupportedCcc direct s
  | .i3cProtocolError => Sys2Proof.Machine.execI3cProtocolError s
  | .privateWrite ddr bytes => Sys2Proof.Machine.execPrivateWrite ddr bytes s
  | .privateRead ddr len => Sys2Proof.Machine.execPrivateRead ddr len s
  | .i2cTransfer wr rd => Sys2Proof.Machine.execI2cTransfer wr rd s
  | .hotJoinRequest acked => Sys2Proof.Machine.execHotJoinRequest acked s
  | .ibiRequest acked => Sys2Proof.Machine.execIbiRequest acked s
  -- Mailboxes, messages and the indirect port (R416 to R428).
  | .mboxLockRead ini n t => Sys2Proof.Machine.execMboxLockRead ini n s t
  | .mboxLockRelease ini n => Sys2Proof.Machine.execMboxLockRelease ini n s
  | .mboxSend ini n len => Sys2Proof.Machine.execMboxSend ini n len s
  | .mboxWithdraw ini n => Sys2Proof.Machine.execMboxWithdraw ini n s
  | .mboxTake ini n => Sys2Proof.Machine.execMboxTake ini n s
  | .mboxTimeoutExpire n => Sys2Proof.Machine.execMboxTimeoutExpire n s
  | .ping => Sys2Proof.Machine.execPing s
  | .getVersion => Sys2Proof.Machine.execGetVersion s
  | .getState => Sys2Proof.Machine.execGetState s
  | .readFaults => Sys2Proof.Machine.execReadFaults s
  | .openWindow => Sys2Proof.Machine.execOpenWindow s
  | .closeWindow => Sys2Proof.Machine.execCloseWindow s
  | .flashErase => Sys2Proof.Machine.execFlashErase s
  | .flashWrite => Sys2Proof.Machine.execFlashWrite s
  | .flashEnd => Sys2Proof.Machine.execFlashEnd s
  | .proofClear => Sys2Proof.Machine.execProofClear s
  | .messagePart => Sys2Proof.Machine.execMessagePart s
  | .indRead autoinc => Sys2Proof.Machine.execIndRead autoinc s
  | .indWrite autoinc => Sys2Proof.Machine.execIndWrite autoinc s
  | .indAutoincRead => Sys2Proof.Machine.execIndAutoincRead s
  | .indAutoincWrite v => Sys2Proof.Machine.execIndAutoincWrite v s
  | .indAccessDone => Sys2Proof.Machine.execIndAccessDone s
  -- Attestation, tokens, JTAG and provisioning (R435 to R445).
  | .attGo ini => Sys2Proof.Machine.execAttGo ini s
  | .attNewNonce ini => Sys2Proof.Machine.execAttNewNonce ini s
  | .attReportDone => Sys2Proof.Machine.execAttReportDone s
  | .ksTokenSubmit ini => Sys2Proof.Machine.execKsTokenSubmit ini s
  | .ksNewNonce ini => Sys2Proof.Machine.execKsNewNonce ini s
  | .tokenCheckDone => Sys2Proof.Machine.execTokenCheckDone s
  | .bypass => Sys2Proof.Machine.execBypass s
  | .idcode => Sys2Proof.Machine.execIdcode s
  | .samplePreload pins load => Sys2Proof.Machine.execSamplePreload pins load s
  | .extest pins load => Sys2Proof.Machine.execExtest pins load s
  | .clamp => Sys2Proof.Machine.execClamp s
  | .highz => Sys2Proof.Machine.execHighz s
  | .challenge => Sys2Proof.Machine.execChallenge s
  | .token t => Sys2Proof.Machine.execToken t s
  | .jtagStatus => Sys2Proof.Machine.execJtagStatus s
  | .relock => Sys2Proof.Machine.execRelock s
  | .provision hash => Sys2Proof.Machine.execProvision hash s
  | .provisionVerify ok => Sys2Proof.Machine.execProvisionVerify ok s
  | .jtagDebug op t => Sys2Proof.Machine.execJtagDebug op s t
  | .jtagScan => Sys2Proof.Machine.execJtagScan s
  | .testLogicReset => Sys2Proof.Machine.execTestLogicReset s
  -- Redundant pair operation (R449 to R465).
  | .hello => Sys2Proof.Machine.execHello s
  | .joinWaitExpire => Sys2Proof.Machine.execJoinWaitExpire s
  | .draft => Sys2Proof.Machine.execDraft s
  | .keepalive => Sys2Proof.Machine.execKeepalive s
  | .forced => Sys2Proof.Machine.execForced s
  | .diverge => Sys2Proof.Machine.execDiverge s
  | .decideMsg => Sys2Proof.Machine.execDecideMsg s
  | .resyncReq => Sys2Proof.Machine.execResyncReq s
  | .join => Sys2Proof.Machine.execJoin s
  | .cutover => Sys2Proof.Machine.execCutover s
  | .nack => Sys2Proof.Machine.execNack s
  | .stateBlock => Sys2Proof.Machine.execStateBlock s
  | .resyncBlockSend => Sys2Proof.Machine.execResyncBlockSend s
  | .stepDigest => Sys2Proof.Machine.execStepDigest s
  | .frameDigest => Sys2Proof.Machine.execFrameDigest s
  | .suspectWaitExpire => Sys2Proof.Machine.execSuspectWaitExpire s
  | .hbToggle => Sys2Proof.Machine.execHbToggle s
  | .mirrorKeepaliveDue => Sys2Proof.Machine.execMirrorKeepaliveDue s
  | .partnerHbLost => Sys2Proof.Machine.execPartnerHbLost s
  | .mirrorSilent => Sys2Proof.Machine.execMirrorSilent s
  | .pairKick ini => Sys2Proof.Machine.execPairKick ini s
  | .pairResyncCmd ini => Sys2Proof.Machine.execPairResyncCmd ini s
  | .demote ini => Sys2Proof.Machine.execDemote ini s
  | .leave ini => Sys2Proof.Machine.execLeave ini s
  | .mateHbInEdge => Sys2Proof.Machine.execMateHbInEdge s
  | .pairKickExpire => Sys2Proof.Machine.execPairKickExpire s
  -- TIMEBASE and the timers (R467 to R479).
  | .timebaseTick ticks trig => Sys2Proof.Machine.execTimebaseTick ticks trig s
  | .timerCountTick n => Sys2Proof.Machine.execTimerCountTick n s
  | .tbLoRead ini => Sys2Proof.Machine.execTbLoRead ini s
  | .tbHiRead ini => Sys2Proof.Machine.execTbHiRead ini s
  | .timerCountWrite ini n v => Sys2Proof.Machine.execTimerCountWrite ini n v s
  | .timerPeriodWrite ini n v => Sys2Proof.Machine.execTimerPeriodWrite ini n v s
  | .linkedLowRead ini n which => Sys2Proof.Machine.execLinkedLowRead ini n which s
  | .gstart ini mask => Sys2Proof.Machine.execGstart ini mask s
  | .captureEdge n rise => Sys2Proof.Machine.execCaptureEdge n rise s
  | .capqValRead ini n => Sys2Proof.Machine.execCapqValRead ini n s
  | .trigPulseEnd j => Sys2Proof.Machine.execTrigPulseEnd j s
  -- The Proof log, faults and recovery (R484 to R512).
  | .recordStage => Sys2Proof.Machine.execRecordStage s
  | .recordCommit vf => Sys2Proof.Machine.execRecordCommit vf s
  | .timeRecord => Sys2Proof.Machine.execTimeRecord s
  | .clearPageZero vf => Sys2Proof.Machine.execClearPageZero vf s
  | .bucketRefill => Sys2Proof.Machine.execBucketRefill s
  | .hgDeclare ini party t => Sys2Proof.Machine.execHgDeclare ini party s t
  | .declareSweepDone party => Sys2Proof.Machine.execDeclareSweepDone party s
  | .scribeWdExpire n => Sys2Proof.Machine.execScribeWdExpire n s
  | .scribeRestart n => Sys2Proof.Machine.execScribeRestart n s
  | .scribeKick ini mask => Sys2Proof.Machine.execScribeKick ini mask s
  | .scribeRestartTimeout n => Sys2Proof.Machine.execScribeRestartTimeout n s
  | .partRestart ini => Sys2Proof.Machine.execPartRestart ini s

end Sys2Proof.Machine
end

