-- ==== Sys2Proof/Safety.lean ====
section
/-! DEFINITION. What statements say of states: the canonical form of the maps, and the boot states. -/

namespace Sys2Proof.Machine

/-- The canonical form of memory: addresses strictly rising, no byte listed that is zero. -/
def Memory.wf (m : List Host.Cell) : Bool := mapWf (fun _ => (0 : Byte)) m

/-- The maps of a device in canonical form: memory, the register file, the valid bits. -/
def Device.canon (d : Device) : Bool :=
  Memory.wf d.mem && mapWf resetWord d.regs && mapWf (fun _ => false) d.valid

/-- Between commands: the maps in canonical form, no mark of a command left. -/
def State.settled (s : State) : Bool :=
  s.dev.canon && s.dev.raising.isEmpty && s.dev.scribeUe.isEmpty && s.dev.verifyFails.isEmpty

/-- Nothing for the end of a command to do but tidying: no code raised, no Scribe to declare or to bring up, no reply
that waits, no pair role, ALIVE as it shows, no restart asked for. -/
def Device.calm (d : Device) : Bool :=
  d.raising.isEmpty && d.scribeUe.isEmpty && d.host.replies.isEmpty &&
  (List.range 4).all (fun n => decide (d.fld (scribeStateFld n) ≠ 1)) && decide (d.pairRole = 0) &&
  (d.aliveNow == d.flag F.PAIR_STATUS_ALIVE) && !d.bootc.restart && !d.bootc.reboot

/-- Whether a register access of an initiator at a register's device address is served (R10, R34, R35): the path
reaches it for a write (or a read), the initiator is not held in reset, the block's domain is ON and its unit bound. -/
def Device.admits (d : Device) (ini : Ini) (a : Nat) (wr : Bool := true) : Bool :=
  d.reach ini.num (iniAddr ini a) wr && !d.shut ini.num &&
  (match regLoc a with
    | some p => d.served a (p.dom a)
    | none => false)

/-- The same for an access of memory at a device address, where the rules of that memory let it be written. -/
def Device.admitsMem (d : Device) (ini : Ini) (a : Nat) : Bool :=
  d.reach ini.num (iniAddr ini a) true && !d.shut ini.num && !d.memShut a &&
  (match memAt a with
    | some m => d.served a m.dom
    | none => false)

/-- A schedule pointer of a router in its frame stands at a readable table entry w of a kind, ready to be taken up
(R229 to R231). -/
def Device.atEntry (d : Device) (r : Nat) (out : Bool) (p kind w : Nat) : Bool :=
  let x := (d.hr r).ptr out p
  d.inFrame r && x.en && !x.done && !x.err && !x.run && decide (x.entry < tableLen out) &&
  !d.ueAt (tableAddr r out p x.entry) && decide (d.ld (tableAddr r out p x.entry) 4 = w) &&
  decide (bits w 30 2 = kind)

/-- A source after it has sent the event at the head of its queue (R149, R152): a unit to every live destination, or one
multicast, each with its sequence number; a credit of each taken; the event counted for each; then what follows in the
queue that needs no credit. -/
def Device.sent (d : Device) (i step axon payload : Nat) (mc : Bool) (dests : List Nat) (rest : List OutItem) : Device :=
  let live := dests.filter d.etchBound
  let d := (d.dropAbsent dests).modSource i (fun q => { q with sendQ := rest })
  let q := d.source i
  let d := if live.isEmpty then d
    else if mc then
      (d.inject i (mkMulticast step i q.seqM axon payload (maskOf live))).modSource i
        (fun q => { q with seqM := (q.seqM + 1) % 4096 })
    else d.each live (fun d k =>
      (d.inject i (mkUnicast step k i (nget q.seqU k) axon payload)).modSource i
        (fun q => { q with seqU := nput q.seqU k ((nget q.seqU k + 1) % 4096) }))
  let d := d.each live (fun d k => d.modSource i (fun q =>
    ({ q with credit := nput q.credit k (nget q.credit k - 1) }).countSent step k))
  d.flushQ i

/-- Where the sequencer of a tile stands in its program store (R174). -/
def Device.progAddr (d : Device) (n : Nat) : Nat := graverBase n + 0x40000 + 8 * (d.tile n).pc

/-- The sequencer of a tile in its frame stands at a readable, well-formed instruction w of an opcode (R174, R176). -/
def Device.atInstr (d : Device) (n op w : Nat) : Bool :=
  d.isOn (domGraver n) && decide (d.fld (F.GRAVER_STATUS_STATE n) = 2) && !(d.tile n).ended &&
  decide ((d.tile n).pc ≤ 32767) && !d.ueAt (d.progAddr n) && decide ((d.note (d.progAddr n)).ld (d.progAddr n) 8 = w) &&
  !progBad (d.tile n).pc w (d.tile n).loops && decide (opOf w = op)

/-- A tile with the k-th issued instruction taken off its queue. -/
def Device.unqueue (d : Device) (n k : Nat) : Device :=
  d.modTile n (fun t => { t with issued := t.issued.eraseIdx k })

/-- The mirror packet b stands at the head of what the mirror Tracer accepted, of a kind, in a part of a pair (R452). -/
def Device.mirrorHead (d : Device) (kind : Nat) (b : List Byte) (rest : List (Nat × List Byte)) : Bool :=
  (d.mirrorRx.filter d.mirrorValid).head?.map Prod.snd == some b && (d.mirrorRx.filter d.mirrorValid).tail == rest &&
  decide (d.pairRole ≠ 0) && d.flag F.PAIR_CFG_EN && decide ((b.getD 1 0).toNat = kind)

/-- The device with that packet taken: its sequence number checked, but for HELLO, and the link heard (R451, R452). -/
def Device.mirrorGot (d : Device) (hello : Bool) (b : List Byte) (rest : List (Nat × List Byte)) : Device :=
  let e : Device := ({ d with mirrorRx := rest } : Device).modPair (fun p => { p with rxSeq := (wordAt b 8 + 1) % 2 ^ 32 })
  (if wordAt b 8 ≠ d.pair.rxSeq ∧ hello = false then e.bump F.PAIR_SEQ_GAP else e).mirrorHeard

end Sys2Proof.Machine
end

