-- ==== Sys2Proof/Certificates/Slice0/Obligations.lean ====
section
/-! DEFINITION. The statements about the model.  Most say of a family of commands when each has its own effect and
what the next state then is: `s.after d` is the state whose device is d as the end of a command leaves it (Commit). -/

open Sys2Proof Sys2Proof.Machine

/-- Steps of an Etch core.  A core that may open the step u that OPEN named opens it: STEP is set to u - 1 where it
does not follow its own passes, H is primed on its first step, STATUS shows RUN and the tag of u, and then the due
bucket is emptied, the spill queue begins to drain, the traces are swept, the reward is set, EARLY flags rise and the
port is checked (R72, R78, R95, R99, R109, R113).  A consuming core takes the oldest event of its step that need not
wait for a fetch, and gives back its buffer entry; a readable one is counted, and applied to its row, or to the
reward where it names the reward axon (R72, R113).  The oldest overflow fetch that returns is applied as a SPARSE row
(R92).  The update pass of an all-in step updates slots 0 to NSLOTS - 1 in order and then reports its end (R72, R155).
A source sends its event (R149).  A flag line falls two ticks after it rose, once its pass is over (R95). -/
def Obligations.EtchStepsComplete : Prop := ∀ (s : State) (n : Fin 64),
  (∀ u, (s.dev.port n).opened = some u → s.dev.canOpen n = true →
    exec (.etchStepOpen n) s = .next (s.after (
      let d : Device := if (s.dev.core n).follows then s.dev else s.dev.put (F.ETCH_STEP n) (stepDiff u 1)
      let d : Device := if (s.dev.core n).primed then d else d.prime n
      let d : Device := (d.modCore n (fun c => { c with follows := true, primed := true, early := [], paused := false })).modPort
        n (fun p => { p with opened := none })
      let d : Device := (d.put (F.ETCH_STATUS_STATE n) 1).put (F.ETCH_STATUS_TAG n) (u % 16)
      let d : Device := ((d.emptyBucket n u).startDrain n u).sweep n u
      let d : Device := (d.rewardUpdate n).modCore n (fun c => { c with learnOn := d.flag (F.ETCH_BITE_CTRL n) })
      (d.earlyOpen n).portCheck n))) ∧
  (∀ e, s.dev.consuming n = true → s.dev.nextEvent n = some e →
    let taken : Device :=
      ((s.dev.modPort n (fun p => { p with buf := p.buf.erase e })).freeEntry n e.src 1).portFill n
    exec (.eventConsume n true) s = .next (s.after
      (((taken.bufferUe (intEtch n) n 11).bump F.STIPPLE_BUF_UE).raiseBit F.STIPPLE_FAULT_BUF_UE 0x0309 n)) ∧
    let counted : Device := taken.bump (F.ETCH_EVENTS n)
    ((counted.flag (F.ETCH_REWARD_CFG_EN n) && decide (e.axon = counted.fld (F.ETCH_REWARD_CFG_AXON n))) = false →
      exec (.eventConsume n false) s = .next (s.after
        (counted.applyRow n (counted.stepNow n) e.axon e.payload))) ∧
    ((counted.flag (F.ETCH_REWARD_CFG_EN n) && decide (e.axon = counted.fld (F.ETCH_REWARD_CFG_AXON n))) = true →
      exec (.eventConsume n false) s = .next (s.after (counted.modCore n (fun c =>
        { c with rewSum := c.rewSum + sgn 8 e.payload, rewSeen := true }))))) ∧
  (∀ (i : Fin 8) (f : Fetch), (s.dev.core n).fetches[i.val]? = some f →
    let d : Device := s.dev.modCore n (fun c => { c with fetches := c.fetches.eraseIdx i })
    let r := d.sparseRow n (d.stepNow n) f.wexp f.payload
      ((List.range f.len).map (fun j => d.ovfAddr (f.addr + 4 * j)))
    exec (.overflowRowFetchDone n i) s = .next (s.after (if r.2 then r.1.silence n f.axon else r.1))) ∧
  (s.dev.isOn (domEtch n) = true → (s.dev.core n).phase = .opened → (s.dev.port n).allIn = true →
    (s.dev.core n).fetches = [] → (∀ e ∈ (s.dev.port n).buf, e.tag ≠ s.dev.stepNow n % 16) →
    exec (.updatePass n) s = .next (s.after (
      let t := s.dev.stepNow n
      let d : Device := s.dev.each (List.range (min 8192 (s.dev.fld (F.ETCH_CFG n)))) (fun d k => d.updateSlot n t k)
      let d : Device := d.modCore n EtchCore.closeDigest
      let d : Device := d.modCore n (fun c => { c with phase := .finishing, scvWait := d.scvDue n t })
      (d.passDone n t).tryComplete n))) ∧
  (∀ (i : Fin 105) (step axon payload : Nat) (mc : Bool) (dests : List Nat) (rest : List OutItem),
    ¬ (64 ≤ i.val ∧ i.val < 72) → (s.dev.stState = 2 ∨ s.dev.stState = 3) →
    (s.dev.source i).sendQ = .event step axon payload mc dests :: rest →
    s.dev.hasCredit i (dests.filter s.dev.etchBound) = true → s.dev.mayOffer step = true →
    exec (.eventSend i) s = .next (s.after (s.dev.sent i step axon payload mc dests rest))) ∧
  (∀ pin : Fin 4, (s.dev.core n).flagDone.contains pin.val = true →
    2 ≤ s.dev.since (nget (s.dev.core n).flagAt pin) →
    exec (.flagLineRelease n pin) s = .next (s.after
      ((s.dev.put (F.ETCH_FLAG_STATUS n)
        (maskOf ((bitsSet 4 (s.dev.fld (F.ETCH_FLAG_STATUS n))).filter (· ≠ pin.val)))).modCore n
        (fun c => { c with flagDone := c.flagDone.filter (· ≠ pin.val) }))))

/-- Run control of an Etch core (R98 to R100).  A write of CTRL writes RUN, PAUSE and FLAG_EN, here with the other
fields at the values they have, whatever the core does.  Where RUN is then 1, an IDLE core waits for its next opening,
and any other core goes on.  Where RUN is then 0, a core between steps becomes IDLE at once: while S is its last step
the counts of the step after it stand for the next again, what its buffer holds is freed unread, and an OPEN that it has
yet to take up is answered by its port; within a step the core goes on to the step's end.  PAUSE is looked at at the
core's own boundaries. -/
def Obligations.EtchRunControlCompletes : Prop := ∀ (s : State) (ini : Ini) (n : Fin 64),
  s.dev.admits ini (F.ETCH_CTRL_RUN n).addr = true →
  let ctrl (r p : Nat) : Device := ((s.dev.put (F.ETCH_CTRL_RUN n) r).put (F.ETCH_CTRL_PAUSE n) p).put
    (F.ETCH_CTRL_FLAG_EN n) (s.dev.fld (F.ETCH_CTRL_FLAG_EN n))
  let runs (d : Device) : Device := if (s.dev.core n).phase = .idle then
      d.modCore n (fun c => { c with phase := .waiting, primed := false, follows := false, paused := false })
    else d
  let stops (d : Device) : Device := if (s.dev.core n).phase = .waiting then
      let d : Device := if (s.dev.core n).follows then d.unshiftIf n else d
      let d : Device := ((d.put (F.ETCH_STATUS_STATE n) 0).modCore n (fun c =>
        { c with phase := .idle, paused := false, follows := false, primed := false })).freeUnread n
      match (d.port n).opened with
      | none => d
      | some u => (d.modPort n (fun p => { p with opened := none })).proxyStep n u
    else d
  let run := s.dev.fld (F.ETCH_CTRL_RUN n)
  let pause := s.dev.fld (F.ETCH_CTRL_PAUSE n)
  exec (.etchRun ini n) s = .next (s.after (runs (ctrl 1 pause))) ∧
  exec (.etchStop ini n) s = .next (s.after (stops (ctrl 0 pause))) ∧
  exec (.etchPause ini n) s = .next (s.after (if run = 1 then runs (ctrl 1 1) else stops (ctrl 0 1))) ∧
  exec (.etchResume ini n) s = .next (s.after (if run = 1 then runs (ctrl 1 0) else stops (ctrl 0 0)))

/-- Fixing (R125 to R132).  A request with no fix in progress, on a part that follows no LEAD short of LOCKED, for a
step ahead or with NEXT, and with room and tokens for its S pages, is PENDING and takes S tokens.  The snapshot, at its
boundary, writes the header page.  The copy writes the next data page, a staged one first.  A first write to a synapse
word while no copy runs stores the word.  The commit writes the commit page and shows the new set.  ERASE writes a
tombstone of two pages.  The bucket gains tokens up to its depth. -/
def Obligations.FixCommandsComplete : Prop := ∀ (s : State) (n : Fin 64),
  (∀ (ini : Ini) (next : Bool), s.dev.admits ini (F.ETCH_FIX_CTRL_REQ n).addr = true →
    let d : Device := s.dev.each (List.range 8) (fun d k => d.note (etchBase n + 0x12000 + 32 * k))
    d.fld (F.ETCH_FIX_STATUS_STATE n) = 0 →
    (d.fld F.PAIR_STATUS_ROLE ≠ 2 ∨ d.fld F.PAIR_STATUS_STATE = 3) →
    (next = true ∨ (0 < stepDiff (d.fld (F.ETCH_FIX_AT_STEP n)) (d.fld (F.ETCH_STEP n)) ∧
      stepDiff (d.fld (F.ETCH_FIX_AT_STEP n)) (d.fld (F.ETCH_STEP n)) < 2 ^ 31)) →
    dataPages (d.fixRegions n) + 2 ≤ 2040 - d.fld (F.ETCH_FIX_LOG_PAGES n) →
    dataPages (d.fixRegions n) + 2 ≤ d.fld (F.ETCH_WEAR_TOKENS n) →
    exec (.fixRequest ini n next) s = .next (s.after
      (((d.takeTokens n (dataPages (d.fixRegions n) + 2)).put (F.ETCH_FIX_STATUS_STATE n) 1).modCore n
        (fun c => { c with fix := { next := next, atStep := d.fld (F.ETCH_FIX_AT_STEP n)
                                    size := dataPages (d.fixRegions n) + 2, regions := d.fixRegions n
                                    table := d.fixTable n } })))) ∧
  (∀ vf : List Bool, s.dev.fixDue n = true → s.dev.isOn (domEtch n) = true →
    let d : Device := { s.dev with verifyFails := vf }
    let c := (s.dev.core n).fix
    let sq := (s.dev.fld (F.ETCH_FIX_SEQ n) + 1) % 2 ^ 32
    let start := s.dev.fld (F.ETCH_FIX_LOG_HEAD n)
    let r := d.plateWrite n start (headerPage sq (s.dev.fld (F.ETCH_STEP n)) n c.regions.length c.size
      s.dev.netHash c.table)
    exec (.fixSnapshot n vf) s = .next (s.after (if r.2 then
        (r.1.put (F.ETCH_FIX_STATUS_STATE n) (if dataPages c.regions = 0 then 3 else 2)).modCore n (fun k =>
          { k with fix := { k.fix with start := start, seq := sq, step := s.dev.fld (F.ETCH_STEP n), copied := []
                                       staged := [] } })
      else r.1.fixAbandon n))) ∧
  (∀ vf : List Bool, s.dev.fld (F.ETCH_FIX_STATUS_STATE n) = 2 → s.dev.isOn (domEtch n) = true →
    let d : Device := { s.dev with verifyFails := vf }
    let c := (s.dev.core n).fix
    ((∀ p rest, c.staged = p :: rest → exec (.fixPageCopy n vf) s = .next (s.after
        ((d.modCore n (fun k => { k with fix := { k.fix with staged := rest } })).fixPut n p.1 p.2))) ∧
    (∀ i, c.staged = [] →
      ((List.range (dataPages c.regions)).map (· + 1)).find? (fun i => !c.copied.contains i) = some i →
      exec (.fixPageCopy n vf) s = .next (s.after (d.fixPut n i (d.streamPage n c.regions i)))))) ∧
  (∀ (ini : Ini) (off : BitVec 22) (v : Word), 0x40000 ≤ off.toNat → off.toNat < 0xA0000 →
    s.dev.admitsMem ini (etchBase n + 4 * off.toNat) = true →
    s.dev.ueAt (etchBase n + 4 * off.toNat) = false →
    exec (.fixCopyFirst ini n off v) s = .next (s.after
      ((s.dev.note (etchBase n + 4 * off.toNat)).synWrite n (off.toNat - 0x40000) v.toNat))) ∧
  (∀ vf : List Bool, s.dev.fld (F.ETCH_FIX_STATUS_STATE n) = 3 → s.dev.isOn (domEtch n) = true →
    let d : Device := { s.dev with verifyFails := vf }
    let c := (s.dev.core n).fix
    let crc := crc64 ((List.range (c.size - 1)).flatMap (fun i => s.dev.plateBytes n ((c.start + i) % 2040)))
    let r := d.plateWrite n ((c.start + (c.size - 1)) % 2040) (commitPage c.seq c.size crc)
    exec (.fixCommit n vf) s = .next (s.after (if r.2 then
        ((((((r.1.put (F.ETCH_FIX_STATUS_STATE n) 0).put (F.ETCH_FIX_SEQ n) c.seq).put (F.ETCH_FIX_STEP n)
          c.step).put (F.ETCH_FIX_LOG_HEAD n) ((c.start + c.size) % 2040)).put (F.ETCH_FIX_LOG_PAGES n)
          c.size).put (F.ETCH_FIX_STATUS_DONE n) 1).modCore n (fun k => { k with fix := {} })
      else r.1.fixAbandon n))) ∧
  (∀ (ini : Ini) (vf : List Bool), s.dev.admits ini (F.ETCH_FIX_CTRL_ERASE n).addr = true →
    s.dev.fld (F.ETCH_FIX_STATUS_STATE n) = 0 → s.dev.fld (F.ETCH_FIX_LOG_PAGES n) ≤ 2038 →
    2 ≤ s.dev.fld (F.ETCH_WEAR_TOKENS n) →
    let d : Device := { s.dev with verifyFails := vf }
    let start := s.dev.fld (F.ETCH_FIX_LOG_HEAD n)
    let sq := (s.dev.fld (F.ETCH_FIX_SEQ n) + 1) % 2 ^ 32
    let step := s.dev.fld (F.ETCH_STEP n)
    let h := headerPage sq step n 0 2 s.dev.netHash []
    let r := (d.takeTokens n 2).plateWrite n start h
    let r2 := r.1.plateWrite n ((start + 1) % 2040) (commitPage sq 2 (crc64 h))
    exec (.fixErase ini n vf) s = .next (s.after (if r.2 then if r2.2 then
        ((((r2.1.put (F.ETCH_FIX_SEQ n) sq).put (F.ETCH_FIX_STEP n) step).put (F.ETCH_FIX_LOG_HEAD n)
          ((start + 2) % 2040)).put (F.ETCH_FIX_LOG_PAGES n) 2).put (F.ETCH_FIX_STATUS_ERASED n) 1
      else r2.1.fixAbandon n else r.1.fixAbandon n))) ∧
  (s.dev.isOn (domEtch n) = true →
    let acc := (s.dev.core n).wearRest + s.dev.since (s.dev.core n).wearAt * s.dev.fld (F.ETCH_WEAR_CFG_RATE n)
    exec (.wearRefill n) s = .next (s.after
      ((s.dev.put (F.ETCH_WEAR_TOKENS n)
        (min (s.dev.fld (F.ETCH_WEAR_CFG_DEPTH n)) (s.dev.fld (F.ETCH_WEAR_TOKENS n) + acc / 100000000))).modCore n
        (fun k => { k with wearRest := acc % 100000000, wearAt := s.dev.timebase }))))

/-- The Stipple net forwards (R41, R141, R144, R145, R157).  A unit with a wrong check is dropped and LOSS recorded; a
DONE goes to the tree; a unicast leaves by the first empty output of its set; a multicast or OPEN leaves once every copy
is accepted.  The tree sends on the sum of its children.  A link moves the unit it holds. -/
def Obligations.StippleForwardingCompletes : Prop := ∀ s : State,
  (∀ (r : Fin 112) (p : Fin 5) (u : FlitUnit) (rest : List FlitUnit), s.dev.isOn domStipple = true →
    vget (s.dev.router r).inq p [] = u :: rest →
    (unitOk u = false → exec (.flitForward r p) s = .next (s.after (s.dev.popIn r p).linkLoss)) ∧
    (unitOk u = true → fType (u.headD 0) = 8 →
      exec (.flitForward r p) s = .next (s.after ((s.dev.treeTake r p (u.headD 0)).popIn r p))) ∧
    (∀ ds dp o, unitOk u = true → fType (u.headD 0) ∉ [2, 8, 9] → s.dev.unitDest (u.headD 0) = some (ds, dp) →
      (routeSet r ds dp).find? (fun o => s.dev.outEmpty r o) = some o →
      exec (.flitForward r p) s = .next (s.after ((s.dev.popIn r p).offer r o u))) ∧
    (unitOk u = true → fType (u.headD 0) = 2 ∨ fType (u.headD 0) = 9 →
      let outs := s.dev.outputs r p u
      let done := vget (s.dev.router r).served p []
      let now := outs.filter (fun o => !done.contains o.1 && s.dev.outEmpty r o.1)
      let d : Device := s.dev.each now (fun d o => d.offer r o.1 o.2)
      (outs.all (fun o => (done ++ now.map (·.1)).contains o.1) = true →
        exec (.flitForward r p) s = .next (s.after (d.popIn r p))) ∧
      (outs.all (fun o => (done ++ now.map (·.1)).contains o.1) = false →
        exec (.flitForward r p) s = .next (s.after
          (d.modRouter r (fun x => { x with served := vmod x.served p (fun _ => done ++ now.map (·.1)) })))))) ∧
  (∀ r : Fin 112, s.dev.isOn domStipple = true → s.dev.treeKidsOf r ≠ [] →
    s.dev.outEmpty r (treeOut r) = true →
    let got (p : Nat) : Option Nat := if p = pLocal then (s.dev.router r).treeOwn
      else (if nget (s.dev.router r).treeKids p = 0 then none else some (nget (s.dev.router r).treeKids p - 1))
    (∀ p ∈ s.dev.treeKidsOf r, (got p).isSome = true) →
    exec (.doneReduce r) s = .next (s.after
      ((s.dev.offer r (treeOut r) (mkDone (s.dev.router r).treeTag
        ((s.dev.treeKidsOf r).foldl (fun a p => a + (got p).getD 0) 0))).modRouter r (fun x =>
          { x with treeOwn := none, treeKids := [] })))) ∧
  (∀ (i : Fin 105) (u : FlitUnit) (rest : List FlitUnit) (t p : Nat), (s.dev.source i).outq = u :: rest →
    s.dev.attach i = some (t, p) → s.dev.roomIn t p u = true →
    exec (.linkTransfer (.stippleIn i) []) s = .next (s.after
      (((s.dev.modSource i (fun q => { q with outq := rest })).enter t p (disturb [] u)).ackLink (linkStipple i) u.length)))

/-- Arrivals at a Stipple port (R150 to R155, R159, R165).  An event of the step in progress or the next at a running
core that is ON, from a source with room in its window, is counted and buffered, at an IDLE core counted and its entry freed, as DISCARD
shows, and the port is checked; one of another step is discarded with 0x0302.  A close of the step in progress or the
next from an expected source gives its count, and the port is checked.  An
acknowledgement adds its credits.  A running core takes the OPEN that its port holds; for a core that does not run its
port answers. -/
def Obligations.StippleArrivalsComplete : Prop := ∀ (s : State) (n : Fin 64),
  (∀ u, s.dev.arrived n [1, 2] = some u → s.dev.isOn domStipple = true → s.dev.stState ≠ 0 →
    let e := evtOf u
    let t := s.dev.tOf n
    let counted : Device := (s.dev.takeArr n u).countEvent n e
    ((e.tag ≠ t % 16 → e.tag ≠ (t + 1) % 16 →
      exec (.eventArrive n) s = .next (s.after (((s.dev.takeArr n u).tagError n).freeEntry n e.src 1)))) ∧
    ((e.tag = t % 16 ∨ e.tag = (t + 1) % 16) → (s.dev.port n).declared = false →
      (s.dev.port n).buf.any (fun f => f.src = e.src && f.seq = e.seq && f.mc == e.mc) = false →
      ((s.dev.port n).buf.filter (fun f => f.src = e.src)).length < s.dev.win n e.src →
      s.dev.domState (domEtch n) = 2 →
      (s.dev.portIdle n = false →
        exec (.eventArrive n) s = .next (s.after (((counted.modPort n (fun p => { p with buf := p.buf ++ [e] })).bump
          (F.PORT_EVENTS_IN n)).portFill n |>.portCheck n))) ∧
      (s.dev.portIdle n = true → exec (.eventArrive n) s = .next (s.after
        (((counted.freeEntry n e.src 1).bump (F.PORT_DISCARD n)).portCheck n))))) ∧
  (∀ u, s.dev.arrived n [4] = some u → s.dev.isOn domStipple = true →
    let src := bits (u.headD 0) 43 7
    let cnt := bits (u.headD 0) 8 32
    let d : Device := s.dev.takeArr n u
    d.expects n src = true →
    (fTag (u.headD 0) = s.dev.tOf n % 16 → (s.dev.port n).declared = false →
      exec (.closeArrive n) s = .next (s.after ((d.modPort n (fun p =>
        { p with cls0 := p.cls0.filter (fun e => e.1 ≠ src) ++ [(src, cnt)] })).portCheck n))) ∧
    (fTag (u.headD 0) = (s.dev.tOf n + 1) % 16 → fTag (u.headD 0) ≠ s.dev.tOf n % 16 →
      exec (.closeArrive n) s = .next (s.after ((d.modPort n (fun p =>
        { p with cls1 := p.cls1.filter (fun e => e.1 ≠ src) ++ [(src, cnt)] })).portCheck n)))) ∧
  (∀ (i : Fin 105) (u : FlitUnit), s.dev.arrived i [5] = some u → s.dev.isOn domStipple = true →
    exec (.ackArrive i) s = .next (s.after ((s.dev.takeArr i u).modSource i (fun q =>
      { q with credit := nput q.credit (bits (u.headD 0) 43 6)
                 (nget q.credit (bits (u.headD 0) 43 6) + bits (u.headD 0) 36 7) })))) ∧
  (∀ u, s.dev.arrived n [9] = some u → s.dev.isOn domStipple = true → s.dev.etchBound n = true →
    let t := bits (u.headD 0) 8 32
    (s.dev.flag (F.ETCH_CTRL_RUN n) = true → s.dev.domState (domEtch n) = 2 →
      exec (.openArrive (Fin.ofNat 105 n)) s = .next (s.after
        ((s.dev.takeArr n u).modPort n (fun p => { p with opened := some t })))) ∧
    (s.dev.flag (F.ETCH_CTRL_RUN n) = false →
      (s.dev.scvDue n (stepDiff t 1) = false ∨ t = s.dev.fld F.STIPPLE_STEP_START) →
      exec (.openArrive (Fin.ofNat 105 n)) s = .next (s.after ((s.dev.takeArr n u).proxyStep n t))))

/-- The barrier and the delay unit (R157 to R162).  When the sum of the open step is complete and MIN_PERIOD has passed,
S becomes the next step, ports of cores that do not follow shift, and OPEN(S) goes out.  A following port whose closes
have waited STEP_LIMIT ticks shows STALLED and its first missing source, counts a stall, and with STALL_ACTION takes the
step as all-in.  On OPEN(t) the enabled delay unit, with the Rack RUNNING, injects what is due at t + 1 and closes it. -/
def Obligations.StippleBarrierCompletes : Prop := ∀ s : State,
  (s.dev.arrived 104 [8] = none → s.dev.isOn domStipple = true → s.dev.stState = 2 → s.dev.stepComplete = true →
    s.dev.fld F.STIPPLE_MIN_PERIOD ≤ s.dev.since s.dev.seq.openAt →
    exec .stepAdvance s = .next (s.after (
      let d : Device := s.dev.stepEnd.put F.STIPPLE_STEP ((s.dev.openStep + 1) % 2 ^ 32)
      (d.each (List.range 64) (fun d n => if (d.core n).follows then d else d.modPort n SPort.shift)).broadcast))) ∧
  (∀ (n : Fin 64) (t0 : Nat), (s.dev.missing n) = [] → (s.dev.port n).closesAt = some t0 →
    (s.dev.port n).allIn = false → s.dev.unmatched n ≠ [] → (s.dev.core n).follows = true →
    s.dev.fld F.STIPPLE_STEP_LIMIT ≤ s.dev.since t0 → s.dev.flag (F.PORT_STATUS_STALLED n) = false →
    exec (.countStallTimeout n) s = .next (s.after (
      let d : Device := (s.dev.bump F.STIPPLE_STALLS).raiseBit F.STIPPLE_FAULT_STALL 0x0305 n
      let d : Device := (d.put (F.PORT_STATUS_STALLED n) 1).put (F.PORT_STATUS_WAIT_SRC n)
        ((s.dev.unmatched n).headD 0)
      if d.flag F.STIPPLE_CTRL_STALL_ACTION then
        (d.modPort n (fun p => { p with allIn := true, declared := true })).put (F.PORT_STATUS_WAITING n) 0
      else d))) ∧
  (∀ t rest, s.dev.seq.delayOpen = t :: rest → s.dev.srcEn 104 = true → s.dev.stState = 2 →
    s.dev.fld F.RACK_STATUS_STATE = 2 →
    exec .delayUnitInject s = .next (s.after (
      let live := (List.range 256).filter (fun i =>
        s.dev.flag (F.STIPPLE_DELAY0_VALID i) && decide (s.dev.fld (F.STIPPLE_DELAY1 i) ≠ 0))
      let u := (t + 1) % 2 ^ 32
      let d : Device := (s.dev.modSeq (fun q => { q with delayOpen := rest })).each live (fun d i =>
        Device.delayQueue ((d.desc (d.fld (F.STIPPLE_DELAY0_QUEUE i))).used + 1) d i u)
      d.queueOut 104 (.close u))))

/-- Start and stop of the net (R148, R166, R167).  EN = 1 on a STOPPED net whose windows sum to more than 4,096 at a
destination is refused: EN returns to 0, STATUS names the destination, and 0x0307 is raised; on a net that is not
STOPPED it changes EN alone; otherwise the windows are granted, OPEN(STEP_START) goes out, and emitters, Tracers and
Presses take the step.  EN = 0 on a RUNNING net makes it STOPPING and discards what emitters hold (R195), and the completion of the open step STOPPED. -/
def Obligations.StippleStartStopCompletes : Prop := ∀ (s : State) (ini : Ini),
  let kept : Device := s.dev.put F.STIPPLE_CTRL_STALL_ACTION (s.dev.fld F.STIPPLE_CTRL_STALL_ACTION)
  (s.dev.admits ini F.STIPPLE_CTRL_EN.addr = true →
    (s.dev.stState ≠ 0 → exec (.stippleStart ini) s = .next (s.after (kept.put F.STIPPLE_CTRL_EN 1))) ∧
    (∀ n, s.dev.stState = 0 → (kept.put F.STIPPLE_CTRL_EN 1).overWindow = some n →
      exec (.stippleStart ini) s = .next (s.after
        (((((kept.put F.STIPPLE_CTRL_EN 1).put F.STIPPLE_CTRL_EN 0).put F.STIPPLE_STATUS_CFG_ERR 1).put
          F.STIPPLE_STATUS_CFG_ERR_CORE n).raise 0x0307 wholeDevice))) ∧
    (s.dev.stState = 0 → (kept.put F.STIPPLE_CTRL_EN 1).overWindow = none →
      let d : Device := (kept.put F.STIPPLE_CTRL_EN 1).stippleStartCore
      exec (.stippleStart ini) s = .next (s.after (if d.stState ≠ 2 then d else
        let s0 := d.fld F.STIPPLE_STEP_START
        let d : Device := d.each (List.range 32) (fun d n =>
          let d := d.put (F.GRAVER_EMIT_STEP n) s0
          if !(d.tile n).emitOn && d.srcEn (72 + n) then d.queueOut (72 + n) (.close s0) else d)
        let d : Device := d.each (List.range 8) (fun d n => d.tracerNetStart n)
        d.each (List.range 4) (fun d k => d.pressNetStart k)))) ∧
    (s.dev.stState = 2 → exec (.stippleStop ini) s = .next (s.after
      (((kept.put F.STIPPLE_CTRL_EN 0).put F.STIPPLE_STATUS_STATE 3).each (List.range 32) (fun d n =>
        (d.emitDrop n).flushQ (72 + n)))))) ∧
  (s.dev.arrived 104 [8] = none → s.dev.stState = 3 → s.dev.stepComplete = true →
    exec .stippleStopped s = .next (s.after
      (((s.dev.stepEnd.clearNet.modSeq (fun q => { q with delayOpen := [] })).put F.STIPPLE_STATUS_STATE 0).stippleVotes)))

/-- The Rack traffic of an Etch core (R78, R164) and its spike-count export (R196).  The first request that holds a
credit goes out and takes it.  The response to a produce returns its credit and may complete the step; an empty answer
ends the drain.  While LOSS stands, responses late by STEP_LIMIT are given up.  A completion that waits for an export
copy goes on once a buffer is free. -/
def Obligations.EtchRackTrafficCompletes : Prop := ∀ (s : State) (n : Fin 64),
  (∀ r, (s.dev.core n).rackQ.find? (s.dev.core n).maySend = some r →
    exec (.rackRequestSend n) s = .next (s.after ((s.dev.inject n (mkRackReq r n)).modCore n (fun c => { c with
      rackQ := c.rackQ.erase r
      rackOut := c.rackOut ++ [(r, s.dev.timebase)]
      rackCredit := c.rackCredit - 1
      prodHeld := if r.due then c.prodHeld else c.prodHeld + 1 })))) ∧
  (∀ u, s.dev.arrived n [7] = some u → s.dev.isOn (domEtch n) = true →
    let kind := bits (u.headD 0) 58 2
    let out := (s.dev.core n).rackOut.find? (fun r => r.1.due == decide (kind ≠ 0) && r.1.queue = bits (u.headD 0) 30 22)
    let d : Device := (s.dev.takeArr n u).modCore n (fun c => match out with
      | some r => ({ c with rackOut := c.rackOut.erase r } : EtchCore).credit (decide (kind ≠ 0))
      | none => c.credit (decide (kind ≠ 0)))
    (∀ r, kind = 0 → out = some r → (r.1.spill && bit (u.headD 0) 29) = false →
      exec (.rackResponseArrive n) s = .next (s.after (d.tryComplete n))) ∧
    (kind = 1 → payChk (u.getD 1 0) (u.getD 2 0) = bits (u.headD 0) 8 16 →
      exec (.rackResponseArrive n) s = .next (s.after (d.drainRecord n (u.getD 1 0) (u.getD 2 0)))) ∧
    (2 ≤ kind → out.isSome = true → exec (.rackResponseArrive n) s = .next (s.after (d.endDrain n)))) ∧
  (s.dev.flag F.STIPPLE_STATUS_LOSS = true →
    let late := (s.dev.core n).rackOut.filter (fun r => s.dev.fld F.STIPPLE_STEP_LIMIT ≤ s.dev.since r.2)
    exec (.rackResponseTimeout n) s = .next (s.after (
      let d : Device := s.dev.modCore n (fun c => { c with rackOut := c.rackOut.filter (fun r => !late.contains r) })
      (d.each late (fun d r =>
        if r.1.due then (d.endDrain n).raiseBit (F.ETCH_FAULT_SPILL_LOST n) 0x040A n
        else if r.1.spill then d.spillLost n else d)).tryComplete n))) ∧
  (∀ ue : List (Fin 128), (s.dev.core n).scvWait = true → (s.dev.core n).scvBuf.length < 2 →
    exec (.scvSnapshot n ue) s = .next (s.after
      (((s.dev.scvCopy n (s.dev.fld (F.ETCH_STEP n)) (ue.map Fin.val)).modCore n (fun c => { c with scvWait := false })).tryComplete n)))

/-- The schedules of the Hatch mesh (R228 to R233, R237, R244).  A port at a RUN entry takes its length, its input or
outputs, its descriptor and its channel; at a LOOP it goes back BODY entries while its counter is below N and else goes
on, the counter back at 0; at an END it is done.  An output of a frame takes the token its input offers.  A router whose
ports are done and whose links are empty reports. -/
def Obligations.HatchSchedulesComplete : Prop := ∀ (s : State) (r : Fin 112),
  (∀ (p : Fin 5) (w : Nat), s.dev.atEntry r true p 1 w = true → bits w 27 3 ≤ 4 →
    exec (.slotRun r p) s = .next (s.after
      ((s.dev.modHr r (fun q => q.setPtr true p { (s.dev.hr r).ptr true p with
        run := true, left := bits w 18 9 + 1, sel := bits w 27 3, desc := bits w 12 6, chan := bits w 0 12 })).showHr
          r))) ∧
  (∀ (p : Fin 5) (w : Nat), s.dev.atEntry r false p 1 w = true → bits w 25 5 ≠ 0 →
    exec (.fanRun r p) s = .next (s.after
      ((s.dev.modHr r (fun q => q.setPtr false p { (s.dev.hr r).ptr false p with
        run := true, left := bits w 9 9 + 1, sel := bits w 25 5 })).showHr r))) ∧
  (∀ (out : Bool) (p : Fin 5) (w : Nat), s.dev.atEntry r out p 2 w = true → bit w 29 = false →
    let x := (s.dev.hr r).ptr out p
    let body := bits w 0 11
    body ≠ 0 → (s.dev.startOf r out p (s.dev.fld F.HATCH_STATUS_DRAFT)).2 + body ≤ x.entry →
    exec (.slotLoop r out p) s = .next (s.after
      ((s.dev.modHr r (fun q => q.setPtr out p (if x.c0 < bits w 14 15
        then { x with entry := x.entry - body, c0 := x.c0 + 1 }
        else { x with entry := x.entry + 1, c0 := 0 }))).showHr r))) ∧
  (∀ (out : Bool) (p : Fin 5) (w : Nat), s.dev.atEntry r out p 0 w = true →
    exec (.slotEnd r out p) s = .next (s.after
      ((s.dev.modHr r (fun q => q.setPtr out p { (s.dev.hr r).ptr out p with done := true })).showHr r))) ∧
  (∀ (o : Fin 5) (t : HTok), s.dev.hrOn r = true → s.dev.hOutEmpty r o = true → s.dev.hatch.mode = 2 →
    s.dev.inFrame r = true →
    let x := (s.dev.hr r).ptr true o
    let i := x.sel
    x.run = true → (s.dev.hr r).offered o i = some t →
    exec (.tokenTake r o) s = .next (s.after (
      let q := s.dev.hr r
      let bad := !t.ok || decide (t.kind ≠ 0)
      let d : Device := if bad && (vget q.taken i []).isEmpty then s.dev.badToken r else s.dev
      let d : Device := (d.hSend r o (mkTok 0 t.data) x.desc).countToken r o
      let took := o.val :: vget q.taken i []
      let all := (List.range 5).all (fun p => !bit (q.ptr false i).sel p || took.contains p)
      let d : Device := d.modHr r (fun q => q.setPtr true o x.oneLess)
      let d : Device := if all then
          d.modHr r (fun q => ({ q with
            inq := vmod q.inq i List.tail, taken := vmod q.taken i (fun _ => []) } : HRouter).setPtr false i
            (q.ptr false i).oneLess)
        else d.modHr r (fun q => { q with taken := vmod q.taken i (fun _ => took) })
      d.progress.showHr r))) ∧
  (s.dev.inFrame r = true → (s.dev.hr r).reported = false → s.dev.endpointsDone r = true →
    (∀ p < 5, (((s.dev.hr r).ptr true p).en = false ∨ ((s.dev.hr r).ptr true p).done = true) ∧
      (((s.dev.hr r).ptr false p).en = false ∨ ((s.dev.hr r).ptr false p).done = true) ∧
      s.dev.hOutEmpty r p = true) →
    exec (.routerDone r) s = .next (s.after
      (s.dev.modHr r (fun q => { q with reported := true, bad := q.bad || s.dev.endpointsBad r }))))

/-- Tokens that leave the mesh at a tile or a memory, and memory that enters it (R234 to R239).  With the two halves of
a word at an output to a tile, outside an abort: TARGET 5 takes it up and keeps nothing; TARGET 0 writes the scratchpad
word that DEST, LEN and STRIDE name, unless its bank is another's (R192), with the conflicts that fall on it (R190), and
counts it; TARGET 1 to 4 appends it to the landing FIFO of 64 words, which has room.  At a memory edge TARGET 6 writes
32 bytes of the attached controller, but for the Rack's table (R303).  A memory port reads the tokens of its next valid
entry, zero outside the usable range, where the port stops (R335), and an entry without VALID ends it. -/
def Obligations.HatchEndpointsComplete : Prop := ∀ (s : State) (r : Fin 112),
  (∀ (p : Fin 5) (desc hi : Nat) (clash : List Clash),
    (s.dev.hr r).pend.find? (fun e => e.1 = p.val) = some (p.val, desc, hi) → s.dev.aborting = false →
    s.dev.hrOn r = true → ((s.dev.hr r).ptr true p).err = false → s.dev.ueAt (descWord r desc 0) = false →
    let w (k : Nat) : Nat := s.dev.ld (descWord r desc k) 4
    let lo := (((s.dev.hr r).halves.find? (fun e => e.1 = desc)).map (·.2)).getD 0
    let word := lo + hi <<< 128
    let k := nget (s.dev.hr r).counts desc
    let target := bits (w 0) 29 3
    let fin (d : Device) : Device := (d.modHr r (fun q => { q with
      pend := q.pend.filter (fun e => e.1 ≠ p.val)
      halves := q.halves.filter (fun e => e.1 ≠ desc)
      counts := nput q.counts desc (k + 1) })).progress
    (target = 5 → exec (.tokenLanding r p clash) s = .next (s.after (fin s.dev))) ∧
    (∀ n, target = 0 → atMem r p = false → s.dev.servedTile r = some n → s.dev.isOn (domGraver n) = true →
      let rl := if bits (w 1) 16 16 = 0 then 65536 else bits (w 1) 16 16
      let a := (bits (w 0) 0 17 + k % rl + k / rl * bits (w 2) 0 17) % 131072
      let d : Device := s.dev.withClash n clash (fun d => d.spWrite n 0 a word)
      exec (.tokenLanding r p clash) s = .next (s.after
        (fin (if s.dev.bankOwner n a ≠ 0 then d else d.countLanding n (w 0))))) ∧
    (∀ n, 1 ≤ target → target ≤ 4 → atMem r p = false → s.dev.servedTile r = some n →
      s.dev.isOn (domGraver n) = true → (vget (s.dev.tile n).land (target - 1) []).length < 64 →
      exec (.tokenLanding r p clash) s = .next (s.after (fin ((s.dev.modTile n (fun t =>
        { t with land := vmod t.land (target - 1) (fun l => l ++ [word]) })).countLanding n (w 0))))) ∧
    (target = 6 → atMem r p = true → inRegion (memCtl r) (w 3 <<< 8 + 32 * k) = true →
      s.dev.isOn (domMc (memCtl r)) = true →
      let x := s.dev.storeLp 2 (w 3 <<< 8 + 32 * k) (leBytes 32 word)
      exec (.tokenLanding r p clash) s = .next (s.after
        (fin (if s.dev.inTable (w 3 <<< 8 + 32 * k) then s.dev
          else if x.2 then x.1 else x.1.modHr r (fun q => { q with bad := true })))))) ∧
  (isMemSite r = true → s.dev.inFrame r = true → (s.dev.hr r).edgeBusy = true → (s.dev.hr r).offer = [] →
    ((s.dev.hr r).ptr false (memPort r)).err = false → (s.dev.hr r).memEntry < 256 →
    let a := hrBase r + 0x31000 + 8 * (s.dev.hr r).memEntry
    s.dev.ueAt a = false →
    let w0 := s.dev.ld a 4
    let w1 := s.dev.ld (a + 4) 4
    let at_ := (List.range (bits w1 16 15 + 1)).map (fun k => bits w0 5 27 <<< 5 + bits w1 0 8 <<< 32 + 16 * k)
    let m := memCtl r
    (bit w1 31 = false →
      exec (.memPortRead r) s = .next (s.after (s.dev.modHr r (fun q => { q with edgeBusy := false })))) ∧
    (bit w1 31 = true → (∀ x ∈ at_, lpBase ≤ x → x < lpEnd → inRegion m x = true) → s.dev.isOn (domMc m) = true →
      exec (.memPortRead r) s = .next (s.after (
        let d : Device := s.dev.each (at_.filter (s.dev.portMem m)) (fun d x =>
          d.noteRun (bits w0 5 27 <<< 5 + bits w1 0 8 <<< 32) x)
        let d : Device := if at_.all (fun x => decide (lpBase ≤ x) && decide (x < lpEnd)) then d
          else (d.modHr r (fun q => q.setPtr false (memPort r)
            { (s.dev.hr r).ptr false (memPort r) with err := true })).raiseBit
            (F.HR_FAULT_TABLE r) 0x0202 r
        (d.modHr r (fun q => { q with
          offer := at_.map (fun x => if s.dev.portMem m x then s.dev.ld x 16 else 0)
          memEntry := (s.dev.hr r).memEntry + 1
          bad := (s.dev.hr r).bad || at_.any (fun x => s.dev.portMem m x && s.dev.ueAt x) })).progress))))

/-- Frames of the mesh, their ends and aborts, its mode and broadcast load (R241, R242, R247 to R253).  A frame that may
start: what the boundary fixes, then START to mesh, Tracers and Presses.  A frame whose nodes have all reported leaves
its trailer, releases its input and comes to the boundary.  The sentinel and the policy abort a frame with their code.
The end of an abort without uncorrectable memories leaves the frame's trailer and rewinds; one that takes 15,000 ticks
fails.  MODE takes force at once while no frame runs.  A load window takes its number and clears every LOAD_MAP; a
received block with good checks is written at its place and marked. -/
def Obligations.HatchFramesComplete : Prop := ∀ s : State,
  (s.dev.mayStart = true → exec .hatchFrameStart s = .next (s.after (
    let f := (s.dev.fld F.HATCH_FRAME + 1) % 2 ^ 32
    let d : Device := s.dev.tripBoundary.bandStart
    let dr := d.nextDraft
    let d : Device := ((d.tempUpdate.monitorStart dr).pairStart f dr).meshStart dr
    let d : Device := d.each (List.range 8) (fun d n => d.tracerStart n dr)
    (d.each (List.range 4) (fun d k => d.pressStart k dr)).pairStarted))) ∧
  (s.dev.fld F.HATCH_STATUS_FSTATE = 2 → s.dev.meshDone = true → exec .frameComplete s = .next (s.after (
    let bad := s.dev.meshBad
    let d : Device := (s.dev.pressEnd (s.dev.trailerOf (if bad then 2 else 0) none)).tracersEnd.monitorEnd
    let d : Device := (d.ownFrameDigest bad).modHatch (fun h => { h with lastBad := bad, lastAborted := false })
    d.tripBoundary.meshBoundary.modeEnter d))) ∧
  (∀ cuts, s.dev.fld F.HATCH_STATUS_FSTATE = 2 → s.dev.sentinelOff = false → s.dev.hatch.limit ≤ s.dev.hatch.idle →
    exec (.stallSentinelExpire cuts) s = .next (s.after
      (((s.dev.raiseBit F.HATCH_FAULT_STALL 0x0210 wholeDevice).stallChans).meshAbort 0x0210 cuts))) ∧
  (∀ ini cuts, s.dev.admits ini F.HATCH_CTRL_ABORT.addr = true → s.dev.fld F.HATCH_STATUS_FSTATE = 2 →
    exec (.hatchAbort ini cuts) s = .next (s.after
      ((s.dev.raiseBit F.HATCH_FAULT_POLICY_ABORT 0x0212 wholeDevice).meshAbort 0x0212 cuts))) ∧
  (s.dev.fld F.HATCH_STATUS_FSTATE = 3 → (∀ r < 112, (s.dev.hr r).ue = false) →
    (∀ n < 32, s.dev.progUe n = false) →
    exec .abortComplete s = .next (s.after (s.dev.abortOut.tripBoundary.meshAbortEnd.modeEnter s.dev.abortOut))) ∧
  (s.dev.fld F.HATCH_STATUS_FSTATE = 3 → 15000 ≤ s.dev.since s.dev.hatch.abortAt →
    exec .rewindTimeout s = .next (s.after s.dev.rewindFail)) ∧
  (∀ (ini : Ini) (mode : BitVec 2), s.dev.admits ini F.HATCH_CTRL_MODE.addr = true →
    s.dev.fld F.HATCH_CTRL_ABORT = 0 →
    let d : Device := s.dev.put F.HATCH_CTRL_MODE mode.toNat
    exec (.hatchModeWrite ini mode) s = .next (s.after ((if d.frameOn then d else d.modeApply).modeEnter s.dev))) ∧
  (∀ (ini : Ini) (win : BitVec 16), s.dev.admits ini F.HATCH_LOAD_CTRL.addr = true →
    exec (.loadWindowWrite ini win) s = .next (s.after
      ((s.dev.put F.HATCH_LOAD_CTRL win.toNat).each (List.range 112) (fun d r => d.clearRegs (hrBase r + 0x400) 0x100)))) ∧
  (∀ r : Fin 112, s.dev.hrOn r = true → s.dev.hatch.mode = 1 → 258 ≤ (s.dev.hr r).rx.length →
    let blk := (s.dev.hr r).rx.take 258
    let h0 := (blk.getD 0 ⟨0, 0, 0⟩).data
    let h1 := (blk.getD 1 ⟨0, 0, 0⟩).data
    let off := bits h1 0 32
    let data := (blk.drop 2).flatMap (fun t => leBytes 16 t.data)
    bit h1 32 = true → off % 4096 = 0 → off + 4096 ≤ 0x40000 → (memAt (hrBase r + off)).isSome = true →
    (blk.all HTok.ok && (blk.take 2).all (fun t => t.kind = 1) && (blk.drop 2).all (fun t => t.kind = 2)) = true →
    (crcBytesLsb 0xEDB88320 0xFFFFFFFF data) ^^^ 0xFFFFFFFF = bits h1 64 32 →
    let d : Device := (s.dev.modHr r (fun q => { q with rx := q.rx.drop 258 })).loadWords (hrBase r + off) data
    bits h0 112 16 = d.fld F.HATCH_LOAD_CTRL →
    exec (.loadBlockReceive r) s = .next (s.after
      (d.put (F.HR_LOAD_MAP r (bits h1 53 11 / 32))
        (d.fld (F.HR_LOAD_MAP r (bits h1 53 11 / 32)) ||| 1 <<< (bits h1 53 11 % 32)))))

/-- The sequencer of a Graver tile (R174 to R177, R190).  At an instruction whose unit has room, MMA, DRAIN, LDS, MOVE
and EMIT_CLOSE are issued with the address generators as they stand, and the sequencer goes on.  END ends the program of
the frame.  LOOP opens a loop.  WAITL goes on once the landing count is reached; SYNC once the named units are idle.
SETAG sets a generator.  GATE reads its word and sets the predicate for LEN instructions. -/
def Obligations.GraverSequencerCompletes : Prop := ∀ (s : State) (n : Fin 32) (w : Nat)
    (clash : List Clash) (ue : BitVec 4),
  let d : Device := s.dev.note (s.dev.progAddr n)
  (∀ c ∈ [(2, Instr.mma n .issue clash), (3, .drain n .issue clash ue), (4, .lds n .issue clash), (5, .move n .issue clash),
      (9, .emitClose n .issue)],
    s.dev.atInstr n c.1 w = true → (d.tile n).hasRoom w = true →
    exec c.2 s = .next (s.after ((d.modTile n (fun t => { t with issued := t.issued ++
      [{ word := w, ag := t.agVals, gated := decide (0 < t.predLeft) && !t.pred }] })).advance n))) ∧
  (s.dev.atInstr n 0 w = true →
    exec (.tileEnd n) s = .next (s.after (d.modTile n (fun t => { t with ended := true })))) ∧
  (s.dev.atInstr n 1 w = true → exec (.tileLoop n) s = .next (s.after
    ((d.modTile n (fun t => { t with
      loops := ⟨bits w 25 2, (d.tile n).pc + 1, (d.tile n).pc + bits w 27 15, bits w 42 16 + 1, 0⟩ :: t.loops
      pc := t.pc + 1, predLeft := t.predLeft - 1 })).showPc n))) ∧
  (s.dev.atInstr n 6 w = true → bits w 38 17 ≤ d.fld (F.GRAVER_LC n (bits w 55 3)) →
    exec (.waitl n) s = .next (s.after (d.advance n))) ∧
  (s.dev.atInstr n 7 w = true →
    (∀ u ∈ (bitsSet 4 (bits w 54 4)) ++ (if bit w 53 then [4] else []) ++ (if bit w 52 then [5] else []) ++
      (if bit w 51 then [6] else []), d.unitIdle n u = true) →
    exec (.sync n) s = .next (s.after (d.advance n))) ∧
  (s.dev.atInstr n 8 w = true → exec (.setag n) s = .next (s.after
    ((d.modTile n (fun t => { t with ags := vmod t.ags (bits w 54 4) (fun _ =>
      { base := bits w 37 17, s0 := sgn 12 (bits w 25 12), s1 := sgn 12 (bits w 13 12)
        s2 := sgn 12 (bits w 1 12) }) })).advance n))) ∧
  (let e : Device := s.dev.modTile n (fun t => { t with clash := clash })
    let e1 : Device := e.note (e.progAddr n)
    e.atInstr n 10 w = true →
    let r := e1.spRead n (agValue (vget (e1.tile n).ags (bits w 54 4) {}) (e1.tile n).loops)
    exec (.gate n clash) s = .next (s.after
      (((r.2.advance n).modTile n (fun t => { t with pred := bit r.1 (bits w 46 8), predLeft := bits w 31 15 })).modTile
        n (fun t => { t with clash := [] }))))

/-- The units of a Graver tile (R177 to R190, R195, R206, R211).  Each executes the first issued instruction of its kind
that may execute, with the conflicts that the command names: it takes the landed words that the instruction streams, and
with all of them there the instruction leaves the queue and executes, else it waits with what it has.  An MMA that
completes leaves the arrays.  A tile whose program and queues have ended in a frame closes it: FRAME counts on, a bad
frame is counted, and STATE is READY until the boundary. -/
def Obligations.GraverUnitsComplete : Prop := ∀ (s : State) (n : Fin 32) (clash : List Clash),
  let e : Device := s.dev.modTile n (fun t => { t with clash := clash })
  let done (d : Device) : Device := d.modTile n (fun t => { t with clash := [] })
  let run (k : Nat) (i : Issued) (f : Device → Issued → Device) : Device :=
    let r := e.streamIn n i (e.landNeed n i)
    if (e.landNeed n i).all (fun x => decide (x.2 ≤ (vget r.1.got x.1 []).length)) then f (r.2.unqueue n k) r.1
    else r.2.modTile n (fun t => { t with issued := t.issued.set k r.1 })
  (∀ k i, e.nextReady n 2 = some (k, i) →
    exec (.mma n .execute clash) s = .next (s.after (done (run k i (fun d i => d.mmaExec n i))))) ∧
  (∀ k i, e.nextReady n 4 = some (k, i) →
    exec (.lds n .execute clash) s = .next (s.after (done (run k i (fun d i => d.ldsExec n i))))) ∧
  (∀ k i, e.nextReady n 5 = some (k, i) →
    exec (.move n .execute clash) s = .next (s.after (done (run k i (fun d i => d.moveExec n i))))) ∧
  (∀ k i (ue : BitVec 4), e.nextReady n 3 = some (k, i) →
    exec (.drain n .execute clash ue) s = .next (s.after (done (run k i (fun d i => d.drainExec n k ue.toNat i))))) ∧
  (∀ k i, s.dev.nextReady n 9 = some (k, i) → s.dev.landNeed n i = [] →
    exec (.emitClose n .execute) s = .next (s.after ((s.dev.unqueue n k).closeExec n i))) ∧
  (∀ k, s.dev.isOn (domGraver n) = true → exec (.mmaComplete n k) s = .next (s.after
    (s.dev.modTile n (fun t => { t with completing := t.completing.eraseIdx k })))) ∧
  (s.dev.fld F.HATCH_STATUS_FSTATE = 2 → s.dev.isOn (domGraver n) = true → s.dev.fld (F.GRAVER_STATUS_STATE n) = 2 → (s.dev.tile n).ended = true →
    (s.dev.tile n).issued = [] → (s.dev.tile n).completing = [] → (s.dev.tile n).hout = [] →
    exec (.tileFrameDone n) s = .next (s.after (
      let d : Device := s.dev.put (F.GRAVER_FRAME n) ((s.dev.fld (F.GRAVER_FRAME n) + 1) % 2 ^ 32)
      let d : Device := if (s.dev.tile n).bad then d.bump (F.GRAVER_FRAMES_BAD n) else d
      (d.put (F.GRAVER_STATUS_STATE n) 1).modTile n
        (fun x => { x with doneBad := some (s.dev.tile n).bad })))) ∧
  (∀ (step axon payload : Nat) (mc : Bool) (dests : List Nat) (rest : List OutItem),
    (s.dev.stState = 2 ∨ s.dev.stState = 3) →
    (s.dev.source (72 + n)).sendQ = .event step axon payload mc dests :: rest →
    s.dev.hasCredit (72 + n) (dests.filter s.dev.etchBound) = true → s.dev.mayOffer step = true →
    exec (.emitterEventSend n) s = .next (s.after (s.dev.sent (72 + n) step axon payload mc dests rest)))

/-- What an initiator writes at a Graver tile (R175, R191 to R195, R200).  RUN takes force at once while no frame runs,
else at the next boundary.  A free bank that no program uses goes to the initiator that asks for it, and back when its
owner releases it, at once in an IDLE tile and else at the next boundary; Hardground sets an owner at once, which is recorded.  A lane of
an open bank takes the word; the SET alias sets its one bits and the CLEAR alias clears them. -/
def Obligations.GraverWritesComplete : Prop := ∀ (s : State) (ini : Ini) (n : Fin 32),
  (∀ run, s.dev.admits ini (F.GRAVER_CTRL n).addr = true →
    let d : Device := s.dev.put (F.GRAVER_CTRL n) (b2n run)
    exec (.tileRunWrite ini n run) s = .next (s.after (if d.frameOn then d else d.tileBoundary n))) ∧
  (∀ b : Fin 16, s.dev.admits ini (F.GRAVER_BANK_OWN_REQ n b).addr = true → ini.num ≠ iniHg →
    let pend (req : Nat) : Device :=
      let d : Device := (s.dev.put (F.GRAVER_BANK_OWN_REQ n b) req).put (F.GRAVER_BANK_OWN_PENDING n b) 1
      if s.dev.fld (F.GRAVER_STATUS_STATE n) = 0
        then (d.put (F.GRAVER_BANK_OWN_OWNER n b) req).put (F.GRAVER_BANK_OWN_PENDING n b) 0 else d
    (s.dev.fld (F.GRAVER_BANK_OWN_OWNER n b) = 0 → s.dev.flag (F.GRAVER_BANK_OWN_PENDING n b) = false →
      (∀ k < 4, bit (s.dev.fld (F.GRAVER_PROG_BANK_USE n k)) b = false) →
      exec (.bankClaim ini n b) s = .next (s.after (pend ini.num))) ∧
    (s.dev.fld (F.GRAVER_BANK_OWN_OWNER n b) = ini.num →
      exec (.bankRelease ini n b) s = .next (s.after (pend 0)))) ∧
  (∀ (b : Fin 16) (owner : Fin 32), s.dev.admits .hg (F.GRAVER_BANK_OWN_REQ n b).addr = true →
    exec (.bankRevoke n b owner) s = .next (s.after
      ((((s.dev.put (F.GRAVER_BANK_OWN_REQ n b) owner).put (F.GRAVER_BANK_OWN_OWNER n b) owner).put
        (F.GRAVER_BANK_OWN_PENDING n b) 0).raiseBit F.HG_FR_FAULT_BANK_REVOKED 0x0712 n))) ∧
  (∀ (lane : BitVec 20) (v : Word),
    let a := graverBase n + 0x400000 + 4 * lane.toNat
    s.dev.shut ini.num = false → s.dev.reach ini.num a true = true → s.dev.served a (domGraver n) = true →
    s.dev.laneOpen ini.num n (4 * lane.toNat) true = true → s.dev.ueAt a = false →
    let old := BitVec.ofNat 32 (s.dev.ld a 4)
    exec (.scratchpadLaneWrite ini n lane v) s = .next (s.after ((s.dev.note a).stN a 4 v.toNat)) ∧
    exec (.setAliasWrite ini n lane v) s = .next (s.after ((s.dev.note a).stN a 4 (old ||| v).toNat)) ∧
    exec (.clearAliasWrite ini n lane v) s = .next (s.after ((s.dev.note a).stN a 4 (old &&& ~~~ v).toNat)))

/-- Packets received on a live CSI-2 link (R257 to R267, R274).  A short type in a long packet is DT_ERR; a burst that
ends before the CRC is WC_ERR, a wrong CRC CRC_ERR, a channel or type not admitted DT_ERR, each with its code and the
loss of an open frame of the channel; outside a frame a long packet is a sequence error.  A whole long packet on an open
frame is counted and handed on: to ingest with its time, as a mirror packet, or in RECOVERY as part of an image.  A short
packet of a mapped channel that admits it is counted and noted: Frame Start opens the frame with its number, one still
open first closed as incomplete; Frame End counts a frame and closes it, complete where the numbers agree or either is
zero; a line start opens a line of a frame and a line end closes it, out of sequence an error; a generic packet does no
more.  A PHY error counts, raises its code and drops the rest of the burst, and every open frame loses. -/
def Obligations.CsiReceptionCompletes : Prop := ∀ (s : State) (n : Fin 8), s.dev.rxLive n = true →
  let p := CsiPort.rx n
  (∀ k : LongPkt,
    let vc := s.dev.rxChannel n k.vc.val
    let dt := k.dt.val
    let wc := k.wc.val
    let d : Device := (s.dev.inBurst p).corrected n k.corrected
    let lost (count f : Fld) (code : Nat) : Device := ((d.bump count).rxError n f code vc dt wc).lossOn n vc code
    let whole : Prop := 16 ≤ dt ∧ wc + 2 ≤ k.payload.length + k.crcBytes.val
    let taken : Prop := whole ∧ k.crcOk = true ∧ d.rxRole n vc ≠ 3 ∧ admits (d.rxRole n vc) dt = true
    let e : Device := ((d.bump (F.TRACER_LONG_PKTS n)).countBytes p wc).lastHdr n vc dt wc
    (dt < 16 → exec (.longPacketReceive n k) s =
      .next (s.after (lost (F.TRACER_DT_ERR n) (F.TRACER_LINK_ERR_DT n) 0x0605))) ∧
    (16 ≤ dt → k.payload.length + k.crcBytes.val < wc + 2 → exec (.longPacketReceive n k) s =
      .next (s.after (lost (F.TRACER_WC_ERR n) (F.TRACER_LINK_ERR_WC n) 0x0604))) ∧
    (whole → k.crcOk = false → exec (.longPacketReceive n k) s =
      .next (s.after (lost (F.TRACER_CRC_ERR n) (F.TRACER_LINK_ERR_CRC n) 0x0603))) ∧
    (whole → k.crcOk = true → (d.rxRole n vc = 3 ∨ admits (d.rxRole n vc) dt = false) →
      exec (.longPacketReceive n k) s =
        .next (s.after (lost (F.TRACER_DT_ERR n) (F.TRACER_LINK_ERR_DT n) 0x0605))) ∧
    (taken → dt ≤ 0x11 → exec (.longPacketReceive n k) s = .next (s.after d)) ∧
    (taken → 0x12 ≤ dt → d.frameOpen n vc = false → exec (.longPacketReceive n k) s = .next (s.after
      ((d.bump (F.TRACER_SYNC_ERR n)).rxError n (F.TRACER_LINK_ERR_SYNC n) 0x0606 vc dt wc))) ∧
    (taken → 0x12 ≤ dt → d.frameOpen n vc = true →
      (d.rxRole n vc = 0 → exec (.longPacketReceive n k) s = .next (s.after (if dt = 0x12 then e else
        e.ingest n (.unit (e.streamOf n vc) vc dt (k.payload.take wc) e.timebase)))) ∧
      (d.rxRole n vc = 1 → exec (.longPacketReceive n k) s = .next (s.after
        { e with mirrorRx := e.mirrorRx ++ [(n.val, k.payload.take wc)] })) ∧
      (d.rxRole n vc = 2 → exec (.longPacketReceive n k) s = .next (s.after
        (if d.boot = 9 then { e with imageRx := e.imageRx ++ [(n.val, k.payload.take wc)] }
          else d.bump (F.TRACER_DT_ERR n)))))) ∧
  (∀ k : ShortPkt,
    let vc := s.dev.rxChannel n k.vc.val
    let num := k.num.val
    let d : Device := (s.dev.inBurst p).corrected n k.corrected
    let got (dt : Nat) (f : Device → Device) : Device :=
      if d.rxRole n vc = 3 ∨ admits (d.rxRole n vc) dt = false
      then ((d.bump (F.TRACER_DT_ERR n)).rxError n (F.TRACER_LINK_ERR_DT n) 0x0605 vc dt num).lossOn n vc 0x0605
      else f ((d.bump (F.TRACER_SHORT_PKTS n)).lastHdr n vc dt num)
    let wrong (dt : Nat) (d : Device) : Device :=
      (d.bump (F.TRACER_SYNC_ERR n)).rxError n (F.TRACER_LINK_ERR_SYNC n) 0x0606 vc dt num
    exec (.frameStartPacket n k) s = .next (s.after ((got 0 (fun d =>
      let d : Device := if d.frameOpen n vc then (wrong 0 d).closeFrame n vc false else d
      (d.put (F.TRACER_FRAME_OPEN n) (d.fld (F.TRACER_FRAME_OPEN n) ||| 1 <<< vc)).modCsi p
        (fun l => { l with frameNum := nput l.frameNum vc num }))).resyncCut n vc num)) ∧
    exec (.frameEndPacket n k) s = .next (s.after (got 1 (fun d =>
      let d : Device := d.bump (F.TRACER_FRAMES n)
      let first := nget (d.csi p).frameNum vc
      if d.frameOpen n vc = false then wrong 1 d
      else if num = first ∨ num = 0 ∨ first = 0 then d.closeFrame n vc true
      else (wrong 1 d).closeFrame n vc false))) ∧
    (∀ isEnd : Bool, exec (.lineMarkerPacket n isEnd k) s = .next (s.after (got (2 + b2n isEnd) (fun d =>
      if d.frameOpen n vc = true ∧ (d.csi p).lines.contains vc = isEnd then d.modCsi p (fun l =>
        { l with lines := if isEnd then l.lines.filter (· ≠ vc) else vc :: l.lines })
      else wrong (2 + b2n isEnd) d)))) ∧
    (∀ dt : Fin 8, exec (.genericShortPacket n dt k) s = .next (s.after (got (8 + dt.val) id)))) ∧
  (∀ header : Bool,
    let code := if header then 0x0602 else 0x0601
    exec (.phyBurstError n header) s = .next (s.after
      (((((s.dev.bump (if header then F.TRACER_HDR_ERR n else F.TRACER_PHY_ERR n)).rxError n
        (if header then F.TRACER_LINK_ERR_HDR n else F.TRACER_LINK_ERR_PHY n) code 0 0 0).inBurst p).modCsi p
          (fun l => { l with dropRest := true })).lossAll n code)))

/-- CSI-2 links (R258, R259, R262, R267 to R271, R299, R352, R360).  EN = 1 on an enabled link withdraws a waiting
disable; on a link that is off it waits for the stop state, or is refused with CFG_ERR and 0x0607 where its configuration
is reserved.  EN = 0 on an enabled link waits for the end of the burst in progress, or without one turns it off; on a
link that is off it withdraws a waiting enable.  The stop state ends a burst, and then takes a waiting disable or enable
into force.  A disable that has waited 10,000 ticks turns the link off, a packet partly received counted as WC_ERR.
Activity on the lanes of a Tracer that is not ON restores the clocks, votes it ON and counts the loss, with 0x0608 at the
first since the counter was read.  Deskew marks the link, and a failed one counts as a PHY error.  A transmitter sends
its oldest packet whole with its header and check, and ends the burst with the last one.  A quiet port gives up its
vote. -/
def Obligations.CsiLinksComplete : Prop := ∀ (s : State) (ini : Ini) (p : CsiPort),
  (s.dev.admits ini p.en.addr = true →
    let old := s.dev.word p.base
    let keep (en : Nat) : Device := (s.dev.putWord p.base (BitVec.ofNat 32
      (((setBits old 31 1 en).toNat &&& p.ctrlMask) + bits old.toNat 31 1 <<< 31))).showStop p
    (s.dev.flag p.enabled = true →
      exec (.linkEnable ini p) s = .next (s.after ((s.dev.put p.en 1).modCsi p (fun l => { l with pendDis := none }))) ∧
      exec (.linkDisable ini p) s = .next (s.after (
        let d : Device := s.dev.put p.en 0
        if d.flag p.hs then d.modCsi p (fun l => { l with pendDis := some d.timebase }) else d.csiOff p))) ∧
    (s.dev.flag p.enabled = false →
      exec (.linkEnable ini p) s = .next (s.after (if (keep 1).csiRefused p
        then (((keep 1).put p.en 0).put p.cfgErr 1).raiseBit p.errCfg 0x0607 p.unit
        else (((keep 1).put p.en 1).put p.cfgErr 0).modCsi p (fun l => { l with pendEn := true, pendDis := none }))) ∧
      exec (.linkDisable ini p) s = .next (s.after
        (((keep 0).put p.en 0).modCsi p (fun l => { l with pendEn := false }))))) ∧
  ((∀ k, p = .tx k → (s.dev.flag p.enabled = false ∨ s.dev.flag p.hs = false ∨ (s.dev.press k).txq = [])) →
    let d : Device := ((s.dev.put p.hs 0).put p.stop (2 ^ (s.dev.fld p.width + 1) - 1)).modCsi p
      (fun l => { l with dropRest := false, burstAt := s.dev.timebase })
    let on : Device := (d.put p.enabled 1).modCsi p (fun l => { l with pendEn := false, deskewAt := s.dev.timebase })
    exec (.lp11StopState p) s = .next (s.after (
      if (d.csi p).pendDis.isSome then d.csiOff p
      else if (d.csi p).pendEn && d.isOn p.dom then (match p with
        | .rx _ => on
        | .tx k =>
          let e : Device := on.put p.rateActual (on.fld p.rate / 10 * 10)
          if e.flag p.cphy = false ∧ 1500 ≤ e.fld p.rate then e.modPress k (fun x => { x with deskews := x.deskews + 1 })
          else e)
      else d))) ∧
  (∀ t part, (s.dev.csi p).pendDis = some t → 10000 ≤ s.dev.since t →
    exec (.linkDisableTimeout p part) s = .next (s.after (Device.csiOff (match p, part with
      | .rx n, some k =>
        let vc := s.dev.rxChannel n k.vc.val
        ((s.dev.bump (F.TRACER_WC_ERR n)).rxError n (F.TRACER_LINK_ERR_WC n) 0x0604 vc k.dt k.wc).lossOn n vc 0x0604
      | _, _ => s.dev) p))) ∧
  (∀ n : Fin 8, s.dev.isOn (domTracer n) = false →
    let d : Device := (((s.dev.modPower (fun q => { q with gated := false })).setVote (8 + n) (domTracer n) 2).bump
      (F.TRACER_WAKE_LOST n))
    let d : Device := d.modTracer n (fun t => { t with link := { t.link with burstAt := d.timebase } })
    exec (.laneActivityWake n) s = .next (s.after
      (if mapGet (fun _ => false) d.spent (F.TRACER_WAKE_LOST n).addr then d
        else (d.put (F.TRACER_LINK_ERR_WAKE n) 1).raiseFirst (F.TRACER_WAKE_LOST n) 0x0608 n))) ∧
  (∀ n : Fin 8, s.dev.flag (CsiPort.rx n).enabled = true → s.dev.isOn (domTracer n) = true →
    s.dev.flag (CsiPort.rx n).cphy = false → 1500 ≤ s.dev.fld (CsiPort.rx n).rate →
    exec (.deskewReceive n true) s = .next (s.after ((s.dev.put (CsiPort.rx n).deskewed 1).modCsi (.rx n)
      (fun l => { l with trained := true }))) ∧
    exec (.deskewReceive n false) s = .next (s.after
      (((((s.dev.put (CsiPort.rx n).deskewed 0).bump (F.TRACER_PHY_ERR n)).rxError n (F.TRACER_LINK_ERR_PHY n)
        0x0601 0 0 0).modCsi (.rx n) (fun l => { l with dropRest := true })).lossAll n 0x0601))) ∧
  (∀ k : Fin 4, s.dev.flag (CsiPort.tx k).enabled = true → s.dev.isOn (domPress k) = true →
    (s.dev.flag (CsiPort.tx k).cphy = false → 1500 ≤ s.dev.fld (CsiPort.tx k).rate →
      s.dev.fld (F.PRESS_LINK_TIMING_DESKEW_PERIOD k) ≠ 0 →
      100 * s.dev.fld (F.PRESS_LINK_TIMING_DESKEW_PERIOD k) ≤ s.dev.since (s.dev.csi (.tx k)).deskewAt →
      exec (.periodicDeskew k) s = .next (s.after
        ((s.dev.modCsi (.tx k) (fun l => { l with deskewAt := s.dev.timebase })).modPress k
          (fun x => { x with deskews := x.deskews + 1 })))) ∧
    (∀ x rest ue, (s.dev.press k).txq = x :: rest → s.dev.flag (F.PRESS_REPEAT_EN k) = false →
      exec (.packetTransmit k ue) s = .next (s.after (
        let d : Device := (s.dev.inBurst (.tx k)).modPress k (fun q =>
          { q with txq := rest, quietAt := s.dev.timebase })
        let vc := if d.flag (CsiPort.tx k).vcx then x.vc else x.vc % 4
        let zero := ue && !x.body.isEmpty
        let body := if zero then List.replicate x.body.length 0 else x.body
        let d : Device := if x.dt < 16 then
            let e : Device := d.bump (F.PRESS_SHORT_PKTS k)
            let e : Device := e.modPress k (fun q => { q with
              sent := wireHeader (e.flag (CsiPort.tx k).cphy) vc x.dt x.num })
            if x.dt = 1 then e.bump (F.PRESS_FRAMES k) else e
          else
            let e : Device := if zero then
                ((d.bufferUe (pressBase k) k 0).raiseBit (F.PRESS_PR_FAULT_UE k) 0x0616 k).modPress k
                  (fun q => { q with bad := true })
              else d
            ((e.bump (F.PRESS_LONG_PKTS k)).countBytes (.tx k) body.length).modPress k (fun q => { q with
              sent := wireHeader (e.flag (CsiPort.tx k).cphy) vc x.dt body.length ++ body ++ csiCrc body })
        if rest.isEmpty then d.lp11 (.tx k) else d)))) ∧
  (∀ n : Fin 8, s.dev.flag (F.TRACER_LINK_STATUS_HS n) = false → (s.dev.stState = 0 ∨ s.dev.srcEn (64 + n) = false) →
    (s.dev.tracer n).rxq = [] → (s.dev.tracer n).evq = [] → (∀ k < 4, (s.dev.stream n k).units = []) →
    s.dev.fld F.PWR_ARR_HOLD ≤ s.dev.since (s.dev.tracer n).link.burstAt →
    exec (.arrHoldExpire (.rx n)) s = .next (s.after (s.dev.setVote (8 + n) (domTracer n) 0))) ∧
  (∀ k : Fin 4, (s.dev.press k).txq = [] → (s.dev.press k).trailer = none → (s.dev.press k).annDue = [] →
    s.dev.fld (F.PRESS_PR_STATUS k) = 0 → s.dev.fld F.PWR_ARR_HOLD ≤ s.dev.since (s.dev.press k).quietAt →
    exec (.arrHoldExpire (.tx k)) s = .next (s.after (s.dev.setVote (16 + k) (domPress k) 0)))

/-- Tracers (R167, R273 to R287).  The oldest unit received goes to its stream, or a malformed one raises 0x0611 and marks
its frame; the encoder takes on the oldest unit it has yet to consume, what its buffer words give; the first event of a
Tracer whose step and credit allow it is sent as that of any source, and counted for its stream; the closes follow the
last unit and the last event of a step; a Tracer whose placing streams are ready says so; placement offers the next 16
bytes of the frame, short ones filled with zeros and marked once the end of the frame is known, a byte of an
uncorrectable buffer word zero with 0x0613; units that nothing needs are released. -/
def Obligations.TracerCommandsComplete : Prop := ∀ (s : State) (n : Fin 8), s.dev.isOn (domTracer n) = true →
  (∀ k vc dt b stamp rest,
    let d0 : Device := s.dev.ingestHead n
    (d0.tracer n).rxq = .unit k vc dt b stamp :: rest → d0.isOn (domTracer n) = true →
    let d : Device := d0.modTracer n (fun t => { t with rxq := rest })
    (d.flag (F.TRACER_STREAM_CFG_EN n k) = false →
      exec (.inputUnitAccept n) s = .next (s.after ((d.bump (F.TRACER_DT_ERR n)).ingestHead n))) ∧
    (d.flag (F.TRACER_STREAM_CFG_EN n k) = true → unitMalformed dt b = true →
      exec (.inputUnitAccept n) s = .next (s.after
        (((d.raiseBit (F.TRACER_TR_FAULT_MALFORMED n) 0x0611 n).markFrame n k 5
          [⟨5, 4 * n + k, d.fld (F.TRACER_STREAM_STEP n k),
            if (dt = 0x30 ∨ dt = 0x31) ∧ 16 ≤ b.length then leNat ((b.drop 4).take 4) else 0, 0x0611, 0, stamp⟩]).ingestHead
          n))) ∧
    (d.flag (F.TRACER_STREAM_CFG_EN n k) = true → unitMalformed dt b = false →
      exec (.inputUnitAccept n) s = .next (s.after ((d.unitEnter n k dt stamp b).ingestHead n)))) ∧
  (∀ (j : Fin 4) (u : TUnit) (ue : List Nat), s.dev.fld (F.TRACER_STREAM_ENC_CFG0_TYPE n j) ≠ 0 → 2 ≤ s.dev.stState →
    (s.dev.stream n j).units.find? (fun u => !u.encoded) = some u →
    let k := (s.dev.stream n j).units.findIdx (fun u => !u.encoded)
    exec (.encoderUnit n j ue) s = .next (s.after (Device.encGo n j k (u.seen ue) 4098
      (if ue.any (fun w => decide (32 * w < u.body.length)) then
        ((s.dev.bufferUe (tracerBase n) n 0).raiseBit (F.TRACER_TR_FAULT_UE n) 0x0613 n).modStream n j (fun x =>
          match u.frame with
          | some i => x.modFrame i (fun f => { f with marks := f.marks ||| 32 })
          | none => x)
        else s.dev)))) ∧
  (∀ (k step axon payload : Nat) (mc : Bool) (dests : List Nat), 2 ≤ s.dev.stState →
    s.dev.sendPick (64 + n) = some k → (s.dev.source (64 + n)).sendQ[k]? = some (.event step axon payload mc dests) →
    exec (.tracerEventSend n) s = .next (s.after
      (((s.dev.sent (64 + n) step axon payload mc dests ((s.dev.source (64 + n)).sendQ.eraseIdx k)).modTracer n
        (fun t => { t with evq := t.evq.eraseIdx k })).bump
          (F.TRACER_STREAM_EVENTS n ((s.dev.tracer n).evq.getD k 0))))) ∧
  (2 ≤ s.dev.stState → s.dev.srcEn (64 + n) = true → s.dev.encoding n ≠ [] →
    let u := (s.dev.tracer n).closeNext
    let past (t : Nat) : Prop := t ≠ u ∧ stepDiff t u < 2 ^ 31
    (∀ k ∈ s.dev.encoding n, past (s.dev.fld (F.TRACER_STREAM_STEP n k)) ∧
      ∀ x ∈ (s.dev.stream n k).units, x.encoded = true ∨ past x.step) →
    (∀ step axon payload mc dests, .event step axon payload mc dests ∈ (s.dev.source (64 + n)).sendQ → past step) →
    s.dev.mayOffer u = true →
    exec (.tracerStepClose n) s = .next (s.after
      ((s.dev.modTracer n (fun t => { t with closeNext := (u + 1) % 2 ^ 32 })).sendCloses (64 + n) u))) ∧
  (bit (s.dev.fld F.HATCH_FRAME_CFG_TRACER_MASK) n = true → (s.dev.placing n).all (s.dev.streamReady n) = true →
    exec (.tracerFrameReady n) s = .next (s.after
      (s.dev.modHatch (fun h => { h with ready := h.ready ||| 1 <<< n.val })))) ∧
  (∀ ue : BitVec 16,
    (s.dev.hr (14 * n)).edgeBusy = true → (s.dev.hr (14 * n)).offer = [] → s.dev.fld F.HATCH_STATUS_FSTATE = 2 →
    let e := (s.dev.tracer n).plEntry
    let k := s.dev.fld (F.TRACER_PD0_STREAM n e)
    let o := 16 * (s.dev.fld (F.TRACER_PD0_OFFSET n e) + (s.dev.tracer n).plPos)
    let inp := (s.dev.stream n k).input.1
    (o + 16 ≤ inp.length ∨ (s.dev.stream n k).input.2 = true) →
    exec (.placementToken n ue) s = .next (s.after (
      let b := (inp.drop o).take 16
      let v := leNat ((b ++ List.replicate (16 - b.length) 0).mapIdx (fun i x => if bit ue.toNat i then 0 else x))
      let mark (m : Nat) (x : TStream) : TStream := match x.cur with
        | some i => x.modFrame i (fun f => { f with marks := f.marks ||| 1 <<< m })
        | none => x
      let d : Device := s.dev.modStream n k (fun x =>
        { (if b.length < 16 then mark 6 x else x) with reads := (o, o + 16) :: x.reads })
      let d : Device := if ue.toNat ≠ 0 then
          ((d.bufferUe (tracerBase n) n 0).raiseBit (F.TRACER_TR_FAULT_UE n) 0x0613 n).modStream n k (mark 5)
        else d
      let last := decide (d.fld (F.TRACER_PD1 n e) ≤ (s.dev.tracer n).plPos)
      let fin := last && (d.flag (F.TRACER_PD0_LAST n e) || decide (63 ≤ e))
      (d.modTracer n (fun t => { t with
        plEntry := if last then e + 1 else e
        plPos := if last then 0 else t.plPos + 1 })).modHr (14 * n)
          (fun r => { r with offer := [v], edgeBusy := !fin })))) ∧
  (∀ j : Fin 4, exec (.unitRelease n j) s = .next (s.after
    ((s.dev.modStream n j (fun x => { x with units := x.units.filter (fun u => !s.dev.releasable n j u) })).showFill n
      j)))

/-- Presses (R243, R248, R288 to R302, R455).  A Press with room takes the token at its port: in an abort it is dropped,
on the repeat path counted, without an output descriptor an error; else it joins the packet, which goes out full or last,
and the last token ends the tensor.  A trailer ends the frame on every stream it used, and leaves the annotations due
where they are enabled.  An annotation stream sends the records due in parts, 255 at most and the summary.  A readout
whose group has passed sends what its queues hold.  A heartbeat goes out when its period has passed, in place of one that
still waits.  A Press that repeats a Tracer sends what it receives. -/
def Obligations.PressCommandsComplete : Prop := ∀ (s : State) (k : Fin 4),
  let edge := 14 * (2 * k.val + 1) + 13
  (
    let l := vget (s.dev.hr edge).out pEast {}
    l.req ≠ l.ack → s.dev.isOn (domPress k) = true → s.dev.hrOn edge = true → s.dev.hatch.mode = 2 →
    s.dev.pressRoom k = true →
    let v := (tokOf l.data).data
    let d : Device := (s.dev.hAck edge pEast).digTok k v
    let p := d.press k
    (s.dev.aborting = true → exec (.pressTokenTake k) s = .next (s.after (s.dev.hAck edge pEast))) ∧
    (s.dev.aborting = false → d.flag (F.PRESS_REPEAT_EN k) = true →
      exec (.pressTokenTake k) s = .next (s.after (d.bump (F.PRESS_DISCARD_TOK k)))) ∧
    (s.dev.aborting = false → d.flag (F.PRESS_REPEAT_EN k) = false → p.odOn = false →
      exec (.pressTokenTake k) s = .next (s.after ((d.bump (F.PRESS_DISCARD_TOK k)).odError k))) ∧
    (s.dev.aborting = false → d.flag (F.PRESS_REPEAT_EN k) = false → p.odOn = true →
      exec (.pressTokenTake k) s = .next (s.after (
        let e := p.odEntry
        let c := d.fld (F.PRESS_OD0_STREAM k e)
        let d : Device := d.modPress k (fun p => { p with
          pkt := p.pkt ++ [v], odPos := p.odPos + 1, recv := vmod p.recv c (· + 1) })
        let last := decide (d.odTokens k e ≤ p.odPos + 1)
        let d : Device := if last || decide (d.odPkt k e ≤ p.pkt.length + 1) then d.tensorPacket k e else d
        if last then
          let fin := d.flag (F.PRESS_OD0_LAST k e) || decide (63 ≤ e)
          let d : Device := if !d.flag (F.PRESS_OD0_LAST k e) && decide (63 ≤ e) then d.odError k else d
          (d.modPress k (fun p => { p with
            odOn := !fin, odEntry := e + 1, odPos := 0, tensors := vmod p.tensors c (· + 1) })).modHr edge
              (fun r => { r with edgeBusy := r.edgeBusy && !fin })
        else d)))) ∧
  (∀ t, (s.dev.press k).trailer = some t →
    exec (.frameTrailerSend k) s = .next (s.after (
      let marks := t.marks ||| (if (s.dev.press k).bad then 2 else 0)
      let d : Device := s.dev.each (bitsSet 4 (s.dev.fld (F.PRESS_PR_STATUS k))) (fun d c =>
        let vc := d.fld (F.PRESS_RES_CFG_VC k c)
        let d2 := (d.presentLong k vc 0x32 (outHdr 3 (flagsOf marks) 0 t.frame (vget (d.press k).recv c 0)
          (vget (d.press k).tensors c 0) ++ leBytes 8 t.at_ ++ List.replicate 8 0)).presentShort k vc 1
        if bit (flagsOf marks) 0 then d2.bump (F.PRESS_FRAMES_INVALID k) else d2)
      let ann := d.flag (F.PRESS_ANN_CFG_EN k) && !d.flag (F.PRESS_REPEAT_EN k)
      let d : Device := if ann then d.setVote (16 + k) (domPress k) 2 else d
      (d.put (F.PRESS_PR_STATUS k) 0).modPress k (fun p => { p with
        trailer := none, bad := false
        annDue := if ann then p.annDue ++ [{ t with marks := marks }] else p.annDue })))) ∧
  (∀ t rest, (s.dev.press k).annDue = t :: rest →
    let all := t.anns ++ (match t.abort with
      | some c => [({ code := 6, stream := 255, step := 0, arg0 := c, arg1 := 0, arg2 := 0, stamp := t.at_ } : Ann)]
      | none => [])
    let lost := all.length - 255
    let d : Device := (s.dev.modPress k (fun p => { p with annDue := rest })).bumpBy (F.PRESS_ANN_LOST k) lost
    exec (.annotationSend k) s = .next (s.after (
      if (d.press k).mute then d
      else
        let vc := d.fld (F.PRESS_ANN_CFG_VC k)
        let sum : Ann := { code := 1, stream := 255, step := 0, arg0 := flagsOf t.marks + 256 * b2n (decide (0 < lost))
                           arg1 := t.units, arg2 := t.draft, stamp := t.stamp }
        let recs := all.take 255 ++ [sum]
        let parts := chunks 64 recs.length recs
        ((d.presentShort k vc 0).each (List.range parts.length) (fun d i =>
          d.presentLong k vc 0x34 (outHdr 0x20 (if i + 1 < parts.length then 0x80 else 0) i t.frame
            (parts.getD i []).length 0 ++ (parts.getD i []).flatMap (annBytes t.frame)))).presentShort k vc 1))) ∧
  (∀ g, (s.dev.press k).roNext = some g → s.dev.flag (F.PRESS_RO_CFG_EN k) = true →
    s.dev.flag (F.PRESS_REPEAT_EN k) = false →
    let len := s.dev.roGroup k
    let g0 := g - g % len
    let qs := (List.range 8).filter (fun i => s.dev.flag (F.PRESS_RO_BIND_VALID k i))
    (qs = [] ∨ s.dev.fld F.RACK_STATUS_STATE = 2) → stepDiff s.dev.openStep ((g0 + len) % 2 ^ 32) < 2 ^ 31 →
    exec (.readoutGroup k) s = .next (s.after (
      let d : Device := s.dev.modPress k (fun p => { p with roNext := some ((g0 + len) % 2 ^ 32) })
      let r := qs.foldl (fun x i =>
        let q := d.fld (F.PRESS_RO_BIND_QUEUE k i)
        let r := Device.roQueue k q g0 len ((x.2.desc q).used + 1) x.2 []
        (x.1 ++ r.1, r.2)) (([], d) : List (List Byte) × Device)
      if r.2.cold then r.2
      else
        let vc := r.2.fld (F.PRESS_RO_CFG_VC k)
        let parts := packParts (1024 * max 1 (r.2.fld (F.PRESS_RO_CFG_MAXB k))) r.1 []
        (((r.2.presentShort k vc 0).each (List.range parts.length) (fun d i =>
          d.presentLong k vc 0x33 (outHdr 0x10 (if i + 1 < parts.length then 0x80 else 0) i g0
            (parts.getD i []).length len ++ (parts.getD i []).flatten))).presentShort k vc 1).bumpBy
              (F.PRESS_RO_RECORDS k) r.1.length))) ∧
  (s.dev.flag (F.PRESS_HB_CFG_EN k) = true → s.dev.flag (F.PRESS_REPEAT_EN k) = false →
    100 * max 10 (s.dev.fld (F.PRESS_HB_CFG_PERIOD k)) ≤ s.dev.since (s.dev.press k).hbAt →
    exec (.heartbeatSend k) s = .next (s.after (
      let sq := (s.dev.press k).hbSeq
      let vc := s.dev.fld (F.PRESS_HB_CFG_VC k)
      let body := outHdr 0x30 0 0 sq 0 0 ++ s.dev.hbBody
      let d : Device := s.dev.modPress k (fun p => { p with hbSeq := (sq + 1) % 2 ^ 32, hbAt := s.dev.timebase })
      if (d.press k).txq.any (fun x => x.dt = 0x37) then
        (d.modPress k (fun p => { p with
          txq := p.txq.map (fun x => if x.dt = 0x37 then { x with body := body } else x) })).bump (F.PRESS_HB_SKIP k)
      else ((d.presentShort k vc 0).presentLong k vc 0x37 body).presentShort k vc 1))) ∧
  (∀ bytes pkts, s.dev.flag (F.PRESS_REPEAT_EN k) = true →
    exec (.repeatBurst k bytes pkts) s = .next (s.after
      ((s.dev.modPress k (fun p => { p with sent := bytes })).bumpBy (F.PRESS_REPEAT_PKTS k) pkts)))

/-- Queues of the Rack (R62, R164, R306 to R323, R343).  ue: the cached descriptor of the queue is found uncorrectable,
which freezes it; tied: the request was one of several.  A produce request with a good payload check at a Rack that is
not between STOPPED and RUNNING is produced for its core, one with a bad check answered DROPPED.  A blocked produce is
refused for what the descriptor now says, resolved, or waits on, FULL for the RESERVEs behind it.  A consume answers the
payload of the head record, if it takes one; a consume-due answers the head record when it is due, and else that there is
none.  A reservation that has stood longer than RSV_LIMIT becomes a PAD, is rejected and raises 0x0183. -/
def Obligations.RackQueuesComplete : Prop := ∀ (s : State) (tied ue : Bool),
  let t : Device := s.dev.tieRack tied
  (∀ u d, t.rackNext false = some (u, d) → t.fld F.RACK_STATUS_STATE ≠ 1 → t.fld F.RACK_STATUS_STATE ≠ 3 →
    t.isOn domRack = true →
    let q := bits (u.headD 0) 37 22
    let core := bits (u.headD 0) 30 7
    exec (.rackProduce tied ue) s = .next (s.after (if payChk (u.getD 1 0) (u.getD 2 0) = bits (u.headD 0) 8 16
      then ((d.cacheUe ue q).produce q (64 + core) 16 (leBytes 8 (u.getD 1 0) ++ leBytes 8 (u.getD 2 0))).1
      else d.linkLoss.rackRespond 0 core q true []))) ∧
  (∀ q : BitVec 22, s.dev.fld F.RACK_STATUS_STATE = 2 →
    s.dev.rack.resvs.any (fun r => r.queue = q.toNat) = false →
    s.dev.rack.waits.any (fun w => w.queue = q.toNat) = true →
    let f := (s.dev.cacheUe ue q.toNat).fetchDesc q.toNat
    exec (.blockedProduceRetry q ue) s = .next (s.after (match f.1.rack.waits.find? (fun w => w.queue = q.toNat) with
      | none => f.1
      | some w =>
        let d : Device := f.1.modRack (fun r => { r with waits := r.waits.erase w })
        match f.2.refuses w.claimant w.len with
        | some (g, code, reason) => d.refuseWait w g code reason
        | none =>
          if w.reserve then (d.put (F.RACK_SW_STATUS_BUSY w.claimant) 0).reserveNow q.toNat w.claimant w.len
          else
            let r := d.produceNow q.toNat w.claimant w.len w.payload
            if r.2 = .waits then (r.1.modRack (fun k => { k with waits := f.1.rack.waits })).fullWaits q.toNat
            else r.1))) ∧
  (∀ (claimant : Fin 128) (q : BitVec 22),
    let r := (t.cacheUe ue q.toNat).consume q.toNat claimant
    exec (.rackConsume claimant q tied ue) s = .next (s.after (match r.2 with
      | .got _ _ p => { r.1 with rbytes := p }
      | _ => r.1))) ∧
  (∀ u d, t.rackNext true = some (u, d) → t.isOn domRack = true →
    let q := bits (u.headD 0) 37 22
    let core := bits (u.headD 0) 30 7
    let nothing (d : Device) : Device := d.rackRespond 2 core q false []
    let c := (d.cacheUe ue q).consumeCheck q (64 + core)
    exec (.consumeDue tied ue) s = .next (s.after (if c.2.isSome then nothing c.1 else
      match (c.1.headRec q).2 with
      | .data pos h0 h1 =>
        let e : Device := (c.1.headRec q).1
        let a := (e.desc q).addr pos
        if e.ueRange a (recSize (bits h0 0 17)) then
          nothing ((e.noteRange a (recSize (bits h0 0 17))).freezeRec q)
        else if wrapU 16 ((bits (u.headD 0) 8 16 : Int) - (bits (e.ld (a + 8) 4) 0 16 : Int)) < 32768 then
          match (e.takeRec q pos h0 h1).2 with
          | .got _ _ p => (e.takeRec q pos h0 h1).1.rackRespond 1 core q false ((p ++ List.replicate 16 0).take 16)
          | _ => nothing (e.takeRec q pos h0 h1).1
        else nothing e
      | _ => nothing (c.1.headRec q).1))) ∧
  (∀ (q : BitVec 22) r, s.dev.rack.resvs.find? (fun r => r.queue = q.toNat) = some r →
    s.dev.fld F.RACK_RSV_LIMIT < s.dev.since r.at_ →
    exec (.reservationTimeout q) s = .next (s.after
      (((s.dev.resvPad r).bump F.RACK_REJECTS).rackFault F.RACK_FAULT_INVALID 0x0183 q.toNat)))

/-- Queue commands of DQ_CMD (R305, R306, R313, R314, R322, R508).  At a RUNNING Rack each acts on the queue of DQ_SEL
and leaves its result: READ shows the descriptor; INIT writes a well-formed one over a queue that is not in use, refused
with REASON 1 or 2; DISABLE clears VALID and discards what waits and what is reserved; CLAIM takes a free claim unless the
initiator is declared; RELEASE gives up the initiator's own, else REASON 3; REVOKE by Hardground clears any, REASON 4 for
another; FLUSH_ONE writes the cached descriptor back. -/
def Obligations.RackDescriptorCommandsComplete : Prop := ∀ (s : State) (ini : Ini),
  s.dev.admits ini 0x0320000104 = true → s.dev.fld F.RACK_STATUS_STATE = 2 →
  let i := ini.num
  let q := s.dev.fld (F.RACK_DQ_SEL i)
  let d : Device := (s.dev.fetchDesc q).1
  let e := (s.dev.fetchDesc q).2
  exec (.dqRead ini) s = .next (s.after
    (((((d.put (F.RACK_DQ_DATA 0 i) e.w0).put (F.RACK_DQ_DATA 1 i) e.w1).put (F.RACK_DQ_DATA 2 i) e.w2).put
      (F.RACK_DQ_DATA 3 i) e.w3).dqResult i 0)) ∧
  (
    let x : Desc := ⟨d.fld (F.RACK_DQ_DATA 0 i), d.fld (F.RACK_DQ_DATA 1 i), d.fld (F.RACK_DQ_DATA 2 i),
      d.fld (F.RACK_DQ_DATA 3 i)⟩
    exec (.dqInit ini) s = .next (s.after (
      if e.valid = true ∧ e.frozen = false then d.dqResult i 1
      else if d.descOk x = true then
        (((d.setDesc q (x.setW1 29 1 0)).dropResvs q).modRack (fun k =>
          { k with seqs := nput k.seqs q 0, peeks := k.peeks.filter (fun p => p.2 ≠ q) })).dqResult i 0
      else d.dqResult i 2))) ∧
  exec (.dqDisable ini) s = .next (s.after
    ((((d.setDesc q (e.setW1 31 1 0)).frozenWaits q).dropResvs q).dqResult i 0)) ∧
  exec (.claimP ini) s = .next (s.after (if bits e.w1 17 7 = 0 ∧ d.declared i = false
    then (d.setDesc q (e.setW1 17 7 i)).dqResult i 0 else d.dqResult i 3)) ∧
  exec (.claimC ini) s = .next (s.after (if bits e.w1 10 7 = 0 ∧ d.declared i = false
    then (d.setDesc q (e.setW1 10 7 i)).dqResult i 0 else d.dqResult i 3)) ∧
  exec (.releaseP ini) s = .next (s.after (if bits e.w1 17 7 = i
    then (d.setDesc q (e.setW1 17 7 0)).dqResult i 0 else d.dqResult i 3)) ∧
  exec (.releaseC ini) s = .next (s.after (if bits e.w1 10 7 = i
    then (d.setDesc q (e.setW1 10 7 0)).dqResult i 0 else d.dqResult i 3)) ∧
  exec (.revokeP ini) s = .next (s.after (if i = iniHg then (d.revokeP q).dqResult i 0 else s.dev.dqResult i 4)) ∧
  exec (.revokeC ini) s = .next (s.after (if i = iniHg then (d.revokeC q).dqResult i 0 else s.dev.dqResult i 4)) ∧
  exec (.flushOne ini) s = .next (s.after ((s.dev.flushQueue q).dqResult i 0))

/-- Software commands of SW_CMD (R308, R311, R313, R318 to R320).  Each starts with the initiator's status for the queue
of DQ_SEL.  RESERVE is refused with its REASON, waits behind another's open reservation, finds FULL where a produce
waits, or is resolved; COMMIT and ABORT end the initiator's reservation, without one REASON 1; PEEK shows the head record
and its place, or EMPTY; RELEASE passes a record that was peeked, else REASON 1. -/
def Obligations.RackSoftwareCommandsComplete : Prop := ∀ (s : State) (ini : Ini),
  s.dev.admits ini 0x0320000120 = true → s.dev.fld F.RACK_STATUS_STATE = 2 →
  let i := ini.num
  let q := s.dev.fld (F.RACK_DQ_SEL i)
  let d : Device := s.dev.swStart i q
  d.fld F.RACK_STATUS_STATE = 2 →
  (
    let f := d.fetchDesc q
    let len := s.dev.fld (F.RACK_SW_LEN i)
    (65536 < len → exec (.reserve ini) s = .next (s.after (f.1.swErr i 2))) ∧
    (len ≤ 65536 → ∀ g code reason, f.2.refuses i len = some (g, code, reason) →
      exec (.reserve ini) s = .next (s.after (((f.1.rackFault g code q).bump F.RACK_REJECTS).swErr i reason))) ∧
    (len ≤ 65536 → f.2.refuses i len = none → exec (.reserve ini) s = .next (s.after (
      if f.1.holds i q then f.1.swErr i 1
      else if f.1.rack.resvs.any (fun r => r.queue = q) then
        (f.1.modRack (fun k => { k with waits := k.waits ++ [⟨q, i, len, [], true⟩] })).put (F.RACK_SW_STATUS_BUSY i) 1
      else if f.1.rack.waits.any (fun w => w.queue = q) then f.1.reserveFull q i
      else f.1.reserveNow q i len)))) ∧
  (∀ c ∈ [(true, Instr.commit ini), (false, .swAbort ini)],
    (d.rack.resvs.find? (fun r => r.queue = q && r.ini = i) = none → exec c.2 s = .next (s.after (d.swErr i 1))) ∧
    (∀ r, d.rack.resvs.find? (fun r => r.queue = q && r.ini = i) = some r → exec c.2 s = .next (s.after
      (if (d.resvClose r c.1).2 || !c.1 then (d.resvClose r c.1).1
        else ((d.resvClose r c.1).1.bump F.RACK_REJECTS).swErr i 1)))) ∧
  (
    let c := d.consumeCheck q i
    let h := c.1.headRec q
    let e : Device := h.1
    let stop : Device := if c.2 = some .refused then c.1.swErr i 3 else c.1.put (F.RACK_SW_STATUS_EMPTY i) 1
    exec (.peek ini) s = .next (s.after (if c.2.isSome then stop else match h.2 with
      | .empty => e.put (F.RACK_SW_STATUS_EMPTY i) 1
      | .bad _ => e.swErr i 1
      | .data pos h0 h1 =>
        (((e.put (F.RACK_SW_HDR0 i) h0).put (F.RACK_SW_HDR1 i) h1).put64 (F.RACK_SW_ADDR_LO i)
          (F.RACK_SW_ADDR_HI i) ((e.desc q).addr pos + 8)).modRack (fun k =>
            { k with peeks := k.peeks.filter (fun p => p ≠ (i, q)) ++ [(i, q)] }))) ∧
    (d.rack.peeks.contains (i, q) = false → exec (.swRelease ini) s = .next (s.after (d.swErr i 1))) ∧
    (d.rack.peeks.contains (i, q) = true →
      exec (.swRelease ini) s = .next (s.after (if c.2.isSome then stop else match h.2 with
        | .empty => e.put (F.RACK_SW_STATUS_EMPTY i) 1
        | .bad _ => e.swErr i 1
        | .data pos h0 _ =>
          ((e.setDesc q ((e.desc q).setHead ((pos + recSize (bits h0 0 17) / 8) % 2 ^ 28))).bump
            F.RACK_RECORDS_OUT).modRack (fun k => { k with peeks := k.peeks.filter (fun p => p ≠ (i, q)) })))))

/-- The Rack as a whole (R306, R307, R321 to R323) and its endpoints in a frame (R309, R316, R317).  EN = 1 on a STOPPED
Rack with its table in the usable range starts it, and clears the table the first time; with the table elsewhere it is
refused with 0x0183.  It is RUNNING once started.  EN = 0 stops it, and once it has drained every cached descriptor is
back and it is STOPPED.  FLUSH writes the cache back.  RH_IN makes a record of the tokens of its entry; RH_OUT offers the
tokens of the record it takes, cut or filled with zeros to the entry's size, or zeros for what is left of the entry from a
queue that supplies nothing; an empty queue, or a Rack that is stopped, has it wait. -/
def Obligations.RackControlCompletes : Prop := ∀ (s : State) (ini : Ini),
  (s.dev.admits ini F.RACK_CTRL_EN.addr = true → s.dev.fld F.RACK_CTRL_FLUSH = 0 →
    let on : Device := s.dev.put F.RACK_CTRL_EN 1
    let off : Device := s.dev.put F.RACK_CTRL_EN 0
    (s.dev.fld F.RACK_STATUS_STATE = 0 →
      let d : Device := on.put F.RACK_STATUS_STATE 1
      exec (.rackStart ini) s = .next (s.after (
        if on.descBase < lpBase ∨ lpEnd < on.descBase + 0x4000000 then
          (on.put F.RACK_CTRL_EN 0).rackFault F.RACK_FAULT_INVALID 0x0183 0
        else if s.dev.rack.started then d
        else (d.clearMem d.descBase 0x4000000).modRack (fun k => { k with started := true }))) ∧
      exec (.rackStop ini) s = .next (s.after off)) ∧
    (s.dev.fld F.RACK_STATUS_STATE ≠ 0 →
      exec (.rackStart ini) s = .next (s.after on) ∧
      exec (.rackStop ini) s = .next (s.after (off.put F.RACK_STATUS_STATE 3)))) ∧
  (s.dev.admits ini F.RACK_CTRL_FLUSH.addr = true →
    exec (.rackFlush ini) s = .next (s.after
      (if s.dev.fld F.RACK_CTRL_EN = 1 then s.dev.rackFlush.rackStart else s.dev.rackFlush.rackStop))) ∧
  (s.dev.fld F.RACK_STATUS_STATE = 1 →
    exec .rackRunning s = .next (s.after (s.dev.put F.RACK_STATUS_STATE 2))) ∧
  (s.dev.fld F.RACK_STATUS_STATE = 3 →
    exec .rackStopped s = .next (s.after
      (((s.dev.rackFlush.modRack (fun k => { k with cache := [] })).rackDirty).put F.RACK_STATUS_STATE 0))) ∧
  (
    let x := s.dev.rack.rhIn
    let e := s.dev.rhEntry false x.entry
    s.dev.isOn domRack = true → x.active = true → e.tokens ≤ x.toks.length → s.dev.rhHeld = false →
    exec .rhInRecord s = .next (s.after
      ((s.dev.produce e.queue iniRack (16 * e.tokens) ((x.toks.take e.tokens).flatMap (leBytes 16))).1.rhNext false
        false { x with toks := x.toks.drop e.tokens }))) ∧
  (
    let x := s.dev.rack.rhOut
    let e := s.dev.rhEntry true x.entry
    let r := s.dev.consume e.queue iniRack
    let give (d : Device) (toks : List Nat) : Device := (d.modHr 104 (fun r => { r with offer := toks })).progress
    s.dev.isOn domRack = true → x.active = true → (s.dev.hr 104).offer = [] →
    exec .rhOutRecord s = .next (s.after (match r.2 with
      | .stopped => r.1
      | .empty => r.1
      | .got _ _ p =>
        let d : Device := if 16 * e.tokens < p.length
          then (r.1.bump F.RACK_TRUNC).rackFault F.RACK_FAULT_ENDPOINT 0x0187 e.queue else r.1
        let p := (p ++ List.replicate (16 * e.tokens - p.length) 0).take (16 * e.tokens)
        (give d ((List.range e.tokens).map (fun k => leNat ((p.drop (16 * k)).take 16)))).rhNext true false x
      | _ => (give r.1 (List.replicate ((e.records - x.recs) * e.tokens) 0)).rhNext true true { x with bad := true })))

/-- Memory integrity (R190, R327 to R347).  A Burnisher that is enabled, in a domain that is ON, corrects what its queue
holds, or else reads its next word or page; a tile bank in use counts its conflict instead, and repeats a read that a
write has met.  A correction writes back the oldest word of the queue if it still is correctable, its damage gone, and the
hit is logged.  REMAP retires a place within its bank, is a request without a spare where every entry is in use, and else
an access error.  LOG_CLEAR empties the log, whose LOST may raise its code again.  INVAL takes its range, an access error
while one runs, and at its end the range reads as never written.  The raw commands of a Scribe or of JTAG act on the page
or the word that RAW_SEL names, where it exists and its unit is idle, else ERR and 0x0106.  A refresh poll shows the
rate; a hot one shows rate 2 and HOT, with 0x0125. -/
def Obligations.IntegrityCommandsComplete : Prop := ∀ (s : State) (ini : Ini),
  (∀ (b : IntBlk) (vf : List Bool) (clash : Option Clash) (bitmap : Bool), s.dev.isOn b.dom = true →
    let d : Device := { s.dev with verifyFails := vf }
    let on : Prop := s.dev.flag (match b with
      | .mc m => F.MC_CTRL_SCRUB_EN m
      | _ => F.INT_CTRL_SCRUB_EN b.base) = true
    (∀ n, b = .plate n → s.dev.flag (F.PLATE_SCRUB_EN b.base) = true →
      s.dev.fld (F.ETCH_FIX_STATUS_STATE n) ≠ 2 → s.dev.fld (F.ETCH_FIX_STATUS_STATE n) ≠ 3 →
      exec (.scrubRead b vf clash bitmap) s = .next (s.after (d.scrubPlate n))) ∧
    ((∀ n, b ≠ .plate n) → on → s.dev.corr b.base ≠ [] →
      exec (.scrubRead b vf clash bitmap) s = .next (s.after (d.correction b))) ∧
    ((∀ n, b ≠ .plate n) → on → s.dev.corr b.base = [] →
      exec (.scrubRead b vf clash bitmap) s = .next (s.after (match b with
        | .mc m => d.scrubLp m bitmap
        | .graver n =>
          let a := (d.scanFrom b (8192 * d.fld (F.INT_SCRUB_POS_BANK b.base) +
            d.fld (F.INT_SCRUB_POS_WORD b.base))).getD 0
          match clash with
          | some c => d.busy n c
          | none => if (d.tile n).held.any (heldBy a (· = 7)) then d.modTile n (fun t => t.unhold a (· = 7))
            else d.scrubSram b
        | _ => d.scrubSram b)))) ∧
  (∀ (b : IntBlk) (a : Nat) (rest : List Nat), s.dev.corr b.base = a :: rest → s.dev.isOn b.dom = true →
    let d : Device := { s.dev with corrQ := mapPut (fun _ => []) s.dev.corrQ b.base rest }
    (∀ x, d.damageAt a = some x → x.ue = false →
      exec (.correctionWriteback b) s = .next (s.after (
        let e : Device := { d with damage := mapDel a d.damage }
        match b with
        | .mc m => e.lpHit m.val (lpPlace a).2.1 (lpPlace a).2.2
        | _ => e.sramHit b (b.placeOf a)))) ∧
    ((d.damageAt a = none ∨ ∃ x, d.damageAt a = some x ∧ x.ue = true) →
      exec (.correctionWriteback b) s = .next (s.after d))) ∧
  (∀ (b : IntBlk) (k e : Fin 32) (v : Word), s.dev.admits ini (b.remapAddr k e) = true →
    (regRow (b.remapAddr k e)).isSome = true →
    let refused : Device := s.dev.accError ini.num 4 (busOff (iniAddr ini (b.remapAddr k e)))
    (∀ m : Fin 4, b = .mc m → k.val < 4 →
      exec (.remapWrite ini b k e v) s = .next (s.after (
        if s.dev.flag (F.MC_REMAP_VALID m k e) then
          (if (s.dev.freeLp m k).isNone then s.dev.remapLp m k 0 none else refused)
        else if bits v.toNat 0 20 < 983040 then s.dev.remapLp m k (bits v.toNat 0 20) (some e.val) else refused))) ∧
    ((∀ m, b ≠ .mc m) → e.val < 8 →
      exec (.remapWrite ini b k e v) s = .next (s.after (
        if s.dev.flag (F.INT_REMAP_VALID b.base k e) then
          (if (s.dev.freeSram b.block k).isNone then s.dev.remapSram b.block k 0 none else refused)
        else if bits v.toNat 0 13 < b.block.words k then s.dev.remapSram b.block k (bits v.toNat 0 13) (some e.val)
        else refused)))) ∧
  (∀ b : IntBlk, s.dev.admits ini b.logClearAddr = true → exec (.logClear ini b) s = .next (s.after (match b with
    | .mc m => (s.dev.each (List.range 64) (fun d i =>
        (d.putWord (F.MC_LOG0_VALID m i).addr 0).putWord (F.MC_LOG1 m i).addr 0)).rearm b.logClearAddr
    | _ =>
      let d : Device := s.dev.each (List.range 16) (fun d i =>
        (d.putWord (F.INT_LOG0_VALID b.base i).addr 0).putWord (F.INT_LOG1 b.base i).addr 0)
      let d : Device := match b.block with
        | .etch _ => d.each (List.range 16) (fun d i =>
            (d.putWord (F.PLATE_LOG0_VALID b.base i).addr 0).putWord (F.PLATE_LOG1 b.base i).addr 0)
        | _ => d
      d.rearm b.logClearAddr))) ∧
  (∀ (m : Fin 4), s.dev.admits ini (F.MC_INVAL_CMD_GO m).addr = true →
    exec (.invalGo ini m) s = .next (s.after (if s.dev.flag (F.MC_INVAL_CMD_BUSY m)
      then s.dev.accError ini.num 4 (busOff (iniAddr ini (F.MC_INVAL_CMD_GO m).addr))
      else { s.dev.put (F.MC_INVAL_CMD_BUSY m) 1 with
        inval := s.dev.inval ++ [(m.val, s.dev.fld (F.MC_INVAL_BASE m), s.dev.fld (F.MC_INVAL_LEN m))] }))) ∧
  (∀ (m : Fin 4) (base len : Nat), s.dev.inval.find? (fun e => e.1 = m.val) = some (m.val, base, len) →
    exec (.invalDone m) s = .next (s.after (
      let lo := max (1024 * base) (lpBase + m.val * 0xF0000000)
      let hi := min (1024 * (base + len)) (lpBase + (m.val + 1) * 0xF0000000)
      let d : Device := if lo < hi then s.dev.clearMem lo (hi - lo) else s.dev
      { d.put (F.MC_INVAL_CMD_BUSY m) 0 with inval := d.inval.filter (fun e => e.1 ≠ m.val) }))) ∧
  (∀ (b : IntBlk) (vf : List Bool), isScribeOrJtag ini.num = true → s.dev.admits ini b.rawCmdAddr = true →
    let pad (l : List Byte) : List Byte := (l ++ List.replicate 64 0).take 64
    let raw (cmd : Nat) (vf : List Bool) : Device :=
      let d : Device := { s.dev with verifyFails := vf }
      let word (c : IntBlk) : Device := if d.rawIdle c ini.num then d.rawSram c cmd else d.rawResult c false
      match b.block with
      | .mc m =>
        let q := d.fld (F.MC_RAW_SEL_PAGE m)
        let t := codeT (d.fld (F.MC_CTRL_T m)) 8
        if 983040 ≤ q then d.rawResult (.mc m) false
        else d.rawPage (.mc m) cmd q (d.fld (F.MC_RAW_SEL_CHUNK m)) (lpAddr m (d.fld (F.MC_RAW_SEL_CH m)) q) 1024
          (fun l => pad (Config.bchPage t l)) t (14 * t + 1)
      | .etch n =>
        let pg := d.fld (F.INT_RAW_SEL_WORD b.base) % 2048
        let t := codeT (d.fld (F.PLATE_STATUS_T b.base)) 16
        if d.flag (F.INT_RAW_SEL_PLATE b.base) then
          d.rawPage (.etch n) cmd pg (d.fld (F.INT_RAW_SEL_BANK b.base)) (plateBase n + 512 * pg) 512
            (fun l => pad (Config.bchPlate t l)) t (13 * t + 1)
        else word (.etch n)
      | c => word c
    exec (.rawRead ini b) s = .next (s.after (raw 1 [])) ∧
    exec (.rawWrite ini b vf) s = .next (s.after (raw 2 vf)) ∧
    exec (.rawGet ini b) s = .next (s.after (raw 3 [])) ∧
    exec (.rawPut ini b) s = .next (s.after (raw 4 []))) ∧
  (∀ m rate : Fin 4, s.dev.isOn (domMc m) = true →
    exec (.refreshRatePoll m rate true) s = .next (s.after
      (((s.dev.put (F.MC_STATUS_REFRATE m) 2).put (F.MC_STATUS_HOT m) 1).raiseBit (F.MC_FAULT_HOT m) 0x0125 m)) ∧
    exec (.refreshRatePoll m rate false) s = .next (s.after
      ((s.dev.put (F.MC_STATUS_REFRATE m) (min rate 2)).put (F.MC_STATUS_HOT m) 0)))

/-- Power domains and bands (R351 to R361).  A vote word written by its client's owner takes its value and its domains
settle; Hardground's are overrides, which skip the hold; another's is an access error, and fields of hardware and
reserved clients stand.  A domain whose votes ask for ON, OFF or in retention, begins its wake, with the clusters that may
start together, or waits for room.  Each ready step leads to the next, the regulator's waiting while a band changes, an OFF
domain losing the valid bits of its memories and a controller's channels being trained; the fourth makes it ON and counts a
wake.  A step that never comes turns it OFF with 0x0709.  A low target held for HOLD ticks quiesces an ON domain, which is
isolated once its unit is quiescent and its links are empty and goes to its target; DRAIN_LIMIT takes a drain back with
0x0702; a forced one is completed after 1,000 ticks, what crosses the boundary discarded with 0x070A.  An I3C address wakes
SCRIBE[0].  A band change starts at a boundary and ends in the band. -/
def Obligations.PowerDomainsComplete : Prop := ∀ s : State,
  (∀ (ini : Ini) (c : Fin 32) (w : Fin 8) (v : Word), s.dev.admits ini (F.PWR_VOTE c w).addr = true →
    exec (.voteWrite ini c w v) s = .next (s.after (
      let refused : Device := s.dev.accError ini.num 4 (busOff (iniAddr ini (F.PWR_VOTE c w).addr))
      let put : Device := s.dev.putWord (F.PWR_VOTE c w).addr (if w.val = 7 then v &&& 0x3FFFFFFF else v)
      let doms : List Nat := (List.range 16).map (· + 16 * w.val)
      if c.val ≤ 4 then
        (if (c.val = 0 ∧ ini = .host) ∨ (∃ n : Fin 4, c.val = n + 1 ∧ ini = .scribe n)
          then put.each doms (fun d i => d.settle i) else refused)
      else if c.val = 31 then (if ini = .hg then put.each doms (fun d i => d.settleNow i) else refused)
      else s.dev))) ∧
  (∀ (i : Fin 127) (o : Bool), 2 ≤ s.dev.boot →
    ((s.dev.dom i).phase = .pending o ∨
      (s.dev.resolved i = 2 ∧ s.dev.domState i < 2 ∧ o = decide (s.dev.domState i = 0) ∧
        ((s.dev.dom i).phase = .steady ∨ ∃ t since, (s.dev.dom i).phase = .hold t since))) →
    exec (.domainRaise i) s = .next (s.after (
      let d : Device := s.dev.setDom i 3
      if d.mayWake i o = true then
        let e : Device := if wakeClass i o = 0 then d.modPower (fun p => { p with
          wakeStarts := p.wakeStarts.filter (fun t => decide (d.since t < 2000)) ++ [d.timebase] }) else d
        e.modDom i (fun x => { x with phase := .wake 1 e.timebase o })
      else d.modDom i (fun x => { x with phase := .pending o })))) ∧
  (∀ (i : Fin 127) (k t : Nat) (o : Bool), (s.dev.dom i).phase = .wake k t o →
    exec (.wakeStepReady i) s = .next (s.after (
      if k = 1 ∧ s.dev.flag F.CONTRACT_STATUS_TRANSITION = true then s.dev
      else if k < 4 then
        let d : Device := if k = 3 ∧ o = true then s.dev.clearValid i else s.dev
        let d : Device := if k = 3 ∧ o = true ∧ 119 ≤ i.val ∧ i.val < 123 then d.put (F.MC_STATUS_TRAINED (i - 119)) 1
          else d
        d.modDom i (fun x => { x with phase := .wake (k + 1) d.timebase o })
      else
        let d : Device := (((s.dev.setDom i 2).bump F.PWR_WAKES).modDom i (fun x => { x with phase := .steady })).settleNow i
        if 65 ≤ i.val ∧ i.val < 97 then d.tileWake (i - 65)
        else if 115 ≤ i.val ∧ i.val < 119 then d.pressStop (i - 115)
        else d)) ∧
    exec (.wakeStepTimeout i) s = .next (s.after
      (((s.dev.modDom i (fun x => { x with ignored := true })).enterLow i 0).raiseBit F.PWR_FAULT_WAKE 0x0709
        wholeDevice))) ∧
  (∀ (i : Fin 127) (t since : Nat), (s.dev.dom i).phase = .hold t since →
    (s.dev.fld F.PWR_CTRL_HOLD ≤ s.dev.since since ∨ s.dev.overridden i = true) →
    exec (.lowerHoldExpire i) s = .next (s.after (
      if s.dev.domState i = 1 then s.dev.enterLow i t
      else (s.dev.setDom i 3).modDom i (fun x => { x with
        phase := .quiesce t s.dev.timebase (s.dev.overridden i) })))) ∧
  (∀ (i : Fin 127) (t since : Nat) (forced : Bool), (s.dev.dom i).phase = .quiesce t since forced →
    (s.dev.quiescent i = true → s.dev.boundaryEmpty i = true →
      exec (.domainIsolate i) s = .next (s.after ((s.dev.enterLow i t).settleNow i))) ∧
    (forced = false → s.dev.fld F.PWR_DRAIN_LIMIT ≤ s.dev.since since →
      let d : Device := ((s.dev.setDom i 2).bump F.PWR_DRAIN_FAIL).raiseBit F.PWR_FAULT_DRAIN 0x0702 wholeDevice
      exec (.drainLimitExpire i) s = .next (s.after
        (d.modDom i (fun x => { x with phase := .hold t s.dev.timebase })))) ∧
    (forced = true → 1000 ≤ s.dev.since since →
      exec (.forcedLowerTimeout i) s = .next (s.after (
        if s.dev.quiescent i = true ∧ s.dev.boundaryEmpty i = true then (s.dev.enterLow i t).settleNow i
        else ((s.dev.discardBoundary i).enterLow i t).raiseBit F.PWR_FAULT_FORCED_DISCARD 0x070A wholeDevice)))) ∧
  (s.dev.isOn (domScribe 0) = false → s.dev.host.i3c.da.isSome = true →
    exec .i3cAddressWake s = .next (s.after
      ((s.dev.modPower (fun p => { p with gated := false })).setVote 0 (domScribe 0) 2))) ∧
  (
    let target := if s.dev.flag F.HG_STATUS_FORCED then 0 else s.dev.fld F.PWR_BAND_REQ
    s.dev.atBoundary = true → s.dev.flag F.CONTRACT_STATUS_TRANSITION = false →
    target ≠ s.dev.fld F.CONTRACT_STATUS_VB →
    exec .bandChangeStart s = .next (s.after
      ((s.dev.put F.CONTRACT_STATUS_VB_TARGET target).put F.CONTRACT_STATUS_TRANSITION 1))) ∧
  (s.dev.flag F.CONTRACT_STATUS_TRANSITION = true →
    exec .bandChangeEnd s = .next (s.after
      ((((s.dev.put F.CONTRACT_STATUS_VB (s.dev.fld F.CONTRACT_STATUS_VB_TARGET)).put F.CONTRACT_STATUS_TRANSITION
        0).bump F.PWR_BAND_CHANGES).limitCheck)))

/-- Sensors, the policy and Hardground (R362 to R370).  A reading shows as valid; a missing one clears VALID, declares
the cause and raises 0x0708.  A rail sample shows its average power and adds its energy.  The policy at its point, at a
boundary, asks for the draft and the band of the ladder point it chooses: the last one while forced; else, after its dwell,
the next towards where power, temperature and backlog point that is admitted; else where it is, or the next admitted one
above.  Each cause limits and raises its code; the trip limit takes force 100,000 ticks later and ends with its causes; a
cause clears when its condition has passed; a Scribe's kick restarts the watchdog, a release without causes ends FORCED, a
write of CFG stands, and those of any other are access errors.  A limit that the regulator does not follow, or 115 degrees,
shuts the part down. -/
def Obligations.PowerSafetyCompletes : Prop := ∀ s : State,
  (∀ (i : Fin 16) (x : BitVec 16), exec (.sensorSample i (some x)) s = .next (s.after
    (((s.dev.put (F.PWR_TS_VALID i) 1).put (F.PWR_TS_TEMP i) x.toNat).modPower (fun p =>
      { p with failedTs := p.failedTs.filter (· ≠ i.val) }) |>.tsMax))) ∧
  (∀ i : Fin 16, exec (.sensorSample i none) s = .next (s.after
    ((((s.dev.put (F.PWR_TS_VALID i) 0).modPower (fun p =>
      { p with failedTs := i.val :: p.failedTs.filter (· ≠ i.val) })).tsMax.sensorCause).raiseBit F.HG_FAULT_SENSOR
        0x0708 wholeDevice))) ∧
  (∀ (r : Fin 9) (mw : BitVec 32), exec (.railSample r mw) s = .next (s.after (
    let l := (mapGet (fun _ => []) s.dev.power.railAvg r : List Nat) ++ [mw.toNat]
    let l := l.drop (l.length - 10)
    let e := nget s.dev.power.railRest r + mw.toNat
    let d : Device := s.dev.modPower (fun p => { p with
      railAvg := mapPut (fun _ => []) p.railAvg r l, railRest := nput p.railRest r (e % 1000) })
    let d : Device := d.put (F.PWR_RAIL_POWER r) (l.foldl (· + ·) 0 / l.length)
    let d : Device := d.put64 (F.PWR_RAIL_ENERGY_LO r) (F.PWR_RAIL_ENERGY_HI r)
      (d.fld (F.PWR_RAIL_ENERGY_LO r) + d.fld (F.PWR_RAIL_ENERGY_HI r) <<< 32 + e / 1000)
    let sum (f : Nat → Nat) : Nat := ((List.range 9).map f).foldl (· + ·) 0
    let d : Device := d.put F.PWR_PKG_POWER (min (2 ^ 32 - 1) (sum (fun k => d.fld (F.PWR_RAIL_POWER k))))
    let d : Device := d.put64 F.PWR_PKG_ENERGY_LO F.PWR_PKG_ENERGY_HI
      (sum (fun k => d.fld (F.PWR_RAIL_ENERGY_LO k) + d.fld (F.PWR_RAIL_ENERGY_HI k) <<< 32))
    let below := decide (100 * d.fld F.PWR_PKG_POWER < 95 * (1000 * min 130 (d.fld F.HG_CFG_CAP)))
    (d.modPower (fun p => { p with
      capBelow := if below then some (p.capBelow.getD d.timebase) else none })).limitCheck))) ∧
  (
    let d := s.dev
    let p := d.power.policy
    let k0 := d.power.point
    let n := p.points.length
    let lead := decide (d.fld F.PAIR_STATUS_ROLE = 1) && d.pair.partForced
    let draft (k : Nat) : Nat := bits (p.points.getD k 0) 0 2
    let band (k : Nat) : Nat := bits (p.points.getD k 0) 2 3
    let ok (k : Nat) : Bool := decide (d.boundOf (draft k) (band k) ≠ 0)
    let used := (d.pkgEnergy + 2 ^ 64 - d.power.samples.getD (p.winMs - 1) (d.power.samples.getLastD d.pkgEnergy)) % 2 ^ 64
    let want : Int :=
      if min p.pSust 95000 < used / max 1 p.winMs ∨ p.tSoft ≤ sgn 16 (d.fld F.PWR_TS_MAX_TEMP) then k0 + 1
      else if p.bHi ≤ d.backlog then k0 - 1
      else if d.backlog ≤ p.bLo then k0 + 1
      else k0
    let up : List Nat := ((List.range n).filter (fun j : Nat => decide (want ≤ (j : Int)))).filter ok
    let down : List Nat := (((List.range n).filter (fun j : Nat => decide ((j : Int) ≤ want))).filter ok).reverse
    let moved : Nat := if p.dwell ≤ d.power.sinceMove ∧ want ≠ k0 then
      (if (k0 : Int) < want then up.headD k0 else down.headD k0) else k0
    let k : Nat := if d.flag F.HG_STATUS_FORCED = true then n - 1
      else if ok moved = true then moved
      else (((List.range n).filter (fun j => decide (moved < j))).filter ok).headD moved
    d.atBoundary = true → (vget d.scribes 1 {}).running = true → d.isOn (domScribe 1) = true →
    (d.fld F.PAIR_STATUS_ROLE ≠ 2 ∨ d.fld F.PAIR_STATUS_STATE ≠ 3) → p.points ≠ [] →
    exec .powerPolicyStep s = .next (s.after
      ((((d.modPower (fun q => { q with point := k, sinceMove := if k ≠ k0 then 0 else q.sinceMove + 1 })).put
        F.HATCH_NEXT_DRAFT_DRAFT (if lead = true then 3 else draft k)).put F.PWR_BAND_REQ (band k)).bandStart))) ∧
  (s.dev.inReset = false →
    (s.dev.capMw < s.dev.fld F.PWR_PKG_POWER → exec .capExceeded s = .next (s.after
      ((((s.dev.modPower (fun p => { p with limit := s.dev.capMw, capBelow := none })).put F.HG_STATUS_LIMITING 1).setCause
        F.HG_STATUS_CAP).raiseBit F.HG_FAULT_CAP 0x0701 wholeDevice))) ∧
    (s.dev.hotAt (min 110 (s.dev.fld F.HG_CFG_WARN)) = true →
      exec .thermalWarn s = .next (s.after (s.dev.raiseBit F.HG_FAULT_WARN 0x0703 wholeDevice))) ∧
    (s.dev.hotAt 110 = true → exec .thermalTrip s = .next (s.after
      ((s.dev.setTrip F.HG_STATUS_TRIP).raiseBit F.HG_FAULT_TRIP 0x0704 wholeDevice))) ∧
    (∀ m : Fin 4, s.dev.isOn (domMc m) = true → s.dev.flag (F.MC_STATUS_HOT m) = true →
      exec .mcHotCause s = .next (s.after
        ((s.dev.setTrip F.HG_STATUS_MC_HOT).raiseBit F.HG_FAULT_TRIP 0x0704 wholeDevice))) ∧
    (s.dev.flag F.HG_STATUS_LIMITING = true →
      exec .regulatorFloorTimeout s = .next (s.after s.dev.shutdown)) ∧
    (s.dev.hotAt 115 = true → exec .thermalShutdown s = .next (s.after s.dev.shutdown))) ∧
  (s.dev.power.failedTs ≠ [] →
    exec .sensorCause s = .next (s.after (s.dev.setTrip F.HG_STATUS_SENSOR))) ∧
  (∀ t, s.dev.power.tripAt = some t → 100000 ≤ s.dev.since t →
    (s.dev.flag F.HG_STATUS_TRIP = true ∨ s.dev.flag F.HG_STATUS_MC_HOT = true ∨ s.dev.flag F.HG_STATUS_SENSOR = true) →
    exec .tripLimitTimer s = .next (s.after
      ((s.dev.modPower (fun p => { p with tripLimit := true, tripAt := none })).put F.HG_STATUS_LIMITING 1))) ∧
  (s.dev.power.wdOn = true → s.dev.flag F.HG_STATUS_WATCHDOG = false → s.dev.fld F.HG_CFG_WD_MS ≠ 0 →
    100000 * s.dev.fld F.HG_CFG_WD_MS ≤ s.dev.since s.dev.power.wdSince →
    exec .watchdogExpire s = .next (s.after
      ((s.dev.setCause F.HG_STATUS_WATCHDOG).raiseBit F.HG_FAULT_WATCHDOG 0x0706 wholeDevice))) ∧
  (
    let ended (e : Device) : Device :=
      if e.flag F.HG_STATUS_TRIP = true ∨ e.flag F.HG_STATUS_MC_HOT = true ∨ e.flag F.HG_STATUS_SENSOR = true then e
      else e.tripBoundary
    (∀ t, s.dev.power.capBelow = some t → 100000 ≤ s.dev.since t →
      exec (.causeClear 0) s = .next (s.after (ended (s.dev.put F.HG_STATUS_CAP 0)))) ∧
    (s.dev.flag F.PWR_TS_MAX_VALID = true → s.dev.hotAt 105 = false →
      exec (.causeClear 1) s = .next (s.after (ended (s.dev.put F.HG_STATUS_TRIP 0)))) ∧
    ((∀ m : Fin 4, s.dev.flag (F.MC_STATUS_HOT m) = false) →
      exec (.causeClear 3) s = .next (s.after (ended (s.dev.put F.HG_STATUS_MC_HOT 0)))) ∧
    (s.dev.power.failedTs = [] →
      exec (.causeClear 4) s = .next (s.after (ended (s.dev.put F.HG_STATUS_SENSOR 0))))) ∧
  (∀ ini : Ini,
    let refused (f : Fld) : Device := s.dev.accError ini.num 4 (busOff (iniAddr ini f.addr))
    (s.dev.admits ini F.HG_KICK.addr = true → exec (.hgKick ini) s = .next (s.after (
      if ∃ n, ini = .scribe n then (s.dev.modPower (fun p => { p with wdSince := s.dev.timebase })).put
        F.HG_STATUS_WATCHDOG 0
      else refused F.HG_KICK))) ∧
    (s.dev.admits ini F.HG_RELEASE.addr = true → exec (.hgRelease ini) s = .next (s.after (
      if ∃ n, ini = .scribe n then
        (if bits (s.dev.word F.HG_STATUS_CAP.addr).toNat 0 5 = 0 then
          (s.dev.put F.HG_STATUS_FORCED 0).put F.HATCH_NEXT_DRAFT_FORCED 0
        else s.dev)
      else refused F.HG_RELEASE))) ∧
    (∀ v, s.dev.admits ini F.HG_CFG_CAP.addr = true → exec (.hgCfgWrite ini v) s = .next (s.after (
      if ∃ n, ini = .scribe n then
        (s.dev.putWord F.HG_CFG_CAP.addr v).modPower (fun p => { p with wdSince := s.dev.timebase })
      else refused F.HG_CFG_CAP))))

/-- Reset and boot (R375, R387 to R397, R401, R526).  POR_N, or a brownout, resets all but plate memory, flash, fuses and
the key store; RESET_N resets outside POR; a release that no shutdown holds starts the boot at FUSE, with full buckets of
the Proof log.  FUSE takes the fuses and shows ROM, or FAULT without a majority; ROM keeps the header and shows VERIFY, or
recovers without flash or on a hold; VERIFY takes the first check that the header fails to RECOVERY with its code, else
keeps the firmware, loads SCRIBE[0] and shows BIST; BIST records every verdict, binds the rows and shows WAVES, or recovers
without a unit that the part needs; WAVES turns on the bound domains and shows LOAD; LOAD leaves what the image asks, or
recovers with its code and the section and record that failed; READY shows, with its time, and rings the host; a boot past
2,000 ms records it once; REBOOT in RECOVERY asks for a restart, elsewhere it is an access error. -/
def Obligations.BootCompletes : Prop := ∀ s : State,
  (let d := s.dev.jtagRefused.2.platesHome
   let t : State := s.after {
     mem := d.mem.filter (fun e => plateMem e.1), valid := d.valid.filter (fun e => plateMem e.1)
     damage := d.damage.filter (fun e => plateMem e.1), regs := d.regs.filter (fun e => plateReg e.1)
     flash := d.flash, fuses := d.fuses, freeCtr := d.freeCtr
     sec := { store := d.sec.store, jtag := { reason := s.dev.jtagRefused.1 } } }
   exec .porAssert s = .next t ∧ exec .aonBrownout s = .next t) ∧
  (∀ cut, exec (.resetAssert cut) s = .next (s.after
    (if s.dev.bootc.por = true then s.dev else (s.dev.each cut (fun d k => d.repeatCut k.val)).resetNow))) ∧
  (∀ cut, (s.dev.bootc.por = true ∨ s.dev.bootc.rst = true) →
    (s.dev.flag F.HG_STATUS_SHUTDOWN = false ∨
      (s.dev.flag F.PWR_TS_MAX_VALID = true ∧ s.dev.hotAt 100 = false)) →
    exec (.resetRelease cut) s = .next (s.after (
      let d : Device := { s.dev.each cut (fun d k => d.repeatCut k.val) with faultN := false }
      let d : Device := d.modProof (fun p => { p with buckets := [], global := ⟨4096, d.timebase⟩ })
      (d.modBoot (fun b => { b with por := false, rst := false, releasedAt := d.timebase })).put
        F.BOOT_STATUS_STATE 1))) ∧
  (s.dev.boot = 1 →
    let f := s.dev.fuses
    let d : Device := s.dev.each (List.range 8) (fun d r => d.put (F.TOPO_SITE_STATUS_FUSE_DIS r) (f.siteDis.getD r 0))
    let d : Device := (d.put F.TOPO_ID_GRADE f.grade).modBoot (fun b =>
      { b with pairRole := f.pairRole % 4, inst := f.inst % 16, latched := true, fuseMap := f.map })
    let d : Device := d.put F.PAIR_STATUS_ROLE (if f.pairRole % 4 = 3 then 0 else f.pairRole % 4)
    exec .bootFuse s = .next (s.after (
      if f.majority = false then s.dev.toFault 0x0807
      else (d.modI3c (fun x => { x with hj := true })).keyCheck.put F.BOOT_STATUS_STATE 2))) ∧
  (∀ selfOk flashOk : Bool, s.dev.boot = 2 → s.dev.isOn (domScribe 0) = true →
    let f := s.dev.flash
    let d : Device := ((((s.dev.put F.BOOT_XSPI_CS0_LOG2 f.cs0.log2).put F.BOOT_XSPI_CS1_LOG2 f.cs1.log2).put
      F.BOOT_XSPI_CS1_PRESENT (b2n (decide (f.cs1.log2 ≠ 0)))).put F.BOOT_XSPI_MHZ 25).put F.BOOT_XSPI_MODE_8D 0
    exec (.bootRom selfOk flashOk) s = .next (s.after (
      if selfOk = false then s.dev.toFault 0x0807
      else if f.cs0.log2 = 0 ∨ flashOk = false then d.recover 0x0801
      else if d.flag F.BOOT_CTRL_RECOVERY_HOLD = true then d.recover 0x080F
      else ((d.release 0).modBoot (fun b => { b with header := f.linBytes 0 4096 })).put F.BOOT_STATUS_STATE 3))) ∧
  (∀ readOk : Bool, s.dev.boot = 3 →
    let h := s.dev.bootc.header
    let pub := (h.drop 0x40).take 133
    let d : Device := ((s.dev.modBoot (fun b => { b with trusted := true })).put F.BOOT_IMAGE_LEN (imageLen h)).xspiMode
    let fw := d.flash.linBytes (sectAt h 0).off (sectAt h 0).len
    exec (.bootVerify readOk) s = .next (s.after (
      if headerOk s.dev.flash h = false then s.dev.recover 0x0802
      else if s.dev.sec.store.activeHash ≠ some (padTo 64 (sha512 pub)) then s.dev.recover 0x0803
      else if ecdsaVerify pub (h.take 0xE00) ((h.drop 0xE00).take 132) = false then s.dev.recover 0x0804
      else if readOk = false then d.recover 0x0801
      else if hashOk h 0 fw = false then d.recover 0x0806
      else if vendorOk fw = false ∨ 458752 - 512 < fieldOf fw 4 4 ∨ (sectAt h 0).len < 512 + fieldOf fw 4 4 then
        d.recover 0x0805
      else (((d.modBoot (fun b => { b with fw := fw })).put F.BOOT_FW_VERSION (fieldOf fw 0 4)).loadFw 0).put
        F.BOOT_STATUS_STATE 4))) ∧
  (∀ v : Verdict, s.dev.boot = 4 →
    let d : Device := s.dev.each (List.range 4) (fun d m =>
      if m ∈ v.mcs.map Fin.val then d else (d.bootOn (domMc m)).put (F.MC_STATUS_TRAINED m) 1)
    let retired (x : Nat) : Bool := bit (d.fld (F.HG_RETIRE (x / 14))) (x % 14)
    let d : Device := d.each ((List.range 112).filter (fun x =>
        decide (x ∈ v.sites.map Fin.val) || decide (x ∈ v.routers.map Fin.val) || retired x)) (fun d x =>
      let f := F.TOPO_SITE_STATUS_BIST_FAIL (x / 14)
      let d : Device := d.put f (d.fld f ||| 2 ^ (x % 14))
      let d : Device := if retired x = true then d.raise 0x0715 x else d
      if bit (d.fld (F.TOPO_SITE_STATUS_FUSE_DIS (x / 14))) (x % 14) = true then d else d.raise 0x0808 x)
    let d : Device := d.each v.tracers (fun d n =>
      (d.modDom (domTracer n) (fun x => { x with held := true })).raise 0x080B wholeDevice)
    let d : Device := d.each v.presses (fun d k =>
      (d.modDom (domPress k) (fun x => { x with held := true })).raise 0x080B wholeDevice)
    let b : Device := (d.each (List.range 8) (fun d r => d.bindRow r)).showReloc
    exec (.bootBist v) s = .next (s.after (
      if v.mcs ≠ [] ∨ v.scribes ≠ [] ∨ v.rack = true ∨ v.stipple = true then d.recover 0x080B
      else if v.routers ≠ [] then d.recover 0x080A
      else if (∃ etch, b.permits etch = false ∧ ∃ r : Fin 8, b.fullRow etch r = false) then b.recover 0x080A
      else b.put F.BOOT_STATUS_STATE 5))) ∧
  (s.dev.boot = 5 → exec .bootWaves s = .next (s.after
    ((s.dev.each ((List.range 8).map domHatch ++ [domStipple, domRack] ++ [1, 2, 3].map domScribe ++
      (((List.range 64).filter s.dev.etchBound).map domEtch ++ ((List.range 32).filter s.dev.graverBound).map domGraver))
        (fun d i => d.bootOn i)).put F.BOOT_STATUS_STATE 6))) ∧
  (∀ e : LoadEnv, s.dev.boot = 6 → s.dev.bootc.loaded = false →
    exec (.bootLoad e) s = .next (s.after (match s.dev.loadAll e with
      | .ok d => d
      | .error x =>
        let d : Device := if x.code = 0x0806 ∨ x.code = 0x0813 then
            (x.dev.put F.BOOT_ERR_INFO_SECTION x.sect).put F.BOOT_ERR_INFO_RECORD x.rcd
          else x.dev
        if x.code = 0x0414 then d.toRecovery x.code else d.recover x.code))) ∧
  (s.dev.boot = 6 → s.dev.bootc.loaded = true →
    let d : Device := ((s.dev.put F.BOOT_STATUS_STATE 7).put F.BOOT_READY_TIME
      (s.dev.since s.dev.bootc.releasedAt)).lateNow
    let d : Device := d.modPower (fun p => { p with wdOn := true, wdSince := d.timebase })
    let d : Device := d.each (List.range 4) (fun d n => d.modScribe n (fun k => { k with kickAt := d.timebase }))
    exec .bootReady s = .next (s.after (d.ring iniHost (bellSw 25)).showAlive)) ∧
  (1 ≤ s.dev.boot → s.dev.boot ≤ 6 →
    exec .bootTimeLimit s = .next (s.after (
      if 200000000 < s.dev.since s.dev.bootc.releasedAt ∧ s.dev.bootc.late = false then
        (s.dev.modBoot (fun b => { b with late := true })).raise 0x0812 wholeDevice
      else s.dev))) ∧
  (∀ ini : Ini, s.dev.admits ini F.BOOT_CTRL_REBOOT.addr = true →
    exec (.reboot ini) s = .next (s.after (
      let d : Device := s.dev.put F.BOOT_CTRL_RECOVERY_HOLD (s.dev.fld F.BOOT_CTRL_RECOVERY_HOLD)
      if s.dev.boot = 9 then d.modBoot (fun b => { b with reboot := true })
      else d.accError ini.num 4 (busOff (iniAddr ini F.BOOT_CTRL_REBOOT.addr)))))

/-- Flash sessions (R399, R400).  In RECOVERY with no operation in progress, the agent takes the next image-load packet
of the kind that comes, of what the Tracers accepted: an operation that keeps the rules of its session begins, another
is rejected, counted, with 0x0810.  An operation done changes the flash: an erase clears its range and opens it to
writes, a write puts its bytes, an end whose hash agrees closes the session, another raises 0x0811; the next sequence
number counts, and the host's command has its reply.  A Hardground write of ACTIVE = 0 closes the session with 0x0814. -/
def Obligations.FlashSessionsComplete : Prop := ∀ s : State,
  (∀ (e : Nat × List Byte) (rest : List (Nat × List Byte)) (op : FlashOp),
    s.dev.boot = 9 → s.dev.bootc.op = none →
    s.dev.imageRx.dropWhile (fun e => (flashPacket e.2).isNone) = e :: rest → flashPacket e.2 = some op →
    let d : Device := ({ s.dev with imageRx := rest } : Device).sessionOpen (8 + e.1) op.seq
    let r : Device := if d.flashOk (8 + e.1) op then d.modBoot (fun b => { b with op := some (op, 8 + e.1) })
      else (d.bump F.BOOT_IMGLOAD_ERR).raise 0x0810 wholeDevice
    (op.kind = 1 → exec .imageLoadWrite s = .next (s.after r)) ∧
    (op.kind = 0 → exec .imageLoadErase s = .next (s.after r)) ∧
    (op.kind = 2 → exec .imageLoadEnd s = .next (s.after r))) ∧
  (∀ (op : FlashOp) (path : Nat), s.dev.bootc.op = some (op, path) →
    let ends := decide (padTo 64 (sha512 (s.dev.flash.linBytes 0 op.aux)) = op.data)
    let d : Device :=
      if op.kind = 0 then ({ s.dev with flash := { s.dev.flash with
          bytes := mapClear (op.cs * 2 ^ 32 + op.off) op.aux s.dev.flash.bytes } } : Device).modBoot
        (fun b => { b with erased := b.erased ++ [(op.cs, op.off, op.aux)] })
      else if op.kind = 1 then { s.dev with flash := (List.range op.data.length).foldl (fun f i =>
          f.setByte op.cs (op.off + i) (op.data.getD i 0)) s.dev.flash }
      else if ends = true then ((s.dev.put F.BOOT_FLASH_SESSION_ACTIVE 0).put F.BOOT_STATUS_IMAGE_OK 1).modBoot
          (fun b => { b with erased := [] })
      else s.dev.raise 0x0811 wholeDevice
    let d : Device := (d.modBoot (fun b => { b with op := none })).put F.BOOT_NEXT_SEQ (d.fld F.BOOT_NEXT_SEQ + 1)
    exec .flashOperationDone s = .next (s.after (
      if path = iniHost then
        d.flashReply (if op.kind = 2 ∧ d.flag F.BOOT_FLASH_SESSION_ACTIVE = true then 7 else 0)
      else d))) ∧
  (s.dev.admits .hg F.BOOT_FLASH_SESSION_ACTIVE.addr = true →
    exec .flashSessionRevoke s = .next (s.after s.dev.sessionClose))

/-- The common command codes of the I3C target (R407, R408, R412).  A direct code is not acknowledged without a dynamic
address, nor while the clocks are gated, when it restores them and votes SCRIBE[0] ON; else, as a broadcast one, each code
sets or returns what the rule gives: ENEC and DISEC the enables, SETMWL and SETMRL the lengths in their range, RSTACT the
reset action, SETNEWDA the address; RSTDAA clears the address, ENTHDR0 enters HDR-DDR; SETDASA and ENTDAA give an address
to a target that has none; the reads return the lengths, the action, the identity, 0x26, 0x00, the status word, no limit
and 0x01 0x01; a value out of range and a direct code that is not listed are not acknowledged, a broadcast one is ignored;
a protocol error counts and raises 0x0B05; a target reset pattern restarts the part once RSTACT has asked for it. -/
def Obligations.I3cCodesComplete : Prop := ∀ s : State,
  let held := s.dev.host.i3c.da.isSome
  let served (f : Device → Device) : Device :=
    if s.dev.power.gated = true then
      ((s.dev.modPower (fun p => { p with gated := false })).setVote 0 (domScribe 0) 2).nack
    else f s.dev
  let code (direct : Bool) (f : Device → Device) : Device :=
    if direct = false then f s.dev else if held = true then served f else s.dev.nack
  (∀ direct : Bool,
    (∀ ev : Byte,
      exec (.enec direct ev) s = .next (s.after (code direct (fun d => (d.modI3c (fun x => { x with
        enInt := x.enInt || ev.getLsbD 0, enHj := x.enHj || ev.getLsbD 3 })).ack []))) ∧
      exec (.disec direct ev) s = .next (s.after (code direct (fun d => (d.modI3c (fun x => { x with
        enInt := x.enInt && !ev.getLsbD 0, enHj := x.enHj && !ev.getLsbD 3
        hj := x.hj && !ev.getLsbD 3 })).ack [])))) ∧
    exec (.entas direct) s = .next (s.after (code direct (fun d => d.ack []))) ∧
    (∀ v : BitVec 16,
      exec (.setmwl direct v) s = .next (s.after (code direct (fun d =>
        if 8 ≤ v.toNat ∧ v.toNat ≤ 260 then (d.modI3c (fun x => { x with mwl := v.toNat })).ack [] else d.nack))) ∧
      exec (.setmrl direct v) s = .next (s.after (code direct (fun d =>
        if 4 ≤ v.toNat ∧ v.toNat ≤ 256 then (d.modI3c (fun x => { x with mrl := v.toNat })).ack [] else d.nack)))) ∧
    (∀ b : Byte, exec (.rstact direct (some b)) s = .next (s.after (code direct (fun d =>
      if b.toNat ≤ 2 then (d.modI3c (fun x => { x with rstAct := b.toNat })).ack [] else d.nack)))) ∧
    exec (.rstact direct none) s = .next (s.after (code true (fun d => d.ack [BitVec.ofNat 8 d.host.i3c.rstAct]))) ∧
    exec (.unsupportedCcc direct) s = .next (s.after (if direct = true then code true Device.nack else s.dev))) ∧
  exec .rstdaa s = .next (s.after ((s.dev.modI3c (fun x => { x with da := none, hdr := false })).ack [])) ∧
  exec .enthdr0 s = .next (s.after ((s.dev.modI3c (fun x => { x with hdr := true })).ack [])) ∧
  exec .i3cProtocolError s = .next (s.after
    (((s.dev.modI3c (fun x => { x with protoErr := true })).bump F.HOST_I3C_ERR).raiseBit F.HOST_HFAULT_PROTO 0x0B05
      wholeDevice)) ∧
  (∀ a : BitVec 7,
    let take (d : Device) : Device := d.modI3c (fun x => { x with da := some a.toNat, hj := false })
    exec (.setnewda a) s = .next (s.after (code true (fun d => (take d).ack []))) ∧
    exec (.setdasa a) s = .next (s.after (if held = true then s.dev.nack else served (fun d => (take d).ack []))) ∧
    (∀ won : Bool, exec (.entdaa a won) s = .next (s.after (if held = true then s.dev.nack
      else (if won = true then take s.dev else s.dev).ack (beBytes 6 s.dev.pid ++ [0x26, 0x00]))))) ∧
  exec .getmwl s = .next (s.after (code true (fun d => d.ack (beBytes 2 d.host.i3c.mwl)))) ∧
  exec .getmrl s = .next (s.after (code true (fun d => d.ack (beBytes 2 d.host.i3c.mrl)))) ∧
  exec .getmxds s = .next (s.after (code true (fun d => d.ack [0x00, 0x00]))) ∧
  (let answer (bytes : List Byte) : Device := if held = true then s.dev.ack bytes else s.dev.nack
   exec .getpid s = .next (s.after (answer (beBytes 6 s.dev.pid))) ∧
   exec .getbcr s = .next (s.after (answer [0x26])) ∧
   exec .getdcr s = .next (s.after (answer [0x00])) ∧
   exec .getcaps s = .next (s.after (answer [0x01, 0x01]))) ∧
  exec .getstatus s = .next (s.after (
    if held = true then
      (s.dev.ack (beBytes 2 (b2n s.dev.ready <<< 12 + s.dev.boot <<< 8 + b2n s.dev.host.i3c.protoErr <<< 5 +
        min 15 ((List.range 32).filter (fun i => bit s.dev.pendingBells i)).length))).modI3c
          (fun x => { x with protoErr := false })
    else s.dev.nack)) ∧
  exec .targetResetPattern s = .next (s.after (
    if s.dev.host.i3c.rstAct = 0 ∨ s.dev.bootc.por = true then s.dev
    else if s.dev.resetNow.releaseHeld = true then s.dev.resetNow else s.dev.resetNow.releaseNow))

/-- Transfers and requests of the I3C target (R409 to R413, R422).  With its clocks running, a write at the dynamic
address of an aligned offset and words writes them from that offset on in the host window, a read returns the words from
the offset in force, in HDR-DDR with the codes 0x01 and 0x81; a legacy I2C transfer does the same while no dynamic address
is held.  A misaligned offset and what is no whole word are access errors.  A transfer that the target does not serve is
not acknowledged; one while the clocks are gated restores them and votes SCRIBE[0] ON.  A Hot-Join that is due is
requested, and not again once acknowledged; an enabled doorbell that has risen requests an in-band interrupt, whose byte,
when the master takes it, is the summary of the doorbells. -/
def Obligations.I3cTransfersComplete : Prop := ∀ s : State,
  let held := s.dev.host.i3c.da.isSome
  let served (f : Device → Device) (d : Device) : Device :=
    if d.power.gated = true then ((d.modPower (fun p => { p with gated := false })).setVote 0 (domScribe 0) 2).nack
    else f d
  let put (l : List Byte) (d : Device) : Device := match l with
    | a :: b :: t =>
      let o := a.toNat + 256 * b.toNat
      let d : Device := (d.modI3c (fun x => { x with offset := o })).ack []
      if o % 4 = 0 then privWords t d else d.accError iniHost 0 o
    | [] => d.ack []
    | [_] => (d.ack []).accError iniHost 0 (min 0xFFFC d.host.i3c.offset)
  let get (n : Nat) (d : Device) : Device :=
    let o := d.host.i3c.offset
    if o % 4 = 0 then
      let r := privRead (ceilDiv n 4) d
      (if n % 4 = 0 then r.2 else r.2.accError iniHost 0 (min 0xFFFC (r.2.host.i3c.offset - 4))).ack (r.1.take n)
    else (d.accError iniHost 0 o).ack (List.replicate n 0)
  let at_ (ddr : Option Byte) (code : Byte) (f : Device → Device) : Device :=
    if held = false then s.dev.nack
    else match ddr with
      | none => served f (s.dev.modI3c (fun x => { x with hdr := false }))
      | some c => if s.dev.host.i3c.hdr = true then served (if c = code then f else Device.nack) s.dev else s.dev.nack
  (∀ (ddr : Option Byte) (l : List Byte), exec (.privateWrite ddr l) s = .next (s.after (at_ ddr 0x01 (put l)))) ∧
  (∀ (ddr : Option Byte) (len : Fin 257), exec (.privateRead ddr len) s = .next (s.after (at_ ddr 0x81 (get len)))) ∧
  (∀ (wr : List Byte) (rd : Fin 257), exec (.i2cTransfer wr rd) s = .next (s.after (
    if held = true then s.dev.nack
    else served (fun d =>
      let d : Device := if wr = [] then d else put wr d
      if rd.val = 0 then d else get rd d) (s.dev.modI3c (fun x => { x with hj := false }))))) ∧
  (∀ acked : Bool, s.dev.host.i3c.hj = true → s.dev.host.i3c.enHj = true → held = false →
    s.dev.bootc.latched = true → (∀ t, s.dev.host.i3c.hjAt = some t → 100000 ≤ s.dev.since t) →
    exec (.hotJoinRequest acked) s = .next (s.after (s.dev.modI3c (fun y =>
      { y with hj := !acked, hjAt := some s.dev.timebase, acked := acked, reply := [] })))) ∧
  (∀ acked : Bool, s.dev.host.i3c.ibi = true → s.dev.host.i3c.enInt = true → held = true →
    s.dev.pendingBells ≠ 0 →
    exec (.ibiRequest acked) s = .next (s.after (s.dev.modI3c (fun x =>
      { x with ibi := !acked, acked := acked, reply := [BitVec.ofNat 8 s.dev.bellSummary] }))))

/-- Mailboxes (R62, R417, R418).  For an initiator that reaches them: a read of LOCK takes a free mailbox that is not set
aside for another and returns 0, as it does for the owner, and else returns who holds it or whom it is set aside for; a
grant out of a group counts as a tie.  The owner's 0 releases it while it is empty; SEND by the owner with 1 to 64 bytes
sets LEN and FULL and rings the receiver, one that cannot hear timing out at once; WITHDRAW empties it; the receiver's read
of the word with the last byte empties it, rings its sender and frees the lock; any other release or SEND is an access
error; FULL for MBOX_TIMEOUT ticks sets TMO, rings the sender and raises 0x0B02. -/
def Obligations.MailboxesComplete : Prop := ∀ (s : State) (i : Fin 8),
  let owner := s.dev.fld (F.MBOX_LOCK i)
  let rcvr := s.dev.fld (F.MB_MBOX_CFG_RCVR i)
  let full := s.dev.flag (F.MBOX_STATUS_FULL i)
  let late (d : Device) : Device := (((d.put (F.MBOX_STATUS_TMO i) 1).ring (d.fld (F.MBOX_LOCK i)) (2 ^ (16 + i.val))).raiseBit
    F.HOST_HFAULT_TMO 0x0B02 wholeDevice).modHost (fun h => { h with fullAt := nput h.fullAt i 0 })
  (∀ (ini : Ini) (tied : Bool),
    let d : Device := s.dev.tie tied ini.num (iniAddr ini (F.MBOX_LOCK i).addr) false
    let own := d.fld (F.MBOX_LOCK i)
    let aside := d.fld (F.MB_MBOX_CFG_PRIV i)
    let answer (v : Nat) (d : Device) : State := s.after { d with rbytes := leBytes 4 v, rdata := BitVec.ofNat 32 v }
    d.admits ini (F.MBOX_LOCK i).addr false = true →
    exec (.mboxLockRead ini i tied) s = .next (
      if own = ini.num then answer 0 d
      else if own ≠ 0 then answer own d
      else if aside ≠ 0 ∧ aside ≠ ini.num then answer aside d
      else answer 0 (d.put (F.MBOX_LOCK i) ini.num))) ∧
  (∀ ini : Ini, s.dev.admits ini (F.MBOX_LOCK i).addr = true →
    exec (.mboxLockRelease ini i) s = .next (s.after (
      if owner = ini.num ∧ full = false then s.dev.put (F.MBOX_LOCK i) 0
      else s.dev.accError ini.num (if owner = ini.num then 4 else 2) (busOff (iniAddr ini (F.MBOX_LOCK i).addr))))) ∧
  (∀ ini : Ini, s.dev.admits ini (F.MBOX_CTRL_SEND i).addr = true →
    let refused (k : Nat) : Device := s.dev.accError ini.num k (busOff (iniAddr ini (F.MBOX_CTRL_SEND i).addr))
    (∀ len : BitVec 7, exec (.mboxSend ini i len) s = .next (s.after (
      let d : Device := ((s.dev.put (F.MBOX_STATUS_LEN i) len.toNat).put (F.MBOX_STATUS_FULL i) 1).ring rcvr (2 ^ i.val)
      let d : Device := d.modHost (fun h => { h with
        fullAt := nput h.fullAt i (d.timebase + 1), lost := h.lost && decide (i.val ≠ 0) })
      if owner ≠ ini.num ∨ full = true then refused 2
      else if len.toNat = 0 ∨ 64 < len.toNat then refused 4
      else if d.deaf rcvr = true then late d
      else d))) ∧
    exec (.mboxWithdraw ini i) s = .next (s.after (
      if owner ≠ ini.num then refused 2
      else if full = true then
        ((s.dev.put (F.MBOX_STATUS_FULL i) 0).put (F.MBOX_STATUS_TMO i) 0).unring rcvr (2 ^ i.val)
      else s.dev))) ∧
  (∀ ini : Ini,
    let w := (s.dev.fld (F.MBOX_STATUS_LEN i) - 1) / 4
    let x := s.dev.word (F.MBOX_DATA i w).addr
    s.dev.fld (F.MBOX_STATUS_LEN i) ≤ 64 → s.dev.admits ini (F.MBOX_DATA i w).addr false = true →
    exec (.mboxTake ini i) s = .next (s.after (
      let d : Device := if rcvr = ini.num ∧ full = true then
          ((s.dev.put (F.MBOX_STATUS_FULL i) 0).ring owner (2 ^ (8 + i.val))).put (F.MBOX_LOCK i) 0
        else s.dev
      { d with rbytes := leBytes 4 x.toNat, rdata := x }))) ∧
  (full = true → nget s.dev.host.fullAt i ≠ 0 →
    max 1 (s.dev.fld F.MB_MBOX_TIMEOUT) ≤ s.dev.since (nget s.dev.host.fullAt i - 1) →
    exec (.mboxTimeoutExpire i) s = .next (s.after (late s.dev)))

/-- Firmware messages (R424 to R427, R510).  SCRIBE[0] serving, with a full MBOX[0] that it receives and that no
declaration has lost, takes the request and replies: UNKNOWN_CMD to a command that is not listed, BAD_LEN to a wrong
payload, NOT_IN_STATE to one that this server does not serve, else OK with what the command returns: the payload of PING,
the versions, the state, the codes of the history newest first; OPEN_WINDOW opens the lowest free window for a range that
POLICY gives, CLOSE_WINDOW closes one, REFUSED otherwise.  In RECOVERY a flash command that keeps its session's rules
begins its operation and is answered when that ends, BUSY or SEQ otherwise; PROOF_CLEAR queues its token.  A part
that is not the last is kept and acknowledged. -/
def Obligations.MessagesComplete : Prop := ∀ s : State,
  let b := s.dev.mboxBytes 0
  let c := msgCmd b
  let t : Device := (s.dev.mboxDone 0).modHost (fun h => { h with tag := none, parts := [] })
  s.dev.serving = true → s.dev.mboxFull 0 = true → s.dev.mboxRcvr 0 = 2 → s.dev.host.lost = false →
  (msgMore b = false →
    let listed := decide (c ∈ [1, 2, 3, 4, 5, 6, 0x10, 0x11, 0x12, 0x20])
    let answer (k : Nat) (l : List Byte) : Device := t.reply b k l
    let got (f : List Byte → Device) : State := s.after (
      if listed = false then answer 1 []
      else match s.dev.payload b with
        | none => answer 2 []
        | some p =>
          if (t.ready = true ∧ c ∈ [0x10, 0x11, 0x12]) ∨ (t.ready = false ∧ c ∈ [4, 5, 6, 0x20]) then answer 6 [] else f p)
    let flash (op : FlashOp) : Device :=
      let e : Device := t.sessionOpen iniHost op.seq
      if t.bootc.op ≠ none then answer 4 []
      else if e.flashOk iniHost op = true then
        (e.modBoot (fun x => { x with op := some (op, iniHost) })).modHost (fun h => { h with flashTag := some b })
      else
        let e : Device := (e.bump F.BOOT_IMGLOAD_ERR).raise 0x0810 wholeDevice
        e.reply b 5 (leBytes 4 (e.fld F.BOOT_NEXT_SEQ))
    ((listed = false ∨ c = 1) → exec .ping s = .next (got (fun p =>
      if p.length ≤ 56 then answer 0 p else answer 2 []))) ∧
    ((listed = false ∨ c = 2) → exec .getVersion s = .next (got (fun p =>
      if p = [] then answer 0 (leBytes 4 (if t.ready then t.fld F.BOOT_FW_VERSION else 0) ++
        leBytes 4 (fieldOf t.bootc.header 0x18 4) ++ leBytes 4 (t.word F.TOPO_ID_GRADE.addr).toNat ++
        leBytes 4 Config.romVersion.toNat)
      else answer 2 []))) ∧
    ((listed = false ∨ c = 3) → exec .getState s = .next (got (fun p =>
      if p = [] then answer 0 (leBytes 1 t.boot ++ leBytes 1 (t.fld F.CONTRACT_STATUS_DRAFT) ++
        leBytes 1 (t.fld F.CONTRACT_STATUS_VB) ++ leBytes 1 (pat 8 (asr (sgn 16 (t.fld F.PWR_TS_MAX_TEMP)) 3)) ++
        leBytes 2 (t.fld F.HG_FR_NEWEST_CODE) ++ [0, 0])
      else answer 2 []))) ∧
    ((listed = false ∨ c = 4) → exec .readFaults s = .next (got (fun p =>
      if p = [] then answer 0 (((List.range 24).filter (fun i =>
          (t.word (F.HG_FR_HIST_CODE i).addr).toNat.testBit 31)).flatMap (fun i => leBytes 2 (t.fld (F.HG_FR_HIST_CODE i))))
      else answer 2 []))) ∧
    ((listed = false ∨ c = 5) → exec .openWindow s = .next (got (fun p =>
      let base := fieldOf p 0 8
      let size := fieldOf p 8 8
      let perm := fieldOf p 16 1 % 4
      let given := t.bootc.ranges.any (fun r =>
        decide (r.1 ≤ base) && decide (base + size ≤ r.1 + r.2.1) && decide (perm &&& r.2.2 = perm))
      if p.length ≠ 20 then answer 2 []
      else match (List.range 41).find? (fun k => decide (12 ≤ k) && decide (2 ^ k = size)),
          (List.range 8).find? (fun i => !t.flag (F.HOST_IND_WIN0_VALID i)) with
        | some k, some i =>
          if given = true ∧ base % 4096 = 0 ∧ base < 2 ^ 40 then
            ((((((t.put (F.HOST_IND_WIN0_VALID i) 1).put (F.HOST_IND_WIN0_RD i) (perm % 2)).put (F.HOST_IND_WIN0_WR i)
              (perm / 2)).put (F.HOST_IND_WIN0_BASE_HI i) (base >>> 32)).put (F.HOST_IND_WIN1_BASE_LO i)
              (base >>> 12)).put (F.HOST_IND_WIN1_SIZE i) k).reply b 0 (leBytes 4 i)
          else answer 3 []
        | _, _ => answer 3 []))) ∧
    ((listed = false ∨ c = 6) → exec .closeWindow s = .next (got (fun p =>
      let i := fieldOf p 0 1
      if p.length ≠ 4 then answer 2 []
      else if i < 8 then ((t.putWord (F.HOST_IND_WIN0_VALID i).addr 0).putWord (F.HOST_IND_WIN1_SIZE i).addr 0).reply b 0 []
      else answer 3 []))) ∧
    ((listed = false ∨ c = 0x10) → exec .flashErase s = .next (got (fun p =>
      if p.length ≠ 12 then answer 2 [] else flash ⟨0, fieldOf p 0 4, msgCs b, fieldOf p 4 4, fieldOf p 8 4, []⟩))) ∧
    ((listed = false ∨ c = 0x11) → exec .flashWrite s = .next (got (fun p =>
      if p.length < 9 then answer 2 []
      else flash ⟨1, fieldOf p 0 4, msgCs b, fieldOf p 4 4, p.length - 8, p.drop 8⟩))) ∧
    ((listed = false ∨ c = 0x12) → exec .flashEnd s = .next (got (fun p =>
      if p.length ≠ 72 then answer 2 [] else flash ⟨2, fieldOf p 0 4, msgCs b, 0, fieldOf p 4 4, p.drop 8⟩))) ∧
    ((listed = false ∨ c = 0x20) → exec .proofClear s = .next (got (fun p =>
      if p.length ≠ 444 then answer 2 []
      else if t.host.clearTag ≠ none then answer 4 []
      else (t.request ⟨false, iniHost, p⟩).modHost (fun h => { h with clearTag := some b }))))) ∧
  (msgMore b = true →
    let l := s.dev.host.parts ++ b.drop 8
    exec .messagePart s = .next (s.after (
      if (s.dev.host.tag = none ∨ s.dev.host.tag = some (msgTag b)) ∧ b.length = 8 + msgPlen b ∧ l.length ≤ 1024 then
        (t.modHost (fun h => { h with tag := some (msgTag b), parts := l })).reply b 0 []
      else t.reply b 2 [])))

/-- The indirect port (R427, R428).  While it is not busy, GO starts a read or a write at the address, setting AUTOINC as
written; with AUTOINC a read of IND_DATA returns it, advances the address and starts a read, and a write of it starts a
write and advances the address; while it is busy each is an access error.  BUSY falls when the access ends: it is made in a
window that lets it, refused and recorded outside, and one of an address that is not served, or of an uncorrectable word,
ends with its reason; each error raises 0x0B06. -/
def Obligations.IndirectPortCompletes : Prop := ∀ s : State,
  (s.dev.domState 0 = 2 →
    let busy := s.dev.flag F.HOST_IND_STATUS_BUSY
    let inc := s.dev.flag F.HOST_IND_CTRL_AUTOINC
    (∀ set : Bool,
      let go (wr : Bool) : Device := if busy = true then s.dev.accError iniHost 4 0x100C
        else (s.dev.put F.HOST_IND_CTRL_AUTOINC (b2n set)).indStart wr
      exec (.indRead set) s = .next (s.after (go false)) ∧ exec (.indWrite set) s = .next (s.after (go true))) ∧
    exec .indAutoincRead s = .next (s.after (
      if busy = true then { s.dev.accError iniHost 4 0x1008 with rdata := 0 }
      else { (if inc = true then s.dev.indNext.indStart false else s.dev) with rdata := s.dev.word F.HOST_IND_DATA.addr })) ∧
    (∀ v : Word, exec (.indAutoincWrite v) s = .next (s.after (
      let d : Device := s.dev.put F.HOST_IND_DATA v.toNat
      if busy = true then s.dev.accError iniHost 4 0x1008
      else if inc = true then (d.indStart true).indNext else d)))) ∧
  (∀ (a : Nat) (wr : Bool), s.dev.host.ind = some (a, wr) →
    let d : Device := (s.dev.put F.HOST_IND_STATUS_BUSY 0).modHost (fun h => { h with ind := none })
    let failed (k : Nat) (d : Device) : Device :=
      ((d.put F.HOST_IND_STATUS_ERR 1).put F.HOST_IND_STATUS_REASON k).raiseBit F.HOST_HFAULT_IND 0x0B06 wholeDevice
    let made : Device := if wr = true then d.busWrite iniHost a (leBytes 4 (d.fld F.HOST_IND_DATA))
      else
        let r := d.busRead iniHost a 4
        r.2.put F.HOST_IND_DATA (leNat r.1)
    exec .indAccessDone s = .next (s.after (
      if d.indOpen a wr = false then failed 1 (d.accError iniHost 3 0x1008)
      else if d.mapped (busAddr a) = false then failed 2 made
      else if d.ueAt (busAddr a) = true then failed 3 made
      else made)))

/-- Attestation and tokens (R432 to R436, R440, R441, R444, R445).  GO, while no report is being made, clears REPORT and
queues a report over ATT_NONCE, and else is an access error; the report done is shown and rings the host, none without the
part's key; NEW_NONCE makes a new nonce of the writer's path; SUBMIT queues the Scribe's token buffer.  A token that keeps
every rule consumes its path's nonce and unlocks JTAG, clears the Proof log or programs the next owner slot; one that breaks
a rule raises 0x0901, is answered with its REASON, and consumes the nonce where the rule that it breaks is the nonce's or a
later one. -/
def Obligations.TokensComplete : Prop := ∀ s : State,
  (∀ ini : Ini, s.dev.admits ini F.HOST_ATT_CTRL_GO.addr = true →
    exec (.attGo ini) s = .next (s.after (
      let nonce := (List.range 16).flatMap (fun w => leBytes 4 (s.dev.word (F.HOST_ATT_NONCE w).addr).toNat)
      let d : Device := s.dev.each (List.range 129) (fun d w => d.put (F.HOST_REPORT w) 0)
      if s.dev.flag F.HOST_ATT_STATUS_BUSY = true then
        s.dev.accError ini.num 4 (busOff (iniAddr ini F.HOST_ATT_CTRL_GO.addr))
      else ((d.put F.HOST_ATT_STATUS_BUSY 1).put F.HOST_ATT_STATUS_DONE 0).modSec (fun k =>
        { k with reqs := k.reqs ++ [⟨true, iniHost, nonce⟩] }))) ∧
    exec (.attNewNonce ini) s = .next (s.after (s.dev.newNonce iniHost))) ∧
  (∀ (x : Nat) (nonce : List Byte) (rest : List TokenReq), s.dev.sec.reqs = ⟨true, x, nonce⟩ :: rest →
    let d : Device := s.dev.modSec (fun k => { k with reqs := rest })
    let shown : Device := (d.each (List.range 129) (fun e w => e.put (F.HOST_REPORT w)
        (leNat (((d.report nonce).drop (4 * w)).take 4)))).pathResult iniHost 0 true
    exec .attReportDone s = .next (s.after (
      if s.dev.sec.store.keyOk = false then d.pathResult iniHost 9 true
      else if (vget s.dev.scribes 0 {}).running = true ∧ (vget s.dev.scribes 0 {}).halted = false then
        shown.ring iniHost (2 ^ 28)
      else shown))) ∧
  (∀ n : Fin 4, s.dev.admits (.scribe n) 0x0010600010 = true →
    exec (.ksTokenSubmit (.scribe n)) s = .next (s.after (
      let k := 2 + n.val
      let t := ((List.range 111).flatMap (fun w => leBytes 4 (s.dev.word (F.KS_TOKEN_BUF w k).addr).toNat)).take 444
      (((s.dev.put (F.KS_TOKEN_STATUS_BUSY k) 1).put (F.KS_TOKEN_STATUS_DONE k) 0).put (F.KS_TOKEN_STATUS_ERR k) 0).modSec
        (fun x => { x with reqs := x.reqs ++ [⟨false, k, t⟩] }))) ∧
    exec (.ksNewNonce (.scribe n)) s = .next (s.after (s.dev.newNonce (2 + n.val)))) ∧
  (∀ (ini : Nat) (t : List Byte) (rest : List TokenReq), s.dev.sec.reqs = ⟨false, ini, t⟩ :: rest →
    let d : Device := s.dev.modSec (fun k => { k with reqs := rest })
    let used : Device := d.dropNonce ini
    let purpose := tokField t 4 2
    let reason := s.dev.tokenReason ini t (s.dev.nonce ini)
    let r : Nat × Device :=
      if reason ≠ 0 then
        (0, (if reason ≤ 3 ∨ reason = 9 then d else used).raiseBit F.KS_FAULT_TOKEN 0x0901 wholeDevice)
      else if purpose = 1 then (0, (used.put F.KS_STATE_JTAG (tokField t 0x50 1)).raise 0x0902 wholeDevice)
      else if purpose = 2 then
        used.proofClear (tokField t 0x50 4) (tokField t 6 1) ini (padTo 64 (sha512 (tokBytes t 0xB0 133)))
      else (0, used.modSec (fun k => { k with prov := some (tokField t 0x90 1, padTo 64 (tokBytes t 0x50 64)) }))
    exec .tokenCheckDone s = .next (s.after ((r.2.pathResult ini reason false).clearReply ini reason r.1)))

/-- The TAP (R435, R442, R443).  Each instruction selects its register and shifts out what R442 gives it: the bypass
bit, IDCODE, the levels at the balls, a new nonce, the status; CLAMP and EXTEST drive the balls from the chain, HIGHZ
lets go of them; TOKEN submits its 444 bytes; RELOCK locks; PROVISION on a BLANK part programs the lowest free slot, and
the slot read back is programmed or killed; DEBUG reads, writes and halts Scribes while unlocked; SCAN shifts the
internal chains in VENDOR state with every clockless domain OFF; each of these used outside its states selects BYPASS;
Test-Logic-Reset selects IDCODE. -/
def Obligations.JtagCompletes : Prop := ∀ s : State,
  let shift (ir : Nat) (out : List Bool) (d : Device) : Device := d.modJtag (fun j =>
    { j with ir := ir, out := out, extest := decide (ir = 0x03) || (decide (ir = 0x04) && j.extest)
             highz := decide (ir = 0x05) })
  exec .bypass s = .next (s.after (shift 0xFF [false] s.dev)) ∧
  exec .idcode s = .next (s.after (shift 0x01 (bitsOut 32 0x1906474F) s.dev)) ∧
  (∀ pins load : BitVec 74,
    exec (.samplePreload pins load) s = .next (s.after
      ((shift 0x02 (bitsOut 74 pins.toNat) s.dev).modJtag (fun j => { j with bsr := load }))) ∧
    exec (.extest pins load) s = .next (s.after
      ((shift 0x03 (bitsOut 74 pins.toNat) s.dev).modJtag (fun j => { j with bsr := load })))) ∧
  exec .clamp s = .next (s.after ((shift 0x04 [false] s.dev).modJtag (fun j => { j with extest := true }))) ∧
  exec .highz s = .next (s.after (shift 0x05 [false] s.dev)) ∧
  (
    let d : Device := s.dev.newNonce iniJtag
    exec .challenge s = .next (s.after (shift 0x10 (bitsOut 256 (leNat ((d.nonce iniJtag).getD []))) d))) ∧
  (∀ t : BitVec 3552, exec (.token t) s = .next (s.after
    ((shift 0x11 [] s.dev).modSec (fun k => { k with reqs := k.reqs ++ [⟨false, iniJtag, leBytes 444 t.toNat⟩] })))) ∧
  (
    let a := s.dev.sec.store.active
    let busy := s.dev.sec.reqs.any (fun r => r.ini = iniJtag) || s.dev.sec.prov.isSome
    exec .jtagStatus s = .next (s.after (shift 0x12 (bitsOut 32 (s.dev.fld F.KS_STATE_JTAG <<< 30 + b2n busy <<< 29 +
      b2n a.isNone <<< 28 + s.dev.sec.jtag.reason % 16 <<< 24 + a.getD 0 <<< 22)) s.dev))) ∧
  exec .relock s = .next (s.after ((shift 0x13 [false] s.dev).put F.KS_STATE_JTAG 0)) ∧
  (∀ hash : BitVec 512, exec (.provision hash) s = .next (s.after (
    let free := (List.range 4).find? (fun i =>
      !s.dev.sec.store.programmed.testBit i && !s.dev.sec.store.killed.testBit i)
    if s.dev.sec.store.active ≠ none then shift 0xFF [false] s.dev
    else match s.dev.sec.prov, free with
      | none, some i =>
        (shift 0x14 [] s.dev).modSec (fun k => { k with prov := some (i, padTo 64 (leBytes 64 hash.toNat)) })
      | _, _ => shift 0x14 [] s.dev))) ∧
  (∀ (slot : Nat) (h : List Byte), s.dev.sec.prov = some (slot, h) →
    exec (.provisionVerify true) s = .next (s.after
      ((s.dev.modSec (fun k => { k with prov := none, store := { k.store with
        programmed := k.store.programmed ||| 2 ^ slot, hashes := k.store.hashes.set slot h } })).showKeys.raise 0x0904
          wholeDevice)) ∧
    exec (.provisionVerify false) s = .next (s.after
      ((s.dev.modSec (fun k => { k with prov := none, store := { k.store with
        killed := k.store.killed ||| 2 ^ slot } })).showKeys.raiseBit F.KS_FAULT_FUSE 0x0905 wholeDevice))) ∧
  (∀ tied : Bool,
    let unlocked (f : Device) : State := s.after (
      if s.dev.fld F.KS_STATE_JTAG = 1 ∨ s.dev.fld F.KS_STATE_JTAG = 2 then f else shift 0xFF [false] s.dev)
    (∀ (a : BitVec 40) (len : Fin 9), exec (.jtagDebug (.read a len) tied) s = .next (unlocked (
      let d : Device := (s.dev.tie tied iniJtag a.toNat false).readBytes iniJtag a.toNat len
      shift 0x20 (d.rbytes.flatMap (fun b => bitsOut 8 b.toNat)) d))) ∧
    (∀ (a : BitVec 40) (l : List Byte), exec (.jtagDebug (.write a l) tied) s = .next (unlocked
      (shift 0x20 [false] ((s.dev.tie tied iniJtag a.toNat true).busWrite iniJtag a.toNat l)))) ∧
    (∀ n : Fin 4,
      exec (.jtagDebug (.halt n) tied) s = .next (unlocked
        (shift 0x20 [false] (s.dev.modScribe n (fun x => { x with halted := true })))) ∧
      exec (.jtagDebug (.go n) tied) s = .next (unlocked
        (shift 0x20 [false] (s.dev.modScribe n (fun x => { x with halted := false })))))) ∧
  (let alone := decide (∀ i : Fin 127, 1 ≤ i.val → ¬ (119 ≤ i.val ∧ i.val ≤ 122) → s.dev.domState i = 0)
   exec .jtagScan s = .next (s.after (
     if s.dev.fld F.KS_STATE_JTAG = 2 ∧ alone = true then shift 0x21 (bitsOut 256 s.dev.draw.1.toNat) s.dev.draw.2
     else shift 0xFF [false] s.dev))) ∧
  exec .testLogicReset s = .next (s.after
    (s.dev.modJtag (fun j => { j with ir := 0x01, out := [], extest := false, highz := false })))

/-- Packets of the pair (R449, R452 to R462).  The mirror packet at the head is taken, its sequence checked and the link
heard, and then: HELLO gives the partner's state and image, which may be another's; of two parts that claim LEAD the one that
has come less far yields, or the promoted one, or the one of the higher identity; a waiting MATE of a LEAD asks for a
resynchronisation; DRAFT gives a LOCKED MATE its next draft; KEEPALIVE and FORCED give the partner's state; DIVERGE lets the
LEAD decide; DECIDE gives the MATE the outcome; RESYNC_REQ starts the LEAD's state set; JOIN sets the cut; NACK marks a
block dirty; a well-formed STATE_BLOCK is written, another answered with NACK; digests are compared. -/
def Obligations.PairPacketsComplete : Prop := ∀ (s : State) (b : List Byte) (rest : List (Nat × List Byte)),
  let g : Device := s.dev.mirrorGot false b rest
  let x := b.drop 16
  (s.dev.mirrorHead 0x43 b rest = true →
    (wordAt b 4 = 0 → exec .hello s = .next (s.after (
      let h : Device := s.dev.mirrorGot true b rest
      let same := decide ((x.drop 8).take 8 = h.imageHash.take 8)
      let prom := bit (byteAt x 1) 0
      let d : Device := h.modPair (fun p => { p with
        partPromoted := prom, partForced := bit (byteAt x 1) 1, imageOk := same })
      let d : Device := if same = true then d else d.raiseBit F.PAIR_FAULT_IMAGE 0x0A0B wholeDevice
      let mine := d.flag F.PAIR_STATUS_PROMOTED
      let both : Device := d.raiseBit F.PAIR_FAULT_ROLE 0x0A0A wholeDevice
      let e : Device :=
        if d.pairRole ≠ 1 ∨ byteAt x 0 ≠ 1 then d
        else if d.pairState = 1 ∧ d.pair.partState ≠ 1 then (d.put F.PAIR_STATUS_ROLE 2).sendHello
        else if d.pairState ≠ 1 ∧ d.pair.partState ≤ 1 then d
        else if (if mine ≠ prom then mine else decide (wordAt x 4 < leNat (both.deviceId.take 4))) = true then
          ((both.put F.PAIR_STATUS_STATE 1).put F.PAIR_STATUS_ROLE 2).sendHello
        else both
      if e.pairRole = 2 ∧ byteAt x 0 = 1 ∧ same = true ∧ e.pairState = 1 ∧ e.flag F.HG_STATUS_FORCED = false then
        e.askSync
      else e))) ∧
    (wordAt b 4 = 1 → exec .draft s = .next (s.after (
      if g.pairRole = 2 ∧ g.pairState = 3 then
        ((g.modPair (fun p => { p with draft := some (wordAt x 0, byteAt x 4 % 4, byteAt x 5) })).put
          F.HATCH_NEXT_DRAFT_DRAFT (byteAt x 4)).put F.PWR_BAND_REQ (byteAt x 5)
      else g))) ∧
    (wordAt b 4 = 2 → exec .keepalive s = .next (s.after
      (g.modPair (fun p => { p with partForced := decide (byteAt x 9 ≠ 0), partState := byteAt x 8 })))) ∧
    (wordAt b 4 = 3 → exec .forced s = .next (s.after
      (g.modPair (fun p => { p with partForced := decide (byteAt x 0 % 32 ≠ 0) })))) ∧
    (wordAt b 4 = 4 → exec .diverge s = .next (s.after (
      let d : Device := (g.modPair (fun p => { p with partDriving := true })).showDiverge
      let other := decide (byteAt x 1 ≠ 0)
      if d.pairRole ≠ 1 ∨ d.pairState ≠ 3 ∨ d.pair.decided ≠ none then d
      else match d.pair.div with
        | some v => d.decideNow v.own other
        | none => d.decideNow (d.suspect (byteAt x 0 % 2) (wordAt x 4)) other))) ∧
    (wordAt b 4 = 5 → exec .decideMsg s = .next (s.after (
      if g.pairRole ≠ 2 ∨ g.pairState ≠ 3 then g
      else if byteAt x 0 = 0 then g.askSync
      else g.modPair (fun p => { p with decided := some (1, wordAt x 4) })))) ∧
    (wordAt b 4 = 6 → exec .resyncReq s = .next (s.after (
      if g.pairRole = 1 ∧ g.pair.imageOk = true then
        (g.dropSync.setPairState 2).modPair (fun p => { p with resync := some { set := g.stateSet } })
      else g))) ∧
    (wordAt b 4 = 7 → exec .join s = .next (s.after (match g.pair.resync with
      | some r =>
        if g.pairRole = 2 then
          g.modPair (fun p => { p with resync := some { r with cutFn := some (leNat (x.take 2)), latch := [] } })
        else g
      | none => g))) ∧
    (wordAt b 4 = 9 → exec .nack s = .next (s.after (match g.pair.resync with
      | some r =>
        if g.pairRole = 1 ∧ wordAt x 0 < r.next ∧ wordAt x 0 ∉ r.dirty then
          g.modPair (fun p => { p with resync := some { r with dirty := r.dirty ++ [wordAt x 0] } })
        else g
      | none => g)))) ∧
  (s.dev.mirrorHead 0x42 b rest = true → exec .stateBlock s = .next (s.after (
    let a := leNat (x.take 8)
    let n := wordAt b 12
    if g.pairRole ≠ 2 ∨ g.pair.resync = none then g
    else if 1 ≤ n ∧ n ≤ 4096 ∧ x.length = 8 + n ∧ syncable a n = true then
      (g.syncWrite a (x.drop 8)).bump F.PAIR_RESYNC_BLOCKS
    else g.mirrorSend 0x43 9 0 (padTo 16 (leBytes 4 (wordAt b 4)))))) ∧
  (s.dev.mirrorHead 0x40 b rest = true → exec .stepDigest s = .next (s.after
    (g.digest 0 false ⟨wordAt b 4, 0, leNat (x.take 8)⟩))) ∧
  (s.dev.mirrorHead 0x41 b rest = true → exec .frameDigest s = .next (s.after
    (g.digest 1 false ⟨wordAt b 4, if g.pair.partForced = true then 3 else
      match g.pair.ownFrames.find? (fun y => y.num = wordAt b 4) with
      | some y => y.draft
      | none => g.fld F.HATCH_STATUS_DRAFT, leNat (x.take 8)⟩)))

/-- What the pair does by itself and by command (R449, R451, R458, R460 to R463, R465).  CUTOVER sets the MATE's steps,
frames and streams, starts its Stipple net and its schedule, and locks.  The LEAD sends the next live block of the bulk,
then dirty blocks in rounds until few are left, then JOIN; once the cut is reached the blocks left, the encoder tables, and
CUTOVER.  It decides alone after 20 us; the heartbeat toggles, a KEEPALIVE fills a silence; a lost heartbeat or a silent link
is shown and the partner evaluated, an edge revives the heartbeat; a MATE that waits too long becomes LEAD; SCRIBE[3]'s kick
keeps the part ALIVE, and its absence ends that; RESYNC, DEMOTE and LEAVE do what R465 says, elsewhere access errors. -/
def Obligations.PairControlCompletes : Prop := ∀ s : State,
  (∀ (b : List Byte) (rest : List (Nat × List Byte)),
    let d : Device := s.dev.mirrorGot false b rest
    let t := wordAt (b.drop 16) 0
    let i := wordAt (b.drop 16) 4
    let f := wordAt (b.drop 16) 8
    s.dev.mirrorHead 0x43 b rest = true → wordAt b 4 = 8 →
    exec .cutover s = .next (s.after (if d.pairRole ≠ 2 ∨ d.pair.resync = none then d else
      let ss : List (Nat × Nat) := (List.range 8).flatMap (fun n => (List.range 4).map (fun s => (n, s)))
      let steps := ss.map (fun e => d.fld (F.TRACER_STREAM_STEP e.1 e.2))
      let d : Device := d.put F.STIPPLE_STEP_START t
      let d : Device := (d.each d.boundCores (fun d n => (d.put (F.ETCH_CTRL_RUN n) 1).etchRun n)).stippleStart
      let d : Device := d.each (ss.zip steps) (fun d e =>
        let n := e.1.1
        let s := e.1.2
        let d : Device := d.put (F.TRACER_STREAM_STEP n s) ((t + e.2) % 2 ^ 32)
        let d : Device := d.put (F.TRACER_STREAM_FRAME n s) ((i + d.fld (F.TRACER_STREAM_FRAME n s)) % 2 ^ 32)
        d.modStream n s (fun x => { x with
          nextI := (i + x.nextI) % 2 ^ 32
          frames := x.frames.map (fun y => { y with idx := (i + y.idx) % 2 ^ 32 })
          units := x.units.map (fun u => { u with
            step := (t + u.step) % 2 ^ 32, frame := u.frame.map (fun k => (i + k) % 2 ^ 32) }) }))
      ((d.put F.HATCH_FRAME (stepDiff f 1)).put F.HATCH_CTRL_MODE 2).modeApply.locked t f))) ∧
  (∀ r : Resync, s.dev.pair.resync = some r → s.dev.pairRole = 1 → s.dev.flag F.PAIR_STATUS_ALIVE = true →
    let now (r : Resync) : Device := s.dev.modPair (fun p => { p with resync := some r })
    exec .resyncBlockSend s = .next (s.after (match r.cut with
      | some (t, i) =>
        if s.dev.pausedAt t i = false then s.dev
        else match r.dirty with
          | x :: rest => (now { r with dirty := rest }).sendBlock x
          | [] =>
            if r.bulkLen + r.lateNext < r.set.length then
              (now { r with lateNext := r.lateNext + 1 }).sendBlock (r.bulkLen + r.lateNext)
            else
              let f := (s.dev.fld F.HATCH_FRAME + 1) % 2 ^ 32
              (s.dev.mirrorSend 0x43 8 0 (padTo 16 (leBytes 4 t ++ leBytes 4 i ++ leBytes 4 f))).locked t f
      | none =>
        if r.cutFn ≠ none then s.dev
        else if r.next < r.bulkLen then
          match ((List.range r.bulkLen).drop r.next).find? (fun k => (r.set[k]?.map s.dev.itemLive).getD false) with
          | some j => (now { r with next := j + 1 }).sendBlock j
          | none => now { r with next := r.bulkLen }
        else if r.dirty.length ≤ s.dev.fld F.PAIR_CUT_BLOCKS ∨ (8 ≤ r.rounds ∧ r.left = 0) then s.dev.sendJoin r
        else
          let q : Resync := if r.left = 0 then { r with rounds := r.rounds + 1, left := r.dirty.length } else r
          match r.dirty with
          | x :: rest => (now { q with dirty := rest, left := q.left - 1 }).sendBlock x
          | [] => now { q with left := 0 }))) ∧
  (∀ v, s.dev.pair.div = some v → s.dev.pairRole = 1 → 2000 ≤ s.dev.since v.at_ →
    exec .suspectWaitExpire s = .next (s.after (s.dev.decideNow v.own false))) ∧
  (s.dev.flag F.PAIR_STATUS_ALIVE = true →
    (s.dev.aliveNow = true → s.dev.fld F.PAIR_TIMING_HB_HALF ≤ s.dev.since s.dev.pair.hbOutAt →
      exec .hbToggle s = .next (s.after
        (s.dev.modPair (fun p => { p with hbOut := !p.hbOut, hbOutAt := s.dev.timebase })))) ∧
    (s.dev.hbTimeout ≤ 2 * s.dev.since s.dev.pair.sentAt → exec .mirrorKeepaliveDue s = .next (s.after
      (s.dev.mirrorSend 0x43 2 0 (padTo 16 (leBytes 4 s.dev.openStep ++ leBytes 4 (s.dev.fld F.HATCH_FRAME) ++
        leBytes 1 s.dev.pairState ++ leBytes 1 (s.dev.fld F.HG_STATUS_FORCED)))))) ∧
    (∀ t, s.dev.pair.joinAt = some t → s.dev.pairRole = 2 → s.dev.pairState = 1 →
      s.dev.fld F.PAIR_JOIN_WAIT ≤ s.dev.since t → exec .joinWaitExpire s = .next (s.after
        (((s.dev.modPair (fun p => { p with joinAt := none })).setPairState 5).put F.PAIR_STATUS_ROLE 1).sendHello))) ∧
  (s.dev.flag F.PAIR_CFG_EN = true →
    (s.dev.pair.hbGone = false → s.dev.hbTimeout ≤ s.dev.since s.dev.pair.hbInAt →
      exec .partnerHbLost s = .next (s.after
        ((s.dev.put F.PAIR_STATUS_HB_LIVE 0).modPair (fun p => { p with hbGone := true })).failover)) ∧
    (s.dev.pair.mirGone = false → s.dev.hbTimeout ≤ s.dev.since s.dev.pair.mirrorAt →
      s.dev.mirrorRx.any s.dev.mirrorValid = false → exec .mirrorSilent s = .next (s.after
        ((s.dev.put F.PAIR_STATUS_MIRROR_LIVE 0).modPair (fun p => { p with mirGone := true, partState := 0 })).failover))) ∧
  exec .mateHbInEdge s = .next (s.after
    ((s.dev.put F.PAIR_STATUS_HB_LIVE 1).modPair (fun p => { p with hbInAt := s.dev.timebase, hbGone := false }))) ∧
  (∀ ini : Ini, s.dev.admits ini F.PAIR_KICK.addr = true → exec (.pairKick ini) s = .next (s.after (
    if ini = .scribe 3 then (s.dev.modPair (fun p => { p with kickAt := some s.dev.timebase })).showAlive else s.dev))) ∧
  (∀ t, s.dev.pair.kickAt = some t → s.dev.hbTimeout < 2 * s.dev.since t →
    exec .pairKickExpire s = .next (s.after (s.dev.modPair (fun p => { p with kickAt := none })).showAlive)) ∧
  (∀ ini : Ini, s.dev.admits ini F.PAIR_CMD.addr = true →
    let refused : Device := s.dev.accError ini.num 4 (busOff (iniAddr ini F.PAIR_CMD.addr))
    let fe := (s.dev.fld F.HATCH_FRAME + 1) % 2 ^ 32
    exec (.pairResyncCmd ini) s = .next (s.after (if s.dev.pairRole = 2 then s.dev.askSync else refused)) ∧
    exec (.demote ini) s = .next (s.after (
      if s.dev.pairRole ≠ 1 ∨ s.dev.pair.decided ≠ none ∨ s.dev.pair.div ≠ none then refused
      else (s.dev.modPair (fun p => { p with decided := some (1, fe), demoting := true })).mirrorSend 0x43 5 0
        (padTo 16 (leBytes 1 1 ++ leBytes 3 0 ++ leBytes 4 fe)))) ∧
    exec (.leave ini) s = .next (s.after
      ((((s.dev.dropSync.put F.PAIR_STATUS_ROLE 0).setPairState 0).modPair (fun p =>
        { p with driving := false, partDriving := false, div := none, decided := none, draft := none
                 wantSync := false, swapped := false })).showDiverge.showAlive)))

/-- TIMEBASE and the timers (R467 to R479).  Ticks advance TIMEBASE and what counts ticks.  A read of TB_LO returns the
low half and latches the high one for its reader; a read of TB_HI returns that latch and clears it, or the live half.  A
count tick of an enabled channel moves its count by R470, that of a linked pair in 64 bits and upwards only.  A COUNT
write on a stopped channel stands at once, on a running one it waits for the next tick; a PERIOD write sets PERIOD.
Reads of a linked pair latch its high half.  GSTART starts the channels named with their prescalers at zero.  A new level
of the capture source that has stood long enough is accepted, and captured where CAP_EN is set.  CAPQ_VAL gives the
oldest capture, zero of an empty queue, and of a pair's high half the one removed last.  A pulse ends after PW + 1
ticks. -/
def Obligations.TimersComplete : Prop := ∀ s : State,
  (∀ (n : BitVec 32) (trig : BitVec 4), ∃ t, exec (.timebaseTick n trig) s = .next (s.after t) ∧
    t.timebase = (s.dev.timebase + n.toNat) % 2 ^ 64 ∧ t.mem = s.dev.mem) ∧
  (∀ ini : Ini, s.dev.admits ini F.TMR_TB_LO.addr false = true →
    let hi := s.dev.timebase >>> 32 % 2 ^ 32
    exec (.tbLoRead ini) s = .next (s.after
      { s.dev.latchHi ini.num F.TMR_TB_HI.addr hi with
        rbytes := leBytes 4 (s.dev.timebase % 2 ^ 32), rdata := BitVec.ofNat 32 s.dev.timebase })) ∧
  (∀ ini : Ini, s.dev.admits ini F.TMR_TB_HI.addr false = true →
    let key := F.TMR_TB_HI.addr + bankStride * ini.num
    let hi := s.dev.timebase >>> 32 % 2 ^ 32
    (mapGet (fun _ => none) s.dev.hiLatch key = none → exec (.tbHiRead ini) s = .next (s.after
      { s.dev with rbytes := leBytes 4 hi, rdata := BitVec.ofNat 32 hi })) ∧
    (∀ v < 2 ^ 32, mapGet (fun _ => none) s.dev.hiLatch key = some v → exec (.tbHiRead ini) s = .next (s.after
      { s.dev with hiLatch := mapPut (fun _ => none) s.dev.hiLatch key none
                   rbytes := leBytes 4 v, rdata := BitVec.ofNat 32 v }))) ∧
  (∀ i : Fin 8, s.dev.counting i = true → s.dev.fld (F.TIMER_CTRL_PRESCALE i) + 1 ≤ (s.dev.tch i).pres →
    let pair := s.dev.linkedLow i
    let r := countNext (!pair && s.dev.flag (F.TIMER_CTRL_MODE i)) (s.dev.flag (F.TIMER_CTRL_DIR i))
      (s.dev.periodOf i) (s.dev.countOf i)
    let d : Device := (s.dev.modTch i (fun t =>
      { t with pres := t.pres - (s.dev.fld (F.TIMER_CTRL_PRESCALE i) + 1) })).setCount i r.1
    let d : Device := if pair then d else d.put (F.TIMER_CTRL_DIR i) (b2n r.2.1)
    let d : Device := if r.2.2.2 then d.put (F.TIMER_STATUS_PERIOD_SHORT i) 1 else d
    exec (.timerCountTick i) s = .next (s.after (if r.2.2.1 then d.wrap i else d).showOuts)) ∧
  (∀ (ini : Ini) (i : Fin 8) (v : Word), s.dev.admits ini (F.TIMER_COUNT i).addr = true →
    let lo := if s.dev.linkedHigh i then i.val - 1 else i.val
    exec (.timerCountWrite ini i v) s = .next (s.after (
      if s.dev.flag (F.TIMER_CTRL_EN lo) then s.dev.modTch i (fun t => { t with wr := some v.toNat })
      else (s.dev.put (F.TIMER_COUNT i) v.toNat).showOuts))) ∧
  (∀ (ini : Ini) (i : Fin 8) (v : Word), s.dev.admits ini (F.TIMER_PERIOD i).addr = true →
    exec (.timerPeriodWrite ini i v) s = .next (s.after (s.dev.put (F.TIMER_PERIOD i) v.toNat).showOuts)) ∧
  (∀ (ini : Ini) (i : Fin 8) (k : Fin 3),
    let f (j : Nat) : Fld := match k.val with
      | 0 => F.TIMER_COUNT j
      | 1 => F.TIMER_CAP_RISE j
      | _ => F.TIMER_CAP_FALL j
    s.dev.admits ini (f i).addr false = true → s.dev.linkedLow i = true →
    exec (.linkedLowRead ini i k) s = .next (s.after
      { s.dev.latchHi ini.num (f (i + 1)).addr (s.dev.fld (f (i + 1))) with
        rbytes := leBytes 4 (s.dev.fld (f i)), rdata := s.dev.word (f i).addr })) ∧
  (∀ (ini : Ini) (mask : BitVec 8), s.dev.admits ini F.TMR_GSTART.addr = true →
    exec (.gstart ini mask) s = .next (s.after (s.dev.each (bitsSet 8 mask.toNat) (fun d i =>
      (d.put (F.TIMER_CTRL_EN i) 1).modTch i (fun t => { t with pres := 0 }))))) ∧
  (∀ (i : Fin 8) (rise : Bool), s.dev.accepts i rise = true →
    let d₁ := s.dev.modTch i (fun t => { t with accepted := rise })
    let c := d₁.countOf i
    let f (j : Nat) : Fld := if rise then F.TIMER_CAP_RISE j else F.TIMER_CAP_FALL j
    let d : Device := (d₁.put (f i) c).put (F.TIMER_STATUS_CAP i) 1
    let d : Device := if d.linkedLow i then d.put (f (i + 1)) (c >>> 32) else d
    let d : Device := if bit (d.fld (F.TIMER_CAP_CFG_QEDGE i)) (if rise then 0 else 1) then d.capPush i c rise else d
    exec (.captureEdge i rise) s = .next (s.after (
      if !d₁.flag (F.TIMER_CAP_CFG_CAP_EN i) || d₁.linkedHigh i then d₁
      else if rise && d.flag (F.TIMER_CAP_CFG_RST_RISE i) then
        (((d.setCount i 0).put (F.TIMER_CTRL_DIR i) 0).modTch i (fun t => { t with pres := 0 })).showOuts
      else d))) ∧
  (∀ (ini : Ini) (i : Fin 8), s.dev.admits ini (F.TIMER_CAPQ_VAL i).addr false = true →
    exec (.capqValRead ini i) s = .next (s.after (
      let got : Nat × Device :=
        if s.dev.linkedHigh i then ((s.dev.tch i).hiLast, s.dev)
        else match (s.dev.tch i).capq with
          | [] => (0, s.dev.put (F.TIMER_CAPQ_INFO_VALID i) 0)
          | e :: rest =>
            let d : Device := ((((s.dev.modTch i (fun t => { t with capq := rest })).put (F.TIMER_CAPQ_FILL i) rest.length).put
              (F.TIMER_CAPQ_INFO_VALID i) 1).put (F.TIMER_CAPQ_INFO_EDGE i) (b2n e.rise)).put (F.TIMER_CAPQ_INFO_TB i) e.tb
            let q := (d.tch (i + 1)).capq
            (e.count, if d.linkedLow i then
              (d.modTch (i + 1) (fun t => { t with capq := t.capq.tail, hiLast := (q.head?.map Capture.count).getD 0 })).put
                (F.TIMER_CAPQ_FILL (i + 1)) q.tail.length
              else d)
      { got.2 with rbytes := leBytes 4 got.1, rdata := BitVec.ofNat 32 (leNat (leBytes 4 got.1)) }))) ∧
  (∀ (j : Fin 2) (t : Nat), (s.dev.tout j).pulseAt = some t → s.dev.fld (F.TMR_OUT_CFG_PW j) < s.dev.since t →
    let d := s.dev.modTout j (fun o => { o with pulseAt := none })
    exec (.trigPulseEnd j) s = .next (s.after (
      if d.fld (F.TMR_OUT_CFG_MODE j) = 1 then d.put ⟨F.TMR_TRIG_STATUS_OUT.addr, 8 + j, 1⟩ 0 else d)))

/-- The Proof log (R484 to R495).  The oldest record that awaits snapshots takes what its reads give, a read that fails
giving 0 and its bit of SNAP_ERR, and is staged.  The head record of a synchronised log is merged into its page, written
with verify, and leaves the buffer, while its core is ON; while the core is not, the log waits for the domain, and a
record whose core can never wake again is lost.  Of an uncorrectable page the other records are lost, with 0x0114; a page
with no spare loses the record, with 0x0112.  A TIME record is due after its period.  Clearing zeroes the next page of
slots at or below FLOOR, waits for a core that is not ON, passes over an absent one and ends after the last page.  The buckets gain the tokens
that time gives them. -/
def Obligations.ProofLogCompletes : Prop := ∀ s : State,
  (∀ x rest, s.dev.proof.pend = x :: rest →
    let vals := x.addrs.map s.dev.peek
    let err := ((List.range vals.length).filter (fun i => (vals.getD i none).isNone)).foldl (fun e i => e + 2 ^ i) 0
    exec .recordStage s = .next (s.after ((s.dev.modProof (fun p => { p with pend := rest })).stage
      { x.base with snaps := vals.map (fun v => v.getD 0), snapErr := err }))) ∧
  (∀ (vf : List Bool) (r : Rec) (rest : List Rec), s.dev.proof.staged = r :: rest → s.dev.flag F.PL_STATUS_SYNCED = true →
    let n := slotCore r.seq
    let a := plateBase n + 512 * slotPage r.seq
    let d : Device := { s.dev with verifyFails := vf }
    let ue := d.ueAt a
    let lost := ((List.range 8).filter (fun k => decide (64 * k ≠ slotByte r.seq) &&
      decide (leNat ((List.range 4).map (fun i => (d.note a).byte (a + 64 * k + i))) ≠ 0))).length
    let d₁ : Device := if ue then
        (((d.note a).bumpBy F.PL_LOST lost).raise 0x0114 n).modProof (fun p => { p with lostSince := p.lostSince + lost })
      else d.note a
    let old := if ue then List.replicate 512 0 else d₁.rdBytes a 512
    let x := d₁.plateWrite n (slotPage r.seq) (old.take (slotByte r.seq) ++ r.bytes ++ old.drop (slotByte r.seq + 64))
    exec (.recordCommit vf) s = .next (s.after (
      if (s.dev.dom (domEtch n)).ignored = true ∧ s.dev.domState (domEtch n) = 0 then d.loseRec.popStaged
      else if s.dev.isOn (domEtch n) = false then d
      else (if x.2 then x.1 else (x.1.raiseBit (F.INT_FAULT_PLATE_FULL (intEtch n)) 0x0112 n).loseRec).popStaged))) ∧
  (s.dev.flag F.PL_STATUS_SYNCED = true →
    100000000 * max 1 (s.dev.fld F.PL_CFG) ≤ s.dev.since s.dev.proof.timeAt →
    exec .timeRecord s = .next (s.after
      ((s.dev.modProof (fun p => { p with timeAt := s.dev.timebase })).ownRecord 2 []))) ∧
  (∀ vf : List Bool, s.dev.flag F.PL_STATUS_CLEARING = true →
    let g := s.dev.proof.clearNext
    let d : Device := { s.dev with verifyFails := vf }
    let z : Device := if d.proof.absent.contains (g / 8) then d else d.zeroPage (g / 8) (2040 + g % 8) (d.fld F.PL_FLOOR)
    let z := z.modProof (fun p => { p with clearNext := g + 1 })
    exec (.clearPageZero vf) s = .next (s.after (
      if d.proof.absent.contains (g / 8) = false ∧ d.isOn (domEtch (g / 8)) = false then d
      else if 511 ≤ g then z.put F.PL_STATUS_CLEARING 0 else z))) ∧
  exec .bucketRefill s = .next (s.after (s.dev.modProof (fun p => { p with
    buckets := p.buckets.map (fun e => (e.1, e.2.refill (100000 * (p.trig e.1).periodMs) (p.trig e.1).depth s.dev.timebase))
    global := p.global.refill 1000000 4096 s.dev.timebase })))

/-- Recovery (R504 to R512).  A Scribe that declares another party has it declared, counted as a tie where its request was
one of several; the Rack's sweep done takes the
party's queues into the cache and ends its declaration where no restart runs.  A Scribe that misses its kicks is
declared with 0x0711; declared and ON again, its firmware, where it is whole, is loaded, and it is released and waits for
its first kick, and where it is not, or where that kick is late, the restart fails with 0x0714; the kick completes the
restart with 0x0713.  RESTART records 0x0716 and asks for a restart of the part. -/
def Obligations.RecoveryCompletes : Prop := ∀ s : State,
  (∀ (n : Fin 4) (c : Fin 128) (tied : Bool),
    let d : Device := s.dev.tie tied (2 + n) F.HG_DECLARE.addr true
    d.admits (.scribe n) F.HG_DECLARE.addr = true → 2 ≤ c.val → c.val ≠ 2 + n.val →
    exec (.hgDeclare (.scribe n) c tied) s = .next (s.after (d.declare c))) ∧
  (∀ c : Fin 128, s.dev.rack.sweeping.contains c.val = true →
    exec (.declareSweepDone c) s = .next (s.after (
      let d : Device := s.dev.each (s.dev.naming c) (fun d q => (d.fetchDesc q).1)
      (d.modRack (fun r => { r with sweeping := r.sweeping.filter (· ≠ c.val) })).undeclare c))) ∧
  (∀ n : Fin 4,
    (s.dev.power.wdOn = true → s.dev.fld F.HG_SCRIBE_WD ≠ 0 → s.dev.fld (scribeStateFld n) ≠ 2 →
      (s.dev.scribe n).running = true →
      (s.dev.scribe n).halted = false → 100000 * s.dev.fld F.HG_SCRIBE_WD ≤ s.dev.since (s.dev.scribe n).kickAt →
      exec (.scribeWdExpire n) s = .next (s.after
        ((s.dev.raiseBit F.HG_FR_FAULT_SCRIBE_WD 0x0711 n).declare (2 + n)))) ∧
    (
      let failed : Device :=
        let d : Device := (s.dev.put (scribeStateFld n) 3).modScribe n (fun k => { k with running := false, restartAt := none })
        ((d.override (domScribe n) 0).raiseBit F.HG_FR_FAULT_RESTART_FAIL 0x0714 n).undeclare (2 + n)
      (s.dev.fld (scribeStateFld n) = 1 → s.dev.isOn (domScribe n) = true → s.dev.vote 31 (domScribe n) = 2 →
      (n.val = 0 ∨ (s.dev.scribe 0).running = true) →
      let d : Device := s.dev.modBoot (fun b => { b with fw := s.dev.fwCopy })
      exec (.scribeRestart n) s = .next (s.after (
        if hashOk s.dev.bootc.header 0 s.dev.fwCopy = true ∧ (n.val = 0 → vendorOk s.dev.fwCopy = true) then
          let d : Device := ((d.loadFw n).put (scribeStateFld n) 2).release n
          d.modScribe n (fun k => { k with restartAt := some d.timebase })
        else failed))) ∧
    (∀ t, (s.dev.scribe n).restartAt = some t → s.dev.fld (scribeStateFld n) = 2 → s.dev.fld F.HG_SCRIBE_WD ≠ 0 →
      200000 * s.dev.fld F.HG_SCRIBE_WD < s.dev.since t →
      exec (.scribeRestartTimeout n) s = .next (s.after failed))) ∧
    (∀ mask : BitVec 4, s.dev.admits (.scribe n) F.HG_SCRIBE_KICK.addr = true → mask.toNat = 2 ^ n.val →
      let d : Device := s.dev.modScribe n (fun k => { k with kickAt := s.dev.timebase })
      (s.dev.fld (scribeStateFld n) ≠ 2 → exec (.scribeKick (.scribe n) mask) s = .next (s.after d)) ∧
      (s.dev.fld (scribeStateFld n) = 2 → exec (.scribeKick (.scribe n) mask) s = .next (s.after (
        let d : Device := (d.put (scribeStateFld n) 0).modScribe n (fun k => { k with restartAt := none })
        ((d.override (domScribe n) 0).raise 0x0713 n).undeclare (2 + n))))) ∧
    (s.dev.admits (.scribe n) F.HG_CMD.addr = true → exec (.partRestart (.scribe n)) s = .next (s.after
      ((s.dev.raise 0x0716 wholeDevice).modBoot (fun b => { b with restart := true })))))

/-- The register path (R10, R12, R34, R35, R36, R193).  An access that the path admits is counted as an arbitration tie
where the port grants it out of a group.  A 32-bit write of a served register then does what its block makes of it, in
the blocks without writes of their own what the access codes give; a 32-bit read of one returns what the block shows
there, with what reading it does, in the plain blocks its word with what reading clears.  A naturally aligned write of a
served memory that may be written stores its bytes (a write to a synapse word goes through the fix copy); one that
would change part of an uncorrectable word is discarded with its code.  A read returns them, or zeros where they are
uncorrectable.  A lane of a scratchpad that the initiator may reach is written, set or cleared through its alias, and
read, undefined where the tile writes the word in that cycle. -/
def Obligations.RegisterPathCompletes : Prop := ∀ (s : State) (ini : Ini) (a : BitVec 40) (tied : Bool),
  let x := busAddr a.toNat
  let off := busOff a.toNat
  (let d := s.dev.tie tied ini.num a.toNat true
   d.reach ini.num a.toNat true = true → d.shut ini.num = false →
   (∀ p r (w : Word), laneOf x = none → regLoc x = some p → regRow x = some r → x % 4 = 0 →
      d.served x (p.dom x) = true →
      exec (.registerWrite ini a (leBytes 4 w.toNat) tied) s = .next (s.after (d.regWrite ini.num p x r w off)) ∧
      ((p.blk = .topo ∨ p.blk = .contract ∨ p.blk = .plate ∨ p.blk = .hr) →
        exec (.registerWrite ini a (leBytes 4 w.toNat) tied) s = .next (s.after (d.regSet x r w)))) ∧
   (∀ m (bytes : List Byte), laneOf x = none → regRow (x / 4 * 4) = none → memAt x = some m → bytes ≠ [] →
      bytes.length ≤ 8 → x % bytes.length = 0 → (wordOnly x = true → bytes.length = 4) →
      d.served x m.dom = true → d.memShut x = false →
      exec (.registerWrite ini a bytes tied) s = .next (s.after (
        if d.ueAt x = true ∧ bytes.length < codeSize x then d.busUe ini.num x off
        else if inRange x 0x0100000000 0x40000000 ∧ inRange (x % 0x1000000) 0x100000 0x180000 then
          (d.note x).synWrite ((x - 0x0100000000) / 0x1000000) (((x % 0x1000000) - 0x100000) / 4) (leNat bytes)
        else (d.note x).st x (heldBytes x bytes)))) ∧
   (∀ n o op (bytes : List Byte), laneOf x = some (n, o, op) → bytes.length = 4 → x % 4 = 0 →
      d.served x (domGraver n) = true → d.laneOpen ini.num n o true = true →
      exec (.registerWrite ini a bytes tied) s = .next (s.after
        (d.laneWrite ini.num n o op (BitVec.ofNat 32 (leNat bytes)) off)))) ∧
  (let d := s.dev.tie tied ini.num a.toNat false
   let answer (r : List Byte × Device) : State :=
     s.after { r.2 with rbytes := r.1, rdata := BitVec.ofNat 32 (leNat r.1) }
   d.reach ini.num a.toNat false = true → d.shut ini.num = false →
   (∀ p r, laneOf x = none → regLoc x = some p → regRow x = some r → x % 4 = 0 → d.served x (p.dom x) = true →
      (let v := d.regRead ini.num p x r off
       exec (.rcRead ini a 4 tied) s = .next (answer (leBytes 4 v.1, v.2))) ∧
      ((p.blk = .topo ∨ p.blk = .contract ∨ p.blk = .boot ∨ p.blk = .hg ∨ p.blk = .pair ∨ p.blk = .etch ∨
          p.blk = .stipple ∨ p.blk = .port ∨ p.blk = .graver ∨ p.blk = .press ∨ p.blk = .int ∨ p.blk = .mc) →
        r.banked = false →
        exec (.rcRead ini a 4 tied) s = .next (answer (leBytes 4 (d.regGet x r).1, (d.regGet x r).2)))) ∧
   (∀ m (len : Fin 9), laneOf x = none → regRow (x / 4 * 4) = none → memAt x = some m → 1 ≤ len.val →
      x % len.val = 0 → (wordOnly x = true → len.val = 4) → d.served x m.dom = true → d.inTable x = false →
      exec (.rcRead ini a len tied) s = .next (answer (
        if x < 0x40000 then ((List.range len).map (fun i => Config.bootRom (x + i)), d)
        else if d.ueAt x then (List.replicate len 0, d.busUe ini.num x off)
        else (d.rdBytes x len, d.note x)))) ∧
   (∀ n o op, laneOf x = some (n, o, op) → x % 4 = 0 → d.served x (domGraver n) = true →
      d.laneOpen ini.num n o false = true →
      exec (.rcRead ini a 4 tied) s = .next (answer (
        if (d.tile n).held.any (heldBy (o / 32) (· = 8)) then
          let r := (d.modTile n (fun t => t.unhold (o / 32) (· = 8))).draw
          (leBytes 4 (r.1.toNat % 2 ^ 32), r.2)
        else d.memGet ini.num (graverBase n + 0x400000 + o) off 4))))

/-- "A write of any other width or alignment is discarded.  A read of any other width or alignment returns 0x0000_0000
and has no side effect.  In both cases the issuing path records an access error" (R10): for the host in HFAULT.ACC, and
nothing but the record of access errors changes. -/
def Obligations.OtherWidthsAreDiscarded : Prop :=
  ∀ (s : State) (ini : Ini) (a : BitVec 40) (bytes : List Byte) (len : Fin 9) (tied : Bool),
  let x := busAddr a.toNat
  let quiet (e : Device) : Prop := e.mem = s.dev.mem ∧
    (∀ b, b ≠ F.HOST_HFAULT_ACC.addr → b ≠ F.HOST_ACC_INFO_VALID.addr → b ≠ F.CONTRACT_ARB_TIES.addr →
      e.word b = s.dev.word b) ∧
    nget e.accErr ini.num = nget s.dev.accErr ini.num + 1 ∧ (ini = .host → e.flag F.HOST_HFAULT_ACC = true)
  (regLoc x).isSome = true → (regRow (x / 4 * 4)).isSome = true → laneOf x = none →
  ((bytes.length ≠ 4 ∨ x % 4 ≠ 0) →
    ∃ e, exec (.registerWrite ini a bytes tied) s = .next (s.after e) ∧ quiet e) ∧
  ((len.val ≠ 4 ∨ x % 4 ≠ 0) →
    ∃ e, exec (.rcRead ini a len tied) s = .next (s.after e) ∧ quiet e ∧
      e.rbytes = List.replicate len 0 ∧ e.rdata = 0)

/-- The access codes of R12, field by field of every register row: a write sets an RW field, clears the ones of a W1C
field, sets the ones of a W1S field and leaves RO and RC fields and everything else as they are; a read returns every
field but the write-only ones in place, and then returns RC fields to their reset value and leaves the others. -/
def Obligations.AccessCodesHold : Prop := ∀ (d : Device) (a : Nat) (r : RegRow) (w : Word), regRow a = some r →
  (d.regSet a r w).mem = d.mem ∧ (∀ b, b ≠ a → (d.regSet a r w).word b = d.word b) ∧
  (∀ f ∈ r.fields,
    let x : Fld := ⟨a, f.lo, f.len⟩
    let v := bits w.toNat f.lo f.len
    (f.acc = .rw → (d.regSet a r w).fld x = v) ∧
    (f.acc = .w1c → ∀ i, ((d.regSet a r w).fld x).testBit i = ((d.fld x).testBit i && !v.testBit i)) ∧
    (f.acc = .w1s → (d.regSet a r w).fld x = d.fld x ||| v) ∧
    ((f.acc = .ro ∨ f.acc = .rc) → (d.regSet a r w).fld x = d.fld x) ∧
    bits (d.regGet a r).1 f.lo f.len = (if f.acc = .wo then 0 else d.fld x) ∧
    (d.regGet a r).2.fld x = (if f.acc = .rc then f.reset else d.fld x)) ∧
  (d.regGet a r).2.mem = d.mem ∧ ∀ b, b ≠ a → (d.regGet a r).2.word b = d.word b

/-- The host reaches its window, and beyond it only what policy has opened (R34): any other write is discarded and any
other read returns zeros, each an access error; and no window of the indirect port opens the boot ROM, the Scribes' SRAM
or the global registers outside the host window. -/
def Obligations.HostNeverReachesGlobals : Prop := ∀ (s : State) (a : BitVec 40),
  ¬ (hostBase ≤ a.toNat ∧ a.toNat < hostBase + 0x10000) →
  (s.dev.indOpen a.toNat true = false → ∀ (bytes : List Byte) (tied : Bool),
    exec (.registerWrite .host a bytes tied) s = .next (s.after (s.dev.accError iniHost 3 0x1008))) ∧
  (s.dev.indOpen a.toNat false = false → ∀ (len : Fin 9) (tied : Bool),
    exec (.rcRead .host a len tied) s = .next (s.after
      { s.dev.accError iniHost 3 0x1008 with rbytes := List.replicate len 0, rdata := 0 })) ∧
  (a.toNat < 0x0020400000 → ∀ wr, s.dev.indOpen a.toNat wr = false)

/-- "Raw access, HG.DECLARE, HG.RETIRE and HG.CMD are refused to the host at every state, under R34" (R516): the raw
commands end in an error or an access error, and the writes of Hardground registers are discarded as access errors. -/
def Obligations.HostInjectsNoFaults : Prop := ∀ s : State,
  (∀ (c : Fin 128) (tied : Bool), exec (.hgDeclare .host c tied) s = .next (s.after (s.dev.accError iniHost 3 0x1008))) ∧
  exec (.partRestart .host) s = .next (s.after (s.dev.accError iniHost 3 0x1008)) ∧
  (∀ (r : Fin 8) (bytes : List Byte) (tied : Bool),
    exec (.registerWrite .host (BitVec.ofNat 40 (F.HG_RETIRE r).addr) bytes tied) s = .next (s.after
      (s.dev.accError iniHost 3 0x1008))) ∧
  ∀ (b : IntBlk) (vf : List Bool) (t : State),
    (exec (.rawRead .host b) s = .next t ∨ exec (.rawWrite .host b vf) s = .next t ∨
      exec (.rawGet .host b) s = .next t ∨ exec (.rawPut .host b) s = .next t) →
    ∃ k, t = s.after (s.dev.accError iniHost k 0x1008) ∨
      ∃ vf', t = s.after (({ s.dev with verifyFails := vf' } : Device).rawResult b.block false)

/-- What is written to memory is read back (R14, R34, R330, R333): after a naturally aligned write of a served memory that
may be written and is not damaged, by an initiator that it leaves calm, a read of the same bytes returns them, in a Bite
table the fields of its words; every other byte of memory reads as before, and so does every register but the counter of
arbitration ties. -/
def Obligations.MemoryReadsWhatWasWritten : Prop :=
  ∀ (s t : State) (ini : Ini) (a : BitVec 40) (m : MemAt) (len : Fin 9) (bytes : List Byte) (tied : Bool),
  let x := busAddr a.toNat
  bytes.length = len.val → 1 ≤ len.val → s.dev.reach ini.num a.toNat true = true →
  s.dev.reach ini.num a.toNat false = true → s.dev.shut ini.num = false →
  laneOf x = none → regRow (x / 4 * 4) = none → memAt x = some m → x % len.val = 0 → 0x40000 ≤ x →
  (wordOnly x = true → len.val = 4) → s.dev.served x m.dom = true → s.dev.memShut x = false →
  (inRange x 0x0100000000 0x40000000 && inRange (x % 0x1000000) 0x100000 0x180000) = false →
  s.dev.damage = [] → s.dev.calm = true →
  exec (.registerWrite ini a bytes tied) s = .next t →
  (∀ b, b < x ∨ x + len.val ≤ b → t.dev.byte b = s.dev.byte b) ∧
  (∀ b, b ≠ F.CONTRACT_ARB_TIES.addr → t.dev.word b = s.dev.word b) ∧
  ∃ u, exec (.rcRead ini a len tied) t = .next u ∧ u.dev.rbytes = heldBytes x bytes ∧
    (¬ inRange x 0x0100000000 0x40000000 → u.dev.rbytes = bytes)

/-- A step runs the command at the front of the queue, with the queue's rest. -/
def Obligations.StepRunsTheFrontCommand : Prop := ∀ (s : State) (c : Instr),
  step { s with pending := c :: s.pending } = exec c s

/-- With nothing waiting the part idles (the model's choice, log entry 4: what happens at a tick is a command). -/
def Obligations.EmptyQueueIdles : Prop := ∀ s : State, s.pending = [] → step s = .next s

/-- Every command is answered: its own effect on the device, then the end of a command, the queue as it was.  No command
is a fault or a refusal. -/
def Obligations.EveryCommandIsAnswered : Prop := ∀ (c : Instr) (s : State), ∃ d : Device, exec c s = .next (s.after d)

/-- No row of the table gives a command bits: no word spells one (the table's rows have no fields). -/
def Obligations.NoWordSpellsACommand : Prop := ∀ nbits w, decodeTableWord nbits w = none

/-- What reset leaves: every register of every row at its row's reset values, every memory zero and nothing valid, no
code raised, nothing in any queue, the part in POR with AON alone ON, no command waiting; in the canonical form.  (The
Reset columns of the register tables, R11, R375, R387; that memory reads zero is R327, R330 and R333.) -/
def Obligations.ResetIsAsTabled : Prop :=
  (∀ a, State.reset.dev.word a = resetWord a) ∧ (∀ a, State.reset.dev.byte a = 0) ∧
  (∀ a, State.reset.dev.ueAt a = false) ∧ State.reset.dev.timebase = 0 ∧ State.reset.dev.boot = 0 ∧
  State.reset.dev.isOn 0 = true ∧ (∀ i < 126, State.reset.dev.domState (i + 1) = 0) ∧
  State.reset.pending = [] ∧ State.reset.settled = true ∧
  State.reset.dev.proof.staged = [] ∧ State.reset.dev.sec.reqs = [] ∧ State.reset.dev.host.replies = []

/-- Every step keeps the canonical form of the maps and leaves no mark of a command: memory lists rising addresses and
no byte that is zero, the register file no register at its reset value, the valid bits none that is clear. -/
def Obligations.StepKeepsStatesSettled : Prop := ∀ s t : State, s.settled = true → step s = .next t → t.settled = true

/-- In the canonical form, what reads the same is the same: two devices whose bytes, registers and valid bits read alike
hold equal maps. -/
def Obligations.CanonicalMapsAreEqual : Prop := ∀ d e : Device, d.canon = true → e.canon = true →
  (∀ a, d.byte a = e.byte a) → (∀ a, d.word a = e.word a) →
  (∀ a, mapGet (fun _ => false) d.valid a = mapGet (fun _ => false) e.valid a) →
  d.mem = e.mem ∧ d.regs = e.regs ∧ d.valid = e.valid

/-- Running the machine for as many steps as commands wait serves them all, first in, first out: the queue is empty, and
the state is what the commands leave in that order, each answered by exec. -/
def Obligations.QueueIsServedInOrder : Prop := ∀ s : State, ∃ t : State,
  core.run s.pending.length s = .next t ∧ t.pending = [] ∧
  t.dev = s.pending.foldl (fun d c => match exec c { dev := d, pending := [] } with
    | .next u => u.dev
    | _ => d) s.dev ∧
  (s.settled = true → t.settled = true)

/-- The end of a command that leaves the device calm changes nothing that can be read: every register, byte, valid bit
and field of every unit is as the command's own effect left it, and the waiting commands are the same. -/
def Obligations.CalmEndLeavesTheEffect : Prop := ∀ (s : State) (d : Device), d.calm = true →
  (s.after d).pending = s.pending ∧
  (∀ a, (s.after d).dev.word a = d.word a) ∧ (∀ a, (s.after d).dev.byte a = d.byte a) ∧
  (∀ a, mapGet (fun _ => false) (s.after d).dev.valid a = mapGet (fun _ => false) d.valid a) ∧
  (s.after d).dev = { d with
    verifyFails := [], regs := (s.after d).dev.regs, mem := (s.after d).dev.mem, valid := (s.after d).dev.valid }

/-- What the collector does with one code raised by a command that leaves the device otherwise calm (R491, R497 to R502):
a NOTE, ALERT or FATAL code becomes FR.NEWEST and the newest of FR.HIST, whose entries move down by one, and FR.RAISED
counts it; a FATAL code takes the part to FAULT; a RECORD code leaves the history as it is. -/
def Obligations.RaisedCodeIsCollected : Prop := ∀ (s : State) (d : Device) (code unit : Nat), d.calm = true →
  code < 2 ^ 16 → unit < 2 ^ 8 → d.fld F.HG_FR_RAISED < 2 ^ 32 - 1 →
  let t := (s.after { d with raising := [(code, unit)] }).dev
  (sev code ≠ .record →
    t.fld F.HG_FR_NEWEST_CODE = code ∧ (t.word F.HG_FR_NEWEST_CODE.addr).toNat.testBit 31 = true ∧
    t.fld (F.HG_FR_HIST_CODE 0) = code ∧
    (∀ i < 23, t.word (F.HG_FR_HIST_CODE (i + 1)).addr = d.word (F.HG_FR_HIST_CODE i).addr) ∧
    t.fld F.HG_FR_RAISED = d.fld F.HG_FR_RAISED + 1) ∧
  (sev code = .record → ∀ i < 24, t.word (F.HG_FR_HIST_CODE i).addr = d.word (F.HG_FR_HIST_CODE i).addr) ∧
  (sev code = .fatal → t.boot = 10)

/-- "The grid therefore holds 72 Etch sites and 40 Graver sites, 112 in all" (R17): in every row the columns 0, 2, 3, 5,
6, 8, 9, 11 and 13 are Etch sites and the columns 1, 4, 7, 10 and 12 Graver sites. -/
def Obligations.SitesAreAsTheGridHasThem : Prop :=
  (∀ r < 8, ∀ c < 14, isEtchSite (14 * r + c) = decide (c ∈ [0, 2, 3, 5, 6, 8, 9, 11, 13]) ∧
    (isEtchSite (14 * r + c) = false ↔ c ∈ [1, 4, 7, 10, 12])) ∧
  ((List.range 112).filter isEtchSite).length = 72 ∧
  ((List.range 112).filter (fun x => !isEtchSite x)).length = 40

/-- "With CTRL.GATE_EN = 1, the gate is active on ticks when the synchronised level of source GATE_SRC (R476) equals the
active level: high for GATE_POL = 0, low for GATE_POL = 1" (R474).  While the gate is inactive, the count and the
prescaler hold, at ticks of TIMEBASE and at count ticks; with GATE_EN = 0 the gate is always active. -/
def Obligations.GatesStopAndLetCount : Prop := ∀ (s : State) (i : Fin 8),
  (s.dev.fld (F.TIMER_CTRL_GATE_EN i) = 0 → s.dev.gateOn i = true) ∧
  (s.dev.fld (F.TIMER_CTRL_GATE_EN i) = 1 →
    (s.dev.gateOn i = true ↔
      s.dev.sourceLevel (s.dev.fld (F.TIMER_CTRL_GATE_SRC i)) = decide (s.dev.fld (F.TIMER_CTRL_GATE_POL i) = 0))) ∧
  (s.dev.gateOn i = false → exec (.timerCountTick i) s = .next (s.after s.dev)) ∧
  (∀ (n : BitVec 32) (trig : BitVec 4), (∀ k : Fin 8, (s.dev.tch k).wr = none) →
    (s.dev.put F.TMR_TRIG_STATUS_IN trig.toNat).gateOn i = false →
    ∃ t, exec (.timebaseTick n trig) s = .next (s.after t) ∧ (t.tch i).pres = (s.dev.tch i).pres ∧
      t.fld (F.TIMER_COUNT i) = s.dev.fld (F.TIMER_COUNT i))

/-- A count tick by R470, of a channel by itself or of a linked pair: up mode counts to PERIOD and wraps to 0 with WRAP;
up/down mode turns at PERIOD and at 0, with WRAP at 0; a count beyond PERIOD sets PERIOD_SHORT. -/
def Obligations.CountTicksFollowTheTable : Prop := ∀ (s : State) (i : Fin 8),
  s.dev.counting i = true → s.dev.fld (F.TIMER_CTRL_PRESCALE i) + 1 ≤ (s.dev.tch i).pres →
  let c := s.dev.countOf i
  let p := s.dev.periodOf i
  let up := s.dev.fld (F.TIMER_CTRL_MODE i) = 0 ∨ s.dev.linkedLow i = true
  let down := s.dev.fld (F.TIMER_CTRL_DIR i) = 1
  ∃ t : Device, exec (.timerCountTick i) s = .next (s.after t) ∧
    (up → p ≤ c → t.countOf i = 0) ∧ (up → c < p → t.countOf i = c + 1) ∧
    (¬ up → p = 0 → t.countOf i = 0) ∧
    (¬ up → 0 < p → ¬ down → p ≤ c → t.countOf i = c - 1 ∧ t.fld (F.TIMER_CTRL_DIR i) = 1) ∧
    (¬ up → 0 < p → ¬ down → c < p → t.countOf i = c + 1 ∧ t.fld (F.TIMER_CTRL_DIR i) = 0) ∧
    (¬ up → 0 < p → down → c = 0 → t.countOf i = 1 ∧ t.fld (F.TIMER_CTRL_DIR i) = 0) ∧
    (¬ up → 0 < p → down → 0 < c → t.countOf i = c - 1 ∧ t.fld (F.TIMER_CTRL_DIR i) = 1) ∧
    ((up ∧ p ≤ c) ∨ (¬ up ∧ (p = 0 ∨ (down ∧ c = 0))) → t.fld (F.TIMER_STATUS_WRAP i) = 1) ∧
    ((up ∧ p < c) ∨ (¬ up ∧ 0 < p ∧ ¬ down ∧ p < c) → t.fld (F.TIMER_STATUS_PERIOD_SHORT i) = 1) ∧
    (c < p → t.fld (F.TIMER_STATUS_WRAP i) = s.dev.fld (F.TIMER_STATUS_WRAP i) ∨ (down ∧ c = 0)) ∧
    (c ≤ p → t.fld (F.TIMER_STATUS_PERIOD_SHORT i) = s.dev.fld (F.TIMER_STATUS_PERIOD_SHORT i))

/-- Commands of the I3C target and of the TAP that touch only their own logic: from a state that their end leaves calm,
with its clocks running, every register and every byte of memory stays as it was. -/
def Obligations.TargetAndTapLeaveTheRest : Prop := ∀ (s t : State) (c : Instr), s.dev.calm = true →
  s.dev.power.gated = false →
  c ∈ [.entas true, .entas false, .rstdaa, .enthdr0, .getmwl, .getmrl, .getpid, .getbcr, .getdcr, .getstatus, .getmxds,
    .getcaps, .unsupportedCcc true, .unsupportedCcc false, .bypass, .idcode, .clamp, .highz, .jtagStatus,
    .testLogicReset] ∨
  (∃ direct x, c = .enec direct x ∨ c = .disec direct x) ∨ (∃ direct v, c = .setmwl direct v ∨ c = .setmrl direct v) ∨
  (∃ direct b, c = .rstact direct b) ∨ (∃ a, c = .setdasa a ∨ c = .setnewda a) ∨ (∃ a won, c = .entdaa a won) ∨
  (∃ pins load, c = .samplePreload pins load ∨ c = .extest pins load) ∨ (∃ x, c = .token x) ∨
  (∃ acked, c = .hotJoinRequest acked ∨ c = .ibiRequest acked) →
  exec c s = .next t →
  (∀ a, t.dev.word a = s.dev.word a) ∧ (∀ a, t.dev.byte a = s.dev.byte a) ∧ t.pending = s.pending

/-- The frame of the timer commands (R467 to R479): from a state that their end leaves calm, a count tick, an accepted
edge, the end of a pulse, and what an initiator that reaches the timers reads or writes there leave every byte of memory,
TIMEBASE, and every register outside the 4 KiB at the timer unit's base, which hold its registers, as they were. -/
def Obligations.TimersLeaveTheRest : Prop := ∀ (s t : State) (c : Instr), s.dev.calm = true →
  (∃ i, c = .timerCountTick i) ∨ (∃ i rise, c = .captureEdge i rise) ∨ (∃ j, c = .trigPulseEnd j) ∨
  (∃ ini : Ini, s.dev.admits ini F.TMR_TB_LO.addr = true ∧
    ((∃ i v, c = .timerCountWrite ini i v) ∨ (∃ i v, c = .timerPeriodWrite ini i v) ∨ (∃ m, c = .gstart ini m) ∨
      c = .tbLoRead ini ∨ c = .tbHiRead ini ∨ ∃ i, c = .capqValRead ini i)) →
  exec c s = .next t →
  (∀ a, t.dev.byte a = s.dev.byte a) ∧ t.dev.timebase = s.dev.timebase ∧ t.pending = s.pending ∧
  ∀ a, inRange a 0x0010300000 0x1000 = false → t.dev.word a = s.dev.word a
end

