-- ==== Sys2Proof/Laws/Bits.lean ====
section
/-! SUPPORT. Laws of bit fields: what a field reads after a field of the same word is replaced, and little-endian
bytes. -/

namespace Sys2Proof.Machine

theorem bits_lt (x lo len : Nat) : bits x lo len < 2 ^ len := Nat.mod_lt _ (by positivity)

theorem testBit_bits (x lo len i : Nat) : (bits x lo len).testBit i = (decide (i < len) && x.testBit (lo + i)) := by
  simp [bits, Nat.testBit_mod_two_pow]

theorem getLsbD_setBits (w : Word) (lo len v i : Nat) : (setBits w lo len v).getLsbD i =
    if lo ≤ i ∧ i < lo + len ∧ i < 32 then v.testBit (i - lo) else w.getLsbD i := by
  unfold setBits
  simp only [BitVec.getLsbD_or, BitVec.getLsbD_and, BitVec.getLsbD_not, BitVec.getLsbD_ofNat, Nat.testBit_shiftLeft,
    Nat.testBit_mod_two_pow, Nat.testBit_two_pow_sub_one]
  by_cases h32 : i < 32
  · by_cases hl : lo ≤ i
    · by_cases hh : i < lo + len
      · have : i - lo < len := by omega
        simp [h32, hl, hh, this]
      · have : ¬ i - lo < len := by omega
        simp [h32, hl, hh, this]
    · simp [h32, hl]
  · have := BitVec.getLsbD_of_ge w i (by omega)
    simp [h32, this]

/-- A field reads as the value put into it. -/
theorem bits_setBits_same (w : Word) (lo len v : Nat) (h : lo + len ≤ 32) :
    bits (setBits w lo len v).toNat lo len = v % 2 ^ len := by
  apply Nat.eq_of_testBit_eq
  intro i
  rw [testBit_bits, BitVec.testBit_toNat, getLsbD_setBits, Nat.testBit_mod_two_pow]
  by_cases hi : i < len
  · have h1 : lo ≤ lo + i ∧ lo + i < lo + len ∧ lo + i < 32 := by omega
    simp [hi, h1]
  · simp [hi]

/-- A field reads as before after another field of the word is replaced. -/
theorem bits_setBits_other (w : Word) (lo len v lo' len' : Nat) (h : lo + len ≤ lo' ∨ lo' + len' ≤ lo) :
    bits (setBits w lo len v).toNat lo' len' = bits w.toNat lo' len' := by
  apply Nat.eq_of_testBit_eq
  intro i
  rw [testBit_bits, testBit_bits, BitVec.testBit_toNat, BitVec.testBit_toNat, getLsbD_setBits]
  by_cases hi : i < len'
  · have h1 : ¬ (lo ≤ lo' + i ∧ lo' + i < lo + len ∧ lo' + i < 32) := by omega
    simp [hi, h1]
  · simp [hi]

/-- Replacing a field by what it holds changes nothing. -/
theorem setBits_self (w : Word) (lo len : Nat) : setBits w lo len (bits w.toNat lo len) = w := by
  apply BitVec.eq_of_getLsbD_eq
  intro i hi
  rw [getLsbD_setBits]
  split
  · rename_i h
    have h2 : i - lo < len := by omega
    have h3 : lo + (i - lo) = i := by omega
    simp [testBit_bits, h2, h3, BitVec.testBit_toNat]
  · rfl

/-- A bit as a number is the one-bit field at its place. -/
theorem b2n_bit (x i : Nat) : b2n (bit x i) = bits x i 1 := by
  unfold b2n bit bits
  rw [Nat.testBit, Nat.one_and_eq_mod_two, Nat.pow_one]
  have : x >>> i % 2 < 2 := Nat.mod_lt _ (by omega)
  by_cases h : x >>> i % 2 = 0
  · simp [h]
  · have : x >>> i % 2 = 1 := by omega
    simp [this]

theorem bit_eq (x i : Nat) : bit x i = decide (bits x i 1 = 1) := by
  rw [← b2n_bit]
  cases bit x i <;> rfl

@[simp] theorem leBytes_length (n x : Nat) : (leBytes n x).length = n := by
  induction n generalizing x with
  | zero => rfl
  | succ n ih => simp [leBytes, ih]

/-- The number that n little-endian bytes hold. -/
theorem leNat_leBytes (n x : Nat) : leNat (leBytes n x) = x % 256 ^ n := by
  induction n generalizing x with
  | zero => simp [leBytes, leNat, Nat.mod_one]
  | succ n ih =>
    have h8 : (BitVec.ofNat 8 x).toNat = x % 256 := rfl
    rw [leBytes, leNat, ih, h8, pow_succ', Nat.mod_mul]

@[simp] theorem leNat_leBytes_word (w : Word) : BitVec.ofNat 32 (leNat (leBytes 4 w.toNat)) = w := by
  rw [leNat_leBytes]
  apply BitVec.eq_of_toNat_eq
  have h := w.isLt
  rw [BitVec.toNat_ofNat]
  omega

end Sys2Proof.Machine
end

