-- ==== Sys2Proof/Laws/Sparse.lean ====
section
/-! SUPPORT. Laws of sparse maps: what a key reads after a write, a removal and a normalisation, and that each of
them gives the canonical form. -/

namespace Sys2Proof.Machine

variable {α : Type}

theorem mapGet_del_same (f : Nat → α) (m : List (Nat × α)) (k : Nat) : mapGet f (mapDel k m) k = f k := by
  induction m with
  | nil => rfl
  | cons e t ih =>
    unfold mapDel
    split
    · exact ih
    · rename_i h
      simp [mapGet, h, ih]

theorem mapGet_del_other (f : Nat → α) (m : List (Nat × α)) (k j : Nat) (h : j ≠ k) :
    mapGet f (mapDel k m) j = mapGet f m j := by
  induction m with
  | nil => rfl
  | cons e t ih =>
    unfold mapDel
    split
    · rename_i h1
      have h2 : e.1 ≠ j := fun h3 => h (h3.symm.trans h1)
      simp [mapGet, h2, ih]
    · by_cases h2 : e.1 = j <;> simp [mapGet, h2, ih]

theorem mapGet_ins_same (f : Nat → α) (m : List (Nat × α)) (k : Nat) (v : α) (h : ∀ e ∈ m, e.1 ≠ k) :
    mapGet f (mapIns k v m) k = v := by
  induction m with
  | nil => simp [mapIns, mapGet]
  | cons e t ih =>
    unfold mapIns
    split
    · simp [mapGet]
    · have h1 : e.1 ≠ k := h e (by simp)
      simp only [mapGet, h1, if_false]
      exact ih (fun x hx => h x (by simp [hx]))

theorem mapGet_ins_other (f : Nat → α) (m : List (Nat × α)) (k j : Nat) (v : α) (h : j ≠ k) :
    mapGet f (mapIns k v m) j = mapGet f m j := by
  induction m with
  | nil => simp [mapIns, mapGet, Ne.symm h]
  | cons e t ih =>
    unfold mapIns
    split
    · simp [mapGet, Ne.symm h]
    · by_cases h2 : e.1 = j <;> simp [mapGet, h2, ih]

theorem mapDel_ne (m : List (Nat × α)) (k : Nat) : ∀ e ∈ mapDel k m, e.1 ≠ k := by
  induction m with
  | nil => simp [mapDel]
  | cons e t ih =>
    unfold mapDel
    split
    · exact ih
    · rename_i h
      intro x hx
      rcases List.mem_cons.1 hx with rfl | hx
      · exact h
      · exact ih x hx

theorem mapDel_mem (m : List (Nat × α)) (k : Nat) (e : Nat × α) (h : e ∈ mapDel k m) : e ∈ m := by
  induction m with
  | nil => simp [mapDel] at h
  | cons x t ih =>
    unfold mapDel at h
    split at h
    · exact List.mem_cons_of_mem _ (ih h)
    · rcases List.mem_cons.1 h with rfl | h
      · simp
      · exact List.mem_cons_of_mem _ (ih h)

theorem mapIns_mem (m : List (Nat × α)) (k : Nat) (v : α) (e : Nat × α) (h : e ∈ mapIns k v m) :
    e = (k, v) ∨ e ∈ m := by
  induction m with
  | nil => simpa [mapIns] using h
  | cons x t ih =>
    unfold mapIns at h
    split at h
    · simpa using h
    · rcases List.mem_cons.1 h with rfl | h
      · simp
      · rcases ih h with h | h <;> simp [h]

variable [DecidableEq α]

/-- A key reads as the value written to it. -/
@[simp] theorem mapGet_put_same (f : Nat → α) (m : List (Nat × α)) (k : Nat) (v : α) :
    mapGet f (mapPut f m k v) k = v := by
  unfold mapPut
  split
  · rename_i h
    rw [mapGet_del_same, h]
  · exact mapGet_ins_same f _ k v (mapDel_ne m k)

/-- A write leaves what every other key reads as. -/
theorem mapGet_put_other (f : Nat → α) (m : List (Nat × α)) (k j : Nat) (v : α) (h : j ≠ k) :
    mapGet f (mapPut f m k v) j = mapGet f m j := by
  unfold mapPut
  split
  · exact mapGet_del_other f m k j h
  · rw [mapGet_ins_other f _ k j v h, mapGet_del_other f m k j h]

/-- What any key reads as after a write. -/
theorem mapGet_put (f : Nat → α) (m : List (Nat × α)) (k j : Nat) (v : α) :
    mapGet f (mapPut f m k v) j = if j = k then v else mapGet f m j := by
  by_cases h : j = k
  · simp [h]
  · simp [h, mapGet_put_other f m k j v h]

theorem mapWf_cons (f : Nat → α) (e : Nat × α) (t : List (Nat × α)) :
    mapWf f (e :: t) = true ↔ e.2 ≠ f e.1 ∧ (∀ x ∈ t, e.1 < x.1) ∧ mapWf f t = true := by
  simp [mapWf, and_assoc]

theorem mapDel_wf (f : Nat → α) (m : List (Nat × α)) (k : Nat) (h : mapWf f m = true) : mapWf f (mapDel k m) = true := by
  induction m with
  | nil => rfl
  | cons e t ih =>
    obtain ⟨h1, h2, h3⟩ := (mapWf_cons f e t).1 h
    unfold mapDel
    split
    · exact ih h3
    · exact (mapWf_cons f e _).2 ⟨h1, fun x hx => h2 x (mapDel_mem t k x hx), ih h3⟩

theorem mapIns_wf (f : Nat → α) (m : List (Nat × α)) (k : Nat) (v : α) (h : mapWf f m = true) (hv : v ≠ f k)
    (hk : ∀ e ∈ m, e.1 ≠ k) : mapWf f (mapIns k v m) = true := by
  induction m with
  | nil => simp [mapIns, mapWf, hv]
  | cons e t ih =>
    obtain ⟨h1, h2, h3⟩ := (mapWf_cons f e t).1 h
    unfold mapIns
    split
    · rename_i hlt
      refine (mapWf_cons f _ _).2 ⟨hv, ?_, h⟩
      intro x hx
      rcases List.mem_cons.1 hx with rfl | hx
      · exact hlt
      · exact hlt.trans (h2 x hx)
    · rename_i hge
      have hek := hk e (by simp)
      refine (mapWf_cons f _ _).2 ⟨h1, ?_, ih h3 (fun x hx => hk x (by simp [hx]))⟩
      intro x hx
      rcases mapIns_mem t k v x hx with rfl | hx
      · exact lt_of_le_of_ne (not_lt.1 hge) hek
      · exact h2 x hx

/-- A write keeps the canonical form. -/
theorem mapPut_wf (f : Nat → α) (m : List (Nat × α)) (k : Nat) (v : α) (h : mapWf f m = true) :
    mapWf f (mapPut f m k v) = true := by
  unfold mapPut
  split
  · exact mapDel_wf f m k h
  · rename_i hv
    exact mapIns_wf f _ k v (mapDel_wf f m k h) hv (mapDel_ne m k)

/-- A normalised map has the canonical form. -/
theorem mapNorm_wf (f : Nat → α) (m : List (Nat × α)) : mapWf f (mapNorm f m) = true := by
  induction m with
  | nil => rfl
  | cons e t ih => exact mapPut_wf f _ e.1 e.2 ih

/-- A normalised map reads as the map itself. -/
@[simp] theorem mapGet_norm (f : Nat → α) (m : List (Nat × α)) (j : Nat) : mapGet f (mapNorm f m) j = mapGet f m j := by
  induction m with
  | nil => rfl
  | cons e t ih =>
    change mapGet f (mapPut f (mapNorm f t) e.1 e.2) j = _
    rw [mapGet_put, ih]
    by_cases h : j = e.1
    · simp [mapGet, h]
    · simp [mapGet, h, Ne.symm h]

/-- Clearing a range keeps the canonical form. -/
theorem mapClear_wf (f : Nat → α) (lo len : Nat) (m : List (Nat × α)) (h : mapWf f m = true) :
    mapWf f (mapClear lo len m) = true := by
  induction m with
  | nil => rfl
  | cons e t ih =>
    obtain ⟨h1, h2, h3⟩ := (mapWf_cons f e t).1 h
    unfold mapClear
    rw [List.filter_cons]
    split
    · exact (mapWf_cons f e _).2 ⟨h1, fun x hx => h2 x (List.mem_filter.1 hx).1, ih h3⟩
    · exact ih h3

omit [DecidableEq α] in
/-- A key of a cleared range reads as the default, every other as before. -/
theorem mapGet_clear (f : Nat → α) (lo len : Nat) (m : List (Nat × α)) (j : Nat) :
    mapGet f (mapClear lo len m) j = if lo ≤ j ∧ j < lo + len then f j else mapGet f m j := by
  induction m with
  | nil => simp [mapClear, mapGet]
  | cons e t ih =>
    have hc : mapClear lo len (e :: t) =
        if lo ≤ e.1 ∧ e.1 < lo + len then mapClear lo len t else e :: mapClear lo len t := by
      by_cases h : lo ≤ e.1 ∧ e.1 < lo + len
      · simp [mapClear, h.1, h.2]
      · rw [if_neg h]
        unfold mapClear
        rw [List.filter_cons_of_pos]
        simp only [Bool.not_eq_true', Bool.and_eq_false_iff, decide_eq_false_iff_not]
        exact not_and_or.1 h
    rw [hc]
    by_cases h2 : lo ≤ e.1 ∧ e.1 < lo + len
    · rw [if_pos h2, ih]
      by_cases h : e.1 = j
      · subst h
        simp [h2.1, h2.2]
      · simp [mapGet, h]
    · rw [if_neg h2]
      by_cases h : e.1 = j
      · subst h
        simp only [mapGet, if_true, if_neg h2]
      · simp only [mapGet, h, if_false, ih]

end Sys2Proof.Machine
end

