-- ==== Sys2Proof/Laws/State.lean ====
section
/-! SUPPORT. One lemma per field per update of a device: what an update leaves alone. -/

namespace Sys2Proof.Machine

/-! ### putWord -/

@[simp] theorem putWord_mem (d : Device) (a : Nat) (w : Word) : (d.putWord a w).mem = d.mem := rfl
@[simp] theorem putWord_valid (d : Device) (a : Nat) (w : Word) : (d.putWord a w).valid = d.valid := rfl
@[simp] theorem putWord_damage (d : Device) (a : Nat) (w : Word) : (d.putWord a w).damage = d.damage := rfl
@[simp] theorem putWord_corrQ (d : Device) (a : Nat) (w : Word) : (d.putWord a w).corrQ = d.corrQ := rfl
@[simp] theorem putWord_rawBuf (d : Device) (a : Nat) (w : Word) : (d.putWord a w).rawBuf = d.rawBuf := rfl
@[simp] theorem putWord_platePos (d : Device) (a : Nat) (w : Word) : (d.putWord a w).platePos = d.platePos := rfl
@[simp] theorem putWord_inval (d : Device) (a : Nat) (w : Word) : (d.putWord a w).inval = d.inval := rfl
@[simp] theorem putWord_scribeUe (d : Device) (a : Nat) (w : Word) : (d.putWord a w).scribeUe = d.scribeUe := rfl
@[simp] theorem putWord_hiLatch (d : Device) (a : Nat) (w : Word) : (d.putWord a w).hiLatch = d.hiLatch := rfl
@[simp] theorem putWord_spent (d : Device) (a : Nat) (w : Word) : (d.putWord a w).spent = d.spent := rfl
@[simp] theorem putWord_accErr (d : Device) (a : Nat) (w : Word) : (d.putWord a w).accErr = d.accErr := rfl
@[simp] theorem putWord_rdata (d : Device) (a : Nat) (w : Word) : (d.putWord a w).rdata = d.rdata := rfl
@[simp] theorem putWord_rbytes (d : Device) (a : Nat) (w : Word) : (d.putWord a w).rbytes = d.rbytes := rfl
@[simp] theorem putWord_timebase (d : Device) (a : Nat) (w : Word) : (d.putWord a w).timebase = d.timebase := rfl
@[simp] theorem putWord_freeCtr (d : Device) (a : Nat) (w : Word) : (d.putWord a w).freeCtr = d.freeCtr := rfl
@[simp] theorem putWord_raising (d : Device) (a : Nat) (w : Word) : (d.putWord a w).raising = d.raising := rfl
@[simp] theorem putWord_verifyFails (d : Device) (a : Nat) (w : Word) : (d.putWord a w).verifyFails = d.verifyFails := rfl
@[simp] theorem putWord_routers (d : Device) (a : Nat) (w : Word) : (d.putWord a w).routers = d.routers := rfl
@[simp] theorem putWord_ports (d : Device) (a : Nat) (w : Word) : (d.putWord a w).ports = d.ports := rfl
@[simp] theorem putWord_sources (d : Device) (a : Nat) (w : Word) : (d.putWord a w).sources = d.sources := rfl
@[simp] theorem putWord_seq (d : Device) (a : Nat) (w : Word) : (d.putWord a w).seq = d.seq := rfl
@[simp] theorem putWord_etch (d : Device) (a : Nat) (w : Word) : (d.putWord a w).etch = d.etch := rfl
@[simp] theorem putWord_doms (d : Device) (a : Nat) (w : Word) : (d.putWord a w).doms = d.doms := rfl
@[simp] theorem putWord_power (d : Device) (a : Nat) (w : Word) : (d.putWord a w).power = d.power := rfl
@[simp] theorem putWord_proof (d : Device) (a : Nat) (w : Word) : (d.putWord a w).proof = d.proof := rfl
@[simp] theorem putWord_scribes (d : Device) (a : Nat) (w : Word) : (d.putWord a w).scribes = d.scribes := rfl
@[simp] theorem putWord_rack (d : Device) (a : Nat) (w : Word) : (d.putWord a w).rack = d.rack := rfl
@[simp] theorem putWord_tiles (d : Device) (a : Nat) (w : Word) : (d.putWord a w).tiles = d.tiles := rfl
@[simp] theorem putWord_hrs (d : Device) (a : Nat) (w : Word) : (d.putWord a w).hrs = d.hrs := rfl
@[simp] theorem putWord_hatch (d : Device) (a : Nat) (w : Word) : (d.putWord a w).hatch = d.hatch := rfl
@[simp] theorem putWord_tracers (d : Device) (a : Nat) (w : Word) : (d.putWord a w).tracers = d.tracers := rfl
@[simp] theorem putWord_presses (d : Device) (a : Nat) (w : Word) : (d.putWord a w).presses = d.presses := rfl
@[simp] theorem putWord_mirrorRx (d : Device) (a : Nat) (w : Word) : (d.putWord a w).mirrorRx = d.mirrorRx := rfl
@[simp] theorem putWord_imageRx (d : Device) (a : Nat) (w : Word) : (d.putWord a w).imageRx = d.imageRx := rfl
@[simp] theorem putWord_timers (d : Device) (a : Nat) (w : Word) : (d.putWord a w).timers = d.timers := rfl
@[simp] theorem putWord_flash (d : Device) (a : Nat) (w : Word) : (d.putWord a w).flash = d.flash := rfl
@[simp] theorem putWord_fuses (d : Device) (a : Nat) (w : Word) : (d.putWord a w).fuses = d.fuses := rfl
@[simp] theorem putWord_bootc (d : Device) (a : Nat) (w : Word) : (d.putWord a w).bootc = d.bootc := rfl
@[simp] theorem putWord_host (d : Device) (a : Nat) (w : Word) : (d.putWord a w).host = d.host := rfl
@[simp] theorem putWord_sec (d : Device) (a : Nat) (w : Word) : (d.putWord a w).sec = d.sec := rfl
@[simp] theorem putWord_pair (d : Device) (a : Nat) (w : Word) : (d.putWord a w).pair = d.pair := rfl
@[simp] theorem putWord_faultN (d : Device) (a : Nat) (w : Word) : (d.putWord a w).faultN = d.faultN := rfl
@[simp] theorem putWord_netHash (d : Device) (a : Nat) (w : Word) : (d.putWord a w).netHash = d.netHash := rfl

/-! ### put -/

@[simp] theorem put_mem (d : Device) (f : Fld) (v : Nat) : (d.put f v).mem = d.mem := rfl
@[simp] theorem put_valid (d : Device) (f : Fld) (v : Nat) : (d.put f v).valid = d.valid := rfl
@[simp] theorem put_damage (d : Device) (f : Fld) (v : Nat) : (d.put f v).damage = d.damage := rfl
@[simp] theorem put_corrQ (d : Device) (f : Fld) (v : Nat) : (d.put f v).corrQ = d.corrQ := rfl
@[simp] theorem put_rawBuf (d : Device) (f : Fld) (v : Nat) : (d.put f v).rawBuf = d.rawBuf := rfl
@[simp] theorem put_platePos (d : Device) (f : Fld) (v : Nat) : (d.put f v).platePos = d.platePos := rfl
@[simp] theorem put_inval (d : Device) (f : Fld) (v : Nat) : (d.put f v).inval = d.inval := rfl
@[simp] theorem put_scribeUe (d : Device) (f : Fld) (v : Nat) : (d.put f v).scribeUe = d.scribeUe := rfl
@[simp] theorem put_hiLatch (d : Device) (f : Fld) (v : Nat) : (d.put f v).hiLatch = d.hiLatch := rfl
@[simp] theorem put_spent (d : Device) (f : Fld) (v : Nat) : (d.put f v).spent = d.spent := rfl
@[simp] theorem put_accErr (d : Device) (f : Fld) (v : Nat) : (d.put f v).accErr = d.accErr := rfl
@[simp] theorem put_rdata (d : Device) (f : Fld) (v : Nat) : (d.put f v).rdata = d.rdata := rfl
@[simp] theorem put_rbytes (d : Device) (f : Fld) (v : Nat) : (d.put f v).rbytes = d.rbytes := rfl
@[simp] theorem put_timebase (d : Device) (f : Fld) (v : Nat) : (d.put f v).timebase = d.timebase := rfl
@[simp] theorem put_freeCtr (d : Device) (f : Fld) (v : Nat) : (d.put f v).freeCtr = d.freeCtr := rfl
@[simp] theorem put_raising (d : Device) (f : Fld) (v : Nat) : (d.put f v).raising = d.raising := rfl
@[simp] theorem put_verifyFails (d : Device) (f : Fld) (v : Nat) : (d.put f v).verifyFails = d.verifyFails := rfl
@[simp] theorem put_routers (d : Device) (f : Fld) (v : Nat) : (d.put f v).routers = d.routers := rfl
@[simp] theorem put_ports (d : Device) (f : Fld) (v : Nat) : (d.put f v).ports = d.ports := rfl
@[simp] theorem put_sources (d : Device) (f : Fld) (v : Nat) : (d.put f v).sources = d.sources := rfl
@[simp] theorem put_seq (d : Device) (f : Fld) (v : Nat) : (d.put f v).seq = d.seq := rfl
@[simp] theorem put_etch (d : Device) (f : Fld) (v : Nat) : (d.put f v).etch = d.etch := rfl
@[simp] theorem put_doms (d : Device) (f : Fld) (v : Nat) : (d.put f v).doms = d.doms := rfl
@[simp] theorem put_power (d : Device) (f : Fld) (v : Nat) : (d.put f v).power = d.power := rfl
@[simp] theorem put_proof (d : Device) (f : Fld) (v : Nat) : (d.put f v).proof = d.proof := rfl
@[simp] theorem put_scribes (d : Device) (f : Fld) (v : Nat) : (d.put f v).scribes = d.scribes := rfl
@[simp] theorem put_rack (d : Device) (f : Fld) (v : Nat) : (d.put f v).rack = d.rack := rfl
@[simp] theorem put_tiles (d : Device) (f : Fld) (v : Nat) : (d.put f v).tiles = d.tiles := rfl
@[simp] theorem put_hrs (d : Device) (f : Fld) (v : Nat) : (d.put f v).hrs = d.hrs := rfl
@[simp] theorem put_hatch (d : Device) (f : Fld) (v : Nat) : (d.put f v).hatch = d.hatch := rfl
@[simp] theorem put_tracers (d : Device) (f : Fld) (v : Nat) : (d.put f v).tracers = d.tracers := rfl
@[simp] theorem put_presses (d : Device) (f : Fld) (v : Nat) : (d.put f v).presses = d.presses := rfl
@[simp] theorem put_mirrorRx (d : Device) (f : Fld) (v : Nat) : (d.put f v).mirrorRx = d.mirrorRx := rfl
@[simp] theorem put_imageRx (d : Device) (f : Fld) (v : Nat) : (d.put f v).imageRx = d.imageRx := rfl
@[simp] theorem put_timers (d : Device) (f : Fld) (v : Nat) : (d.put f v).timers = d.timers := rfl
@[simp] theorem put_flash (d : Device) (f : Fld) (v : Nat) : (d.put f v).flash = d.flash := rfl
@[simp] theorem put_fuses (d : Device) (f : Fld) (v : Nat) : (d.put f v).fuses = d.fuses := rfl
@[simp] theorem put_bootc (d : Device) (f : Fld) (v : Nat) : (d.put f v).bootc = d.bootc := rfl
@[simp] theorem put_host (d : Device) (f : Fld) (v : Nat) : (d.put f v).host = d.host := rfl
@[simp] theorem put_sec (d : Device) (f : Fld) (v : Nat) : (d.put f v).sec = d.sec := rfl
@[simp] theorem put_pair (d : Device) (f : Fld) (v : Nat) : (d.put f v).pair = d.pair := rfl
@[simp] theorem put_faultN (d : Device) (f : Fld) (v : Nat) : (d.put f v).faultN = d.faultN := rfl
@[simp] theorem put_netHash (d : Device) (f : Fld) (v : Nat) : (d.put f v).netHash = d.netHash := rfl

/-! ### bumpBy -/

@[simp] theorem bumpBy_mem (d : Device) (f : Fld) (n : Nat) : (d.bumpBy f n).mem = d.mem := rfl
@[simp] theorem bumpBy_valid (d : Device) (f : Fld) (n : Nat) : (d.bumpBy f n).valid = d.valid := rfl
@[simp] theorem bumpBy_damage (d : Device) (f : Fld) (n : Nat) : (d.bumpBy f n).damage = d.damage := rfl
@[simp] theorem bumpBy_corrQ (d : Device) (f : Fld) (n : Nat) : (d.bumpBy f n).corrQ = d.corrQ := rfl
@[simp] theorem bumpBy_rawBuf (d : Device) (f : Fld) (n : Nat) : (d.bumpBy f n).rawBuf = d.rawBuf := rfl
@[simp] theorem bumpBy_platePos (d : Device) (f : Fld) (n : Nat) : (d.bumpBy f n).platePos = d.platePos := rfl
@[simp] theorem bumpBy_inval (d : Device) (f : Fld) (n : Nat) : (d.bumpBy f n).inval = d.inval := rfl
@[simp] theorem bumpBy_scribeUe (d : Device) (f : Fld) (n : Nat) : (d.bumpBy f n).scribeUe = d.scribeUe := rfl
@[simp] theorem bumpBy_hiLatch (d : Device) (f : Fld) (n : Nat) : (d.bumpBy f n).hiLatch = d.hiLatch := rfl
@[simp] theorem bumpBy_spent (d : Device) (f : Fld) (n : Nat) : (d.bumpBy f n).spent = d.spent := rfl
@[simp] theorem bumpBy_accErr (d : Device) (f : Fld) (n : Nat) : (d.bumpBy f n).accErr = d.accErr := rfl
@[simp] theorem bumpBy_rdata (d : Device) (f : Fld) (n : Nat) : (d.bumpBy f n).rdata = d.rdata := rfl
@[simp] theorem bumpBy_rbytes (d : Device) (f : Fld) (n : Nat) : (d.bumpBy f n).rbytes = d.rbytes := rfl
@[simp] theorem bumpBy_timebase (d : Device) (f : Fld) (n : Nat) : (d.bumpBy f n).timebase = d.timebase := rfl
@[simp] theorem bumpBy_freeCtr (d : Device) (f : Fld) (n : Nat) : (d.bumpBy f n).freeCtr = d.freeCtr := rfl
@[simp] theorem bumpBy_raising (d : Device) (f : Fld) (n : Nat) : (d.bumpBy f n).raising = d.raising := rfl
@[simp] theorem bumpBy_verifyFails (d : Device) (f : Fld) (n : Nat) : (d.bumpBy f n).verifyFails = d.verifyFails := rfl
@[simp] theorem bumpBy_routers (d : Device) (f : Fld) (n : Nat) : (d.bumpBy f n).routers = d.routers := rfl
@[simp] theorem bumpBy_ports (d : Device) (f : Fld) (n : Nat) : (d.bumpBy f n).ports = d.ports := rfl
@[simp] theorem bumpBy_sources (d : Device) (f : Fld) (n : Nat) : (d.bumpBy f n).sources = d.sources := rfl
@[simp] theorem bumpBy_seq (d : Device) (f : Fld) (n : Nat) : (d.bumpBy f n).seq = d.seq := rfl
@[simp] theorem bumpBy_etch (d : Device) (f : Fld) (n : Nat) : (d.bumpBy f n).etch = d.etch := rfl
@[simp] theorem bumpBy_doms (d : Device) (f : Fld) (n : Nat) : (d.bumpBy f n).doms = d.doms := rfl
@[simp] theorem bumpBy_power (d : Device) (f : Fld) (n : Nat) : (d.bumpBy f n).power = d.power := rfl
@[simp] theorem bumpBy_proof (d : Device) (f : Fld) (n : Nat) : (d.bumpBy f n).proof = d.proof := rfl
@[simp] theorem bumpBy_scribes (d : Device) (f : Fld) (n : Nat) : (d.bumpBy f n).scribes = d.scribes := rfl
@[simp] theorem bumpBy_rack (d : Device) (f : Fld) (n : Nat) : (d.bumpBy f n).rack = d.rack := rfl
@[simp] theorem bumpBy_tiles (d : Device) (f : Fld) (n : Nat) : (d.bumpBy f n).tiles = d.tiles := rfl
@[simp] theorem bumpBy_hrs (d : Device) (f : Fld) (n : Nat) : (d.bumpBy f n).hrs = d.hrs := rfl
@[simp] theorem bumpBy_hatch (d : Device) (f : Fld) (n : Nat) : (d.bumpBy f n).hatch = d.hatch := rfl
@[simp] theorem bumpBy_tracers (d : Device) (f : Fld) (n : Nat) : (d.bumpBy f n).tracers = d.tracers := rfl
@[simp] theorem bumpBy_presses (d : Device) (f : Fld) (n : Nat) : (d.bumpBy f n).presses = d.presses := rfl
@[simp] theorem bumpBy_mirrorRx (d : Device) (f : Fld) (n : Nat) : (d.bumpBy f n).mirrorRx = d.mirrorRx := rfl
@[simp] theorem bumpBy_imageRx (d : Device) (f : Fld) (n : Nat) : (d.bumpBy f n).imageRx = d.imageRx := rfl
@[simp] theorem bumpBy_timers (d : Device) (f : Fld) (n : Nat) : (d.bumpBy f n).timers = d.timers := rfl
@[simp] theorem bumpBy_flash (d : Device) (f : Fld) (n : Nat) : (d.bumpBy f n).flash = d.flash := rfl
@[simp] theorem bumpBy_fuses (d : Device) (f : Fld) (n : Nat) : (d.bumpBy f n).fuses = d.fuses := rfl
@[simp] theorem bumpBy_bootc (d : Device) (f : Fld) (n : Nat) : (d.bumpBy f n).bootc = d.bootc := rfl
@[simp] theorem bumpBy_host (d : Device) (f : Fld) (n : Nat) : (d.bumpBy f n).host = d.host := rfl
@[simp] theorem bumpBy_sec (d : Device) (f : Fld) (n : Nat) : (d.bumpBy f n).sec = d.sec := rfl
@[simp] theorem bumpBy_pair (d : Device) (f : Fld) (n : Nat) : (d.bumpBy f n).pair = d.pair := rfl
@[simp] theorem bumpBy_faultN (d : Device) (f : Fld) (n : Nat) : (d.bumpBy f n).faultN = d.faultN := rfl
@[simp] theorem bumpBy_netHash (d : Device) (f : Fld) (n : Nat) : (d.bumpBy f n).netHash = d.netHash := rfl

/-! ### bump -/

@[simp] theorem bump_mem (d : Device) (f : Fld) : (d.bump f).mem = d.mem := rfl
@[simp] theorem bump_valid (d : Device) (f : Fld) : (d.bump f).valid = d.valid := rfl
@[simp] theorem bump_damage (d : Device) (f : Fld) : (d.bump f).damage = d.damage := rfl
@[simp] theorem bump_corrQ (d : Device) (f : Fld) : (d.bump f).corrQ = d.corrQ := rfl
@[simp] theorem bump_rawBuf (d : Device) (f : Fld) : (d.bump f).rawBuf = d.rawBuf := rfl
@[simp] theorem bump_platePos (d : Device) (f : Fld) : (d.bump f).platePos = d.platePos := rfl
@[simp] theorem bump_inval (d : Device) (f : Fld) : (d.bump f).inval = d.inval := rfl
@[simp] theorem bump_scribeUe (d : Device) (f : Fld) : (d.bump f).scribeUe = d.scribeUe := rfl
@[simp] theorem bump_hiLatch (d : Device) (f : Fld) : (d.bump f).hiLatch = d.hiLatch := rfl
@[simp] theorem bump_spent (d : Device) (f : Fld) : (d.bump f).spent = d.spent := rfl
@[simp] theorem bump_accErr (d : Device) (f : Fld) : (d.bump f).accErr = d.accErr := rfl
@[simp] theorem bump_rdata (d : Device) (f : Fld) : (d.bump f).rdata = d.rdata := rfl
@[simp] theorem bump_rbytes (d : Device) (f : Fld) : (d.bump f).rbytes = d.rbytes := rfl
@[simp] theorem bump_timebase (d : Device) (f : Fld) : (d.bump f).timebase = d.timebase := rfl
@[simp] theorem bump_freeCtr (d : Device) (f : Fld) : (d.bump f).freeCtr = d.freeCtr := rfl
@[simp] theorem bump_raising (d : Device) (f : Fld) : (d.bump f).raising = d.raising := rfl
@[simp] theorem bump_verifyFails (d : Device) (f : Fld) : (d.bump f).verifyFails = d.verifyFails := rfl
@[simp] theorem bump_routers (d : Device) (f : Fld) : (d.bump f).routers = d.routers := rfl
@[simp] theorem bump_ports (d : Device) (f : Fld) : (d.bump f).ports = d.ports := rfl
@[simp] theorem bump_sources (d : Device) (f : Fld) : (d.bump f).sources = d.sources := rfl
@[simp] theorem bump_seq (d : Device) (f : Fld) : (d.bump f).seq = d.seq := rfl
@[simp] theorem bump_etch (d : Device) (f : Fld) : (d.bump f).etch = d.etch := rfl
@[simp] theorem bump_doms (d : Device) (f : Fld) : (d.bump f).doms = d.doms := rfl
@[simp] theorem bump_power (d : Device) (f : Fld) : (d.bump f).power = d.power := rfl
@[simp] theorem bump_proof (d : Device) (f : Fld) : (d.bump f).proof = d.proof := rfl
@[simp] theorem bump_scribes (d : Device) (f : Fld) : (d.bump f).scribes = d.scribes := rfl
@[simp] theorem bump_rack (d : Device) (f : Fld) : (d.bump f).rack = d.rack := rfl
@[simp] theorem bump_tiles (d : Device) (f : Fld) : (d.bump f).tiles = d.tiles := rfl
@[simp] theorem bump_hrs (d : Device) (f : Fld) : (d.bump f).hrs = d.hrs := rfl
@[simp] theorem bump_hatch (d : Device) (f : Fld) : (d.bump f).hatch = d.hatch := rfl
@[simp] theorem bump_tracers (d : Device) (f : Fld) : (d.bump f).tracers = d.tracers := rfl
@[simp] theorem bump_presses (d : Device) (f : Fld) : (d.bump f).presses = d.presses := rfl
@[simp] theorem bump_mirrorRx (d : Device) (f : Fld) : (d.bump f).mirrorRx = d.mirrorRx := rfl
@[simp] theorem bump_imageRx (d : Device) (f : Fld) : (d.bump f).imageRx = d.imageRx := rfl
@[simp] theorem bump_timers (d : Device) (f : Fld) : (d.bump f).timers = d.timers := rfl
@[simp] theorem bump_flash (d : Device) (f : Fld) : (d.bump f).flash = d.flash := rfl
@[simp] theorem bump_fuses (d : Device) (f : Fld) : (d.bump f).fuses = d.fuses := rfl
@[simp] theorem bump_bootc (d : Device) (f : Fld) : (d.bump f).bootc = d.bootc := rfl
@[simp] theorem bump_host (d : Device) (f : Fld) : (d.bump f).host = d.host := rfl
@[simp] theorem bump_sec (d : Device) (f : Fld) : (d.bump f).sec = d.sec := rfl
@[simp] theorem bump_pair (d : Device) (f : Fld) : (d.bump f).pair = d.pair := rfl
@[simp] theorem bump_faultN (d : Device) (f : Fld) : (d.bump f).faultN = d.faultN := rfl
@[simp] theorem bump_netHash (d : Device) (f : Fld) : (d.bump f).netHash = d.netHash := rfl

/-! ### raise -/

@[simp] theorem raise_regs (d : Device) (c u : Nat) : (d.raise c u).regs = d.regs := rfl
@[simp] theorem raise_mem (d : Device) (c u : Nat) : (d.raise c u).mem = d.mem := rfl
@[simp] theorem raise_valid (d : Device) (c u : Nat) : (d.raise c u).valid = d.valid := rfl
@[simp] theorem raise_damage (d : Device) (c u : Nat) : (d.raise c u).damage = d.damage := rfl
@[simp] theorem raise_corrQ (d : Device) (c u : Nat) : (d.raise c u).corrQ = d.corrQ := rfl
@[simp] theorem raise_rawBuf (d : Device) (c u : Nat) : (d.raise c u).rawBuf = d.rawBuf := rfl
@[simp] theorem raise_platePos (d : Device) (c u : Nat) : (d.raise c u).platePos = d.platePos := rfl
@[simp] theorem raise_inval (d : Device) (c u : Nat) : (d.raise c u).inval = d.inval := rfl
@[simp] theorem raise_scribeUe (d : Device) (c u : Nat) : (d.raise c u).scribeUe = d.scribeUe := rfl
@[simp] theorem raise_hiLatch (d : Device) (c u : Nat) : (d.raise c u).hiLatch = d.hiLatch := rfl
@[simp] theorem raise_spent (d : Device) (c u : Nat) : (d.raise c u).spent = d.spent := rfl
@[simp] theorem raise_accErr (d : Device) (c u : Nat) : (d.raise c u).accErr = d.accErr := rfl
@[simp] theorem raise_rdata (d : Device) (c u : Nat) : (d.raise c u).rdata = d.rdata := rfl
@[simp] theorem raise_rbytes (d : Device) (c u : Nat) : (d.raise c u).rbytes = d.rbytes := rfl
@[simp] theorem raise_timebase (d : Device) (c u : Nat) : (d.raise c u).timebase = d.timebase := rfl
@[simp] theorem raise_freeCtr (d : Device) (c u : Nat) : (d.raise c u).freeCtr = d.freeCtr := rfl
@[simp] theorem raise_verifyFails (d : Device) (c u : Nat) : (d.raise c u).verifyFails = d.verifyFails := rfl
@[simp] theorem raise_routers (d : Device) (c u : Nat) : (d.raise c u).routers = d.routers := rfl
@[simp] theorem raise_ports (d : Device) (c u : Nat) : (d.raise c u).ports = d.ports := rfl
@[simp] theorem raise_sources (d : Device) (c u : Nat) : (d.raise c u).sources = d.sources := rfl
@[simp] theorem raise_seq (d : Device) (c u : Nat) : (d.raise c u).seq = d.seq := rfl
@[simp] theorem raise_etch (d : Device) (c u : Nat) : (d.raise c u).etch = d.etch := rfl
@[simp] theorem raise_doms (d : Device) (c u : Nat) : (d.raise c u).doms = d.doms := rfl
@[simp] theorem raise_power (d : Device) (c u : Nat) : (d.raise c u).power = d.power := rfl
@[simp] theorem raise_proof (d : Device) (c u : Nat) : (d.raise c u).proof = d.proof := rfl
@[simp] theorem raise_scribes (d : Device) (c u : Nat) : (d.raise c u).scribes = d.scribes := rfl
@[simp] theorem raise_rack (d : Device) (c u : Nat) : (d.raise c u).rack = d.rack := rfl
@[simp] theorem raise_tiles (d : Device) (c u : Nat) : (d.raise c u).tiles = d.tiles := rfl
@[simp] theorem raise_hrs (d : Device) (c u : Nat) : (d.raise c u).hrs = d.hrs := rfl
@[simp] theorem raise_hatch (d : Device) (c u : Nat) : (d.raise c u).hatch = d.hatch := rfl
@[simp] theorem raise_tracers (d : Device) (c u : Nat) : (d.raise c u).tracers = d.tracers := rfl
@[simp] theorem raise_presses (d : Device) (c u : Nat) : (d.raise c u).presses = d.presses := rfl
@[simp] theorem raise_mirrorRx (d : Device) (c u : Nat) : (d.raise c u).mirrorRx = d.mirrorRx := rfl
@[simp] theorem raise_imageRx (d : Device) (c u : Nat) : (d.raise c u).imageRx = d.imageRx := rfl
@[simp] theorem raise_timers (d : Device) (c u : Nat) : (d.raise c u).timers = d.timers := rfl
@[simp] theorem raise_flash (d : Device) (c u : Nat) : (d.raise c u).flash = d.flash := rfl
@[simp] theorem raise_fuses (d : Device) (c u : Nat) : (d.raise c u).fuses = d.fuses := rfl
@[simp] theorem raise_bootc (d : Device) (c u : Nat) : (d.raise c u).bootc = d.bootc := rfl
@[simp] theorem raise_host (d : Device) (c u : Nat) : (d.raise c u).host = d.host := rfl
@[simp] theorem raise_sec (d : Device) (c u : Nat) : (d.raise c u).sec = d.sec := rfl
@[simp] theorem raise_pair (d : Device) (c u : Nat) : (d.raise c u).pair = d.pair := rfl
@[simp] theorem raise_faultN (d : Device) (c u : Nat) : (d.raise c u).faultN = d.faultN := rfl
@[simp] theorem raise_netHash (d : Device) (c u : Nat) : (d.raise c u).netHash = d.netHash := rfl

/-! ### setByte -/

@[simp] theorem setByte_regs (d : Device) (a : Nat) (b : Byte) : (d.setByte a b).regs = d.regs := rfl
@[simp] theorem setByte_valid (d : Device) (a : Nat) (b : Byte) : (d.setByte a b).valid = d.valid := rfl
@[simp] theorem setByte_damage (d : Device) (a : Nat) (b : Byte) : (d.setByte a b).damage = d.damage := rfl
@[simp] theorem setByte_corrQ (d : Device) (a : Nat) (b : Byte) : (d.setByte a b).corrQ = d.corrQ := rfl
@[simp] theorem setByte_rawBuf (d : Device) (a : Nat) (b : Byte) : (d.setByte a b).rawBuf = d.rawBuf := rfl
@[simp] theorem setByte_platePos (d : Device) (a : Nat) (b : Byte) : (d.setByte a b).platePos = d.platePos := rfl
@[simp] theorem setByte_inval (d : Device) (a : Nat) (b : Byte) : (d.setByte a b).inval = d.inval := rfl
@[simp] theorem setByte_scribeUe (d : Device) (a : Nat) (b : Byte) : (d.setByte a b).scribeUe = d.scribeUe := rfl
@[simp] theorem setByte_hiLatch (d : Device) (a : Nat) (b : Byte) : (d.setByte a b).hiLatch = d.hiLatch := rfl
@[simp] theorem setByte_spent (d : Device) (a : Nat) (b : Byte) : (d.setByte a b).spent = d.spent := rfl
@[simp] theorem setByte_accErr (d : Device) (a : Nat) (b : Byte) : (d.setByte a b).accErr = d.accErr := rfl
@[simp] theorem setByte_rdata (d : Device) (a : Nat) (b : Byte) : (d.setByte a b).rdata = d.rdata := rfl
@[simp] theorem setByte_rbytes (d : Device) (a : Nat) (b : Byte) : (d.setByte a b).rbytes = d.rbytes := rfl
@[simp] theorem setByte_timebase (d : Device) (a : Nat) (b : Byte) : (d.setByte a b).timebase = d.timebase := rfl
@[simp] theorem setByte_freeCtr (d : Device) (a : Nat) (b : Byte) : (d.setByte a b).freeCtr = d.freeCtr := rfl
@[simp] theorem setByte_raising (d : Device) (a : Nat) (b : Byte) : (d.setByte a b).raising = d.raising := rfl
@[simp] theorem setByte_verifyFails (d : Device) (a : Nat) (b : Byte) : (d.setByte a b).verifyFails = d.verifyFails := rfl
@[simp] theorem setByte_routers (d : Device) (a : Nat) (b : Byte) : (d.setByte a b).routers = d.routers := rfl
@[simp] theorem setByte_ports (d : Device) (a : Nat) (b : Byte) : (d.setByte a b).ports = d.ports := rfl
@[simp] theorem setByte_sources (d : Device) (a : Nat) (b : Byte) : (d.setByte a b).sources = d.sources := rfl
@[simp] theorem setByte_seq (d : Device) (a : Nat) (b : Byte) : (d.setByte a b).seq = d.seq := rfl
@[simp] theorem setByte_etch (d : Device) (a : Nat) (b : Byte) : (d.setByte a b).etch = d.etch := rfl
@[simp] theorem setByte_doms (d : Device) (a : Nat) (b : Byte) : (d.setByte a b).doms = d.doms := rfl
@[simp] theorem setByte_power (d : Device) (a : Nat) (b : Byte) : (d.setByte a b).power = d.power := rfl
@[simp] theorem setByte_proof (d : Device) (a : Nat) (b : Byte) : (d.setByte a b).proof = d.proof := rfl
@[simp] theorem setByte_scribes (d : Device) (a : Nat) (b : Byte) : (d.setByte a b).scribes = d.scribes := rfl
@[simp] theorem setByte_rack (d : Device) (a : Nat) (b : Byte) : (d.setByte a b).rack = d.rack := rfl
@[simp] theorem setByte_tiles (d : Device) (a : Nat) (b : Byte) : (d.setByte a b).tiles = d.tiles := rfl
@[simp] theorem setByte_hrs (d : Device) (a : Nat) (b : Byte) : (d.setByte a b).hrs = d.hrs := rfl
@[simp] theorem setByte_hatch (d : Device) (a : Nat) (b : Byte) : (d.setByte a b).hatch = d.hatch := rfl
@[simp] theorem setByte_tracers (d : Device) (a : Nat) (b : Byte) : (d.setByte a b).tracers = d.tracers := rfl
@[simp] theorem setByte_presses (d : Device) (a : Nat) (b : Byte) : (d.setByte a b).presses = d.presses := rfl
@[simp] theorem setByte_mirrorRx (d : Device) (a : Nat) (b : Byte) : (d.setByte a b).mirrorRx = d.mirrorRx := rfl
@[simp] theorem setByte_imageRx (d : Device) (a : Nat) (b : Byte) : (d.setByte a b).imageRx = d.imageRx := rfl
@[simp] theorem setByte_timers (d : Device) (a : Nat) (b : Byte) : (d.setByte a b).timers = d.timers := rfl
@[simp] theorem setByte_flash (d : Device) (a : Nat) (b : Byte) : (d.setByte a b).flash = d.flash := rfl
@[simp] theorem setByte_fuses (d : Device) (a : Nat) (b : Byte) : (d.setByte a b).fuses = d.fuses := rfl
@[simp] theorem setByte_bootc (d : Device) (a : Nat) (b : Byte) : (d.setByte a b).bootc = d.bootc := rfl
@[simp] theorem setByte_host (d : Device) (a : Nat) (b : Byte) : (d.setByte a b).host = d.host := rfl
@[simp] theorem setByte_sec (d : Device) (a : Nat) (b : Byte) : (d.setByte a b).sec = d.sec := rfl
@[simp] theorem setByte_pair (d : Device) (a : Nat) (b : Byte) : (d.setByte a b).pair = d.pair := rfl
@[simp] theorem setByte_faultN (d : Device) (a : Nat) (b : Byte) : (d.setByte a b).faultN = d.faultN := rfl
@[simp] theorem setByte_netHash (d : Device) (a : Nat) (b : Byte) : (d.setByte a b).netHash = d.netHash := rfl

/-! ### modCore -/

@[simp] theorem modCore_regs (d : Device) (n : Nat) (f : EtchCore → EtchCore) : (d.modCore n f).regs = d.regs := rfl
@[simp] theorem modCore_mem (d : Device) (n : Nat) (f : EtchCore → EtchCore) : (d.modCore n f).mem = d.mem := rfl
@[simp] theorem modCore_valid (d : Device) (n : Nat) (f : EtchCore → EtchCore) : (d.modCore n f).valid = d.valid := rfl
@[simp] theorem modCore_damage (d : Device) (n : Nat) (f : EtchCore → EtchCore) : (d.modCore n f).damage = d.damage := rfl
@[simp] theorem modCore_raising (d : Device) (n : Nat) (f : EtchCore → EtchCore) : (d.modCore n f).raising = d.raising := rfl
@[simp] theorem modCore_scribeUe (d : Device) (n : Nat) (f : EtchCore → EtchCore) : (d.modCore n f).scribeUe = d.scribeUe := rfl
@[simp] theorem modCore_timebase (d : Device) (n : Nat) (f : EtchCore → EtchCore) : (d.modCore n f).timebase = d.timebase := rfl
@[simp] theorem modCore_freeCtr (d : Device) (n : Nat) (f : EtchCore → EtchCore) : (d.modCore n f).freeCtr = d.freeCtr := rfl
@[simp] theorem modCore_ports (d : Device) (n : Nat) (f : EtchCore → EtchCore) : (d.modCore n f).ports = d.ports := rfl
@[simp] theorem modCore_sources (d : Device) (n : Nat) (f : EtchCore → EtchCore) : (d.modCore n f).sources = d.sources := rfl
@[simp] theorem modCore_routers (d : Device) (n : Nat) (f : EtchCore → EtchCore) : (d.modCore n f).routers = d.routers := rfl
@[simp] theorem modCore_seq (d : Device) (n : Nat) (f : EtchCore → EtchCore) : (d.modCore n f).seq = d.seq := rfl
@[simp] theorem modCore_doms (d : Device) (n : Nat) (f : EtchCore → EtchCore) : (d.modCore n f).doms = d.doms := rfl
@[simp] theorem modCore_tiles (d : Device) (n : Nat) (f : EtchCore → EtchCore) : (d.modCore n f).tiles = d.tiles := rfl
@[simp] theorem modCore_rack (d : Device) (n : Nat) (f : EtchCore → EtchCore) : (d.modCore n f).rack = d.rack := rfl
@[simp] theorem modCore_hrs (d : Device) (n : Nat) (f : EtchCore → EtchCore) : (d.modCore n f).hrs = d.hrs := rfl
@[simp] theorem modCore_hatch (d : Device) (n : Nat) (f : EtchCore → EtchCore) : (d.modCore n f).hatch = d.hatch := rfl
@[simp] theorem modCore_tracers (d : Device) (n : Nat) (f : EtchCore → EtchCore) : (d.modCore n f).tracers = d.tracers := rfl
@[simp] theorem modCore_presses (d : Device) (n : Nat) (f : EtchCore → EtchCore) : (d.modCore n f).presses = d.presses := rfl
@[simp] theorem modCore_power (d : Device) (n : Nat) (f : EtchCore → EtchCore) : (d.modCore n f).power = d.power := rfl
@[simp] theorem modCore_proof (d : Device) (n : Nat) (f : EtchCore → EtchCore) : (d.modCore n f).proof = d.proof := rfl
@[simp] theorem modCore_timers (d : Device) (n : Nat) (f : EtchCore → EtchCore) : (d.modCore n f).timers = d.timers := rfl
@[simp] theorem modCore_scribes (d : Device) (n : Nat) (f : EtchCore → EtchCore) : (d.modCore n f).scribes = d.scribes := rfl
@[simp] theorem modCore_bootc (d : Device) (n : Nat) (f : EtchCore → EtchCore) : (d.modCore n f).bootc = d.bootc := rfl
@[simp] theorem modCore_host (d : Device) (n : Nat) (f : EtchCore → EtchCore) : (d.modCore n f).host = d.host := rfl
@[simp] theorem modCore_sec (d : Device) (n : Nat) (f : EtchCore → EtchCore) : (d.modCore n f).sec = d.sec := rfl
@[simp] theorem modCore_pair (d : Device) (n : Nat) (f : EtchCore → EtchCore) : (d.modCore n f).pair = d.pair := rfl

/-! ### modPort -/

@[simp] theorem modPort_regs (d : Device) (n : Nat) (f : SPort → SPort) : (d.modPort n f).regs = d.regs := rfl
@[simp] theorem modPort_mem (d : Device) (n : Nat) (f : SPort → SPort) : (d.modPort n f).mem = d.mem := rfl
@[simp] theorem modPort_valid (d : Device) (n : Nat) (f : SPort → SPort) : (d.modPort n f).valid = d.valid := rfl
@[simp] theorem modPort_damage (d : Device) (n : Nat) (f : SPort → SPort) : (d.modPort n f).damage = d.damage := rfl
@[simp] theorem modPort_raising (d : Device) (n : Nat) (f : SPort → SPort) : (d.modPort n f).raising = d.raising := rfl
@[simp] theorem modPort_scribeUe (d : Device) (n : Nat) (f : SPort → SPort) : (d.modPort n f).scribeUe = d.scribeUe := rfl
@[simp] theorem modPort_timebase (d : Device) (n : Nat) (f : SPort → SPort) : (d.modPort n f).timebase = d.timebase := rfl
@[simp] theorem modPort_freeCtr (d : Device) (n : Nat) (f : SPort → SPort) : (d.modPort n f).freeCtr = d.freeCtr := rfl
@[simp] theorem modPort_etch (d : Device) (n : Nat) (f : SPort → SPort) : (d.modPort n f).etch = d.etch := rfl
@[simp] theorem modPort_sources (d : Device) (n : Nat) (f : SPort → SPort) : (d.modPort n f).sources = d.sources := rfl
@[simp] theorem modPort_routers (d : Device) (n : Nat) (f : SPort → SPort) : (d.modPort n f).routers = d.routers := rfl
@[simp] theorem modPort_seq (d : Device) (n : Nat) (f : SPort → SPort) : (d.modPort n f).seq = d.seq := rfl
@[simp] theorem modPort_doms (d : Device) (n : Nat) (f : SPort → SPort) : (d.modPort n f).doms = d.doms := rfl
@[simp] theorem modPort_tiles (d : Device) (n : Nat) (f : SPort → SPort) : (d.modPort n f).tiles = d.tiles := rfl
@[simp] theorem modPort_rack (d : Device) (n : Nat) (f : SPort → SPort) : (d.modPort n f).rack = d.rack := rfl
@[simp] theorem modPort_hrs (d : Device) (n : Nat) (f : SPort → SPort) : (d.modPort n f).hrs = d.hrs := rfl
@[simp] theorem modPort_hatch (d : Device) (n : Nat) (f : SPort → SPort) : (d.modPort n f).hatch = d.hatch := rfl
@[simp] theorem modPort_tracers (d : Device) (n : Nat) (f : SPort → SPort) : (d.modPort n f).tracers = d.tracers := rfl
@[simp] theorem modPort_presses (d : Device) (n : Nat) (f : SPort → SPort) : (d.modPort n f).presses = d.presses := rfl
@[simp] theorem modPort_power (d : Device) (n : Nat) (f : SPort → SPort) : (d.modPort n f).power = d.power := rfl
@[simp] theorem modPort_proof (d : Device) (n : Nat) (f : SPort → SPort) : (d.modPort n f).proof = d.proof := rfl
@[simp] theorem modPort_timers (d : Device) (n : Nat) (f : SPort → SPort) : (d.modPort n f).timers = d.timers := rfl
@[simp] theorem modPort_scribes (d : Device) (n : Nat) (f : SPort → SPort) : (d.modPort n f).scribes = d.scribes := rfl
@[simp] theorem modPort_bootc (d : Device) (n : Nat) (f : SPort → SPort) : (d.modPort n f).bootc = d.bootc := rfl
@[simp] theorem modPort_host (d : Device) (n : Nat) (f : SPort → SPort) : (d.modPort n f).host = d.host := rfl
@[simp] theorem modPort_sec (d : Device) (n : Nat) (f : SPort → SPort) : (d.modPort n f).sec = d.sec := rfl
@[simp] theorem modPort_pair (d : Device) (n : Nat) (f : SPort → SPort) : (d.modPort n f).pair = d.pair := rfl

/-! ### modSource -/

@[simp] theorem modSource_regs (d : Device) (n : Nat) (f : SSource → SSource) : (d.modSource n f).regs = d.regs := rfl
@[simp] theorem modSource_mem (d : Device) (n : Nat) (f : SSource → SSource) : (d.modSource n f).mem = d.mem := rfl
@[simp] theorem modSource_valid (d : Device) (n : Nat) (f : SSource → SSource) : (d.modSource n f).valid = d.valid := rfl
@[simp] theorem modSource_damage (d : Device) (n : Nat) (f : SSource → SSource) : (d.modSource n f).damage = d.damage := rfl
@[simp] theorem modSource_raising (d : Device) (n : Nat) (f : SSource → SSource) : (d.modSource n f).raising = d.raising := rfl
@[simp] theorem modSource_scribeUe (d : Device) (n : Nat) (f : SSource → SSource) : (d.modSource n f).scribeUe = d.scribeUe := rfl
@[simp] theorem modSource_timebase (d : Device) (n : Nat) (f : SSource → SSource) : (d.modSource n f).timebase = d.timebase := rfl
@[simp] theorem modSource_freeCtr (d : Device) (n : Nat) (f : SSource → SSource) : (d.modSource n f).freeCtr = d.freeCtr := rfl
@[simp] theorem modSource_etch (d : Device) (n : Nat) (f : SSource → SSource) : (d.modSource n f).etch = d.etch := rfl
@[simp] theorem modSource_ports (d : Device) (n : Nat) (f : SSource → SSource) : (d.modSource n f).ports = d.ports := rfl
@[simp] theorem modSource_routers (d : Device) (n : Nat) (f : SSource → SSource) : (d.modSource n f).routers = d.routers := rfl
@[simp] theorem modSource_seq (d : Device) (n : Nat) (f : SSource → SSource) : (d.modSource n f).seq = d.seq := rfl
@[simp] theorem modSource_doms (d : Device) (n : Nat) (f : SSource → SSource) : (d.modSource n f).doms = d.doms := rfl
@[simp] theorem modSource_tiles (d : Device) (n : Nat) (f : SSource → SSource) : (d.modSource n f).tiles = d.tiles := rfl
@[simp] theorem modSource_rack (d : Device) (n : Nat) (f : SSource → SSource) : (d.modSource n f).rack = d.rack := rfl
@[simp] theorem modSource_hrs (d : Device) (n : Nat) (f : SSource → SSource) : (d.modSource n f).hrs = d.hrs := rfl
@[simp] theorem modSource_hatch (d : Device) (n : Nat) (f : SSource → SSource) : (d.modSource n f).hatch = d.hatch := rfl
@[simp] theorem modSource_tracers (d : Device) (n : Nat) (f : SSource → SSource) : (d.modSource n f).tracers = d.tracers := rfl
@[simp] theorem modSource_presses (d : Device) (n : Nat) (f : SSource → SSource) : (d.modSource n f).presses = d.presses := rfl
@[simp] theorem modSource_power (d : Device) (n : Nat) (f : SSource → SSource) : (d.modSource n f).power = d.power := rfl
@[simp] theorem modSource_proof (d : Device) (n : Nat) (f : SSource → SSource) : (d.modSource n f).proof = d.proof := rfl
@[simp] theorem modSource_timers (d : Device) (n : Nat) (f : SSource → SSource) : (d.modSource n f).timers = d.timers := rfl
@[simp] theorem modSource_scribes (d : Device) (n : Nat) (f : SSource → SSource) : (d.modSource n f).scribes = d.scribes := rfl
@[simp] theorem modSource_bootc (d : Device) (n : Nat) (f : SSource → SSource) : (d.modSource n f).bootc = d.bootc := rfl
@[simp] theorem modSource_host (d : Device) (n : Nat) (f : SSource → SSource) : (d.modSource n f).host = d.host := rfl
@[simp] theorem modSource_sec (d : Device) (n : Nat) (f : SSource → SSource) : (d.modSource n f).sec = d.sec := rfl
@[simp] theorem modSource_pair (d : Device) (n : Nat) (f : SSource → SSource) : (d.modSource n f).pair = d.pair := rfl

/-! ### modRouter -/

@[simp] theorem modRouter_regs (d : Device) (n : Nat) (f : SRouter → SRouter) : (d.modRouter n f).regs = d.regs := rfl
@[simp] theorem modRouter_mem (d : Device) (n : Nat) (f : SRouter → SRouter) : (d.modRouter n f).mem = d.mem := rfl
@[simp] theorem modRouter_valid (d : Device) (n : Nat) (f : SRouter → SRouter) : (d.modRouter n f).valid = d.valid := rfl
@[simp] theorem modRouter_damage (d : Device) (n : Nat) (f : SRouter → SRouter) : (d.modRouter n f).damage = d.damage := rfl
@[simp] theorem modRouter_raising (d : Device) (n : Nat) (f : SRouter → SRouter) : (d.modRouter n f).raising = d.raising := rfl
@[simp] theorem modRouter_scribeUe (d : Device) (n : Nat) (f : SRouter → SRouter) : (d.modRouter n f).scribeUe = d.scribeUe := rfl
@[simp] theorem modRouter_timebase (d : Device) (n : Nat) (f : SRouter → SRouter) : (d.modRouter n f).timebase = d.timebase := rfl
@[simp] theorem modRouter_freeCtr (d : Device) (n : Nat) (f : SRouter → SRouter) : (d.modRouter n f).freeCtr = d.freeCtr := rfl
@[simp] theorem modRouter_etch (d : Device) (n : Nat) (f : SRouter → SRouter) : (d.modRouter n f).etch = d.etch := rfl
@[simp] theorem modRouter_ports (d : Device) (n : Nat) (f : SRouter → SRouter) : (d.modRouter n f).ports = d.ports := rfl
@[simp] theorem modRouter_sources (d : Device) (n : Nat) (f : SRouter → SRouter) : (d.modRouter n f).sources = d.sources := rfl
@[simp] theorem modRouter_seq (d : Device) (n : Nat) (f : SRouter → SRouter) : (d.modRouter n f).seq = d.seq := rfl
@[simp] theorem modRouter_doms (d : Device) (n : Nat) (f : SRouter → SRouter) : (d.modRouter n f).doms = d.doms := rfl
@[simp] theorem modRouter_tiles (d : Device) (n : Nat) (f : SRouter → SRouter) : (d.modRouter n f).tiles = d.tiles := rfl
@[simp] theorem modRouter_rack (d : Device) (n : Nat) (f : SRouter → SRouter) : (d.modRouter n f).rack = d.rack := rfl
@[simp] theorem modRouter_hrs (d : Device) (n : Nat) (f : SRouter → SRouter) : (d.modRouter n f).hrs = d.hrs := rfl
@[simp] theorem modRouter_hatch (d : Device) (n : Nat) (f : SRouter → SRouter) : (d.modRouter n f).hatch = d.hatch := rfl
@[simp] theorem modRouter_tracers (d : Device) (n : Nat) (f : SRouter → SRouter) : (d.modRouter n f).tracers = d.tracers := rfl
@[simp] theorem modRouter_presses (d : Device) (n : Nat) (f : SRouter → SRouter) : (d.modRouter n f).presses = d.presses := rfl
@[simp] theorem modRouter_power (d : Device) (n : Nat) (f : SRouter → SRouter) : (d.modRouter n f).power = d.power := rfl
@[simp] theorem modRouter_proof (d : Device) (n : Nat) (f : SRouter → SRouter) : (d.modRouter n f).proof = d.proof := rfl
@[simp] theorem modRouter_timers (d : Device) (n : Nat) (f : SRouter → SRouter) : (d.modRouter n f).timers = d.timers := rfl
@[simp] theorem modRouter_scribes (d : Device) (n : Nat) (f : SRouter → SRouter) : (d.modRouter n f).scribes = d.scribes := rfl
@[simp] theorem modRouter_bootc (d : Device) (n : Nat) (f : SRouter → SRouter) : (d.modRouter n f).bootc = d.bootc := rfl
@[simp] theorem modRouter_host (d : Device) (n : Nat) (f : SRouter → SRouter) : (d.modRouter n f).host = d.host := rfl
@[simp] theorem modRouter_sec (d : Device) (n : Nat) (f : SRouter → SRouter) : (d.modRouter n f).sec = d.sec := rfl
@[simp] theorem modRouter_pair (d : Device) (n : Nat) (f : SRouter → SRouter) : (d.modRouter n f).pair = d.pair := rfl

/-! ### modDom -/

@[simp] theorem modDom_regs (d : Device) (n : Nat) (f : Domain → Domain) : (d.modDom n f).regs = d.regs := rfl
@[simp] theorem modDom_mem (d : Device) (n : Nat) (f : Domain → Domain) : (d.modDom n f).mem = d.mem := rfl
@[simp] theorem modDom_valid (d : Device) (n : Nat) (f : Domain → Domain) : (d.modDom n f).valid = d.valid := rfl
@[simp] theorem modDom_damage (d : Device) (n : Nat) (f : Domain → Domain) : (d.modDom n f).damage = d.damage := rfl
@[simp] theorem modDom_raising (d : Device) (n : Nat) (f : Domain → Domain) : (d.modDom n f).raising = d.raising := rfl
@[simp] theorem modDom_scribeUe (d : Device) (n : Nat) (f : Domain → Domain) : (d.modDom n f).scribeUe = d.scribeUe := rfl
@[simp] theorem modDom_timebase (d : Device) (n : Nat) (f : Domain → Domain) : (d.modDom n f).timebase = d.timebase := rfl
@[simp] theorem modDom_freeCtr (d : Device) (n : Nat) (f : Domain → Domain) : (d.modDom n f).freeCtr = d.freeCtr := rfl
@[simp] theorem modDom_etch (d : Device) (n : Nat) (f : Domain → Domain) : (d.modDom n f).etch = d.etch := rfl
@[simp] theorem modDom_ports (d : Device) (n : Nat) (f : Domain → Domain) : (d.modDom n f).ports = d.ports := rfl
@[simp] theorem modDom_sources (d : Device) (n : Nat) (f : Domain → Domain) : (d.modDom n f).sources = d.sources := rfl
@[simp] theorem modDom_routers (d : Device) (n : Nat) (f : Domain → Domain) : (d.modDom n f).routers = d.routers := rfl
@[simp] theorem modDom_seq (d : Device) (n : Nat) (f : Domain → Domain) : (d.modDom n f).seq = d.seq := rfl
@[simp] theorem modDom_tiles (d : Device) (n : Nat) (f : Domain → Domain) : (d.modDom n f).tiles = d.tiles := rfl
@[simp] theorem modDom_rack (d : Device) (n : Nat) (f : Domain → Domain) : (d.modDom n f).rack = d.rack := rfl
@[simp] theorem modDom_hrs (d : Device) (n : Nat) (f : Domain → Domain) : (d.modDom n f).hrs = d.hrs := rfl
@[simp] theorem modDom_hatch (d : Device) (n : Nat) (f : Domain → Domain) : (d.modDom n f).hatch = d.hatch := rfl
@[simp] theorem modDom_tracers (d : Device) (n : Nat) (f : Domain → Domain) : (d.modDom n f).tracers = d.tracers := rfl
@[simp] theorem modDom_presses (d : Device) (n : Nat) (f : Domain → Domain) : (d.modDom n f).presses = d.presses := rfl
@[simp] theorem modDom_power (d : Device) (n : Nat) (f : Domain → Domain) : (d.modDom n f).power = d.power := rfl
@[simp] theorem modDom_proof (d : Device) (n : Nat) (f : Domain → Domain) : (d.modDom n f).proof = d.proof := rfl
@[simp] theorem modDom_timers (d : Device) (n : Nat) (f : Domain → Domain) : (d.modDom n f).timers = d.timers := rfl
@[simp] theorem modDom_scribes (d : Device) (n : Nat) (f : Domain → Domain) : (d.modDom n f).scribes = d.scribes := rfl
@[simp] theorem modDom_bootc (d : Device) (n : Nat) (f : Domain → Domain) : (d.modDom n f).bootc = d.bootc := rfl
@[simp] theorem modDom_host (d : Device) (n : Nat) (f : Domain → Domain) : (d.modDom n f).host = d.host := rfl
@[simp] theorem modDom_sec (d : Device) (n : Nat) (f : Domain → Domain) : (d.modDom n f).sec = d.sec := rfl
@[simp] theorem modDom_pair (d : Device) (n : Nat) (f : Domain → Domain) : (d.modDom n f).pair = d.pair := rfl

/-! ### modTile -/

@[simp] theorem modTile_regs (d : Device) (n : Nat) (f : Tile → Tile) : (d.modTile n f).regs = d.regs := rfl
@[simp] theorem modTile_mem (d : Device) (n : Nat) (f : Tile → Tile) : (d.modTile n f).mem = d.mem := rfl
@[simp] theorem modTile_valid (d : Device) (n : Nat) (f : Tile → Tile) : (d.modTile n f).valid = d.valid := rfl
@[simp] theorem modTile_damage (d : Device) (n : Nat) (f : Tile → Tile) : (d.modTile n f).damage = d.damage := rfl
@[simp] theorem modTile_raising (d : Device) (n : Nat) (f : Tile → Tile) : (d.modTile n f).raising = d.raising := rfl
@[simp] theorem modTile_scribeUe (d : Device) (n : Nat) (f : Tile → Tile) : (d.modTile n f).scribeUe = d.scribeUe := rfl
@[simp] theorem modTile_timebase (d : Device) (n : Nat) (f : Tile → Tile) : (d.modTile n f).timebase = d.timebase := rfl
@[simp] theorem modTile_freeCtr (d : Device) (n : Nat) (f : Tile → Tile) : (d.modTile n f).freeCtr = d.freeCtr := rfl
@[simp] theorem modTile_etch (d : Device) (n : Nat) (f : Tile → Tile) : (d.modTile n f).etch = d.etch := rfl
@[simp] theorem modTile_ports (d : Device) (n : Nat) (f : Tile → Tile) : (d.modTile n f).ports = d.ports := rfl
@[simp] theorem modTile_sources (d : Device) (n : Nat) (f : Tile → Tile) : (d.modTile n f).sources = d.sources := rfl
@[simp] theorem modTile_routers (d : Device) (n : Nat) (f : Tile → Tile) : (d.modTile n f).routers = d.routers := rfl
@[simp] theorem modTile_seq (d : Device) (n : Nat) (f : Tile → Tile) : (d.modTile n f).seq = d.seq := rfl
@[simp] theorem modTile_doms (d : Device) (n : Nat) (f : Tile → Tile) : (d.modTile n f).doms = d.doms := rfl
@[simp] theorem modTile_rack (d : Device) (n : Nat) (f : Tile → Tile) : (d.modTile n f).rack = d.rack := rfl
@[simp] theorem modTile_hrs (d : Device) (n : Nat) (f : Tile → Tile) : (d.modTile n f).hrs = d.hrs := rfl
@[simp] theorem modTile_hatch (d : Device) (n : Nat) (f : Tile → Tile) : (d.modTile n f).hatch = d.hatch := rfl
@[simp] theorem modTile_tracers (d : Device) (n : Nat) (f : Tile → Tile) : (d.modTile n f).tracers = d.tracers := rfl
@[simp] theorem modTile_presses (d : Device) (n : Nat) (f : Tile → Tile) : (d.modTile n f).presses = d.presses := rfl
@[simp] theorem modTile_power (d : Device) (n : Nat) (f : Tile → Tile) : (d.modTile n f).power = d.power := rfl
@[simp] theorem modTile_proof (d : Device) (n : Nat) (f : Tile → Tile) : (d.modTile n f).proof = d.proof := rfl
@[simp] theorem modTile_timers (d : Device) (n : Nat) (f : Tile → Tile) : (d.modTile n f).timers = d.timers := rfl
@[simp] theorem modTile_scribes (d : Device) (n : Nat) (f : Tile → Tile) : (d.modTile n f).scribes = d.scribes := rfl
@[simp] theorem modTile_bootc (d : Device) (n : Nat) (f : Tile → Tile) : (d.modTile n f).bootc = d.bootc := rfl
@[simp] theorem modTile_host (d : Device) (n : Nat) (f : Tile → Tile) : (d.modTile n f).host = d.host := rfl
@[simp] theorem modTile_sec (d : Device) (n : Nat) (f : Tile → Tile) : (d.modTile n f).sec = d.sec := rfl
@[simp] theorem modTile_pair (d : Device) (n : Nat) (f : Tile → Tile) : (d.modTile n f).pair = d.pair := rfl

/-! ### modHr -/

@[simp] theorem modHr_regs (d : Device) (n : Nat) (f : HRouter → HRouter) : (d.modHr n f).regs = d.regs := rfl
@[simp] theorem modHr_mem (d : Device) (n : Nat) (f : HRouter → HRouter) : (d.modHr n f).mem = d.mem := rfl
@[simp] theorem modHr_valid (d : Device) (n : Nat) (f : HRouter → HRouter) : (d.modHr n f).valid = d.valid := rfl
@[simp] theorem modHr_damage (d : Device) (n : Nat) (f : HRouter → HRouter) : (d.modHr n f).damage = d.damage := rfl
@[simp] theorem modHr_raising (d : Device) (n : Nat) (f : HRouter → HRouter) : (d.modHr n f).raising = d.raising := rfl
@[simp] theorem modHr_scribeUe (d : Device) (n : Nat) (f : HRouter → HRouter) : (d.modHr n f).scribeUe = d.scribeUe := rfl
@[simp] theorem modHr_timebase (d : Device) (n : Nat) (f : HRouter → HRouter) : (d.modHr n f).timebase = d.timebase := rfl
@[simp] theorem modHr_freeCtr (d : Device) (n : Nat) (f : HRouter → HRouter) : (d.modHr n f).freeCtr = d.freeCtr := rfl
@[simp] theorem modHr_etch (d : Device) (n : Nat) (f : HRouter → HRouter) : (d.modHr n f).etch = d.etch := rfl
@[simp] theorem modHr_ports (d : Device) (n : Nat) (f : HRouter → HRouter) : (d.modHr n f).ports = d.ports := rfl
@[simp] theorem modHr_sources (d : Device) (n : Nat) (f : HRouter → HRouter) : (d.modHr n f).sources = d.sources := rfl
@[simp] theorem modHr_routers (d : Device) (n : Nat) (f : HRouter → HRouter) : (d.modHr n f).routers = d.routers := rfl
@[simp] theorem modHr_seq (d : Device) (n : Nat) (f : HRouter → HRouter) : (d.modHr n f).seq = d.seq := rfl
@[simp] theorem modHr_doms (d : Device) (n : Nat) (f : HRouter → HRouter) : (d.modHr n f).doms = d.doms := rfl
@[simp] theorem modHr_tiles (d : Device) (n : Nat) (f : HRouter → HRouter) : (d.modHr n f).tiles = d.tiles := rfl
@[simp] theorem modHr_rack (d : Device) (n : Nat) (f : HRouter → HRouter) : (d.modHr n f).rack = d.rack := rfl
@[simp] theorem modHr_hatch (d : Device) (n : Nat) (f : HRouter → HRouter) : (d.modHr n f).hatch = d.hatch := rfl
@[simp] theorem modHr_tracers (d : Device) (n : Nat) (f : HRouter → HRouter) : (d.modHr n f).tracers = d.tracers := rfl
@[simp] theorem modHr_presses (d : Device) (n : Nat) (f : HRouter → HRouter) : (d.modHr n f).presses = d.presses := rfl
@[simp] theorem modHr_power (d : Device) (n : Nat) (f : HRouter → HRouter) : (d.modHr n f).power = d.power := rfl
@[simp] theorem modHr_proof (d : Device) (n : Nat) (f : HRouter → HRouter) : (d.modHr n f).proof = d.proof := rfl
@[simp] theorem modHr_timers (d : Device) (n : Nat) (f : HRouter → HRouter) : (d.modHr n f).timers = d.timers := rfl
@[simp] theorem modHr_scribes (d : Device) (n : Nat) (f : HRouter → HRouter) : (d.modHr n f).scribes = d.scribes := rfl
@[simp] theorem modHr_bootc (d : Device) (n : Nat) (f : HRouter → HRouter) : (d.modHr n f).bootc = d.bootc := rfl
@[simp] theorem modHr_host (d : Device) (n : Nat) (f : HRouter → HRouter) : (d.modHr n f).host = d.host := rfl
@[simp] theorem modHr_sec (d : Device) (n : Nat) (f : HRouter → HRouter) : (d.modHr n f).sec = d.sec := rfl
@[simp] theorem modHr_pair (d : Device) (n : Nat) (f : HRouter → HRouter) : (d.modHr n f).pair = d.pair := rfl

/-! ### modTracer -/

@[simp] theorem modTracer_regs (d : Device) (n : Nat) (f : TracerUnit → TracerUnit) : (d.modTracer n f).regs = d.regs := rfl
@[simp] theorem modTracer_mem (d : Device) (n : Nat) (f : TracerUnit → TracerUnit) : (d.modTracer n f).mem = d.mem := rfl
@[simp] theorem modTracer_valid (d : Device) (n : Nat) (f : TracerUnit → TracerUnit) : (d.modTracer n f).valid = d.valid := rfl
@[simp] theorem modTracer_damage (d : Device) (n : Nat) (f : TracerUnit → TracerUnit) : (d.modTracer n f).damage = d.damage := rfl
@[simp] theorem modTracer_raising (d : Device) (n : Nat) (f : TracerUnit → TracerUnit) : (d.modTracer n f).raising = d.raising := rfl
@[simp] theorem modTracer_scribeUe (d : Device) (n : Nat) (f : TracerUnit → TracerUnit) : (d.modTracer n f).scribeUe = d.scribeUe := rfl
@[simp] theorem modTracer_timebase (d : Device) (n : Nat) (f : TracerUnit → TracerUnit) : (d.modTracer n f).timebase = d.timebase := rfl
@[simp] theorem modTracer_freeCtr (d : Device) (n : Nat) (f : TracerUnit → TracerUnit) : (d.modTracer n f).freeCtr = d.freeCtr := rfl
@[simp] theorem modTracer_etch (d : Device) (n : Nat) (f : TracerUnit → TracerUnit) : (d.modTracer n f).etch = d.etch := rfl
@[simp] theorem modTracer_ports (d : Device) (n : Nat) (f : TracerUnit → TracerUnit) : (d.modTracer n f).ports = d.ports := rfl
@[simp] theorem modTracer_sources (d : Device) (n : Nat) (f : TracerUnit → TracerUnit) : (d.modTracer n f).sources = d.sources := rfl
@[simp] theorem modTracer_routers (d : Device) (n : Nat) (f : TracerUnit → TracerUnit) : (d.modTracer n f).routers = d.routers := rfl
@[simp] theorem modTracer_seq (d : Device) (n : Nat) (f : TracerUnit → TracerUnit) : (d.modTracer n f).seq = d.seq := rfl
@[simp] theorem modTracer_doms (d : Device) (n : Nat) (f : TracerUnit → TracerUnit) : (d.modTracer n f).doms = d.doms := rfl
@[simp] theorem modTracer_tiles (d : Device) (n : Nat) (f : TracerUnit → TracerUnit) : (d.modTracer n f).tiles = d.tiles := rfl
@[simp] theorem modTracer_rack (d : Device) (n : Nat) (f : TracerUnit → TracerUnit) : (d.modTracer n f).rack = d.rack := rfl
@[simp] theorem modTracer_hrs (d : Device) (n : Nat) (f : TracerUnit → TracerUnit) : (d.modTracer n f).hrs = d.hrs := rfl
@[simp] theorem modTracer_hatch (d : Device) (n : Nat) (f : TracerUnit → TracerUnit) : (d.modTracer n f).hatch = d.hatch := rfl
@[simp] theorem modTracer_presses (d : Device) (n : Nat) (f : TracerUnit → TracerUnit) : (d.modTracer n f).presses = d.presses := rfl
@[simp] theorem modTracer_power (d : Device) (n : Nat) (f : TracerUnit → TracerUnit) : (d.modTracer n f).power = d.power := rfl
@[simp] theorem modTracer_proof (d : Device) (n : Nat) (f : TracerUnit → TracerUnit) : (d.modTracer n f).proof = d.proof := rfl
@[simp] theorem modTracer_timers (d : Device) (n : Nat) (f : TracerUnit → TracerUnit) : (d.modTracer n f).timers = d.timers := rfl
@[simp] theorem modTracer_scribes (d : Device) (n : Nat) (f : TracerUnit → TracerUnit) : (d.modTracer n f).scribes = d.scribes := rfl
@[simp] theorem modTracer_bootc (d : Device) (n : Nat) (f : TracerUnit → TracerUnit) : (d.modTracer n f).bootc = d.bootc := rfl
@[simp] theorem modTracer_host (d : Device) (n : Nat) (f : TracerUnit → TracerUnit) : (d.modTracer n f).host = d.host := rfl
@[simp] theorem modTracer_sec (d : Device) (n : Nat) (f : TracerUnit → TracerUnit) : (d.modTracer n f).sec = d.sec := rfl
@[simp] theorem modTracer_pair (d : Device) (n : Nat) (f : TracerUnit → TracerUnit) : (d.modTracer n f).pair = d.pair := rfl

/-! ### modPress -/

@[simp] theorem modPress_regs (d : Device) (n : Nat) (f : PressUnit → PressUnit) : (d.modPress n f).regs = d.regs := rfl
@[simp] theorem modPress_mem (d : Device) (n : Nat) (f : PressUnit → PressUnit) : (d.modPress n f).mem = d.mem := rfl
@[simp] theorem modPress_valid (d : Device) (n : Nat) (f : PressUnit → PressUnit) : (d.modPress n f).valid = d.valid := rfl
@[simp] theorem modPress_damage (d : Device) (n : Nat) (f : PressUnit → PressUnit) : (d.modPress n f).damage = d.damage := rfl
@[simp] theorem modPress_raising (d : Device) (n : Nat) (f : PressUnit → PressUnit) : (d.modPress n f).raising = d.raising := rfl
@[simp] theorem modPress_scribeUe (d : Device) (n : Nat) (f : PressUnit → PressUnit) : (d.modPress n f).scribeUe = d.scribeUe := rfl
@[simp] theorem modPress_timebase (d : Device) (n : Nat) (f : PressUnit → PressUnit) : (d.modPress n f).timebase = d.timebase := rfl
@[simp] theorem modPress_freeCtr (d : Device) (n : Nat) (f : PressUnit → PressUnit) : (d.modPress n f).freeCtr = d.freeCtr := rfl
@[simp] theorem modPress_etch (d : Device) (n : Nat) (f : PressUnit → PressUnit) : (d.modPress n f).etch = d.etch := rfl
@[simp] theorem modPress_ports (d : Device) (n : Nat) (f : PressUnit → PressUnit) : (d.modPress n f).ports = d.ports := rfl
@[simp] theorem modPress_sources (d : Device) (n : Nat) (f : PressUnit → PressUnit) : (d.modPress n f).sources = d.sources := rfl
@[simp] theorem modPress_routers (d : Device) (n : Nat) (f : PressUnit → PressUnit) : (d.modPress n f).routers = d.routers := rfl
@[simp] theorem modPress_seq (d : Device) (n : Nat) (f : PressUnit → PressUnit) : (d.modPress n f).seq = d.seq := rfl
@[simp] theorem modPress_doms (d : Device) (n : Nat) (f : PressUnit → PressUnit) : (d.modPress n f).doms = d.doms := rfl
@[simp] theorem modPress_tiles (d : Device) (n : Nat) (f : PressUnit → PressUnit) : (d.modPress n f).tiles = d.tiles := rfl
@[simp] theorem modPress_rack (d : Device) (n : Nat) (f : PressUnit → PressUnit) : (d.modPress n f).rack = d.rack := rfl
@[simp] theorem modPress_hrs (d : Device) (n : Nat) (f : PressUnit → PressUnit) : (d.modPress n f).hrs = d.hrs := rfl
@[simp] theorem modPress_hatch (d : Device) (n : Nat) (f : PressUnit → PressUnit) : (d.modPress n f).hatch = d.hatch := rfl
@[simp] theorem modPress_tracers (d : Device) (n : Nat) (f : PressUnit → PressUnit) : (d.modPress n f).tracers = d.tracers := rfl
@[simp] theorem modPress_power (d : Device) (n : Nat) (f : PressUnit → PressUnit) : (d.modPress n f).power = d.power := rfl
@[simp] theorem modPress_proof (d : Device) (n : Nat) (f : PressUnit → PressUnit) : (d.modPress n f).proof = d.proof := rfl
@[simp] theorem modPress_timers (d : Device) (n : Nat) (f : PressUnit → PressUnit) : (d.modPress n f).timers = d.timers := rfl
@[simp] theorem modPress_scribes (d : Device) (n : Nat) (f : PressUnit → PressUnit) : (d.modPress n f).scribes = d.scribes := rfl
@[simp] theorem modPress_bootc (d : Device) (n : Nat) (f : PressUnit → PressUnit) : (d.modPress n f).bootc = d.bootc := rfl
@[simp] theorem modPress_host (d : Device) (n : Nat) (f : PressUnit → PressUnit) : (d.modPress n f).host = d.host := rfl
@[simp] theorem modPress_sec (d : Device) (n : Nat) (f : PressUnit → PressUnit) : (d.modPress n f).sec = d.sec := rfl
@[simp] theorem modPress_pair (d : Device) (n : Nat) (f : PressUnit → PressUnit) : (d.modPress n f).pair = d.pair := rfl

/-! ### modTch -/

@[simp] theorem modTch_regs (d : Device) (n : Nat) (f : TimerCh → TimerCh) : (d.modTch n f).regs = d.regs := rfl
@[simp] theorem modTch_mem (d : Device) (n : Nat) (f : TimerCh → TimerCh) : (d.modTch n f).mem = d.mem := rfl
@[simp] theorem modTch_valid (d : Device) (n : Nat) (f : TimerCh → TimerCh) : (d.modTch n f).valid = d.valid := rfl
@[simp] theorem modTch_damage (d : Device) (n : Nat) (f : TimerCh → TimerCh) : (d.modTch n f).damage = d.damage := rfl
@[simp] theorem modTch_raising (d : Device) (n : Nat) (f : TimerCh → TimerCh) : (d.modTch n f).raising = d.raising := rfl
@[simp] theorem modTch_scribeUe (d : Device) (n : Nat) (f : TimerCh → TimerCh) : (d.modTch n f).scribeUe = d.scribeUe := rfl
@[simp] theorem modTch_timebase (d : Device) (n : Nat) (f : TimerCh → TimerCh) : (d.modTch n f).timebase = d.timebase := rfl
@[simp] theorem modTch_freeCtr (d : Device) (n : Nat) (f : TimerCh → TimerCh) : (d.modTch n f).freeCtr = d.freeCtr := rfl
@[simp] theorem modTch_etch (d : Device) (n : Nat) (f : TimerCh → TimerCh) : (d.modTch n f).etch = d.etch := rfl
@[simp] theorem modTch_ports (d : Device) (n : Nat) (f : TimerCh → TimerCh) : (d.modTch n f).ports = d.ports := rfl
@[simp] theorem modTch_sources (d : Device) (n : Nat) (f : TimerCh → TimerCh) : (d.modTch n f).sources = d.sources := rfl
@[simp] theorem modTch_routers (d : Device) (n : Nat) (f : TimerCh → TimerCh) : (d.modTch n f).routers = d.routers := rfl
@[simp] theorem modTch_seq (d : Device) (n : Nat) (f : TimerCh → TimerCh) : (d.modTch n f).seq = d.seq := rfl
@[simp] theorem modTch_doms (d : Device) (n : Nat) (f : TimerCh → TimerCh) : (d.modTch n f).doms = d.doms := rfl
@[simp] theorem modTch_tiles (d : Device) (n : Nat) (f : TimerCh → TimerCh) : (d.modTch n f).tiles = d.tiles := rfl
@[simp] theorem modTch_rack (d : Device) (n : Nat) (f : TimerCh → TimerCh) : (d.modTch n f).rack = d.rack := rfl
@[simp] theorem modTch_hrs (d : Device) (n : Nat) (f : TimerCh → TimerCh) : (d.modTch n f).hrs = d.hrs := rfl
@[simp] theorem modTch_hatch (d : Device) (n : Nat) (f : TimerCh → TimerCh) : (d.modTch n f).hatch = d.hatch := rfl
@[simp] theorem modTch_tracers (d : Device) (n : Nat) (f : TimerCh → TimerCh) : (d.modTch n f).tracers = d.tracers := rfl
@[simp] theorem modTch_presses (d : Device) (n : Nat) (f : TimerCh → TimerCh) : (d.modTch n f).presses = d.presses := rfl
@[simp] theorem modTch_power (d : Device) (n : Nat) (f : TimerCh → TimerCh) : (d.modTch n f).power = d.power := rfl
@[simp] theorem modTch_proof (d : Device) (n : Nat) (f : TimerCh → TimerCh) : (d.modTch n f).proof = d.proof := rfl
@[simp] theorem modTch_scribes (d : Device) (n : Nat) (f : TimerCh → TimerCh) : (d.modTch n f).scribes = d.scribes := rfl
@[simp] theorem modTch_bootc (d : Device) (n : Nat) (f : TimerCh → TimerCh) : (d.modTch n f).bootc = d.bootc := rfl
@[simp] theorem modTch_host (d : Device) (n : Nat) (f : TimerCh → TimerCh) : (d.modTch n f).host = d.host := rfl
@[simp] theorem modTch_sec (d : Device) (n : Nat) (f : TimerCh → TimerCh) : (d.modTch n f).sec = d.sec := rfl
@[simp] theorem modTch_pair (d : Device) (n : Nat) (f : TimerCh → TimerCh) : (d.modTch n f).pair = d.pair := rfl

/-! ### modTout -/

@[simp] theorem modTout_regs (d : Device) (n : Nat) (f : TrigOut → TrigOut) : (d.modTout n f).regs = d.regs := rfl
@[simp] theorem modTout_mem (d : Device) (n : Nat) (f : TrigOut → TrigOut) : (d.modTout n f).mem = d.mem := rfl
@[simp] theorem modTout_valid (d : Device) (n : Nat) (f : TrigOut → TrigOut) : (d.modTout n f).valid = d.valid := rfl
@[simp] theorem modTout_damage (d : Device) (n : Nat) (f : TrigOut → TrigOut) : (d.modTout n f).damage = d.damage := rfl
@[simp] theorem modTout_raising (d : Device) (n : Nat) (f : TrigOut → TrigOut) : (d.modTout n f).raising = d.raising := rfl
@[simp] theorem modTout_scribeUe (d : Device) (n : Nat) (f : TrigOut → TrigOut) : (d.modTout n f).scribeUe = d.scribeUe := rfl
@[simp] theorem modTout_timebase (d : Device) (n : Nat) (f : TrigOut → TrigOut) : (d.modTout n f).timebase = d.timebase := rfl
@[simp] theorem modTout_freeCtr (d : Device) (n : Nat) (f : TrigOut → TrigOut) : (d.modTout n f).freeCtr = d.freeCtr := rfl
@[simp] theorem modTout_etch (d : Device) (n : Nat) (f : TrigOut → TrigOut) : (d.modTout n f).etch = d.etch := rfl
@[simp] theorem modTout_ports (d : Device) (n : Nat) (f : TrigOut → TrigOut) : (d.modTout n f).ports = d.ports := rfl
@[simp] theorem modTout_sources (d : Device) (n : Nat) (f : TrigOut → TrigOut) : (d.modTout n f).sources = d.sources := rfl
@[simp] theorem modTout_routers (d : Device) (n : Nat) (f : TrigOut → TrigOut) : (d.modTout n f).routers = d.routers := rfl
@[simp] theorem modTout_seq (d : Device) (n : Nat) (f : TrigOut → TrigOut) : (d.modTout n f).seq = d.seq := rfl
@[simp] theorem modTout_doms (d : Device) (n : Nat) (f : TrigOut → TrigOut) : (d.modTout n f).doms = d.doms := rfl
@[simp] theorem modTout_tiles (d : Device) (n : Nat) (f : TrigOut → TrigOut) : (d.modTout n f).tiles = d.tiles := rfl
@[simp] theorem modTout_rack (d : Device) (n : Nat) (f : TrigOut → TrigOut) : (d.modTout n f).rack = d.rack := rfl
@[simp] theorem modTout_hrs (d : Device) (n : Nat) (f : TrigOut → TrigOut) : (d.modTout n f).hrs = d.hrs := rfl
@[simp] theorem modTout_hatch (d : Device) (n : Nat) (f : TrigOut → TrigOut) : (d.modTout n f).hatch = d.hatch := rfl
@[simp] theorem modTout_tracers (d : Device) (n : Nat) (f : TrigOut → TrigOut) : (d.modTout n f).tracers = d.tracers := rfl
@[simp] theorem modTout_presses (d : Device) (n : Nat) (f : TrigOut → TrigOut) : (d.modTout n f).presses = d.presses := rfl
@[simp] theorem modTout_power (d : Device) (n : Nat) (f : TrigOut → TrigOut) : (d.modTout n f).power = d.power := rfl
@[simp] theorem modTout_proof (d : Device) (n : Nat) (f : TrigOut → TrigOut) : (d.modTout n f).proof = d.proof := rfl
@[simp] theorem modTout_scribes (d : Device) (n : Nat) (f : TrigOut → TrigOut) : (d.modTout n f).scribes = d.scribes := rfl
@[simp] theorem modTout_bootc (d : Device) (n : Nat) (f : TrigOut → TrigOut) : (d.modTout n f).bootc = d.bootc := rfl
@[simp] theorem modTout_host (d : Device) (n : Nat) (f : TrigOut → TrigOut) : (d.modTout n f).host = d.host := rfl
@[simp] theorem modTout_sec (d : Device) (n : Nat) (f : TrigOut → TrigOut) : (d.modTout n f).sec = d.sec := rfl
@[simp] theorem modTout_pair (d : Device) (n : Nat) (f : TrigOut → TrigOut) : (d.modTout n f).pair = d.pair := rfl

/-! ### modScribe -/

@[simp] theorem modScribe_regs (d : Device) (n : Nat) (f : Scribe → Scribe) : (d.modScribe n f).regs = d.regs := rfl
@[simp] theorem modScribe_mem (d : Device) (n : Nat) (f : Scribe → Scribe) : (d.modScribe n f).mem = d.mem := rfl
@[simp] theorem modScribe_valid (d : Device) (n : Nat) (f : Scribe → Scribe) : (d.modScribe n f).valid = d.valid := rfl
@[simp] theorem modScribe_damage (d : Device) (n : Nat) (f : Scribe → Scribe) : (d.modScribe n f).damage = d.damage := rfl
@[simp] theorem modScribe_raising (d : Device) (n : Nat) (f : Scribe → Scribe) : (d.modScribe n f).raising = d.raising := rfl
@[simp] theorem modScribe_scribeUe (d : Device) (n : Nat) (f : Scribe → Scribe) : (d.modScribe n f).scribeUe = d.scribeUe := rfl
@[simp] theorem modScribe_timebase (d : Device) (n : Nat) (f : Scribe → Scribe) : (d.modScribe n f).timebase = d.timebase := rfl
@[simp] theorem modScribe_freeCtr (d : Device) (n : Nat) (f : Scribe → Scribe) : (d.modScribe n f).freeCtr = d.freeCtr := rfl
@[simp] theorem modScribe_etch (d : Device) (n : Nat) (f : Scribe → Scribe) : (d.modScribe n f).etch = d.etch := rfl
@[simp] theorem modScribe_ports (d : Device) (n : Nat) (f : Scribe → Scribe) : (d.modScribe n f).ports = d.ports := rfl
@[simp] theorem modScribe_sources (d : Device) (n : Nat) (f : Scribe → Scribe) : (d.modScribe n f).sources = d.sources := rfl
@[simp] theorem modScribe_routers (d : Device) (n : Nat) (f : Scribe → Scribe) : (d.modScribe n f).routers = d.routers := rfl
@[simp] theorem modScribe_seq (d : Device) (n : Nat) (f : Scribe → Scribe) : (d.modScribe n f).seq = d.seq := rfl
@[simp] theorem modScribe_doms (d : Device) (n : Nat) (f : Scribe → Scribe) : (d.modScribe n f).doms = d.doms := rfl
@[simp] theorem modScribe_tiles (d : Device) (n : Nat) (f : Scribe → Scribe) : (d.modScribe n f).tiles = d.tiles := rfl
@[simp] theorem modScribe_rack (d : Device) (n : Nat) (f : Scribe → Scribe) : (d.modScribe n f).rack = d.rack := rfl
@[simp] theorem modScribe_hrs (d : Device) (n : Nat) (f : Scribe → Scribe) : (d.modScribe n f).hrs = d.hrs := rfl
@[simp] theorem modScribe_hatch (d : Device) (n : Nat) (f : Scribe → Scribe) : (d.modScribe n f).hatch = d.hatch := rfl
@[simp] theorem modScribe_tracers (d : Device) (n : Nat) (f : Scribe → Scribe) : (d.modScribe n f).tracers = d.tracers := rfl
@[simp] theorem modScribe_presses (d : Device) (n : Nat) (f : Scribe → Scribe) : (d.modScribe n f).presses = d.presses := rfl
@[simp] theorem modScribe_power (d : Device) (n : Nat) (f : Scribe → Scribe) : (d.modScribe n f).power = d.power := rfl
@[simp] theorem modScribe_proof (d : Device) (n : Nat) (f : Scribe → Scribe) : (d.modScribe n f).proof = d.proof := rfl
@[simp] theorem modScribe_timers (d : Device) (n : Nat) (f : Scribe → Scribe) : (d.modScribe n f).timers = d.timers := rfl
@[simp] theorem modScribe_bootc (d : Device) (n : Nat) (f : Scribe → Scribe) : (d.modScribe n f).bootc = d.bootc := rfl
@[simp] theorem modScribe_host (d : Device) (n : Nat) (f : Scribe → Scribe) : (d.modScribe n f).host = d.host := rfl
@[simp] theorem modScribe_sec (d : Device) (n : Nat) (f : Scribe → Scribe) : (d.modScribe n f).sec = d.sec := rfl
@[simp] theorem modScribe_pair (d : Device) (n : Nat) (f : Scribe → Scribe) : (d.modScribe n f).pair = d.pair := rfl

/-! ### modSeq -/

@[simp] theorem modSeq_regs (d : Device) (f : Sequencer → Sequencer) : (d.modSeq f).regs = d.regs := rfl
@[simp] theorem modSeq_mem (d : Device) (f : Sequencer → Sequencer) : (d.modSeq f).mem = d.mem := rfl
@[simp] theorem modSeq_valid (d : Device) (f : Sequencer → Sequencer) : (d.modSeq f).valid = d.valid := rfl
@[simp] theorem modSeq_damage (d : Device) (f : Sequencer → Sequencer) : (d.modSeq f).damage = d.damage := rfl
@[simp] theorem modSeq_raising (d : Device) (f : Sequencer → Sequencer) : (d.modSeq f).raising = d.raising := rfl
@[simp] theorem modSeq_scribeUe (d : Device) (f : Sequencer → Sequencer) : (d.modSeq f).scribeUe = d.scribeUe := rfl
@[simp] theorem modSeq_timebase (d : Device) (f : Sequencer → Sequencer) : (d.modSeq f).timebase = d.timebase := rfl
@[simp] theorem modSeq_freeCtr (d : Device) (f : Sequencer → Sequencer) : (d.modSeq f).freeCtr = d.freeCtr := rfl
@[simp] theorem modSeq_etch (d : Device) (f : Sequencer → Sequencer) : (d.modSeq f).etch = d.etch := rfl
@[simp] theorem modSeq_ports (d : Device) (f : Sequencer → Sequencer) : (d.modSeq f).ports = d.ports := rfl
@[simp] theorem modSeq_sources (d : Device) (f : Sequencer → Sequencer) : (d.modSeq f).sources = d.sources := rfl
@[simp] theorem modSeq_routers (d : Device) (f : Sequencer → Sequencer) : (d.modSeq f).routers = d.routers := rfl
@[simp] theorem modSeq_doms (d : Device) (f : Sequencer → Sequencer) : (d.modSeq f).doms = d.doms := rfl
@[simp] theorem modSeq_tiles (d : Device) (f : Sequencer → Sequencer) : (d.modSeq f).tiles = d.tiles := rfl
@[simp] theorem modSeq_rack (d : Device) (f : Sequencer → Sequencer) : (d.modSeq f).rack = d.rack := rfl
@[simp] theorem modSeq_hrs (d : Device) (f : Sequencer → Sequencer) : (d.modSeq f).hrs = d.hrs := rfl
@[simp] theorem modSeq_hatch (d : Device) (f : Sequencer → Sequencer) : (d.modSeq f).hatch = d.hatch := rfl
@[simp] theorem modSeq_tracers (d : Device) (f : Sequencer → Sequencer) : (d.modSeq f).tracers = d.tracers := rfl
@[simp] theorem modSeq_presses (d : Device) (f : Sequencer → Sequencer) : (d.modSeq f).presses = d.presses := rfl
@[simp] theorem modSeq_power (d : Device) (f : Sequencer → Sequencer) : (d.modSeq f).power = d.power := rfl
@[simp] theorem modSeq_proof (d : Device) (f : Sequencer → Sequencer) : (d.modSeq f).proof = d.proof := rfl
@[simp] theorem modSeq_timers (d : Device) (f : Sequencer → Sequencer) : (d.modSeq f).timers = d.timers := rfl
@[simp] theorem modSeq_scribes (d : Device) (f : Sequencer → Sequencer) : (d.modSeq f).scribes = d.scribes := rfl
@[simp] theorem modSeq_bootc (d : Device) (f : Sequencer → Sequencer) : (d.modSeq f).bootc = d.bootc := rfl
@[simp] theorem modSeq_host (d : Device) (f : Sequencer → Sequencer) : (d.modSeq f).host = d.host := rfl
@[simp] theorem modSeq_sec (d : Device) (f : Sequencer → Sequencer) : (d.modSeq f).sec = d.sec := rfl
@[simp] theorem modSeq_pair (d : Device) (f : Sequencer → Sequencer) : (d.modSeq f).pair = d.pair := rfl

/-! ### modRack -/

@[simp] theorem modRack_regs (d : Device) (f : RackUnit → RackUnit) : (d.modRack f).regs = d.regs := rfl
@[simp] theorem modRack_mem (d : Device) (f : RackUnit → RackUnit) : (d.modRack f).mem = d.mem := rfl
@[simp] theorem modRack_valid (d : Device) (f : RackUnit → RackUnit) : (d.modRack f).valid = d.valid := rfl
@[simp] theorem modRack_damage (d : Device) (f : RackUnit → RackUnit) : (d.modRack f).damage = d.damage := rfl
@[simp] theorem modRack_raising (d : Device) (f : RackUnit → RackUnit) : (d.modRack f).raising = d.raising := rfl
@[simp] theorem modRack_scribeUe (d : Device) (f : RackUnit → RackUnit) : (d.modRack f).scribeUe = d.scribeUe := rfl
@[simp] theorem modRack_timebase (d : Device) (f : RackUnit → RackUnit) : (d.modRack f).timebase = d.timebase := rfl
@[simp] theorem modRack_freeCtr (d : Device) (f : RackUnit → RackUnit) : (d.modRack f).freeCtr = d.freeCtr := rfl
@[simp] theorem modRack_etch (d : Device) (f : RackUnit → RackUnit) : (d.modRack f).etch = d.etch := rfl
@[simp] theorem modRack_ports (d : Device) (f : RackUnit → RackUnit) : (d.modRack f).ports = d.ports := rfl
@[simp] theorem modRack_sources (d : Device) (f : RackUnit → RackUnit) : (d.modRack f).sources = d.sources := rfl
@[simp] theorem modRack_routers (d : Device) (f : RackUnit → RackUnit) : (d.modRack f).routers = d.routers := rfl
@[simp] theorem modRack_seq (d : Device) (f : RackUnit → RackUnit) : (d.modRack f).seq = d.seq := rfl
@[simp] theorem modRack_doms (d : Device) (f : RackUnit → RackUnit) : (d.modRack f).doms = d.doms := rfl
@[simp] theorem modRack_tiles (d : Device) (f : RackUnit → RackUnit) : (d.modRack f).tiles = d.tiles := rfl
@[simp] theorem modRack_hrs (d : Device) (f : RackUnit → RackUnit) : (d.modRack f).hrs = d.hrs := rfl
@[simp] theorem modRack_hatch (d : Device) (f : RackUnit → RackUnit) : (d.modRack f).hatch = d.hatch := rfl
@[simp] theorem modRack_tracers (d : Device) (f : RackUnit → RackUnit) : (d.modRack f).tracers = d.tracers := rfl
@[simp] theorem modRack_presses (d : Device) (f : RackUnit → RackUnit) : (d.modRack f).presses = d.presses := rfl
@[simp] theorem modRack_power (d : Device) (f : RackUnit → RackUnit) : (d.modRack f).power = d.power := rfl
@[simp] theorem modRack_proof (d : Device) (f : RackUnit → RackUnit) : (d.modRack f).proof = d.proof := rfl
@[simp] theorem modRack_timers (d : Device) (f : RackUnit → RackUnit) : (d.modRack f).timers = d.timers := rfl
@[simp] theorem modRack_scribes (d : Device) (f : RackUnit → RackUnit) : (d.modRack f).scribes = d.scribes := rfl
@[simp] theorem modRack_bootc (d : Device) (f : RackUnit → RackUnit) : (d.modRack f).bootc = d.bootc := rfl
@[simp] theorem modRack_host (d : Device) (f : RackUnit → RackUnit) : (d.modRack f).host = d.host := rfl
@[simp] theorem modRack_sec (d : Device) (f : RackUnit → RackUnit) : (d.modRack f).sec = d.sec := rfl
@[simp] theorem modRack_pair (d : Device) (f : RackUnit → RackUnit) : (d.modRack f).pair = d.pair := rfl

/-! ### modHatch -/

@[simp] theorem modHatch_regs (d : Device) (f : HatchCtl → HatchCtl) : (d.modHatch f).regs = d.regs := rfl
@[simp] theorem modHatch_mem (d : Device) (f : HatchCtl → HatchCtl) : (d.modHatch f).mem = d.mem := rfl
@[simp] theorem modHatch_valid (d : Device) (f : HatchCtl → HatchCtl) : (d.modHatch f).valid = d.valid := rfl
@[simp] theorem modHatch_damage (d : Device) (f : HatchCtl → HatchCtl) : (d.modHatch f).damage = d.damage := rfl
@[simp] theorem modHatch_raising (d : Device) (f : HatchCtl → HatchCtl) : (d.modHatch f).raising = d.raising := rfl
@[simp] theorem modHatch_scribeUe (d : Device) (f : HatchCtl → HatchCtl) : (d.modHatch f).scribeUe = d.scribeUe := rfl
@[simp] theorem modHatch_timebase (d : Device) (f : HatchCtl → HatchCtl) : (d.modHatch f).timebase = d.timebase := rfl
@[simp] theorem modHatch_freeCtr (d : Device) (f : HatchCtl → HatchCtl) : (d.modHatch f).freeCtr = d.freeCtr := rfl
@[simp] theorem modHatch_etch (d : Device) (f : HatchCtl → HatchCtl) : (d.modHatch f).etch = d.etch := rfl
@[simp] theorem modHatch_ports (d : Device) (f : HatchCtl → HatchCtl) : (d.modHatch f).ports = d.ports := rfl
@[simp] theorem modHatch_sources (d : Device) (f : HatchCtl → HatchCtl) : (d.modHatch f).sources = d.sources := rfl
@[simp] theorem modHatch_routers (d : Device) (f : HatchCtl → HatchCtl) : (d.modHatch f).routers = d.routers := rfl
@[simp] theorem modHatch_seq (d : Device) (f : HatchCtl → HatchCtl) : (d.modHatch f).seq = d.seq := rfl
@[simp] theorem modHatch_doms (d : Device) (f : HatchCtl → HatchCtl) : (d.modHatch f).doms = d.doms := rfl
@[simp] theorem modHatch_tiles (d : Device) (f : HatchCtl → HatchCtl) : (d.modHatch f).tiles = d.tiles := rfl
@[simp] theorem modHatch_rack (d : Device) (f : HatchCtl → HatchCtl) : (d.modHatch f).rack = d.rack := rfl
@[simp] theorem modHatch_hrs (d : Device) (f : HatchCtl → HatchCtl) : (d.modHatch f).hrs = d.hrs := rfl
@[simp] theorem modHatch_tracers (d : Device) (f : HatchCtl → HatchCtl) : (d.modHatch f).tracers = d.tracers := rfl
@[simp] theorem modHatch_presses (d : Device) (f : HatchCtl → HatchCtl) : (d.modHatch f).presses = d.presses := rfl
@[simp] theorem modHatch_power (d : Device) (f : HatchCtl → HatchCtl) : (d.modHatch f).power = d.power := rfl
@[simp] theorem modHatch_proof (d : Device) (f : HatchCtl → HatchCtl) : (d.modHatch f).proof = d.proof := rfl
@[simp] theorem modHatch_timers (d : Device) (f : HatchCtl → HatchCtl) : (d.modHatch f).timers = d.timers := rfl
@[simp] theorem modHatch_scribes (d : Device) (f : HatchCtl → HatchCtl) : (d.modHatch f).scribes = d.scribes := rfl
@[simp] theorem modHatch_bootc (d : Device) (f : HatchCtl → HatchCtl) : (d.modHatch f).bootc = d.bootc := rfl
@[simp] theorem modHatch_host (d : Device) (f : HatchCtl → HatchCtl) : (d.modHatch f).host = d.host := rfl
@[simp] theorem modHatch_sec (d : Device) (f : HatchCtl → HatchCtl) : (d.modHatch f).sec = d.sec := rfl
@[simp] theorem modHatch_pair (d : Device) (f : HatchCtl → HatchCtl) : (d.modHatch f).pair = d.pair := rfl

/-! ### modPower -/

@[simp] theorem modPower_regs (d : Device) (f : Power → Power) : (d.modPower f).regs = d.regs := rfl
@[simp] theorem modPower_mem (d : Device) (f : Power → Power) : (d.modPower f).mem = d.mem := rfl
@[simp] theorem modPower_valid (d : Device) (f : Power → Power) : (d.modPower f).valid = d.valid := rfl
@[simp] theorem modPower_damage (d : Device) (f : Power → Power) : (d.modPower f).damage = d.damage := rfl
@[simp] theorem modPower_raising (d : Device) (f : Power → Power) : (d.modPower f).raising = d.raising := rfl
@[simp] theorem modPower_scribeUe (d : Device) (f : Power → Power) : (d.modPower f).scribeUe = d.scribeUe := rfl
@[simp] theorem modPower_timebase (d : Device) (f : Power → Power) : (d.modPower f).timebase = d.timebase := rfl
@[simp] theorem modPower_freeCtr (d : Device) (f : Power → Power) : (d.modPower f).freeCtr = d.freeCtr := rfl
@[simp] theorem modPower_etch (d : Device) (f : Power → Power) : (d.modPower f).etch = d.etch := rfl
@[simp] theorem modPower_ports (d : Device) (f : Power → Power) : (d.modPower f).ports = d.ports := rfl
@[simp] theorem modPower_sources (d : Device) (f : Power → Power) : (d.modPower f).sources = d.sources := rfl
@[simp] theorem modPower_routers (d : Device) (f : Power → Power) : (d.modPower f).routers = d.routers := rfl
@[simp] theorem modPower_seq (d : Device) (f : Power → Power) : (d.modPower f).seq = d.seq := rfl
@[simp] theorem modPower_doms (d : Device) (f : Power → Power) : (d.modPower f).doms = d.doms := rfl
@[simp] theorem modPower_tiles (d : Device) (f : Power → Power) : (d.modPower f).tiles = d.tiles := rfl
@[simp] theorem modPower_rack (d : Device) (f : Power → Power) : (d.modPower f).rack = d.rack := rfl
@[simp] theorem modPower_hrs (d : Device) (f : Power → Power) : (d.modPower f).hrs = d.hrs := rfl
@[simp] theorem modPower_hatch (d : Device) (f : Power → Power) : (d.modPower f).hatch = d.hatch := rfl
@[simp] theorem modPower_tracers (d : Device) (f : Power → Power) : (d.modPower f).tracers = d.tracers := rfl
@[simp] theorem modPower_presses (d : Device) (f : Power → Power) : (d.modPower f).presses = d.presses := rfl
@[simp] theorem modPower_proof (d : Device) (f : Power → Power) : (d.modPower f).proof = d.proof := rfl
@[simp] theorem modPower_timers (d : Device) (f : Power → Power) : (d.modPower f).timers = d.timers := rfl
@[simp] theorem modPower_scribes (d : Device) (f : Power → Power) : (d.modPower f).scribes = d.scribes := rfl
@[simp] theorem modPower_bootc (d : Device) (f : Power → Power) : (d.modPower f).bootc = d.bootc := rfl
@[simp] theorem modPower_host (d : Device) (f : Power → Power) : (d.modPower f).host = d.host := rfl
@[simp] theorem modPower_sec (d : Device) (f : Power → Power) : (d.modPower f).sec = d.sec := rfl
@[simp] theorem modPower_pair (d : Device) (f : Power → Power) : (d.modPower f).pair = d.pair := rfl

/-! ### modProof -/

@[simp] theorem modProof_regs (d : Device) (f : Proof → Proof) : (d.modProof f).regs = d.regs := rfl
@[simp] theorem modProof_mem (d : Device) (f : Proof → Proof) : (d.modProof f).mem = d.mem := rfl
@[simp] theorem modProof_valid (d : Device) (f : Proof → Proof) : (d.modProof f).valid = d.valid := rfl
@[simp] theorem modProof_damage (d : Device) (f : Proof → Proof) : (d.modProof f).damage = d.damage := rfl
@[simp] theorem modProof_raising (d : Device) (f : Proof → Proof) : (d.modProof f).raising = d.raising := rfl
@[simp] theorem modProof_scribeUe (d : Device) (f : Proof → Proof) : (d.modProof f).scribeUe = d.scribeUe := rfl
@[simp] theorem modProof_timebase (d : Device) (f : Proof → Proof) : (d.modProof f).timebase = d.timebase := rfl
@[simp] theorem modProof_freeCtr (d : Device) (f : Proof → Proof) : (d.modProof f).freeCtr = d.freeCtr := rfl
@[simp] theorem modProof_etch (d : Device) (f : Proof → Proof) : (d.modProof f).etch = d.etch := rfl
@[simp] theorem modProof_ports (d : Device) (f : Proof → Proof) : (d.modProof f).ports = d.ports := rfl
@[simp] theorem modProof_sources (d : Device) (f : Proof → Proof) : (d.modProof f).sources = d.sources := rfl
@[simp] theorem modProof_routers (d : Device) (f : Proof → Proof) : (d.modProof f).routers = d.routers := rfl
@[simp] theorem modProof_seq (d : Device) (f : Proof → Proof) : (d.modProof f).seq = d.seq := rfl
@[simp] theorem modProof_doms (d : Device) (f : Proof → Proof) : (d.modProof f).doms = d.doms := rfl
@[simp] theorem modProof_tiles (d : Device) (f : Proof → Proof) : (d.modProof f).tiles = d.tiles := rfl
@[simp] theorem modProof_rack (d : Device) (f : Proof → Proof) : (d.modProof f).rack = d.rack := rfl
@[simp] theorem modProof_hrs (d : Device) (f : Proof → Proof) : (d.modProof f).hrs = d.hrs := rfl
@[simp] theorem modProof_hatch (d : Device) (f : Proof → Proof) : (d.modProof f).hatch = d.hatch := rfl
@[simp] theorem modProof_tracers (d : Device) (f : Proof → Proof) : (d.modProof f).tracers = d.tracers := rfl
@[simp] theorem modProof_presses (d : Device) (f : Proof → Proof) : (d.modProof f).presses = d.presses := rfl
@[simp] theorem modProof_power (d : Device) (f : Proof → Proof) : (d.modProof f).power = d.power := rfl
@[simp] theorem modProof_timers (d : Device) (f : Proof → Proof) : (d.modProof f).timers = d.timers := rfl
@[simp] theorem modProof_scribes (d : Device) (f : Proof → Proof) : (d.modProof f).scribes = d.scribes := rfl
@[simp] theorem modProof_bootc (d : Device) (f : Proof → Proof) : (d.modProof f).bootc = d.bootc := rfl
@[simp] theorem modProof_host (d : Device) (f : Proof → Proof) : (d.modProof f).host = d.host := rfl
@[simp] theorem modProof_sec (d : Device) (f : Proof → Proof) : (d.modProof f).sec = d.sec := rfl
@[simp] theorem modProof_pair (d : Device) (f : Proof → Proof) : (d.modProof f).pair = d.pair := rfl

/-! ### modBoot -/

@[simp] theorem modBoot_regs (d : Device) (f : BootCtl → BootCtl) : (d.modBoot f).regs = d.regs := rfl
@[simp] theorem modBoot_mem (d : Device) (f : BootCtl → BootCtl) : (d.modBoot f).mem = d.mem := rfl
@[simp] theorem modBoot_valid (d : Device) (f : BootCtl → BootCtl) : (d.modBoot f).valid = d.valid := rfl
@[simp] theorem modBoot_damage (d : Device) (f : BootCtl → BootCtl) : (d.modBoot f).damage = d.damage := rfl
@[simp] theorem modBoot_raising (d : Device) (f : BootCtl → BootCtl) : (d.modBoot f).raising = d.raising := rfl
@[simp] theorem modBoot_scribeUe (d : Device) (f : BootCtl → BootCtl) : (d.modBoot f).scribeUe = d.scribeUe := rfl
@[simp] theorem modBoot_timebase (d : Device) (f : BootCtl → BootCtl) : (d.modBoot f).timebase = d.timebase := rfl
@[simp] theorem modBoot_freeCtr (d : Device) (f : BootCtl → BootCtl) : (d.modBoot f).freeCtr = d.freeCtr := rfl
@[simp] theorem modBoot_etch (d : Device) (f : BootCtl → BootCtl) : (d.modBoot f).etch = d.etch := rfl
@[simp] theorem modBoot_ports (d : Device) (f : BootCtl → BootCtl) : (d.modBoot f).ports = d.ports := rfl
@[simp] theorem modBoot_sources (d : Device) (f : BootCtl → BootCtl) : (d.modBoot f).sources = d.sources := rfl
@[simp] theorem modBoot_routers (d : Device) (f : BootCtl → BootCtl) : (d.modBoot f).routers = d.routers := rfl
@[simp] theorem modBoot_seq (d : Device) (f : BootCtl → BootCtl) : (d.modBoot f).seq = d.seq := rfl
@[simp] theorem modBoot_doms (d : Device) (f : BootCtl → BootCtl) : (d.modBoot f).doms = d.doms := rfl
@[simp] theorem modBoot_tiles (d : Device) (f : BootCtl → BootCtl) : (d.modBoot f).tiles = d.tiles := rfl
@[simp] theorem modBoot_rack (d : Device) (f : BootCtl → BootCtl) : (d.modBoot f).rack = d.rack := rfl
@[simp] theorem modBoot_hrs (d : Device) (f : BootCtl → BootCtl) : (d.modBoot f).hrs = d.hrs := rfl
@[simp] theorem modBoot_hatch (d : Device) (f : BootCtl → BootCtl) : (d.modBoot f).hatch = d.hatch := rfl
@[simp] theorem modBoot_tracers (d : Device) (f : BootCtl → BootCtl) : (d.modBoot f).tracers = d.tracers := rfl
@[simp] theorem modBoot_presses (d : Device) (f : BootCtl → BootCtl) : (d.modBoot f).presses = d.presses := rfl
@[simp] theorem modBoot_power (d : Device) (f : BootCtl → BootCtl) : (d.modBoot f).power = d.power := rfl
@[simp] theorem modBoot_proof (d : Device) (f : BootCtl → BootCtl) : (d.modBoot f).proof = d.proof := rfl
@[simp] theorem modBoot_timers (d : Device) (f : BootCtl → BootCtl) : (d.modBoot f).timers = d.timers := rfl
@[simp] theorem modBoot_scribes (d : Device) (f : BootCtl → BootCtl) : (d.modBoot f).scribes = d.scribes := rfl
@[simp] theorem modBoot_host (d : Device) (f : BootCtl → BootCtl) : (d.modBoot f).host = d.host := rfl
@[simp] theorem modBoot_sec (d : Device) (f : BootCtl → BootCtl) : (d.modBoot f).sec = d.sec := rfl
@[simp] theorem modBoot_pair (d : Device) (f : BootCtl → BootCtl) : (d.modBoot f).pair = d.pair := rfl

/-! ### modI3c -/

@[simp] theorem modI3c_regs (d : Device) (f : I3c → I3c) : (d.modI3c f).regs = d.regs := rfl
@[simp] theorem modI3c_mem (d : Device) (f : I3c → I3c) : (d.modI3c f).mem = d.mem := rfl
@[simp] theorem modI3c_valid (d : Device) (f : I3c → I3c) : (d.modI3c f).valid = d.valid := rfl
@[simp] theorem modI3c_damage (d : Device) (f : I3c → I3c) : (d.modI3c f).damage = d.damage := rfl
@[simp] theorem modI3c_raising (d : Device) (f : I3c → I3c) : (d.modI3c f).raising = d.raising := rfl
@[simp] theorem modI3c_scribeUe (d : Device) (f : I3c → I3c) : (d.modI3c f).scribeUe = d.scribeUe := rfl
@[simp] theorem modI3c_timebase (d : Device) (f : I3c → I3c) : (d.modI3c f).timebase = d.timebase := rfl
@[simp] theorem modI3c_freeCtr (d : Device) (f : I3c → I3c) : (d.modI3c f).freeCtr = d.freeCtr := rfl
@[simp] theorem modI3c_etch (d : Device) (f : I3c → I3c) : (d.modI3c f).etch = d.etch := rfl
@[simp] theorem modI3c_ports (d : Device) (f : I3c → I3c) : (d.modI3c f).ports = d.ports := rfl
@[simp] theorem modI3c_sources (d : Device) (f : I3c → I3c) : (d.modI3c f).sources = d.sources := rfl
@[simp] theorem modI3c_routers (d : Device) (f : I3c → I3c) : (d.modI3c f).routers = d.routers := rfl
@[simp] theorem modI3c_seq (d : Device) (f : I3c → I3c) : (d.modI3c f).seq = d.seq := rfl
@[simp] theorem modI3c_doms (d : Device) (f : I3c → I3c) : (d.modI3c f).doms = d.doms := rfl
@[simp] theorem modI3c_tiles (d : Device) (f : I3c → I3c) : (d.modI3c f).tiles = d.tiles := rfl
@[simp] theorem modI3c_rack (d : Device) (f : I3c → I3c) : (d.modI3c f).rack = d.rack := rfl
@[simp] theorem modI3c_hrs (d : Device) (f : I3c → I3c) : (d.modI3c f).hrs = d.hrs := rfl
@[simp] theorem modI3c_hatch (d : Device) (f : I3c → I3c) : (d.modI3c f).hatch = d.hatch := rfl
@[simp] theorem modI3c_tracers (d : Device) (f : I3c → I3c) : (d.modI3c f).tracers = d.tracers := rfl
@[simp] theorem modI3c_presses (d : Device) (f : I3c → I3c) : (d.modI3c f).presses = d.presses := rfl
@[simp] theorem modI3c_power (d : Device) (f : I3c → I3c) : (d.modI3c f).power = d.power := rfl
@[simp] theorem modI3c_proof (d : Device) (f : I3c → I3c) : (d.modI3c f).proof = d.proof := rfl
@[simp] theorem modI3c_timers (d : Device) (f : I3c → I3c) : (d.modI3c f).timers = d.timers := rfl
@[simp] theorem modI3c_scribes (d : Device) (f : I3c → I3c) : (d.modI3c f).scribes = d.scribes := rfl
@[simp] theorem modI3c_bootc (d : Device) (f : I3c → I3c) : (d.modI3c f).bootc = d.bootc := rfl
@[simp] theorem modI3c_sec (d : Device) (f : I3c → I3c) : (d.modI3c f).sec = d.sec := rfl
@[simp] theorem modI3c_pair (d : Device) (f : I3c → I3c) : (d.modI3c f).pair = d.pair := rfl

/-! ### modHost -/

@[simp] theorem modHost_regs (d : Device) (f : HostUnit → HostUnit) : (d.modHost f).regs = d.regs := rfl
@[simp] theorem modHost_mem (d : Device) (f : HostUnit → HostUnit) : (d.modHost f).mem = d.mem := rfl
@[simp] theorem modHost_valid (d : Device) (f : HostUnit → HostUnit) : (d.modHost f).valid = d.valid := rfl
@[simp] theorem modHost_damage (d : Device) (f : HostUnit → HostUnit) : (d.modHost f).damage = d.damage := rfl
@[simp] theorem modHost_raising (d : Device) (f : HostUnit → HostUnit) : (d.modHost f).raising = d.raising := rfl
@[simp] theorem modHost_scribeUe (d : Device) (f : HostUnit → HostUnit) : (d.modHost f).scribeUe = d.scribeUe := rfl
@[simp] theorem modHost_timebase (d : Device) (f : HostUnit → HostUnit) : (d.modHost f).timebase = d.timebase := rfl
@[simp] theorem modHost_freeCtr (d : Device) (f : HostUnit → HostUnit) : (d.modHost f).freeCtr = d.freeCtr := rfl
@[simp] theorem modHost_etch (d : Device) (f : HostUnit → HostUnit) : (d.modHost f).etch = d.etch := rfl
@[simp] theorem modHost_ports (d : Device) (f : HostUnit → HostUnit) : (d.modHost f).ports = d.ports := rfl
@[simp] theorem modHost_sources (d : Device) (f : HostUnit → HostUnit) : (d.modHost f).sources = d.sources := rfl
@[simp] theorem modHost_routers (d : Device) (f : HostUnit → HostUnit) : (d.modHost f).routers = d.routers := rfl
@[simp] theorem modHost_seq (d : Device) (f : HostUnit → HostUnit) : (d.modHost f).seq = d.seq := rfl
@[simp] theorem modHost_doms (d : Device) (f : HostUnit → HostUnit) : (d.modHost f).doms = d.doms := rfl
@[simp] theorem modHost_tiles (d : Device) (f : HostUnit → HostUnit) : (d.modHost f).tiles = d.tiles := rfl
@[simp] theorem modHost_rack (d : Device) (f : HostUnit → HostUnit) : (d.modHost f).rack = d.rack := rfl
@[simp] theorem modHost_hrs (d : Device) (f : HostUnit → HostUnit) : (d.modHost f).hrs = d.hrs := rfl
@[simp] theorem modHost_hatch (d : Device) (f : HostUnit → HostUnit) : (d.modHost f).hatch = d.hatch := rfl
@[simp] theorem modHost_tracers (d : Device) (f : HostUnit → HostUnit) : (d.modHost f).tracers = d.tracers := rfl
@[simp] theorem modHost_presses (d : Device) (f : HostUnit → HostUnit) : (d.modHost f).presses = d.presses := rfl
@[simp] theorem modHost_power (d : Device) (f : HostUnit → HostUnit) : (d.modHost f).power = d.power := rfl
@[simp] theorem modHost_proof (d : Device) (f : HostUnit → HostUnit) : (d.modHost f).proof = d.proof := rfl
@[simp] theorem modHost_timers (d : Device) (f : HostUnit → HostUnit) : (d.modHost f).timers = d.timers := rfl
@[simp] theorem modHost_scribes (d : Device) (f : HostUnit → HostUnit) : (d.modHost f).scribes = d.scribes := rfl
@[simp] theorem modHost_bootc (d : Device) (f : HostUnit → HostUnit) : (d.modHost f).bootc = d.bootc := rfl
@[simp] theorem modHost_sec (d : Device) (f : HostUnit → HostUnit) : (d.modHost f).sec = d.sec := rfl
@[simp] theorem modHost_pair (d : Device) (f : HostUnit → HostUnit) : (d.modHost f).pair = d.pair := rfl

/-! ### modSec -/

@[simp] theorem modSec_regs (d : Device) (f : Security → Security) : (d.modSec f).regs = d.regs := rfl
@[simp] theorem modSec_mem (d : Device) (f : Security → Security) : (d.modSec f).mem = d.mem := rfl
@[simp] theorem modSec_valid (d : Device) (f : Security → Security) : (d.modSec f).valid = d.valid := rfl
@[simp] theorem modSec_damage (d : Device) (f : Security → Security) : (d.modSec f).damage = d.damage := rfl
@[simp] theorem modSec_raising (d : Device) (f : Security → Security) : (d.modSec f).raising = d.raising := rfl
@[simp] theorem modSec_scribeUe (d : Device) (f : Security → Security) : (d.modSec f).scribeUe = d.scribeUe := rfl
@[simp] theorem modSec_timebase (d : Device) (f : Security → Security) : (d.modSec f).timebase = d.timebase := rfl
@[simp] theorem modSec_freeCtr (d : Device) (f : Security → Security) : (d.modSec f).freeCtr = d.freeCtr := rfl
@[simp] theorem modSec_etch (d : Device) (f : Security → Security) : (d.modSec f).etch = d.etch := rfl
@[simp] theorem modSec_ports (d : Device) (f : Security → Security) : (d.modSec f).ports = d.ports := rfl
@[simp] theorem modSec_sources (d : Device) (f : Security → Security) : (d.modSec f).sources = d.sources := rfl
@[simp] theorem modSec_routers (d : Device) (f : Security → Security) : (d.modSec f).routers = d.routers := rfl
@[simp] theorem modSec_seq (d : Device) (f : Security → Security) : (d.modSec f).seq = d.seq := rfl
@[simp] theorem modSec_doms (d : Device) (f : Security → Security) : (d.modSec f).doms = d.doms := rfl
@[simp] theorem modSec_tiles (d : Device) (f : Security → Security) : (d.modSec f).tiles = d.tiles := rfl
@[simp] theorem modSec_rack (d : Device) (f : Security → Security) : (d.modSec f).rack = d.rack := rfl
@[simp] theorem modSec_hrs (d : Device) (f : Security → Security) : (d.modSec f).hrs = d.hrs := rfl
@[simp] theorem modSec_hatch (d : Device) (f : Security → Security) : (d.modSec f).hatch = d.hatch := rfl
@[simp] theorem modSec_tracers (d : Device) (f : Security → Security) : (d.modSec f).tracers = d.tracers := rfl
@[simp] theorem modSec_presses (d : Device) (f : Security → Security) : (d.modSec f).presses = d.presses := rfl
@[simp] theorem modSec_power (d : Device) (f : Security → Security) : (d.modSec f).power = d.power := rfl
@[simp] theorem modSec_proof (d : Device) (f : Security → Security) : (d.modSec f).proof = d.proof := rfl
@[simp] theorem modSec_timers (d : Device) (f : Security → Security) : (d.modSec f).timers = d.timers := rfl
@[simp] theorem modSec_scribes (d : Device) (f : Security → Security) : (d.modSec f).scribes = d.scribes := rfl
@[simp] theorem modSec_bootc (d : Device) (f : Security → Security) : (d.modSec f).bootc = d.bootc := rfl
@[simp] theorem modSec_host (d : Device) (f : Security → Security) : (d.modSec f).host = d.host := rfl
@[simp] theorem modSec_pair (d : Device) (f : Security → Security) : (d.modSec f).pair = d.pair := rfl

/-! ### modJtag -/

@[simp] theorem modJtag_regs (d : Device) (f : Jtag → Jtag) : (d.modJtag f).regs = d.regs := rfl
@[simp] theorem modJtag_mem (d : Device) (f : Jtag → Jtag) : (d.modJtag f).mem = d.mem := rfl
@[simp] theorem modJtag_valid (d : Device) (f : Jtag → Jtag) : (d.modJtag f).valid = d.valid := rfl
@[simp] theorem modJtag_damage (d : Device) (f : Jtag → Jtag) : (d.modJtag f).damage = d.damage := rfl
@[simp] theorem modJtag_raising (d : Device) (f : Jtag → Jtag) : (d.modJtag f).raising = d.raising := rfl
@[simp] theorem modJtag_scribeUe (d : Device) (f : Jtag → Jtag) : (d.modJtag f).scribeUe = d.scribeUe := rfl
@[simp] theorem modJtag_timebase (d : Device) (f : Jtag → Jtag) : (d.modJtag f).timebase = d.timebase := rfl
@[simp] theorem modJtag_freeCtr (d : Device) (f : Jtag → Jtag) : (d.modJtag f).freeCtr = d.freeCtr := rfl
@[simp] theorem modJtag_etch (d : Device) (f : Jtag → Jtag) : (d.modJtag f).etch = d.etch := rfl
@[simp] theorem modJtag_ports (d : Device) (f : Jtag → Jtag) : (d.modJtag f).ports = d.ports := rfl
@[simp] theorem modJtag_sources (d : Device) (f : Jtag → Jtag) : (d.modJtag f).sources = d.sources := rfl
@[simp] theorem modJtag_routers (d : Device) (f : Jtag → Jtag) : (d.modJtag f).routers = d.routers := rfl
@[simp] theorem modJtag_seq (d : Device) (f : Jtag → Jtag) : (d.modJtag f).seq = d.seq := rfl
@[simp] theorem modJtag_doms (d : Device) (f : Jtag → Jtag) : (d.modJtag f).doms = d.doms := rfl
@[simp] theorem modJtag_tiles (d : Device) (f : Jtag → Jtag) : (d.modJtag f).tiles = d.tiles := rfl
@[simp] theorem modJtag_rack (d : Device) (f : Jtag → Jtag) : (d.modJtag f).rack = d.rack := rfl
@[simp] theorem modJtag_hrs (d : Device) (f : Jtag → Jtag) : (d.modJtag f).hrs = d.hrs := rfl
@[simp] theorem modJtag_hatch (d : Device) (f : Jtag → Jtag) : (d.modJtag f).hatch = d.hatch := rfl
@[simp] theorem modJtag_tracers (d : Device) (f : Jtag → Jtag) : (d.modJtag f).tracers = d.tracers := rfl
@[simp] theorem modJtag_presses (d : Device) (f : Jtag → Jtag) : (d.modJtag f).presses = d.presses := rfl
@[simp] theorem modJtag_power (d : Device) (f : Jtag → Jtag) : (d.modJtag f).power = d.power := rfl
@[simp] theorem modJtag_proof (d : Device) (f : Jtag → Jtag) : (d.modJtag f).proof = d.proof := rfl
@[simp] theorem modJtag_timers (d : Device) (f : Jtag → Jtag) : (d.modJtag f).timers = d.timers := rfl
@[simp] theorem modJtag_scribes (d : Device) (f : Jtag → Jtag) : (d.modJtag f).scribes = d.scribes := rfl
@[simp] theorem modJtag_bootc (d : Device) (f : Jtag → Jtag) : (d.modJtag f).bootc = d.bootc := rfl
@[simp] theorem modJtag_host (d : Device) (f : Jtag → Jtag) : (d.modJtag f).host = d.host := rfl
@[simp] theorem modJtag_pair (d : Device) (f : Jtag → Jtag) : (d.modJtag f).pair = d.pair := rfl

/-! ### modPair -/

@[simp] theorem modPair_regs (d : Device) (f : PairUnit → PairUnit) : (d.modPair f).regs = d.regs := rfl
@[simp] theorem modPair_mem (d : Device) (f : PairUnit → PairUnit) : (d.modPair f).mem = d.mem := rfl
@[simp] theorem modPair_valid (d : Device) (f : PairUnit → PairUnit) : (d.modPair f).valid = d.valid := rfl
@[simp] theorem modPair_damage (d : Device) (f : PairUnit → PairUnit) : (d.modPair f).damage = d.damage := rfl
@[simp] theorem modPair_raising (d : Device) (f : PairUnit → PairUnit) : (d.modPair f).raising = d.raising := rfl
@[simp] theorem modPair_scribeUe (d : Device) (f : PairUnit → PairUnit) : (d.modPair f).scribeUe = d.scribeUe := rfl
@[simp] theorem modPair_timebase (d : Device) (f : PairUnit → PairUnit) : (d.modPair f).timebase = d.timebase := rfl
@[simp] theorem modPair_freeCtr (d : Device) (f : PairUnit → PairUnit) : (d.modPair f).freeCtr = d.freeCtr := rfl
@[simp] theorem modPair_etch (d : Device) (f : PairUnit → PairUnit) : (d.modPair f).etch = d.etch := rfl
@[simp] theorem modPair_ports (d : Device) (f : PairUnit → PairUnit) : (d.modPair f).ports = d.ports := rfl
@[simp] theorem modPair_sources (d : Device) (f : PairUnit → PairUnit) : (d.modPair f).sources = d.sources := rfl
@[simp] theorem modPair_routers (d : Device) (f : PairUnit → PairUnit) : (d.modPair f).routers = d.routers := rfl
@[simp] theorem modPair_seq (d : Device) (f : PairUnit → PairUnit) : (d.modPair f).seq = d.seq := rfl
@[simp] theorem modPair_doms (d : Device) (f : PairUnit → PairUnit) : (d.modPair f).doms = d.doms := rfl
@[simp] theorem modPair_tiles (d : Device) (f : PairUnit → PairUnit) : (d.modPair f).tiles = d.tiles := rfl
@[simp] theorem modPair_rack (d : Device) (f : PairUnit → PairUnit) : (d.modPair f).rack = d.rack := rfl
@[simp] theorem modPair_hrs (d : Device) (f : PairUnit → PairUnit) : (d.modPair f).hrs = d.hrs := rfl
@[simp] theorem modPair_hatch (d : Device) (f : PairUnit → PairUnit) : (d.modPair f).hatch = d.hatch := rfl
@[simp] theorem modPair_tracers (d : Device) (f : PairUnit → PairUnit) : (d.modPair f).tracers = d.tracers := rfl
@[simp] theorem modPair_presses (d : Device) (f : PairUnit → PairUnit) : (d.modPair f).presses = d.presses := rfl
@[simp] theorem modPair_power (d : Device) (f : PairUnit → PairUnit) : (d.modPair f).power = d.power := rfl
@[simp] theorem modPair_proof (d : Device) (f : PairUnit → PairUnit) : (d.modPair f).proof = d.proof := rfl
@[simp] theorem modPair_timers (d : Device) (f : PairUnit → PairUnit) : (d.modPair f).timers = d.timers := rfl
@[simp] theorem modPair_scribes (d : Device) (f : PairUnit → PairUnit) : (d.modPair f).scribes = d.scribes := rfl
@[simp] theorem modPair_bootc (d : Device) (f : PairUnit → PairUnit) : (d.modPair f).bootc = d.bootc := rfl
@[simp] theorem modPair_host (d : Device) (f : PairUnit → PairUnit) : (d.modPair f).host = d.host := rfl
@[simp] theorem modPair_sec (d : Device) (f : PairUnit → PairUnit) : (d.modPair f).sec = d.sec := rfl

end Sys2Proof.Machine
end

