-- ==== Sys2Proof/Laws/Regs.lean ====
section
/-! SUPPORT. What registers and memory read after a write: the laws of `word`, `fld`, `flag` and `byte`. -/

namespace Sys2Proof.Machine

theorem word_putWord (d : Device) (a b : Nat) (w : Word) : (d.putWord a w).word b = if b = a then w else d.word b := by
  simp [Device.word, Device.putWord, mapGet_put]

theorem word_put (d : Device) (f : Fld) (v b : Nat) :
    (d.put f v).word b = if b = f.addr then setBits (d.word f.addr) f.lo f.len v else d.word b := by
  simp [Device.put, word_putWord]

/-- A register other than the field's own reads as before. -/
theorem word_put_other (d : Device) (f : Fld) (v b : Nat) (h : b ≠ f.addr) : (d.put f v).word b = d.word b := by
  simp [word_put, h]

/-- A field reads as the value put into it. -/
theorem fld_put_same (d : Device) (f : Fld) (v : Nat) (h : f.lo + f.len ≤ 32) : (d.put f v).fld f = v % 2 ^ f.len := by
  simp [Device.fld, word_put, bits_setBits_same _ _ _ _ h]

/-- A field of another register reads as before. -/
theorem fld_put_addr (d : Device) (f g : Fld) (v : Nat) (h : g.addr ≠ f.addr) : (d.put f v).fld g = d.fld g := by
  simp [Device.fld, word_put, h]

/-- A field that does not overlap the one written reads as before. -/
theorem fld_put_other (d : Device) (f g : Fld) (v : Nat)
    (h : g.addr ≠ f.addr ∨ f.lo + f.len ≤ g.lo ∨ g.lo + g.len ≤ f.lo) : (d.put f v).fld g = d.fld g := by
  by_cases ha : g.addr = f.addr
  · have h2 := h.resolve_left (not_not.2 ha)
    simp only [Device.fld, word_put, ha, if_true]
    exact bits_setBits_other _ _ _ _ _ _ h2
  · exact fld_put_addr d f g v ha

/-- A field lies within its width. -/
theorem fld_lt (d : Device) (f : Fld) : d.fld f < 2 ^ f.len := bits_lt _ _ _

/-- A one-bit field is set exactly when it is 1. -/
theorem flag_iff (d : Device) (f : Fld) (h : f.len = 1) : d.flag f = true ↔ d.fld f = 1 := by
  have h1 := fld_lt d f
  rw [h] at h1
  simp only [Device.flag, bne_iff_ne, ne_eq]
  omega

/-- Devices with the same register file read the same registers. -/
theorem word_congr {d e : Device} (h : d.regs = e.regs) (a : Nat) : d.word a = e.word a := by
  simp [Device.word, h]
theorem fld_congr {d e : Device} (h : d.regs = e.regs) (f : Fld) : d.fld f = e.fld f := by
  simp [Device.fld, word_congr h]
theorem flag_congr {d e : Device} (h : d.regs = e.regs) (f : Fld) : d.flag f = e.flag f := by
  simp [Device.flag, fld_congr h]

theorem byte_setByte (d : Device) (a b : Nat) (v : Byte) : (d.setByte a v).byte b = if b = a then v else d.byte b := by
  simp [Device.byte, Device.setByte, mapGet_put]

/-- Bytes outside the stored range read as before. -/
theorem byte_setBytes_other (d : Device) (a b : Nat) (l : List Byte) (h : b < a ∨ a + l.length ≤ b) :
    (d.setBytes a l).byte b = d.byte b := by
  induction l generalizing d a with
  | nil => rfl
  | cons x t ih =>
    simp only [List.length_cons] at h
    have h1 : b ≠ a := by omega
    rw [Device.setBytes, ih _ _ (by omega), byte_setByte, if_neg h1]

/-- A stored byte reads back. -/
theorem byte_setBytes_in (d : Device) (a i : Nat) (l : List Byte) (h : i < l.length) :
    (d.setBytes a l).byte (a + i) = l[i] := by
  induction l generalizing d a i with
  | nil => simp at h
  | cons x t ih =>
    rw [Device.setBytes]
    cases i with
    | zero => rw [byte_setBytes_other _ _ _ _ (by omega), byte_setByte]; simp
    | succ i =>
      have h2 := ih (d.setByte a x) (a + 1) i (by simpa using h)
      rw [show a + (i + 1) = a + 1 + i by omega, h2]
      simp

/-- Storing bytes keeps the canonical form of memory. -/
theorem setBytes_wf (d : Device) (a : Nat) (l : List Byte) (h : mapWf (fun _ => (0 : Byte)) d.mem = true) :
    mapWf (fun _ => (0 : Byte)) (d.setBytes a l).mem = true := by
  induction l generalizing d a with
  | nil => exact h
  | cons x t ih => exact ih _ _ (mapPut_wf _ _ _ _ h)

/-- A write inside a unit keeps the canonical form of memory. -/
theorem st_wf (d : Device) (a : Nat) (l : List Byte) (h : mapWf (fun _ => (0 : Byte)) d.mem = true) :
    mapWf (fun _ => (0 : Byte)) (d.st a l).mem = true := by
  unfold Device.st
  split
  · exact h
  · exact setBytes_wf d a l h

/-- Writing a register keeps the canonical form of the register file. -/
theorem put_wf (d : Device) (f : Fld) (v : Nat) (h : mapWf resetWord d.regs = true) :
    mapWf resetWord (d.put f v).regs = true := mapPut_wf _ _ _ _ h

/-- Clearing memory keeps its canonical form. -/
theorem clearMem_wf (d : Device) (lo len : Nat) (h : mapWf (fun _ => (0 : Byte)) d.mem = true) :
    mapWf (fun _ => (0 : Byte)) (d.clearMem lo len).mem = true := mapClear_wf _ _ _ _ h

end Sys2Proof.Machine
end

