-- ==== Sys2Proof/Laws/Commit.lean ====
section
/-! SUPPORT. The end of a command: what tidying leaves readable, and that a calm device is only tidied. -/

namespace Sys2Proof.Machine

@[simp] theorem tidy_word (d : Device) (a : Nat) : d.tidy.word a = d.word a := by
  simp [Device.tidy, Device.word]
@[simp] theorem tidy_fld (d : Device) (f : Fld) : d.tidy.fld f = d.fld f := by simp [Device.fld]
@[simp] theorem tidy_flag (d : Device) (f : Fld) : d.tidy.flag f = d.flag f := by simp [Device.flag]
@[simp] theorem tidy_byte (d : Device) (a : Nat) : d.tidy.byte a = d.byte a := by
  simp [Device.tidy, Device.byte]

/-- A tidied device is canonical. -/
theorem tidy_canon (d : Device) : d.tidy.canon = true := by
  simp [Device.canon, Memory.wf, Device.tidy, mapNorm_wf]

theorem each_id {α : Type} (d : Device) (l : List α) (f : Device → α → Device) (h : ∀ x ∈ l, f d x = d) :
    d.each l f = d := by
  unfold Device.each
  induction l with
  | nil => rfl
  | cons x t ih => rw [List.foldl_cons, h x (by simp)]; exact ih (fun y hy => h y (by simp [hy]))

/-- The end of a command whose effect leaves a calm device: the device is tidied, nothing else. -/
theorem commit_calm (old d : Device) (h : d.calm = true) : old.commit d = d.tidy := by
  simp only [Device.calm, Bool.and_eq_true, List.isEmpty_iff, List.all_eq_true, decide_eq_true_eq,
    Bool.not_eq_true', beq_iff_eq] at h
  obtain ⟨⟨⟨⟨⟨⟨⟨h1, h2⟩, h3⟩, h4⟩, h5⟩, h6⟩, h7⟩, h8⟩ := h
  have e1 : d.scribeFaults = d := by simp [Device.scribeFaults, h2, Device.each, List.eraseDups]
  have e2 : d.scribeUp = d := by
    unfold Device.scribeUp
    exact each_id _ _ _ (fun n hn => if_neg (fun hc => h4 n hn hc.1))
  have e3 : d.replyOut = d := by simp [Device.replyOut, h3]
  have e4 : d.showAlive = d := by simp [Device.showAlive, h6]
  have e5 : d.pairWatch old = d := by simp [Device.pairWatch, e4, h5]
  have e6 : d.collectAll = d := by simp [Device.collectAll, h1, sortCodes, Device.each]
  have e7 : d.restarts = d := by simp [Device.restarts, h7, h8]
  simp [Device.commit, e1, e2, e3, e5, e6, e7]

/-- Commit leaves the maps canonical and no mark of the command. -/
theorem after_settled (s : State) (d : Device) : (s.after d).settled = true := by
  simp only [State.settled, State.after, Device.commit, tidy_canon]
  rfl

end Sys2Proof.Machine
end

