-- ==== Sys2Proof/Laws/Exec.lean ====
section
/-! SUPPORT. What each command is: one equation per constructor, true by rfl. -/

namespace Sys2Proof.Machine

/-! Register accesses and link transfers (R10 to R14, R34, R40). -/

theorem exec_registerWrite (ini : Ini) (a : BitVec 40) (bytes : List Byte) (tied : Bool) (s : State) :
    exec (.registerWrite ini a bytes tied) s =
      .next (s.after ((fun d : Device => (d.tie tied ini.num a.toNat true).busWrite ini.num a.toNat bytes) s.dev)) := rfl
theorem exec_rcRead (ini : Ini) (a : BitVec 40) (len : Fin 9) (tied : Bool) (s : State) :
    exec (.rcRead ini a len tied) s =
      .next (s.after ((fun d : Device => (d.tie tied ini.num a.toNat false).readBytes ini.num a.toNat len) s.dev)) := rfl
theorem exec_linkTransfer (l : LinkId) (flip : List Nat) (s : State) :
    exec (.linkTransfer l flip) s =
      .next (s.after ((fun d : Device => d.linkMove l flip) s.dev)) := rfl

/-! Etch cores: steps, events, run control (R72, R92 to R100, R149). -/

theorem exec_etchStepOpen (n : Fin 64) (s : State) :
    exec (.etchStepOpen n) s =
      .next (s.after ((fun d : Device => d.etchStepOpen n) s.dev)) := rfl
theorem exec_eventConsume (n : Fin 64) (bufUe : Bool) (s : State) :
    exec (.eventConsume n bufUe) s =
      .next (s.after ((fun d : Device => d.eventConsume n bufUe) s.dev)) := rfl
theorem exec_overflowRowFetchDone (n : Fin 64) (i : Fin 8) (s : State) :
    exec (.overflowRowFetchDone n i) s =
      .next (s.after ((fun d : Device => d.overflowDone n i) s.dev)) := rfl
theorem exec_updatePass (n : Fin 64) (s : State) :
    exec (.updatePass n) s =
      .next (s.after ((fun d : Device => d.updatePass n) s.dev)) := rfl
theorem exec_eventSend (i : Fin 105) (s : State) :
    exec (.eventSend i) s =
      .next (s.after ((fun d : Device => if 64 ≤ i.val ∧ i.val < 72 then d.tracerSend (i - 64) else d.eventSend i) s.dev)) := rfl
theorem exec_flagLineRelease (n : Fin 64) (pin : Fin 4) (s : State) :
    exec (.flagLineRelease n pin) s =
      .next (s.after ((fun d : Device => d.flagLineRelease n pin) s.dev)) := rfl
theorem exec_etchRun (ini : Ini) (n : Fin 64) (s : State) :
    exec (.etchRun ini n) s =
      .next (s.after ((fun d : Device => d.writeFld ini (F.ETCH_CTRL_RUN n) 1) s.dev)) := rfl
theorem exec_etchStop (ini : Ini) (n : Fin 64) (s : State) :
    exec (.etchStop ini n) s =
      .next (s.after ((fun d : Device => d.writeFld ini (F.ETCH_CTRL_RUN n) 0) s.dev)) := rfl
theorem exec_etchPause (ini : Ini) (n : Fin 64) (s : State) :
    exec (.etchPause ini n) s =
      .next (s.after ((fun d : Device => d.writeFld ini (F.ETCH_CTRL_PAUSE n) 1) s.dev)) := rfl
theorem exec_etchResume (ini : Ini) (n : Fin 64) (s : State) :
    exec (.etchResume ini n) s =
      .next (s.after ((fun d : Device => d.writeFld ini (F.ETCH_CTRL_PAUSE n) 0) s.dev)) := rfl

/-! Fixing learned weights into plate memory (R127 to R132). -/

theorem exec_fixRequest (ini : Ini) (n : Fin 64) (next : Bool) (s : State) :
    exec (.fixRequest ini n next) s =
      .next (s.after ((fun d : Device => d.writeReg ini (F.ETCH_FIX_CTRL_REQ n).addr (BitVec.ofNat 32 (2 ^ 31 + b2n next <<< 30))) s.dev)) := rfl
theorem exec_fixSnapshot (n : Fin 64) (vf : List Bool) (s : State) :
    exec (.fixSnapshot n vf) s =
      .next (s.after ((fun d : Device => d.fixSnapshot n vf) s.dev)) := rfl
theorem exec_fixPageCopy (n : Fin 64) (vf : List Bool) (s : State) :
    exec (.fixPageCopy n vf) s =
      .next (s.after ((fun d : Device => d.fixPageCopy n vf) s.dev)) := rfl
theorem exec_fixCopyFirst (ini : Ini) (n : Fin 64) (off : BitVec 22) (v : Word) (s : State) :
    exec (.fixCopyFirst ini n off v) s =
      .next (s.after ((fun d : Device => d.writeReg ini (etchBase n + 4 * off.toNat) v) s.dev)) := rfl
theorem exec_fixCommit (n : Fin 64) (vf : List Bool) (s : State) :
    exec (.fixCommit n vf) s =
      .next (s.after ((fun d : Device => d.fixCommit n vf) s.dev)) := rfl
theorem exec_fixErase (ini : Ini) (n : Fin 64) (vf : List Bool) (s : State) :
    exec (.fixErase ini n vf) s =
      .next (s.after ((fun d : Device => d.viaPath ini (F.ETCH_FIX_CTRL_ERASE n).addr (fun _ d => ({ d with verifyFails := vf } : Device).fixCtrlWrite n (BitVec.ofNat 32 (2 ^ 29)))) s.dev)) := rfl
theorem exec_wearRefill (n : Fin 64) (s : State) :
    exec (.wearRefill n) s =
      .next (s.after ((fun d : Device => d.wearRefill n) s.dev)) := rfl

/-! The Stipple net: flits, arrivals, the step barrier, spill requests (R141 to R167). -/

theorem exec_flitForward (r : Fin 112) (p : Fin 5) (s : State) :
    exec (.flitForward r p) s =
      .next (s.after ((fun d : Device => d.flitForward r p) s.dev)) := rfl
theorem exec_eventArrive (n : Fin 64) (s : State) :
    exec (.eventArrive n) s =
      .next (s.after ((fun d : Device => d.eventArrive n) s.dev)) := rfl
theorem exec_closeArrive (n : Fin 64) (s : State) :
    exec (.closeArrive n) s =
      .next (s.after ((fun d : Device => d.closeArrive n) s.dev)) := rfl
theorem exec_ackArrive (i : Fin 105) (s : State) :
    exec (.ackArrive i) s =
      .next (s.after ((fun d : Device => d.ackArrive i) s.dev)) := rfl
theorem exec_doneReduce (r : Fin 112) (s : State) :
    exec (.doneReduce r) s =
      .next (s.after ((fun d : Device => d.doneReduce r) s.dev)) := rfl
theorem exec_stepAdvance (s : State) :
    exec .stepAdvance s =
      .next (s.after ((fun d : Device => d.stepAdvance) s.dev)) := rfl
theorem exec_openArrive (i : Fin 105) (s : State) :
    exec (.openArrive i) s =
      .next (s.after ((fun d : Device => d.openArrive i) s.dev)) := rfl
theorem exec_countStallTimeout (n : Fin 64) (s : State) :
    exec (.countStallTimeout n) s =
      .next (s.after ((fun d : Device => d.stallTimeout n) s.dev)) := rfl
theorem exec_delayUnitInject (s : State) :
    exec .delayUnitInject s =
      .next (s.after ((fun d : Device => d.delayInject) s.dev)) := rfl
theorem exec_stippleStart (ini : Ini) (s : State) :
    exec (.stippleStart ini) s =
      .next (s.after ((fun d : Device => d.writeFld ini F.STIPPLE_CTRL_EN 1) s.dev)) := rfl
theorem exec_stippleStop (ini : Ini) (s : State) :
    exec (.stippleStop ini) s =
      .next (s.after ((fun d : Device => d.writeFld ini F.STIPPLE_CTRL_EN 0) s.dev)) := rfl
theorem exec_stippleStopped (s : State) :
    exec .stippleStopped s =
      .next (s.after ((fun d : Device => d.stippleStopped) s.dev)) := rfl
theorem exec_rackRequestSend (n : Fin 64) (s : State) :
    exec (.rackRequestSend n) s =
      .next (s.after ((fun d : Device => d.rackRequestSend n) s.dev)) := rfl
theorem exec_rackResponseArrive (n : Fin 64) (s : State) :
    exec (.rackResponseArrive n) s =
      .next (s.after ((fun d : Device => d.rackResponse n) s.dev)) := rfl
theorem exec_rackResponseTimeout (n : Fin 64) (s : State) :
    exec (.rackResponseTimeout n) s =
      .next (s.after ((fun d : Device => d.rackTimeout n) s.dev)) := rfl

/-! Graver tiles: instructions, frames, bank ownership, the scratchpad, spike-count export (R174 to R211). -/

theorem exec_tileEnd (n : Fin 32) (s : State) :
    exec (.tileEnd n) s =
      .next (s.after ((fun d : Device => d.tileEnd n) s.dev)) := rfl
theorem exec_tileLoop (n : Fin 32) (s : State) :
    exec (.tileLoop n) s =
      .next (s.after ((fun d : Device => d.tileLoop n) s.dev)) := rfl
theorem exec_mma (n : Fin 32) (ph : Phase) (clash : List Clash) (s : State) :
    exec (.mma n ph clash) s =
      .next (s.after ((fun d : Device => match ph with | .issue => d.issue n 2 | .execute => d.mmaRun n clash) s.dev)) := rfl
theorem exec_mmaComplete (n : Fin 32) (k : Nat) (s : State) :
    exec (.mmaComplete n k) s =
      .next (s.after ((fun d : Device => d.mmaComplete n k) s.dev)) := rfl
theorem exec_drain (n : Fin 32) (ph : Phase) (clash : List Clash) (parUe : BitVec 4) (s : State) :
    exec (.drain n ph clash parUe) s =
      .next (s.after ((fun d : Device => match ph with | .issue => d.issue n 3 | .execute => d.drainRun n clash parUe.toNat) s.dev)) := rfl
theorem exec_lds (n : Fin 32) (ph : Phase) (clash : List Clash) (s : State) :
    exec (.lds n ph clash) s =
      .next (s.after ((fun d : Device => match ph with | .issue => d.issue n 4 | .execute => d.ldsRun n clash) s.dev)) := rfl
theorem exec_move (n : Fin 32) (ph : Phase) (clash : List Clash) (s : State) :
    exec (.move n ph clash) s =
      .next (s.after ((fun d : Device => match ph with | .issue => d.issue n 5 | .execute => d.moveRun n clash) s.dev)) := rfl
theorem exec_waitl (n : Fin 32) (s : State) :
    exec (.waitl n) s =
      .next (s.after ((fun d : Device => d.waitl n) s.dev)) := rfl
theorem exec_sync (n : Fin 32) (s : State) :
    exec (.sync n) s =
      .next (s.after ((fun d : Device => d.syncUnits n) s.dev)) := rfl
theorem exec_setag (n : Fin 32) (s : State) :
    exec (.setag n) s =
      .next (s.after ((fun d : Device => d.setAg n) s.dev)) := rfl
theorem exec_emitClose (n : Fin 32) (ph : Phase) (s : State) :
    exec (.emitClose n ph) s =
      .next (s.after ((fun d : Device => match ph with | .issue => d.issue n 9 | .execute => d.emitClose n) s.dev)) := rfl
theorem exec_gate (n : Fin 32) (clash : List Clash) (s : State) :
    exec (.gate n clash) s =
      .next (s.after ((fun d : Device => d.gate n clash) s.dev)) := rfl
theorem exec_tileFrameDone (n : Fin 32) (s : State) :
    exec (.tileFrameDone n) s =
      .next (s.after ((fun d : Device => d.tileFrameDone n) s.dev)) := rfl
theorem exec_emitterEventSend (n : Fin 32) (s : State) :
    exec (.emitterEventSend n) s =
      .next (s.after ((fun d : Device => d.eventSend (72 + n)) s.dev)) := rfl
theorem exec_tileRunWrite (ini : Ini) (n : Fin 32) (run : Bool) (s : State) :
    exec (.tileRunWrite ini n run) s =
      .next (s.after ((fun d : Device => d.writeFld ini (F.GRAVER_CTRL n) (b2n run)) s.dev)) := rfl
theorem exec_bankClaim (ini : Ini) (n : Fin 32) (b : Fin 16) (s : State) :
    exec (.bankClaim ini n b) s =
      .next (s.after ((fun d : Device => d.writeCmd ini (F.GRAVER_BANK_OWN_REQ n b) ini.num) s.dev)) := rfl
theorem exec_bankRelease (ini : Ini) (n : Fin 32) (b : Fin 16) (s : State) :
    exec (.bankRelease ini n b) s =
      .next (s.after ((fun d : Device => d.writeCmd ini (F.GRAVER_BANK_OWN_REQ n b) 0) s.dev)) := rfl
theorem exec_bankRevoke (n : Fin 32) (b : Fin 16) (owner : Fin 32) (s : State) :
    exec (.bankRevoke n b owner) s =
      .next (s.after ((fun d : Device => d.writeCmd .hg (F.GRAVER_BANK_OWN_REQ n b) owner) s.dev)) := rfl
theorem exec_scratchpadLaneWrite (ini : Ini) (n : Fin 32) (lane : BitVec 20) (v : Word) (s : State) :
    exec (.scratchpadLaneWrite ini n lane v) s =
      .next (s.after ((fun d : Device => d.writeReg ini (graverBase n + 0x400000 + 4 * lane.toNat) v) s.dev)) := rfl
theorem exec_setAliasWrite (ini : Ini) (n : Fin 32) (lane : BitVec 20) (v : Word) (s : State) :
    exec (.setAliasWrite ini n lane v) s =
      .next (s.after ((fun d : Device => d.writeReg ini (graverBase n + 0x800000 + 4 * lane.toNat) v) s.dev)) := rfl
theorem exec_clearAliasWrite (ini : Ini) (n : Fin 32) (lane : BitVec 20) (v : Word) (s : State) :
    exec (.clearAliasWrite ini n lane v) s =
      .next (s.after ((fun d : Device => d.writeReg ini (graverBase n + 0xC00000 + 4 * lane.toNat) v) s.dev)) := rfl
theorem exec_scvSnapshot (n : Fin 64) (ue : List (Fin 128)) (s : State) :
    exec (.scvSnapshot n ue) s =
      .next (s.after ((fun d : Device => d.scvSnapshot n (ue.map Fin.val)) s.dev)) := rfl

/-! The Hatch mesh: schedules, tokens, landings, frames, aborts, broadcast load (R230 to R253). -/

theorem exec_slotRun (r : Fin 112) (p : Fin 5) (s : State) :
    exec (.slotRun r p) s =
      .next (s.after ((fun d : Device => d.slotRun r p) s.dev)) := rfl
theorem exec_slotLoop (r : Fin 112) (out : Bool) (p : Fin 5) (s : State) :
    exec (.slotLoop r out p) s =
      .next (s.after ((fun d : Device => d.slotLoop r out p) s.dev)) := rfl
theorem exec_slotEnd (r : Fin 112) (out : Bool) (p : Fin 5) (s : State) :
    exec (.slotEnd r out p) s =
      .next (s.after ((fun d : Device => d.slotEnd r out p) s.dev)) := rfl
theorem exec_fanRun (r : Fin 112) (p : Fin 5) (s : State) :
    exec (.fanRun r p) s =
      .next (s.after ((fun d : Device => d.fanRun r p) s.dev)) := rfl
theorem exec_tokenTake (r : Fin 112) (o : Fin 5) (s : State) :
    exec (.tokenTake r o) s =
      .next (s.after ((fun d : Device => d.tokenTake r o) s.dev)) := rfl
theorem exec_tokenLanding (r : Fin 112) (p : Fin 5) (clash : List Clash) (s : State) :
    exec (.tokenLanding r p clash) s =
      .next (s.after ((fun d : Device => d.tokenLanding r p clash) s.dev)) := rfl
theorem exec_memPortRead (r : Fin 112) (s : State) :
    exec (.memPortRead r) s =
      .next (s.after ((fun d : Device => d.memPortRead r) s.dev)) := rfl
theorem exec_hatchFrameStart (s : State) :
    exec .hatchFrameStart s =
      .next (s.after ((fun d : Device => d.frameStart) s.dev)) := rfl
theorem exec_routerDone (r : Fin 112) (s : State) :
    exec (.routerDone r) s =
      .next (s.after ((fun d : Device => d.routerDone r) s.dev)) := rfl
theorem exec_frameComplete (s : State) :
    exec .frameComplete s =
      .next (s.after ((fun d : Device => d.frameComplete) s.dev)) := rfl
theorem exec_stallSentinelExpire (cuts : List Cut) (s : State) :
    exec (.stallSentinelExpire cuts) s =
      .next (s.after ((fun d : Device => d.sentinelExpire cuts) s.dev)) := rfl
theorem exec_hatchAbort (ini : Ini) (cuts : List Cut) (s : State) :
    exec (.hatchAbort ini cuts) s =
      .next (s.after ((fun d : Device => d.viaPath ini F.HATCH_CTRL_ABORT.addr (fun _ d => d.hatchAbort cuts)) s.dev)) := rfl
theorem exec_abortComplete (s : State) :
    exec .abortComplete s =
      .next (s.after ((fun d : Device => d.abortComplete) s.dev)) := rfl
theorem exec_rewindTimeout (s : State) :
    exec .rewindTimeout s =
      .next (s.after ((fun d : Device => d.rewindExpire) s.dev)) := rfl
theorem exec_hatchModeWrite (ini : Ini) (mode : BitVec 2) (s : State) :
    exec (.hatchModeWrite ini mode) s =
      .next (s.after ((fun d : Device => d.writeFld ini F.HATCH_CTRL_MODE mode.toNat) s.dev)) := rfl
theorem exec_loadBlockReceive (r : Fin 112) (s : State) :
    exec (.loadBlockReceive r) s =
      .next (s.after ((fun d : Device => d.loadBlock r) s.dev)) := rfl
theorem exec_loadWindowWrite (ini : Ini) (win : BitVec 16) (s : State) :
    exec (.loadWindowWrite ini win) s =
      .next (s.after ((fun d : Device => d.writeCmd ini F.HATCH_LOAD_CTRL win.toNat) s.dev)) := rfl

/-! CSI-2 ports (R257 to R271, R352). -/

theorem exec_longPacketReceive (n : Fin 8) (k : LongPkt) (s : State) :
    exec (.longPacketReceive n k) s =
      .next (s.after ((fun d : Device => d.longPacket n k) s.dev)) := rfl
theorem exec_frameStartPacket (n : Fin 8) (k : ShortPkt) (s : State) :
    exec (.frameStartPacket n k) s =
      .next (s.after ((fun d : Device => d.frameStartPacket n k) s.dev)) := rfl
theorem exec_frameEndPacket (n : Fin 8) (k : ShortPkt) (s : State) :
    exec (.frameEndPacket n k) s =
      .next (s.after ((fun d : Device => d.frameEndPkt n k) s.dev)) := rfl
theorem exec_lineMarkerPacket (n : Fin 8) (isEnd : Bool) (k : ShortPkt) (s : State) :
    exec (.lineMarkerPacket n isEnd k) s =
      .next (s.after ((fun d : Device => d.lineMarker n isEnd k) s.dev)) := rfl
theorem exec_genericShortPacket (n : Fin 8) (dt : Fin 8) (k : ShortPkt) (s : State) :
    exec (.genericShortPacket n dt k) s =
      .next (s.after ((fun d : Device => d.genericShort n dt k) s.dev)) := rfl
theorem exec_phyBurstError (n : Fin 8) (header : Bool) (s : State) :
    exec (.phyBurstError n header) s =
      .next (s.after ((fun d : Device => d.phyBurstError n header) s.dev)) := rfl
theorem exec_linkEnable (ini : Ini) (p : CsiPort) (s : State) :
    exec (.linkEnable ini p) s =
      .next (s.after ((fun d : Device => d.writeFld ini p.en 1) s.dev)) := rfl
theorem exec_linkDisable (ini : Ini) (p : CsiPort) (s : State) :
    exec (.linkDisable ini p) s =
      .next (s.after ((fun d : Device => d.writeFld ini p.en 0) s.dev)) := rfl
theorem exec_linkDisableTimeout (p : CsiPort) (part : Option PartPkt) (s : State) :
    exec (.linkDisableTimeout p part) s =
      .next (s.after ((fun d : Device => d.linkDisableTimeout p part) s.dev)) := rfl
theorem exec_laneActivityWake (n : Fin 8) (s : State) :
    exec (.laneActivityWake n) s =
      .next (s.after ((fun d : Device => d.laneWake n) s.dev)) := rfl
theorem exec_periodicDeskew (k : Fin 4) (s : State) :
    exec (.periodicDeskew k) s =
      .next (s.after ((fun d : Device => d.periodicDeskew k) s.dev)) := rfl
theorem exec_packetTransmit (k : Fin 4) (ue : Bool) (s : State) :
    exec (.packetTransmit k ue) s =
      .next (s.after ((fun d : Device => d.packetTransmit k ue) s.dev)) := rfl
theorem exec_deskewReceive (n : Fin 8) (ok : Bool) (s : State) :
    exec (.deskewReceive n ok) s =
      .next (s.after ((fun d : Device => d.deskewReceive n ok) s.dev)) := rfl
theorem exec_lp11StopState (p : CsiPort) (s : State) :
    exec (.lp11StopState p) s =
      .next (s.after ((fun d : Device => d.stopState p) s.dev)) := rfl
theorem exec_arrHoldExpire (p : CsiPort) (s : State) :
    exec (.arrHoldExpire p) s =
      .next (s.after ((fun d : Device => d.arrHold p) s.dev)) := rfl

/-! Tracers and Presses (R273 to R297). -/

theorem exec_inputUnitAccept (n : Fin 8) (s : State) :
    exec (.inputUnitAccept n) s =
      .next (s.after ((fun d : Device => d.inputUnit n) s.dev)) := rfl
theorem exec_encoderUnit (n : Fin 8) (j : Fin 4) (ue : List Nat) (s : State) :
    exec (.encoderUnit n j ue) s =
      .next (s.after ((fun d : Device => d.encoderUnit n j ue) s.dev)) := rfl
theorem exec_tracerEventSend (n : Fin 8) (s : State) :
    exec (.tracerEventSend n) s =
      .next (s.after ((fun d : Device => d.tracerSend n) s.dev)) := rfl
theorem exec_tracerStepClose (n : Fin 8) (s : State) :
    exec (.tracerStepClose n) s =
      .next (s.after ((fun d : Device => d.tracerClose n) s.dev)) := rfl
theorem exec_tracerFrameReady (n : Fin 8) (s : State) :
    exec (.tracerFrameReady n) s =
      .next (s.after ((fun d : Device => d.tracerReady n) s.dev)) := rfl
theorem exec_placementToken (n : Fin 8) (ue : BitVec 16) (s : State) :
    exec (.placementToken n ue) s =
      .next (s.after ((fun d : Device => d.placeToken n ue.toNat) s.dev)) := rfl
theorem exec_unitRelease (n : Fin 8) (j : Fin 4) (s : State) :
    exec (.unitRelease n j) s =
      .next (s.after ((fun d : Device => d.unitRelease n j) s.dev)) := rfl
theorem exec_pressTokenTake (k : Fin 4) (s : State) :
    exec (.pressTokenTake k) s =
      .next (s.after ((fun d : Device => d.pressTake k) s.dev)) := rfl
theorem exec_frameTrailerSend (k : Fin 4) (s : State) :
    exec (.frameTrailerSend k) s =
      .next (s.after ((fun d : Device => d.frameTrailer k) s.dev)) := rfl
theorem exec_readoutGroup (k : Fin 4) (s : State) :
    exec (.readoutGroup k) s =
      .next (s.after ((fun d : Device => d.readoutGroup k) s.dev)) := rfl
theorem exec_annotationSend (k : Fin 4) (s : State) :
    exec (.annotationSend k) s =
      .next (s.after ((fun d : Device => d.annotationSend k) s.dev)) := rfl
theorem exec_heartbeatSend (k : Fin 4) (s : State) :
    exec (.heartbeatSend k) s =
      .next (s.after ((fun d : Device => d.heartbeat k) s.dev)) := rfl
theorem exec_repeatBurst (k : Fin 4) (bytes : List Byte) (pkts : Nat) (s : State) :
    exec (.repeatBurst k bytes pkts) s =
      .next (s.after ((fun d : Device => d.repeatBurst k bytes pkts) s.dev)) := rfl

/-! Rack queues (R306 to R323, R164). -/

theorem exec_rackProduce (tied ue : Bool) (s : State) :
    exec (.rackProduce tied ue) s =
      .next (s.after ((fun d : Device => (d.tieRack tied).rackProduceReq ue) s.dev)) := rfl
theorem exec_blockedProduceRetry (q : BitVec 22) (ue : Bool) (s : State) :
    exec (.blockedProduceRetry q ue) s =
      .next (s.after ((fun d : Device => d.blockedRetry q.toNat ue) s.dev)) := rfl
theorem exec_rackConsume (claimant : Fin 128) (q : BitVec 22) (tied ue : Bool) (s : State) :
    exec (.rackConsume claimant q tied ue) s =
      .next (s.after ((fun d : Device => (d.tieRack tied).rackConsume claimant q.toNat ue) s.dev)) := rfl
theorem exec_consumeDue (tied ue : Bool) (s : State) :
    exec (.consumeDue tied ue) s =
      .next (s.after ((fun d : Device => (d.tieRack tied).consumeDueReq ue) s.dev)) := rfl
theorem exec_dqRead (ini : Ini) (s : State) :
    exec (.dqRead ini) s =
      .next (s.after ((fun d : Device => d.writeReg ini 0x0320000104 1) s.dev)) := rfl
theorem exec_dqInit (ini : Ini) (s : State) :
    exec (.dqInit ini) s =
      .next (s.after ((fun d : Device => d.writeReg ini 0x0320000104 2) s.dev)) := rfl
theorem exec_dqDisable (ini : Ini) (s : State) :
    exec (.dqDisable ini) s =
      .next (s.after ((fun d : Device => d.writeReg ini 0x0320000104 3) s.dev)) := rfl
theorem exec_claimP (ini : Ini) (s : State) :
    exec (.claimP ini) s =
      .next (s.after ((fun d : Device => d.writeReg ini 0x0320000104 4) s.dev)) := rfl
theorem exec_claimC (ini : Ini) (s : State) :
    exec (.claimC ini) s =
      .next (s.after ((fun d : Device => d.writeReg ini 0x0320000104 5) s.dev)) := rfl
theorem exec_releaseP (ini : Ini) (s : State) :
    exec (.releaseP ini) s =
      .next (s.after ((fun d : Device => d.writeReg ini 0x0320000104 6) s.dev)) := rfl
theorem exec_releaseC (ini : Ini) (s : State) :
    exec (.releaseC ini) s =
      .next (s.after ((fun d : Device => d.writeReg ini 0x0320000104 7) s.dev)) := rfl
theorem exec_revokeP (ini : Ini) (s : State) :
    exec (.revokeP ini) s =
      .next (s.after ((fun d : Device => d.writeReg ini 0x0320000104 8) s.dev)) := rfl
theorem exec_revokeC (ini : Ini) (s : State) :
    exec (.revokeC ini) s =
      .next (s.after ((fun d : Device => d.writeReg ini 0x0320000104 9) s.dev)) := rfl
theorem exec_flushOne (ini : Ini) (s : State) :
    exec (.flushOne ini) s =
      .next (s.after ((fun d : Device => d.writeReg ini 0x0320000104 10) s.dev)) := rfl
theorem exec_reserve (ini : Ini) (s : State) :
    exec (.reserve ini) s =
      .next (s.after ((fun d : Device => d.writeReg ini 0x0320000120 1) s.dev)) := rfl
theorem exec_commit (ini : Ini) (s : State) :
    exec (.commit ini) s =
      .next (s.after ((fun d : Device => d.writeReg ini 0x0320000120 2) s.dev)) := rfl
theorem exec_swAbort (ini : Ini) (s : State) :
    exec (.swAbort ini) s =
      .next (s.after ((fun d : Device => d.writeReg ini 0x0320000120 3) s.dev)) := rfl
theorem exec_peek (ini : Ini) (s : State) :
    exec (.peek ini) s =
      .next (s.after ((fun d : Device => d.writeReg ini 0x0320000120 4) s.dev)) := rfl
theorem exec_swRelease (ini : Ini) (s : State) :
    exec (.swRelease ini) s =
      .next (s.after ((fun d : Device => d.writeReg ini 0x0320000120 5) s.dev)) := rfl
theorem exec_reservationTimeout (q : BitVec 22) (s : State) :
    exec (.reservationTimeout q) s =
      .next (s.after ((fun d : Device => d.resvTimeout q.toNat) s.dev)) := rfl
theorem exec_rhInRecord (s : State) :
    exec .rhInRecord s =
      .next (s.after ((fun d : Device => d.rhInRecord) s.dev)) := rfl
theorem exec_rhOutRecord (s : State) :
    exec .rhOutRecord s =
      .next (s.after ((fun d : Device => d.rhOutRecord) s.dev)) := rfl
theorem exec_rackStart (ini : Ini) (s : State) :
    exec (.rackStart ini) s =
      .next (s.after ((fun d : Device => d.writeFld ini F.RACK_CTRL_EN 1) s.dev)) := rfl
theorem exec_rackRunning (s : State) :
    exec .rackRunning s =
      .next (s.after ((fun d : Device => d.rackRunning) s.dev)) := rfl
theorem exec_rackStop (ini : Ini) (s : State) :
    exec (.rackStop ini) s =
      .next (s.after ((fun d : Device => d.writeFld ini F.RACK_CTRL_EN 0) s.dev)) := rfl
theorem exec_rackStopped (s : State) :
    exec .rackStopped s =
      .next (s.after ((fun d : Device => d.rackStopped) s.dev)) := rfl
theorem exec_rackFlush (ini : Ini) (s : State) :
    exec (.rackFlush ini) s =
      .next (s.after ((fun d : Device => d.writeFld ini F.RACK_CTRL_FLUSH 1) s.dev)) := rfl

/-! Memory integrity: Burnishers, correction, remapping, invalidation, raw access, refresh (R333 to R344). -/

theorem exec_scrubRead (b : IntBlk) (vf : List Bool) (clash : Option Clash) (bitmap : Bool) (s : State) :
    exec (.scrubRead b vf clash bitmap) s =
      .next (s.after ((fun d : Device => d.scrubRead b vf clash bitmap) s.dev)) := rfl
theorem exec_correctionWriteback (b : IntBlk) (s : State) :
    exec (.correctionWriteback b) s =
      .next (s.after ((fun d : Device => d.correction b) s.dev)) := rfl
theorem exec_remapWrite (ini : Ini) (b : IntBlk) (k e : Fin 32) (v : Word) (s : State) :
    exec (.remapWrite ini b k e v) s =
      .next (s.after ((fun d : Device => d.writeReg ini (b.remapAddr k e) (v ||| 0x80000000)) s.dev)) := rfl
theorem exec_logClear (ini : Ini) (b : IntBlk) (s : State) :
    exec (.logClear ini b) s =
      .next (s.after ((fun d : Device => d.writeReg ini b.logClearAddr 1) s.dev)) := rfl
theorem exec_invalGo (ini : Ini) (m : Fin 4) (s : State) :
    exec (.invalGo ini m) s =
      .next (s.after ((fun d : Device => d.writeCmd ini (F.MC_INVAL_CMD_GO m) 1) s.dev)) := rfl
theorem exec_invalDone (m : Fin 4) (s : State) :
    exec (.invalDone m) s =
      .next (s.after ((fun d : Device => d.invalDone m) s.dev)) := rfl
theorem exec_rawRead (ini : Ini) (b : IntBlk) (s : State) :
    exec (.rawRead ini b) s =
      .next (s.after ((fun d : Device => d.viaPath ini b.rawCmdAddr (fun _ d => d.rawCmd ini.num b.block 1 [])) s.dev)) := rfl
theorem exec_rawWrite (ini : Ini) (b : IntBlk) (vf : List Bool) (s : State) :
    exec (.rawWrite ini b vf) s =
      .next (s.after ((fun d : Device => d.viaPath ini b.rawCmdAddr (fun _ d => d.rawCmd ini.num b.block 2 vf)) s.dev)) := rfl
theorem exec_rawGet (ini : Ini) (b : IntBlk) (s : State) :
    exec (.rawGet ini b) s =
      .next (s.after ((fun d : Device => d.viaPath ini b.rawCmdAddr (fun _ d => d.rawCmd ini.num b.block 3 [])) s.dev)) := rfl
theorem exec_rawPut (ini : Ini) (b : IntBlk) (s : State) :
    exec (.rawPut ini b) s =
      .next (s.after ((fun d : Device => d.viaPath ini b.rawCmdAddr (fun _ d => d.rawCmd ini.num b.block 4 [])) s.dev)) := rfl
theorem exec_refreshRatePoll (m rate : Fin 4) (hot : Bool) (s : State) :
    exec (.refreshRatePoll m rate hot) s =
      .next (s.after ((fun d : Device => d.refreshPoll m rate hot) s.dev)) := rfl

/-! Power domains, bands, sensors, the power policy and Hardground (R351 to R370). -/

theorem exec_voteWrite (ini : Ini) (cl : Fin 32) (w : Fin 8) (v : Word) (s : State) :
    exec (.voteWrite ini cl w v) s =
      .next (s.after ((fun d : Device => d.writeReg ini (F.PWR_VOTE cl w).addr v) s.dev)) := rfl
theorem exec_domainRaise (i : Fin 127) (s : State) :
    exec (.domainRaise i) s =
      .next (s.after ((fun d : Device => d.domainRaise i) s.dev)) := rfl
theorem exec_wakeStepReady (i : Fin 127) (s : State) :
    exec (.wakeStepReady i) s =
      .next (s.after ((fun d : Device => d.wakeStep i) s.dev)) := rfl
theorem exec_wakeStepTimeout (i : Fin 127) (s : State) :
    exec (.wakeStepTimeout i) s =
      .next (s.after ((fun d : Device => d.wakeTimeout i) s.dev)) := rfl
theorem exec_lowerHoldExpire (i : Fin 127) (s : State) :
    exec (.lowerHoldExpire i) s =
      .next (s.after ((fun d : Device => d.holdExpire i) s.dev)) := rfl
theorem exec_domainIsolate (i : Fin 127) (s : State) :
    exec (.domainIsolate i) s =
      .next (s.after ((fun d : Device => d.isolate i) s.dev)) := rfl
theorem exec_drainLimitExpire (i : Fin 127) (s : State) :
    exec (.drainLimitExpire i) s =
      .next (s.after ((fun d : Device => d.drainExpire i) s.dev)) := rfl
theorem exec_forcedLowerTimeout (i : Fin 127) (s : State) :
    exec (.forcedLowerTimeout i) s =
      .next (s.after ((fun d : Device => d.forcedTimeout i) s.dev)) := rfl
theorem exec_i3cAddressWake (s : State) :
    exec .i3cAddressWake s =
      .next (s.after ((fun d : Device => d.addressWake) s.dev)) := rfl
theorem exec_bandChangeStart (s : State) :
    exec .bandChangeStart s =
      .next (s.after ((fun d : Device => d.bandStart) s.dev)) := rfl
theorem exec_bandChangeEnd (s : State) :
    exec .bandChangeEnd s =
      .next (s.after ((fun d : Device => d.bandEnd) s.dev)) := rfl
theorem exec_sensorSample (i : Fin 16) (reading : Option (BitVec 16)) (s : State) :
    exec (.sensorSample i reading) s =
      .next (s.after ((fun d : Device => d.sensorSample i reading) s.dev)) := rfl
theorem exec_railSample (r : Fin 9) (mw : BitVec 32) (s : State) :
    exec (.railSample r mw) s =
      .next (s.after ((fun d : Device => d.railSample r mw) s.dev)) := rfl
theorem exec_powerPolicyStep (s : State) :
    exec .powerPolicyStep s =
      .next (s.after ((fun d : Device => d.policyStep) s.dev)) := rfl
theorem exec_capExceeded (s : State) :
    exec .capExceeded s =
      .next (s.after ((fun d : Device => d.capExceeded) s.dev)) := rfl
theorem exec_thermalWarn (s : State) :
    exec .thermalWarn s =
      .next (s.after ((fun d : Device => d.thermalWarn) s.dev)) := rfl
theorem exec_thermalTrip (s : State) :
    exec .thermalTrip s =
      .next (s.after ((fun d : Device => d.thermalTrip) s.dev)) := rfl
theorem exec_tripLimitTimer (s : State) :
    exec .tripLimitTimer s =
      .next (s.after ((fun d : Device => d.tripLimitTimer) s.dev)) := rfl
theorem exec_mcHotCause (s : State) :
    exec .mcHotCause s =
      .next (s.after ((fun d : Device => d.mcHotCause) s.dev)) := rfl
theorem exec_sensorCause (s : State) :
    exec .sensorCause s =
      .next (s.after ((fun d : Device => d.sensorCause) s.dev)) := rfl
theorem exec_watchdogExpire (s : State) :
    exec .watchdogExpire s =
      .next (s.after ((fun d : Device => d.watchdogExpire) s.dev)) := rfl
theorem exec_causeClear (cause : Fin 5) (s : State) :
    exec (.causeClear cause) s =
      .next (s.after ((fun d : Device => d.causeClear cause) s.dev)) := rfl
theorem exec_hgKick (ini : Ini) (s : State) :
    exec (.hgKick ini) s =
      .next (s.after ((fun d : Device => d.writeCmd ini F.HG_KICK 1) s.dev)) := rfl
theorem exec_hgRelease (ini : Ini) (s : State) :
    exec (.hgRelease ini) s =
      .next (s.after ((fun d : Device => d.writeCmd ini F.HG_RELEASE 1) s.dev)) := rfl
theorem exec_hgCfgWrite (ini : Ini) (v : Word) (s : State) :
    exec (.hgCfgWrite ini v) s =
      .next (s.after ((fun d : Device => d.writeReg ini F.HG_CFG_CAP.addr v) s.dev)) := rfl
theorem exec_regulatorFloorTimeout (s : State) :
    exec .regulatorFloorTimeout s =
      .next (s.after ((fun d : Device => d.floorTimeout) s.dev)) := rfl
theorem exec_thermalShutdown (s : State) :
    exec .thermalShutdown s =
      .next (s.after ((fun d : Device => d.thermalShutdown) s.dev)) := rfl

/-! Reset and boot (R387 to R405, R526). -/

theorem exec_porAssert (s : State) :
    exec .porAssert s =
      .next (s.after ((fun d : Device => d.porAssert) s.dev)) := rfl
theorem exec_resetAssert (cut : List (Fin 4)) (s : State) :
    exec (.resetAssert cut) s =
      .next (s.after ((fun d : Device => d.resetAssert cut) s.dev)) := rfl
theorem exec_resetRelease (cut : List (Fin 4)) (s : State) :
    exec (.resetRelease cut) s =
      .next (s.after ((fun d : Device => d.resetRelease cut) s.dev)) := rfl
theorem exec_aonBrownout (s : State) :
    exec .aonBrownout s =
      .next (s.after ((fun d : Device => d.porAssert) s.dev)) := rfl
theorem exec_bootFuse (s : State) :
    exec .bootFuse s =
      .next (s.after ((fun d : Device => d.bootFuse) s.dev)) := rfl
theorem exec_bootRom (selfOk flashOk : Bool) (s : State) :
    exec (.bootRom selfOk flashOk) s =
      .next (s.after ((fun d : Device => d.bootRom selfOk flashOk) s.dev)) := rfl
theorem exec_bootVerify (readOk : Bool) (s : State) :
    exec (.bootVerify readOk) s =
      .next (s.after ((fun d : Device => d.bootVerify readOk) s.dev)) := rfl
theorem exec_bootBist (v : Verdict) (s : State) :
    exec (.bootBist v) s =
      .next (s.after ((fun d : Device => d.bootBist v) s.dev)) := rfl
theorem exec_bootWaves (s : State) :
    exec .bootWaves s =
      .next (s.after ((fun d : Device => d.bootWaves) s.dev)) := rfl
theorem exec_bootLoad (env : LoadEnv) (s : State) :
    exec (.bootLoad env) s =
      .next (s.after ((fun d : Device => d.bootLoad env) s.dev)) := rfl
theorem exec_bootReady (s : State) :
    exec .bootReady s =
      .next (s.after ((fun d : Device => d.bootReady) s.dev)) := rfl
theorem exec_bootTimeLimit (s : State) :
    exec .bootTimeLimit s =
      .next (s.after ((fun d : Device => d.bootTimeLimit) s.dev)) := rfl
theorem exec_reboot (ini : Ini) (s : State) :
    exec (.reboot ini) s =
      .next (s.after ((fun d : Device => d.writeFld ini F.BOOT_CTRL_REBOOT 1) s.dev)) := rfl
theorem exec_imageLoadWrite (s : State) :
    exec .imageLoadWrite s =
      .next (s.after ((fun d : Device => d.imageLoad 1) s.dev)) := rfl
theorem exec_imageLoadErase (s : State) :
    exec .imageLoadErase s =
      .next (s.after ((fun d : Device => d.imageLoad 0) s.dev)) := rfl
theorem exec_imageLoadEnd (s : State) :
    exec .imageLoadEnd s =
      .next (s.after ((fun d : Device => d.imageLoad 2) s.dev)) := rfl
theorem exec_flashOperationDone (s : State) :
    exec .flashOperationDone s =
      .next (s.after ((fun d : Device => d.flashDone) s.dev)) := rfl
theorem exec_flashSessionRevoke (s : State) :
    exec .flashSessionRevoke s =
      .next (s.after ((fun d : Device => d.writeFld .hg F.BOOT_FLASH_SESSION_ACTIVE 0) s.dev)) := rfl

/-! The I3C target: CCCs, transfers, in-band requests (R406 to R413, R422). -/

theorem exec_enec (direct : Bool) (ev : Byte) (s : State) :
    exec (.enec direct ev) s =
      .next (s.after ((fun d : Device => d.enec direct ev) s.dev)) := rfl
theorem exec_disec (direct : Bool) (ev : Byte) (s : State) :
    exec (.disec direct ev) s =
      .next (s.after ((fun d : Device => d.disec direct ev) s.dev)) := rfl
theorem exec_entas (direct : Bool) (s : State) :
    exec (.entas direct) s =
      .next (s.after ((fun d : Device => d.entas direct) s.dev)) := rfl
theorem exec_rstdaa (s : State) :
    exec .rstdaa s =
      .next (s.after ((fun d : Device => d.rstdaa) s.dev)) := rfl
theorem exec_entdaa (a : BitVec 7) (won : Bool) (s : State) :
    exec (.entdaa a won) s =
      .next (s.after ((fun d : Device => d.entdaa a won) s.dev)) := rfl
theorem exec_setmwl (direct : Bool) (v : BitVec 16) (s : State) :
    exec (.setmwl direct v) s =
      .next (s.after ((fun d : Device => d.setmwl direct v) s.dev)) := rfl
theorem exec_setmrl (direct : Bool) (v : BitVec 16) (s : State) :
    exec (.setmrl direct v) s =
      .next (s.after ((fun d : Device => d.setmrl direct v) s.dev)) := rfl
theorem exec_enthdr0 (s : State) :
    exec .enthdr0 s =
      .next (s.after ((fun d : Device => d.enthdr0) s.dev)) := rfl
theorem exec_rstact (direct : Bool) (byte : Option Byte) (s : State) :
    exec (.rstact direct byte) s =
      .next (s.after ((fun d : Device => d.rstact direct byte) s.dev)) := rfl
theorem exec_targetResetPattern (s : State) :
    exec .targetResetPattern s =
      .next (s.after ((fun d : Device => d.resetPattern) s.dev)) := rfl
theorem exec_setdasa (a : BitVec 7) (s : State) :
    exec (.setdasa a) s =
      .next (s.after ((fun d : Device => d.setdasa a) s.dev)) := rfl
theorem exec_setnewda (a : BitVec 7) (s : State) :
    exec (.setnewda a) s =
      .next (s.after ((fun d : Device => d.setnewda a) s.dev)) := rfl
theorem exec_getmwl (s : State) :
    exec .getmwl s =
      .next (s.after ((fun d : Device => d.getmwl) s.dev)) := rfl
theorem exec_getmrl (s : State) :
    exec .getmrl s =
      .next (s.after ((fun d : Device => d.getmrl) s.dev)) := rfl
theorem exec_getpid (s : State) :
    exec .getpid s =
      .next (s.after ((fun d : Device => d.getpid) s.dev)) := rfl
theorem exec_getbcr (s : State) :
    exec .getbcr s =
      .next (s.after ((fun d : Device => d.getbcr) s.dev)) := rfl
theorem exec_getdcr (s : State) :
    exec .getdcr s =
      .next (s.after ((fun d : Device => d.getdcr) s.dev)) := rfl
theorem exec_getstatus (s : State) :
    exec .getstatus s =
      .next (s.after ((fun d : Device => d.getstatus) s.dev)) := rfl
theorem exec_getmxds (s : State) :
    exec .getmxds s =
      .next (s.after ((fun d : Device => d.getmxds) s.dev)) := rfl
theorem exec_getcaps (s : State) :
    exec .getcaps s =
      .next (s.after ((fun d : Device => d.getcaps) s.dev)) := rfl
theorem exec_unsupportedCcc (direct : Bool) (s : State) :
    exec (.unsupportedCcc direct) s =
      .next (s.after ((fun d : Device => d.unsupported direct) s.dev)) := rfl
theorem exec_i3cProtocolError (s : State) :
    exec .i3cProtocolError s =
      .next (s.after ((fun d : Device => d.protocolError) s.dev)) := rfl
theorem exec_privateWrite (ddr : Option Byte) (bytes : List Byte) (s : State) :
    exec (.privateWrite ddr bytes) s =
      .next (s.after ((fun d : Device => d.privateWrite ddr bytes) s.dev)) := rfl
theorem exec_privateRead (ddr : Option Byte) (len : Fin 257) (s : State) :
    exec (.privateRead ddr len) s =
      .next (s.after ((fun d : Device => d.privateRead ddr len) s.dev)) := rfl
theorem exec_i2cTransfer (wr : List Byte) (rd : Fin 257) (s : State) :
    exec (.i2cTransfer wr rd) s =
      .next (s.after ((fun d : Device => d.i2cTransfer wr rd) s.dev)) := rfl
theorem exec_hotJoinRequest (acked : Bool) (s : State) :
    exec (.hotJoinRequest acked) s =
      .next (s.after ((fun d : Device => d.hotJoin acked) s.dev)) := rfl
theorem exec_ibiRequest (acked : Bool) (s : State) :
    exec (.ibiRequest acked) s =
      .next (s.after ((fun d : Device => d.ibiRequest acked) s.dev)) := rfl

/-! Mailboxes, messages and the indirect port (R416 to R428). -/

theorem exec_mboxLockRead (ini : Ini) (i : Fin 8) (tied : Bool) (s : State) :
    exec (.mboxLockRead ini i tied) s =
      .next (s.after ((fun d : Device => (d.tie tied ini.num (iniAddr ini (F.MBOX_LOCK i).addr) false).readReg ini (F.MBOX_LOCK i).addr) s.dev)) := rfl
theorem exec_mboxLockRelease (ini : Ini) (i : Fin 8) (s : State) :
    exec (.mboxLockRelease ini i) s =
      .next (s.after ((fun d : Device => d.writeReg ini (F.MBOX_LOCK i).addr 0) s.dev)) := rfl
theorem exec_mboxSend (ini : Ini) (i : Fin 8) (len : BitVec 7) (s : State) :
    exec (.mboxSend ini i len) s =
      .next (s.after ((fun d : Device => d.writeReg ini (F.MBOX_CTRL_SEND i).addr (BitVec.ofNat 32 (2 ^ 31 + len.toNat))) s.dev)) := rfl
theorem exec_mboxWithdraw (ini : Ini) (i : Fin 8) (s : State) :
    exec (.mboxWithdraw ini i) s =
      .next (s.after ((fun d : Device => d.writeReg ini (F.MBOX_CTRL_WITHDRAW i).addr 0x40000000) s.dev)) := rfl
theorem exec_mboxTake (ini : Ini) (i : Fin 8) (s : State) :
    exec (.mboxTake ini i) s =
      .next (s.after ((fun d : Device => d.readReg ini (F.MBOX_DATA i ((d.fld (F.MBOX_STATUS_LEN i) - 1) / 4)).addr) s.dev)) := rfl
theorem exec_mboxTimeoutExpire (i : Fin 8) (s : State) :
    exec (.mboxTimeoutExpire i) s =
      .next (s.after ((fun d : Device => d.mboxExpire i) s.dev)) := rfl
theorem exec_ping (s : State) :
    exec .ping s =
      .next (s.after ((fun d : Device => d.ping) s.dev)) := rfl
theorem exec_getVersion (s : State) :
    exec .getVersion s =
      .next (s.after ((fun d : Device => d.getVersion) s.dev)) := rfl
theorem exec_getState (s : State) :
    exec .getState s =
      .next (s.after ((fun d : Device => d.getState) s.dev)) := rfl
theorem exec_readFaults (s : State) :
    exec .readFaults s =
      .next (s.after ((fun d : Device => d.readFaults) s.dev)) := rfl
theorem exec_openWindow (s : State) :
    exec .openWindow s =
      .next (s.after ((fun d : Device => d.openWindow) s.dev)) := rfl
theorem exec_closeWindow (s : State) :
    exec .closeWindow s =
      .next (s.after ((fun d : Device => d.closeWindow) s.dev)) := rfl
theorem exec_flashErase (s : State) :
    exec .flashErase s =
      .next (s.after ((fun d : Device => d.flashErase) s.dev)) := rfl
theorem exec_flashWrite (s : State) :
    exec .flashWrite s =
      .next (s.after ((fun d : Device => d.flashWrite) s.dev)) := rfl
theorem exec_flashEnd (s : State) :
    exec .flashEnd s =
      .next (s.after ((fun d : Device => d.flashEnd) s.dev)) := rfl
theorem exec_proofClear (s : State) :
    exec .proofClear s =
      .next (s.after ((fun d : Device => d.proofClearMsg) s.dev)) := rfl
theorem exec_messagePart (s : State) :
    exec .messagePart s =
      .next (s.after ((fun d : Device => d.messagePart) s.dev)) := rfl
theorem exec_indRead (autoinc : Bool) (s : State) :
    exec (.indRead autoinc) s =
      .next (s.after ((fun d : Device => d.indGo false autoinc) s.dev)) := rfl
theorem exec_indWrite (autoinc : Bool) (s : State) :
    exec (.indWrite autoinc) s =
      .next (s.after ((fun d : Device => d.indGo true autoinc) s.dev)) := rfl
theorem exec_indAutoincRead (s : State) :
    exec .indAutoincRead s =
      .next (s.after ((fun d : Device => d.indAutoRead) s.dev)) := rfl
theorem exec_indAutoincWrite (v : Word) (s : State) :
    exec (.indAutoincWrite v) s =
      .next (s.after ((fun d : Device => d.indAutoWrite v) s.dev)) := rfl
theorem exec_indAccessDone (s : State) :
    exec .indAccessDone s =
      .next (s.after ((fun d : Device => d.indDone) s.dev)) := rfl

/-! Attestation, tokens, JTAG and provisioning (R435 to R445). -/

theorem exec_attGo (ini : Ini) (s : State) :
    exec (.attGo ini) s =
      .next (s.after ((fun d : Device => d.writeReg ini F.HOST_ATT_CTRL_GO.addr 1) s.dev)) := rfl
theorem exec_attNewNonce (ini : Ini) (s : State) :
    exec (.attNewNonce ini) s =
      .next (s.after ((fun d : Device => d.writeReg ini F.HOST_ATT_CTRL_GO.addr 2) s.dev)) := rfl
theorem exec_attReportDone (s : State) :
    exec .attReportDone s =
      .next (s.after ((fun d : Device => d.reportDone) s.dev)) := rfl
theorem exec_ksTokenSubmit (ini : Ini) (s : State) :
    exec (.ksTokenSubmit ini) s =
      .next (s.after ((fun d : Device => d.writeReg ini 0x0010600010 1) s.dev)) := rfl
theorem exec_ksNewNonce (ini : Ini) (s : State) :
    exec (.ksNewNonce ini) s =
      .next (s.after ((fun d : Device => d.writeReg ini 0x0010600010 2) s.dev)) := rfl
theorem exec_tokenCheckDone (s : State) :
    exec .tokenCheckDone s =
      .next (s.after ((fun d : Device => d.tokenDone) s.dev)) := rfl
theorem exec_bypass (s : State) :
    exec .bypass s =
      .next (s.after ((fun d : Device => d.jtagBypass) s.dev)) := rfl
theorem exec_idcode (s : State) :
    exec .idcode s =
      .next (s.after ((fun d : Device => d.jtagIdcode) s.dev)) := rfl
theorem exec_samplePreload (pins load : BitVec 74) (s : State) :
    exec (.samplePreload pins load) s =
      .next (s.after ((fun d : Device => d.jtagSample pins load) s.dev)) := rfl
theorem exec_extest (pins load : BitVec 74) (s : State) :
    exec (.extest pins load) s =
      .next (s.after ((fun d : Device => d.jtagExtest pins load) s.dev)) := rfl
theorem exec_clamp (s : State) :
    exec .clamp s =
      .next (s.after ((fun d : Device => d.jtagClamp) s.dev)) := rfl
theorem exec_highz (s : State) :
    exec .highz s =
      .next (s.after ((fun d : Device => d.jtagHighz) s.dev)) := rfl
theorem exec_challenge (s : State) :
    exec .challenge s =
      .next (s.after ((fun d : Device => d.jtagChallenge) s.dev)) := rfl
theorem exec_token (t : BitVec 3552) (s : State) :
    exec (.token t) s =
      .next (s.after ((fun d : Device => d.jtagToken t) s.dev)) := rfl
theorem exec_jtagStatus (s : State) :
    exec .jtagStatus s =
      .next (s.after ((fun d : Device => d.jtagStatus) s.dev)) := rfl
theorem exec_relock (s : State) :
    exec .relock s =
      .next (s.after ((fun d : Device => d.jtagRelock) s.dev)) := rfl
theorem exec_provision (hash : BitVec 512) (s : State) :
    exec (.provision hash) s =
      .next (s.after ((fun d : Device => d.jtagProvision hash) s.dev)) := rfl
theorem exec_provisionVerify (ok : Bool) (s : State) :
    exec (.provisionVerify ok) s =
      .next (s.after ((fun d : Device => d.provisionVerify ok) s.dev)) := rfl
theorem exec_jtagDebug (op : DebugOp) (tied : Bool) (s : State) :
    exec (.jtagDebug op tied) s =
      .next (s.after ((fun d : Device => d.jtagDebug op tied) s.dev)) := rfl
theorem exec_jtagScan (s : State) :
    exec .jtagScan s =
      .next (s.after ((fun d : Device => d.jtagScan) s.dev)) := rfl
theorem exec_testLogicReset (s : State) :
    exec .testLogicReset s =
      .next (s.after ((fun d : Device => d.jtagReset) s.dev)) := rfl

/-! Redundant pair operation (R449 to R465). -/

theorem exec_hello (s : State) :
    exec .hello s =
      .next (s.after ((fun d : Device => d.helloRx) s.dev)) := rfl
theorem exec_joinWaitExpire (s : State) :
    exec .joinWaitExpire s =
      .next (s.after ((fun d : Device => d.joinWaitExpire) s.dev)) := rfl
theorem exec_draft (s : State) :
    exec .draft s =
      .next (s.after ((fun d : Device => d.draftRx) s.dev)) := rfl
theorem exec_keepalive (s : State) :
    exec .keepalive s =
      .next (s.after ((fun d : Device => d.keepaliveRx) s.dev)) := rfl
theorem exec_forced (s : State) :
    exec .forced s =
      .next (s.after ((fun d : Device => d.forcedRx) s.dev)) := rfl
theorem exec_diverge (s : State) :
    exec .diverge s =
      .next (s.after ((fun d : Device => d.divergeRx) s.dev)) := rfl
theorem exec_decideMsg (s : State) :
    exec .decideMsg s =
      .next (s.after ((fun d : Device => d.decideRx) s.dev)) := rfl
theorem exec_resyncReq (s : State) :
    exec .resyncReq s =
      .next (s.after ((fun d : Device => d.resyncReqRx) s.dev)) := rfl
theorem exec_join (s : State) :
    exec .join s =
      .next (s.after ((fun d : Device => d.joinRx) s.dev)) := rfl
theorem exec_cutover (s : State) :
    exec .cutover s =
      .next (s.after ((fun d : Device => d.cutoverRx) s.dev)) := rfl
theorem exec_nack (s : State) :
    exec .nack s =
      .next (s.after ((fun d : Device => d.nackRx) s.dev)) := rfl
theorem exec_stateBlock (s : State) :
    exec .stateBlock s =
      .next (s.after ((fun d : Device => d.stateBlockRx) s.dev)) := rfl
theorem exec_resyncBlockSend (s : State) :
    exec .resyncBlockSend s =
      .next (s.after ((fun d : Device => d.resyncSend) s.dev)) := rfl
theorem exec_stepDigest (s : State) :
    exec .stepDigest s =
      .next (s.after ((fun d : Device => d.stepDigestRx) s.dev)) := rfl
theorem exec_frameDigest (s : State) :
    exec .frameDigest s =
      .next (s.after ((fun d : Device => d.frameDigestRx) s.dev)) := rfl
theorem exec_suspectWaitExpire (s : State) :
    exec .suspectWaitExpire s =
      .next (s.after ((fun d : Device => d.suspectWait) s.dev)) := rfl
theorem exec_hbToggle (s : State) :
    exec .hbToggle s =
      .next (s.after ((fun d : Device => d.hbToggle) s.dev)) := rfl
theorem exec_mirrorKeepaliveDue (s : State) :
    exec .mirrorKeepaliveDue s =
      .next (s.after ((fun d : Device => d.mirrorDue) s.dev)) := rfl
theorem exec_partnerHbLost (s : State) :
    exec .partnerHbLost s =
      .next (s.after ((fun d : Device => d.partnerHbLost) s.dev)) := rfl
theorem exec_mirrorSilent (s : State) :
    exec .mirrorSilent s =
      .next (s.after ((fun d : Device => d.mirrorSilent) s.dev)) := rfl
theorem exec_pairKick (ini : Ini) (s : State) :
    exec (.pairKick ini) s =
      .next (s.after ((fun d : Device => d.writeCmd ini F.PAIR_KICK 1) s.dev)) := rfl
theorem exec_pairResyncCmd (ini : Ini) (s : State) :
    exec (.pairResyncCmd ini) s =
      .next (s.after ((fun d : Device => d.writeCmd ini F.PAIR_CMD 1) s.dev)) := rfl
theorem exec_demote (ini : Ini) (s : State) :
    exec (.demote ini) s =
      .next (s.after ((fun d : Device => d.writeCmd ini F.PAIR_CMD 2) s.dev)) := rfl
theorem exec_leave (ini : Ini) (s : State) :
    exec (.leave ini) s =
      .next (s.after ((fun d : Device => d.writeCmd ini F.PAIR_CMD 3) s.dev)) := rfl
theorem exec_mateHbInEdge (s : State) :
    exec .mateHbInEdge s =
      .next (s.after ((fun d : Device => d.hbInEdge) s.dev)) := rfl
theorem exec_pairKickExpire (s : State) :
    exec .pairKickExpire s =
      .next (s.after ((fun d : Device => d.pairKickExpire) s.dev)) := rfl

/-! TIMEBASE and the timers (R467 to R479). -/

theorem exec_timebaseTick (ticks : BitVec 32) (trig : BitVec 4) (s : State) :
    exec (.timebaseTick ticks trig) s =
      .next (s.after ((fun d : Device => d.tick ticks.toNat trig.toNat) s.dev)) := rfl
theorem exec_timerCountTick (i : Fin 8) (s : State) :
    exec (.timerCountTick i) s =
      .next (s.after ((fun d : Device => d.countTick i) s.dev)) := rfl
theorem exec_tbLoRead (ini : Ini) (s : State) :
    exec (.tbLoRead ini) s =
      .next (s.after ((fun d : Device => d.readReg ini F.TMR_TB_LO.addr) s.dev)) := rfl
theorem exec_tbHiRead (ini : Ini) (s : State) :
    exec (.tbHiRead ini) s =
      .next (s.after ((fun d : Device => d.readReg ini F.TMR_TB_HI.addr) s.dev)) := rfl
theorem exec_timerCountWrite (ini : Ini) (i : Fin 8) (v : Word) (s : State) :
    exec (.timerCountWrite ini i v) s =
      .next (s.after ((fun d : Device => d.writeReg ini (F.TIMER_COUNT i).addr v) s.dev)) := rfl
theorem exec_timerPeriodWrite (ini : Ini) (i : Fin 8) (v : Word) (s : State) :
    exec (.timerPeriodWrite ini i v) s =
      .next (s.after ((fun d : Device => d.writeReg ini (F.TIMER_PERIOD i).addr v) s.dev)) := rfl
theorem exec_linkedLowRead (ini : Ini) (i : Fin 8) (which : Fin 3) (s : State) :
    exec (.linkedLowRead ini i which) s =
      .next (s.after ((fun d : Device => d.readReg ini (match which.val with | 0 => F.TIMER_COUNT i | 1 => F.TIMER_CAP_RISE i | _ => F.TIMER_CAP_FALL i).addr) s.dev)) := rfl
theorem exec_gstart (ini : Ini) (mask : BitVec 8) (s : State) :
    exec (.gstart ini mask) s =
      .next (s.after ((fun d : Device => d.writeCmd ini F.TMR_GSTART mask.toNat) s.dev)) := rfl
theorem exec_captureEdge (i : Fin 8) (rise : Bool) (s : State) :
    exec (.captureEdge i rise) s =
      .next (s.after ((fun d : Device => d.captureEdge i rise) s.dev)) := rfl
theorem exec_capqValRead (ini : Ini) (i : Fin 8) (s : State) :
    exec (.capqValRead ini i) s =
      .next (s.after ((fun d : Device => d.readReg ini (F.TIMER_CAPQ_VAL i).addr) s.dev)) := rfl
theorem exec_trigPulseEnd (j : Fin 2) (s : State) :
    exec (.trigPulseEnd j) s =
      .next (s.after ((fun d : Device => d.pulseEnd j) s.dev)) := rfl

/-! The Proof log, faults and recovery (R484 to R512). -/

theorem exec_recordStage (s : State) :
    exec .recordStage s =
      .next (s.after ((fun d : Device => d.recordStage) s.dev)) := rfl
theorem exec_recordCommit (vf : List Bool) (s : State) :
    exec (.recordCommit vf) s =
      .next (s.after ((fun d : Device => d.recordCommit vf) s.dev)) := rfl
theorem exec_timeRecord (s : State) :
    exec .timeRecord s =
      .next (s.after ((fun d : Device => d.timeRecord) s.dev)) := rfl
theorem exec_clearPageZero (vf : List Bool) (s : State) :
    exec (.clearPageZero vf) s =
      .next (s.after ((fun d : Device => d.clearPage vf) s.dev)) := rfl
theorem exec_bucketRefill (s : State) :
    exec .bucketRefill s =
      .next (s.after ((fun d : Device => d.bucketRefill) s.dev)) := rfl
theorem exec_hgDeclare (ini : Ini) (party : Fin 128) (tied : Bool) (s : State) :
    exec (.hgDeclare ini party tied) s =
      .next (s.after ((fun d : Device => (d.tie tied ini.num (iniAddr ini F.HG_DECLARE.addr) true).writeCmd ini F.HG_DECLARE party) s.dev)) := rfl
theorem exec_declareSweepDone (party : Fin 128) (s : State) :
    exec (.declareSweepDone party) s =
      .next (s.after ((fun d : Device => d.sweepDone party) s.dev)) := rfl
theorem exec_scribeWdExpire (n : Fin 4) (s : State) :
    exec (.scribeWdExpire n) s =
      .next (s.after ((fun d : Device => d.scribeWdExpire n) s.dev)) := rfl
theorem exec_scribeRestart (n : Fin 4) (s : State) :
    exec (.scribeRestart n) s =
      .next (s.after ((fun d : Device => d.scribeRestart n) s.dev)) := rfl
theorem exec_scribeKick (ini : Ini) (mask : BitVec 4) (s : State) :
    exec (.scribeKick ini mask) s =
      .next (s.after ((fun d : Device => d.writeCmd ini F.HG_SCRIBE_KICK mask.toNat) s.dev)) := rfl
theorem exec_scribeRestartTimeout (n : Fin 4) (s : State) :
    exec (.scribeRestartTimeout n) s =
      .next (s.after ((fun d : Device => d.restartTimeout n) s.dev)) := rfl
theorem exec_partRestart (ini : Ini) (s : State) :
    exec (.partRestart ini) s =
      .next (s.after ((fun d : Device => d.writeCmd ini F.HG_CMD 1) s.dev)) := rfl

end Sys2Proof.Machine
end

