-- ==== Sys2Proof/Laws/Path.lean ====
section
/-! SUPPORT. The register path: a served write of a register is the write its block makes of it. -/

namespace Sys2Proof.Machine

/-! ### What the path makes of an access, by what the address names -/

/-- A served 32-bit write of a register. -/
theorem busWrite_reg (d : Device) (ini a : Nat) (l : List Byte) (p : Loc) (r : RegRow) (h1 : d.reach ini a true = true)
    (h2 : d.shut ini = false) (hl : laneOf (busAddr a) = none) (hp : regLoc (busAddr a) = some p)
    (hr : regRow (busAddr a / 4 * 4) = some r) (h4 : busAddr a % 4 = 0) (h : l.length = 4)
    (hs : d.served (busAddr a) (p.dom (busAddr a)) = true) :
    d.busWrite ini a l = d.regWrite ini p (busAddr a) r (BitVec.ofNat 32 (leNat l)) (busOff a) := by
  simp [Device.busWrite, h1, h2, hl, hp, hr, h4, h, hs]

/-- An aligned write of a memory that may be written. -/
theorem busWrite_mem (d : Device) (ini a : Nat) (l : List Byte) (m : MemAt) (h1 : d.reach ini a true = true)
    (h2 : d.shut ini = false) (hl : laneOf (busAddr a) = none) (hr : regRow (busAddr a / 4 * 4) = none)
    (hm : memAt (busAddr a) = some m) (h0 : l ≠ []) (h8 : l.length ≤ 8) (ha : busAddr a % l.length = 0)
    (hw : wordOnly (busAddr a) = true → l.length = 4) (hs : d.served (busAddr a) m.dom = true)
    (ho : d.memShut (busAddr a) = false) : d.busWrite ini a l = d.memPut ini (busAddr a) (busOff a) l := by
  have hc : ¬ (busAddr a % l.length ≠ 0 ∨ 8 < l.length ∨ l = [] ∨ (wordOnly (busAddr a) = true ∧ l.length ≠ 4)) := by
    rintro (q | q | q | ⟨q, q'⟩)
    · exact q ha
    · omega
    · exact h0 q
    · exact q' (hw q)
  unfold Device.busWrite
  simp only [h1, h2, hl, hr, Bool.not_true, Bool.false_eq_true, if_false]
  cases regLoc (busAddr a) <;> simp only [hm, hc, hs, ho, Bool.not_true, Bool.false_eq_true, if_false]

/-- A write of a lane that the initiator may write. -/
theorem busWrite_lane (d : Device) (ini a n o op : Nat) (l : List Byte) (h1 : d.reach ini a true = true)
    (h2 : d.shut ini = false) (hl : laneOf (busAddr a) = some (n, o, op)) (h : l.length = 4) (h4 : busAddr a % 4 = 0)
    (hs : d.served (busAddr a) (domGraver n) = true) (ho : d.laneOpen ini n o true = true) :
    d.busWrite ini a l = d.laneWrite ini n o op (BitVec.ofNat 32 (leNat l)) (busOff a) := by
  simp [Device.busWrite, h1, h2, hl, h, h4, hs, ho]

/-- A served 32-bit read of a register. -/
theorem busRead_reg (d : Device) (ini a : Nat) (p : Loc) (r : RegRow) (h1 : d.reach ini a false = true)
    (h2 : d.shut ini = false) (hl : laneOf (busAddr a) = none) (hp : regLoc (busAddr a) = some p)
    (hr : regRow (busAddr a / 4 * 4) = some r) (h4 : busAddr a % 4 = 0)
    (hs : d.served (busAddr a) (p.dom (busAddr a)) = true) :
    d.busRead ini a 4 = (leBytes 4 (d.regRead ini p (busAddr a) r (busOff a)).1,
      (d.regRead ini p (busAddr a) r (busOff a)).2) := by
  simp [Device.busRead, h1, h2, hl, hp, hr, h4, hs]

/-- An aligned read of a served memory. -/
theorem busRead_mem (d : Device) (ini a n : Nat) (m : MemAt) (h1 : d.reach ini a false = true)
    (h2 : d.shut ini = false) (hl : laneOf (busAddr a) = none) (hr : regRow (busAddr a / 4 * 4) = none)
    (hm : memAt (busAddr a) = some m) (h0 : 1 ≤ n) (h8 : n ≤ 8) (ha : busAddr a % n = 0)
    (hw : wordOnly (busAddr a) = true → n = 4) (hs : d.served (busAddr a) m.dom = true)
    (ho : d.inTable (busAddr a) = false) : d.busRead ini a n = d.memGet ini (busAddr a) (busOff a) n := by
  have hc : ¬ (n = 0 ∨ busAddr a % n ≠ 0 ∨ 8 < n ∨ (wordOnly (busAddr a) = true ∧ n ≠ 4)) := by
    rintro (q | q | q | ⟨q, q'⟩)
    · omega
    · exact q ha
    · omega
    · exact q' (hw q)
  unfold Device.busRead
  simp only [h1, h2, hl, hr, Bool.not_true, Bool.false_eq_true, if_false]
  cases regLoc (busAddr a) <;> simp only [hm, hc, hs, ho, Bool.not_true, Bool.false_eq_true, if_false]

/-- A read of a lane that the initiator may read. -/
theorem busRead_lane (d : Device) (ini a n o op : Nat) (h1 : d.reach ini a false = true)
    (h2 : d.shut ini = false) (hl : laneOf (busAddr a) = some (n, o, op)) (h4 : busAddr a % 4 = 0)
    (hs : d.served (busAddr a) (domGraver n) = true) (ho : d.laneOpen ini n o false = true) :
    d.busRead ini a 4 = (if (d.tile n).held.any (heldBy (o / 32) (· = 8)) then
        let r := (d.modTile n (fun x => x.unhold (o / 32) (· = 8))).draw
        (leBytes 4 (r.1.toNat % 2 ^ 32), r.2)
      else d.memGet ini (graverBase n + 0x400000 + o) (busOff a) 4) := by
  simp [Device.busRead, h1, h2, hl, h4, hs, ho]

/-! ### The same by device address -/

/-- What a served 32-bit write at a register's device address does. -/
theorem writeReg_served (d : Device) (ini : Ini) (a : Nat) (w : Word) (p : Loc) (r : RegRow)
    (ha : d.admits ini a = true) (hp : regLoc a = some p) (hr : regRow (a / 4 * 4) = some r) (h4 : a % 4 = 0)
    (hl : laneOf a = none) (hb : busAddr (iniAddr ini a) = a) :
    d.writeReg ini a w = d.regWrite ini.num p a r w (busOff (iniAddr ini a)) := by
  simp only [Device.admits, hp, Bool.and_eq_true, Bool.not_eq_true'] at ha
  obtain ⟨⟨h1, h2⟩, h3⟩ := ha
  simp [Device.writeReg, Device.busWrite, hb, h1, h2, hl, hp, hr, h4, h3]

/-- What a served 32-bit read of a register does: it answers four bytes and leaves what the block's read leaves. -/
theorem readReg_served (d : Device) (ini : Ini) (a : Nat) (p : Loc) (r : RegRow)
    (ha : d.admits ini a false = true) (hp : regLoc a = some p) (hr : regRow (a / 4 * 4) = some r) (h4 : a % 4 = 0)
    (hl : laneOf a = none) (hb : busAddr (iniAddr ini a) = a) :
    d.readReg ini a = (let x := d.regRead ini.num p a r (busOff (iniAddr ini a))
      { x.2 with rbytes := leBytes 4 x.1, rdata := BitVec.ofNat 32 (leNat (leBytes 4 x.1)) }) := by
  simp only [Device.admits, hp, Bool.and_eq_true, Bool.not_eq_true'] at ha
  obtain ⟨⟨h1, h2⟩, h3⟩ := ha
  simp [Device.readReg, Device.readBytes, Device.busRead, hb, h1, h2, hl, hp, hr, h4, h3]

/-- What a served access with operands of its own does. -/
theorem viaPath_served (d : Device) (ini : Ini) (a : Nat) (f : Nat → Device → Device) (p : Loc)
    (ha : d.admits ini a = true) (hp : regLoc a = some p) (hb : iniAddr ini a = a) :
    d.viaPath ini a f = f (busOff a) d := by
  simp only [Device.admits, hp, hb, Bool.and_eq_true, Bool.not_eq_true'] at ha
  obtain ⟨⟨h1, h2⟩, h3⟩ := ha
  simp [Device.viaPath, h1, h2, hp, h3]

/-- What a served write of memory of 4 bytes does. -/
theorem writeReg_mem (d : Device) (ini : Ini) (a : Nat) (w : Word) (ha : d.admitsMem ini a = true) (h4 : a % 4 = 0)
    (hl : laneOf a = none) (hr : regRow (a / 4 * 4) = none) (hb : busAddr (iniAddr ini a) = a) :
    d.writeReg ini a w = d.memPut ini.num a (busOff (iniAddr ini a)) (leBytes 4 w.toNat) := by
  simp only [Device.admitsMem, Bool.and_eq_true, Bool.not_eq_true'] at ha
  obtain ⟨⟨⟨h1, h2⟩, h5⟩, h3⟩ := ha
  cases hm : memAt a with
  | none => simp [hm] at h3
  | some m =>
    rw [hm] at h3
    have hne : leBytes 4 w.toNat ≠ [] := by simp [leBytes]
    have hc : ¬ (a % (leBytes 4 w.toNat).length ≠ 0 ∨ 8 < (leBytes 4 w.toNat).length ∨ leBytes 4 w.toNat = [] ∨
        (wordOnly a = true ∧ (leBytes 4 w.toNat).length ≠ 4)) := by simp [h4, hne]
    unfold Device.writeReg Device.busWrite
    simp only [hb, h1, h2, Bool.not_true, Bool.false_eq_true, if_false, hl, hr, hm]
    cases regLoc a <;> simp only [if_neg hc, h3, h5, Bool.not_true, Bool.false_eq_true, if_false]

/-- The host finds a register outside its window where every initiator does. -/
theorem iniAddr_out (ini : Ini) (a : Nat) (h : 0x0010600000 ≤ a) : iniAddr ini a = a := by
  unfold iniAddr inRange
  split
  · rw [if_neg (by simp; omega), if_neg (by simp; omega), if_neg (by simp; omega), if_neg (by omega), if_neg (by omega)]
  · rfl


/-! ### Registers by name -/

/-- The facts of a register's place that the path looks at, as one check; the host may find it in its window. -/
def regAt (a : Nat) (p : Loc) : Bool :=
  regLoc a == some p && (regRow (a / 4 * 4)).isSome && decide (a % 4 = 0) && laneOf a == none &&
  busAddr a == a && busAddr (iniAddr .host a) == a

theorem busAddr_at (ini : Ini) (a : Nat) (p : Loc) (h : regAt a p = true) : busAddr (iniAddr ini a) = a := by
  simp only [regAt, Bool.and_eq_true, beq_iff_eq, decide_eq_true_eq] at h
  cases ini
  · simpa [iniAddr] using h.1.2
  · simpa [iniAddr] using h.1.2
  · exact h.2

theorem writeReg_at (d : Device) (ini : Ini) (a : Nat) (w : Word) (p : Loc) (h : regAt a p = true)
    (ha : d.admits ini a = true) :
    ∃ r, regRow (a / 4 * 4) = some r ∧ d.writeReg ini a w = d.regWrite ini.num p a r w (busOff (iniAddr ini a)) := by
  have h7 := busAddr_at ini a p h
  simp only [regAt, Bool.and_eq_true, beq_iff_eq, decide_eq_true_eq, Option.isSome_iff_exists] at h
  obtain ⟨⟨⟨⟨⟨h1, r, h2⟩, h3⟩, h4⟩, _⟩, _⟩ := h
  exact ⟨r, h2, writeReg_served d ini a w p r ha h1 h2 h3 h4 h7⟩

theorem readReg_at (d : Device) (ini : Ini) (a : Nat) (p : Loc) (h : regAt a p = true) (ha : d.admits ini a false = true) :
    ∃ r, regRow (a / 4 * 4) = some r ∧ d.readReg ini a = (let x := d.regRead ini.num p a r (busOff (iniAddr ini a))
      { x.2 with rbytes := leBytes 4 x.1, rdata := BitVec.ofNat 32 (leNat (leBytes 4 x.1)) }) := by
  have h7 := busAddr_at ini a p h
  simp only [regAt, Bool.and_eq_true, beq_iff_eq, decide_eq_true_eq, Option.isSome_iff_exists] at h
  obtain ⟨⟨⟨⟨⟨h1, r, h2⟩, h3⟩, h4⟩, _⟩, _⟩ := h
  exact ⟨r, h2, readReg_served d ini a p r ha h1 h2 h3 h4 h7⟩

theorem viaPath_at (d : Device) (ini : Ini) (a : Nat) (f : Nat → Device → Device) (p : Loc) (h : regAt a p = true)
    (hi : 0x0010600000 ≤ a) (ha : d.admits ini a = true) : d.viaPath ini a f = f (busOff a) d := by
  simp only [regAt, Bool.and_eq_true, beq_iff_eq, decide_eq_true_eq] at h
  exact viaPath_served d ini a f p ha h.1.1.1.1.1 (iniAddr_out ini a hi)

theorem regAt_etchCtrl : ∀ (n : Fin 64), regAt (F.ETCH_CTRL_RUN n).addr ⟨.etch, n, 0⟩ = true := by decide +kernel
theorem writeReg_etchCtrl (d : Device) (ini : Ini) (n : Fin 64) (w : Word) (ha : d.admits ini (F.ETCH_CTRL_RUN n).addr = true) :
    d.writeReg ini (F.ETCH_CTRL_RUN n).addr w = d.etchCtrlWrite n w := by
  obtain ⟨r, -, h⟩ := writeReg_at d ini _ w _ (regAt_etchCtrl n) ha
  rw [h]
  simp [Device.regWrite, Device.writeEvent]

theorem regAt_fixCtrl : ∀ (n : Fin 64), regAt (F.ETCH_FIX_CTRL_REQ n).addr ⟨.etch, n, 0x10020⟩ = true := by decide +kernel
theorem writeReg_fixCtrl (d : Device) (ini : Ini) (n : Fin 64) (w : Word) (ha : d.admits ini (F.ETCH_FIX_CTRL_REQ n).addr = true) :
    d.writeReg ini (F.ETCH_FIX_CTRL_REQ n).addr w = d.fixCtrlWrite n w := by
  obtain ⟨r, -, h⟩ := writeReg_at d ini _ w _ (regAt_fixCtrl n) ha
  rw [h]
  simp [Device.regWrite, Device.writeEvent]

theorem regAt_stippleCtrl : regAt F.STIPPLE_CTRL_EN.addr ⟨.stipple, 0, 0⟩ = true := by decide +kernel
theorem writeReg_stippleCtrl (d : Device) (ini : Ini)  (w : Word) (ha : d.admits ini F.STIPPLE_CTRL_EN.addr = true) :
    d.writeReg ini F.STIPPLE_CTRL_EN.addr w = (if bit w.toNat 0 then (d.put F.STIPPLE_CTRL_STALL_ACTION (bits w.toNat 1 1)).stippleStart
      else (d.put F.STIPPLE_CTRL_STALL_ACTION (bits w.toNat 1 1)).stippleStop) := by
  obtain ⟨r, -, h⟩ := writeReg_at d ini _ w _ (regAt_stippleCtrl ) ha
  rw [h]
  simp [Device.regWrite, Device.writeEvent]

theorem regAt_hatchCtrl : regAt F.HATCH_CTRL_MODE.addr ⟨.hatch, 0, 0⟩ = true := by decide +kernel
theorem writeReg_hatchCtrl (d : Device) (ini : Ini)  (w : Word) (ha : d.admits ini F.HATCH_CTRL_MODE.addr = true) :
    d.writeReg ini F.HATCH_CTRL_MODE.addr w = (if bit w.toNat 2 then (d.hatchModeWrite w).hatchAbort [] else d.hatchModeWrite w) := by
  obtain ⟨r, -, h⟩ := writeReg_at d ini _ w _ (regAt_hatchCtrl ) ha
  rw [h]
  simp [Device.regWrite, Device.writeHatch]

theorem regAt_hatchLoadCtrl : regAt F.HATCH_LOAD_CTRL.addr ⟨.hatch, 0, 0x80⟩ = true := by decide +kernel
theorem writeReg_hatchLoadCtrl (d : Device) (ini : Ini)  (w : Word) (ha : d.admits ini F.HATCH_LOAD_CTRL.addr = true) :
    d.writeReg ini F.HATCH_LOAD_CTRL.addr w = d.loadWindow w := by
  obtain ⟨r, -, h⟩ := writeReg_at d ini _ w _ (regAt_hatchLoadCtrl ) ha
  rw [h]
  simp [Device.regWrite, Device.writeHatch]

theorem regAt_graverCtrl : ∀ (n : Fin 32), regAt (F.GRAVER_CTRL n).addr ⟨.graver, n, 0⟩ = true := by decide +kernel
theorem writeReg_graverCtrl (d : Device) (ini : Ini) (n : Fin 32) (w : Word) (ha : d.admits ini (F.GRAVER_CTRL n).addr = true) :
    d.writeReg ini (F.GRAVER_CTRL n).addr w = d.tileRunWrite n w := by
  obtain ⟨r, -, h⟩ := writeReg_at d ini _ w _ (regAt_graverCtrl n) ha
  rw [h]
  simp [Device.regWrite, Device.writeGraver]

theorem regAt_rackCtrl : regAt F.RACK_CTRL_EN.addr ⟨.rack, 0, 0⟩ = true := by decide +kernel
theorem writeReg_rackCtrl (d : Device) (ini : Ini)  (w : Word) (ha : d.admits ini F.RACK_CTRL_EN.addr = true) :
    d.writeReg ini F.RACK_CTRL_EN.addr w = d.rackCtrlWrite w := by
  obtain ⟨r, -, h⟩ := writeReg_at d ini _ w _ (regAt_rackCtrl ) ha
  rw [h]
  simp [Device.regWrite, Device.writeRack]

theorem regAt_rackDq : regAt 0x0320000104 ⟨.rack, 0, 0x104⟩ = true := by decide +kernel
theorem writeReg_rackDq (d : Device) (ini : Ini)  (w : Word) (ha : d.admits ini 0x0320000104 = true) :
    d.writeReg ini 0x0320000104 w = d.dqCmdWrite ini.num (bits w.toNat 0 4) := by
  obtain ⟨r, -, h⟩ := writeReg_at d ini _ w _ (regAt_rackDq ) ha
  rw [h]
  simp [Device.regWrite, Device.writeRack]

theorem regAt_rackSw : regAt 0x0320000120 ⟨.rack, 0, 0x120⟩ = true := by decide +kernel
theorem writeReg_rackSw (d : Device) (ini : Ini)  (w : Word) (ha : d.admits ini 0x0320000120 = true) :
    d.writeReg ini 0x0320000120 w = d.swCmdWrite ini.num (bits w.toNat 0 3) := by
  obtain ⟨r, -, h⟩ := writeReg_at d ini _ w _ (regAt_rackSw ) ha
  rw [h]
  simp [Device.regWrite, Device.writeRack]

theorem regAt_mboxLock : ∀ (i : Fin 8), regAt (F.MBOX_LOCK i).addr ⟨.mbox, i, 0⟩ = true := by decide +kernel
theorem writeReg_mboxLock (d : Device) (ini : Ini) (i : Fin 8) (w : Word) (ha : d.admits ini (F.MBOX_LOCK i).addr = true) :
    d.writeReg ini (F.MBOX_LOCK i).addr w = d.lockWrite ini.num i w (busOff (iniAddr ini (F.MBOX_LOCK i).addr)) := by
  obtain ⟨r, -, h⟩ := writeReg_at d ini _ w _ (regAt_mboxLock i) ha
  rw [h]
  simp [Device.regWrite, Device.writeHost]

theorem regAt_mboxCtrl : ∀ (i : Fin 8), regAt (F.MBOX_CTRL_SEND i).addr ⟨.mbox, i, 8⟩ = true := by decide +kernel
theorem writeReg_mboxCtrl (d : Device) (ini : Ini) (i : Fin 8) (w : Word) (ha : d.admits ini (F.MBOX_CTRL_SEND i).addr = true) :
    d.writeReg ini (F.MBOX_CTRL_SEND i).addr w = d.mboxCtrl ini.num i w (busOff (iniAddr ini (F.MBOX_CTRL_SEND i).addr)) := by
  obtain ⟨r, -, h⟩ := writeReg_at d ini _ w _ (regAt_mboxCtrl i) ha
  rw [h]
  simp [Device.regWrite, Device.writeHost]

theorem regAt_attCtrl : regAt F.HOST_ATT_CTRL_GO.addr ⟨.host, 0, 0x2000⟩ = true := by decide +kernel
theorem writeReg_attCtrl (d : Device) (ini : Ini)  (w : Word) (ha : d.admits ini F.HOST_ATT_CTRL_GO.addr = true) :
    d.writeReg ini F.HOST_ATT_CTRL_GO.addr w = d.attCtrl ini.num w (busOff (iniAddr ini F.HOST_ATT_CTRL_GO.addr)) := by
  obtain ⟨r, -, h⟩ := writeReg_at d ini _ w _ (regAt_attCtrl ) ha
  rw [h]
  simp [Device.regWrite, Device.writeHost, inRange]

theorem regAt_tokenCtrl : regAt 0x0010600010 ⟨.ks, 0, 0x10⟩ = true := by decide +kernel
theorem writeReg_tokenCtrl (d : Device) (ini : Ini)  (w : Word) (ha : d.admits ini 0x0010600010 = true) :
    d.writeReg ini 0x0010600010 w = d.tokenCtrl ini.num w := by
  obtain ⟨r, -, h⟩ := writeReg_at d ini _ w _ (regAt_tokenCtrl ) ha
  rw [h]
  simp [Device.regWrite, Device.writeHost]

theorem regAt_hgDeclare : regAt F.HG_DECLARE.addr ⟨.hg, 0, 0x100⟩ = true := by decide +kernel
theorem writeReg_hgDeclare (d : Device) (ini : Ini)  (w : Word) (ha : d.admits ini F.HG_DECLARE.addr = true) :
    d.writeReg ini F.HG_DECLARE.addr w = d.hgDeclare ini.num w (busOff (iniAddr ini F.HG_DECLARE.addr)) := by
  obtain ⟨r, -, h⟩ := writeReg_at d ini _ w _ (regAt_hgDeclare ) ha
  rw [h]
  simp [Device.regWrite, Device.writeAon]

theorem regAt_hgCmd : regAt F.HG_CMD.addr ⟨.hg, 0, 0x12C⟩ = true := by decide +kernel
theorem writeReg_hgCmd (d : Device) (ini : Ini)  (w : Word) (ha : d.admits ini F.HG_CMD.addr = true) :
    d.writeReg ini F.HG_CMD.addr w = d.hgCmd ini.num w (busOff (iniAddr ini F.HG_CMD.addr)) := by
  obtain ⟨r, -, h⟩ := writeReg_at d ini _ w _ (regAt_hgCmd ) ha
  rw [h]
  simp [Device.regWrite, Device.writeAon]

theorem regAt_hgScribeKick : regAt F.HG_SCRIBE_KICK.addr ⟨.hg, 0, 0x120⟩ = true := by decide +kernel
theorem writeReg_hgScribeKick (d : Device) (ini : Ini)  (w : Word) (ha : d.admits ini F.HG_SCRIBE_KICK.addr = true) :
    d.writeReg ini F.HG_SCRIBE_KICK.addr w = d.scribeKick ini.num w (busOff (iniAddr ini F.HG_SCRIBE_KICK.addr)) := by
  obtain ⟨r, -, h⟩ := writeReg_at d ini _ w _ (regAt_hgScribeKick ) ha
  rw [h]
  simp [Device.regWrite, Device.writeAon]

theorem regAt_hgCfg : regAt F.HG_CFG_CAP.addr ⟨.hg, 0, 4⟩ = true := by decide +kernel
theorem writeReg_hgCfg (d : Device) (ini : Ini)  (w : Word) (ha : d.admits ini F.HG_CFG_CAP.addr = true) :
    d.writeReg ini F.HG_CFG_CAP.addr w = d.hgCfg ini.num (busOff (iniAddr ini F.HG_CFG_CAP.addr)) w := by
  obtain ⟨r, -, h⟩ := writeReg_at d ini _ w _ (regAt_hgCfg ) ha
  rw [h]
  simp [Device.regWrite, Device.writeAon]

theorem regAt_pairKick : regAt F.PAIR_KICK.addr ⟨.pair, 0, 0x14⟩ = true := by decide +kernel
theorem writeReg_pairKick (d : Device) (ini : Ini)  (w : Word) (ha : d.admits ini F.PAIR_KICK.addr = true) :
    d.writeReg ini F.PAIR_KICK.addr w = d.pairKick ini.num w := by
  obtain ⟨r, -, h⟩ := writeReg_at d ini _ w _ (regAt_pairKick ) ha
  rw [h]
  simp [Device.regWrite, Device.writeAon]

theorem regAt_pairCmd : regAt F.PAIR_CMD.addr ⟨.pair, 0, 0x18⟩ = true := by decide +kernel
theorem writeReg_pairCmd (d : Device) (ini : Ini)  (w : Word) (ha : d.admits ini F.PAIR_CMD.addr = true) :
    d.writeReg ini F.PAIR_CMD.addr w = d.pairCmd ini.num w (busOff (iniAddr ini F.PAIR_CMD.addr)) := by
  obtain ⟨r, -, h⟩ := writeReg_at d ini _ w _ (regAt_pairCmd ) ha
  rw [h]
  simp [Device.regWrite, Device.writeAon]

theorem regAt_timerCount : ∀ (i : Fin 8), regAt (F.TIMER_COUNT i).addr ⟨.timer, i, 4⟩ = true := by decide +kernel
theorem writeReg_timerCount (d : Device) (ini : Ini) (i : Fin 8) (w : Word) (ha : d.admits ini (F.TIMER_COUNT i).addr = true) :
    d.writeReg ini (F.TIMER_COUNT i).addr w = d.countWrite i w := by
  obtain ⟨r, -, h⟩ := writeReg_at d ini _ w _ (regAt_timerCount i) ha
  rw [h]
  simp [Device.regWrite, Device.writeTimer]

theorem regAt_gstart : regAt F.TMR_GSTART.addr ⟨.tmr, 0, 8⟩ = true := by decide +kernel
theorem writeReg_gstart (d : Device) (ini : Ini)  (w : Word) (ha : d.admits ini F.TMR_GSTART.addr = true) :
    d.writeReg ini F.TMR_GSTART.addr w = d.gstart (bits w.toNat 0 8) := by
  obtain ⟨r, -, h⟩ := writeReg_at d ini _ w _ (regAt_gstart ) ha
  rw [h]
  simp [Device.regWrite, Device.writeTimer]

end Sys2Proof.Machine
end

