-- ==== Sys2Proof/WellFormed.lean ====
section
/-! DEFINITION. Which operands name an event that can occur: widths of the register path (R10), packets whose parts
agree (R261), conflicts and cuts that name what exists (R189, R248), findings of a boot (R389, R394). -/

namespace Sys2Proof

open Machine

/-- The widths of an access (R10, R35). -/
def widthOk (n : Nat) : Bool := [1, 2, 4, 8].contains n

/-- A disturbance of a link names no more words than a unit of it has, each within its width. -/
def Machine.LinkId.flipOk (l : LinkId) (flip : List Nat) : Bool :=
  match l with
  | .stippleOut _ _ | .stippleIn _ | .stippleRack => decide (flip.length ≤ 4) && flip.all (fun x => decide (x < 2 ^ 64))
  | .hatchOut _ _ | .hatchIn _ _ | .hatchLoad _ _ _ =>
    decide (flip.length ≤ 3) && decide (flip.getD 0 0 < 2 ^ 128) && decide (flip.getD 1 0 < 4) &&
    decide (flip.getD 2 0 < 256)

/-- The place of a requester code in the order of R189. -/
def clashRank (c : Nat) : Nat := [0, 1, 2, 3, 4, 6, 7, 8, 9, 5].getD c 10

/-- A same-word conflict names a word of the scratchpad and two requesters in their order (R189, R190). -/
def clashAt (c : Option Clash) : Bool :=
  match c with
  | none => true
  | some x => decide (x.word < 131072) && decide (x.first ≤ 9) && decide (x.later ≤ 9) &&
    decide (clashRank x.first ≤ clashRank x.later)

/-- Same-word conflicts of one command. -/
def clashesOk (l : List Clash) : Bool := l.all (fun c => clashAt (some c))

/-- Conflicts belong to the execution of an instruction, not to its issue. -/
def clashOk (ph : Phase) (l : List Clash) : Bool := clashesOk l && (decide (ph = .execute) || l.isEmpty)

/-- The cuts of an abort name issued instructions of tiles, each once (R248). -/
def cutsOk (l : List Cut) : Bool :=
  l.all (fun c => decide (c.tile < 32)) && decide (l.map (fun c => (c.tile, c.place))).Nodup

/-- A long packet delivers at most WC bytes, then those of its CRC, and all of both where its CRC matches (R261, R265). -/
def Machine.LongPkt.ok (k : LongPkt) : Bool :=
  decide (k.payload.length ≤ k.wc) && (decide (k.crcBytes = 0) || decide (k.payload.length = k.wc)) &&
  (!k.crcOk || (decide (k.payload.length = k.wc) && decide (k.crcBytes = 2)))

/-- What kind of block it is. -/
def Machine.IntBlk.isPlate : IntBlk → Bool
  | .plate _ => true
  | _ => false
def Machine.IntBlk.isMc : IntBlk → Bool
  | .mc _ => true
  | _ => false
def Machine.IntBlk.isGraver : IntBlk → Bool
  | .graver _ => true
  | _ => false

/-- A REMAP entry that exists: 8 for each bank of an SRAM block, 32 for each channel of a controller (R346, R347). -/
def Machine.IntBlk.remapOk (b : IntBlk) (k e : Nat) : Bool :=
  match b with
  | .plate _ => false
  | .mc _ => decide (k < 4)
  | _ => decide (e < 8)

/-- BIST names each unit once (R389). -/
def Machine.Verdict.ok (v : Verdict) : Bool :=
  decide v.sites.Nodup && decide v.routers.Nodup && decide v.mcs.Nodup && decide v.scribes.Nodup &&
  decide v.tracers.Nodup && decide v.presses.Nodup

/-- Sites are found incomplete, each once, after 3 rounds of resending (R394). -/
def Machine.LoadEnv.ok (e : LoadEnv) : Bool :=
  decide e.bad.Nodup && ((e.bad.isEmpty && !e.router) || decide (e.rounds = 3))

def Machine.DebugOp.ok : DebugOp → Bool
  | .read _ len => widthOk len
  | .write _ l => widthOk l.length
  | .halt _ => true
  | .go _ => true

/-- A well-formed command. -/
def Instr.wf : Instr → Bool
  | .registerWrite _ _ bytes _ => widthOk bytes.length
  | .rcRead _ _ len _ => widthOk len
  | .linkTransfer l flip => l.flipOk flip
  | .mma _ ph clash => clashOk ph clash
  | .lds _ ph clash => clashOk ph clash
  | .move _ ph clash => clashOk ph clash
  | .drain _ ph clash parUe => clashOk ph clash && (decide (ph = .execute) || decide (parUe = 0))
  | .gate _ clash => clashesOk clash
  | .tokenLanding _ _ clash => clashesOk clash
  | .stallSentinelExpire cuts => cutsOk cuts
  | .hatchAbort _ cuts => cutsOk cuts
  | .longPacketReceive _ k => k.ok
  | .linkDisableTimeout (.rx _) _ => true
  | .linkDisableTimeout (.tx _) part => part.isNone
  | .encoderUnit _ _ ue => ue.all (fun w => decide (w < 16384))
  | .repeatBurst _ bytes pkts => !bytes.isEmpty && decide (4 * pkts ≤ bytes.length)
  | .rackConsume claimant _ _ _ => decide (claimant ≠ 0)
  | .scrubRead b vf clash bitmap =>
    (vf.isEmpty || b.isPlate) && clashAt clash && (clash.isNone || b.isGraver) && (!bitmap || b.isMc)
  | .remapWrite _ b k e _ => b.remapOk k e
  | .logClear _ b => !b.isPlate
  | .rawRead _ b => !b.isPlate
  | .rawWrite _ b _ => !b.isPlate
  | .rawGet _ b => !b.isPlate
  | .rawPut _ b => !b.isPlate
  | .refreshRatePoll _ rate _ => decide (rate ≤ 2)
  | .resetAssert cut => decide cut.Nodup
  | .resetRelease cut => decide cut.Nodup
  | .bootBist v => v.ok
  | .bootLoad env => env.ok
  | .privateWrite _ bytes => decide (bytes.length ≤ 260)
  | .i2cTransfer wr _ => decide (wr.length ≤ 260)
  | .jtagDebug op _ => op.ok
  | .timebaseTick ticks _ => decide (ticks ≠ 0)
  | .linkedLowRead _ i _ => decide (i.val % 2 = 0)
  | .etchStepOpen .. | .eventConsume .. | .overflowRowFetchDone .. | .updatePass .. | .eventSend ..
  | .flagLineRelease .. | .etchRun .. | .etchStop .. | .etchPause .. | .etchResume .. | .fixRequest ..
  | .fixSnapshot .. | .fixPageCopy .. | .fixCopyFirst .. | .fixCommit .. | .fixErase .. | .wearRefill ..
  | .flitForward .. | .eventArrive .. | .closeArrive .. | .ackArrive .. | .doneReduce .. | .stepAdvance
  | .openArrive .. | .countStallTimeout .. | .delayUnitInject | .stippleStart .. | .stippleStop ..
  | .stippleStopped | .rackRequestSend .. | .rackResponseArrive .. | .rackResponseTimeout .. | .tileEnd ..
  | .tileLoop .. | .mmaComplete .. | .waitl .. | .sync .. | .setag .. | .emitClose ..
  | .tileFrameDone .. | .emitterEventSend .. | .tileRunWrite .. | .bankClaim .. | .bankRelease .. | .bankRevoke ..
  | .scratchpadLaneWrite .. | .setAliasWrite .. | .clearAliasWrite .. | .scvSnapshot .. | .slotRun ..
  | .slotLoop .. | .slotEnd .. | .fanRun .. | .tokenTake .. | .memPortRead .. | .hatchFrameStart | .routerDone ..
  | .frameComplete | .abortComplete | .rewindTimeout | .hatchModeWrite .. | .loadBlockReceive ..
  | .loadWindowWrite .. | .frameStartPacket .. | .frameEndPacket .. | .lineMarkerPacket .. | .genericShortPacket ..
  | .phyBurstError .. | .linkEnable .. | .linkDisable .. | .laneActivityWake ..
  | .periodicDeskew .. | .packetTransmit .. | .deskewReceive .. | .lp11StopState .. | .arrHoldExpire ..
  | .inputUnitAccept .. | .tracerEventSend .. | .tracerStepClose .. | .tracerFrameReady ..
  | .placementToken .. | .unitRelease .. | .pressTokenTake .. | .frameTrailerSend .. | .readoutGroup ..
  | .annotationSend .. | .heartbeatSend .. | .rackProduce .. | .blockedProduceRetry .. | .consumeDue .. | .dqRead ..
  | .dqInit .. | .dqDisable .. | .claimP .. | .claimC .. | .releaseP .. | .releaseC .. | .revokeP .. | .revokeC ..
  | .flushOne .. | .reserve .. | .commit .. | .swAbort .. | .peek .. | .swRelease .. | .reservationTimeout ..
  | .rhInRecord | .rhOutRecord | .rackStart .. | .rackRunning | .rackStop .. | .rackStopped | .rackFlush ..
  | .correctionWriteback .. | .invalGo .. | .invalDone .. | .voteWrite .. | .domainRaise .. | .wakeStepReady ..
  | .wakeStepTimeout .. | .lowerHoldExpire .. | .domainIsolate .. | .drainLimitExpire .. | .forcedLowerTimeout ..
  | .i3cAddressWake | .bandChangeStart | .bandChangeEnd | .sensorSample .. | .railSample .. | .powerPolicyStep
  | .capExceeded | .thermalWarn | .thermalTrip | .tripLimitTimer | .mcHotCause | .sensorCause | .watchdogExpire
  | .causeClear .. | .hgKick .. | .hgRelease .. | .hgCfgWrite .. | .regulatorFloorTimeout | .thermalShutdown
  | .porAssert | .aonBrownout | .bootFuse | .bootRom .. | .bootVerify .. | .bootWaves | .bootReady | .bootTimeLimit
  | .reboot .. | .imageLoadWrite | .imageLoadErase | .imageLoadEnd | .flashOperationDone | .flashSessionRevoke
  | .enec .. | .disec .. | .entas .. | .rstdaa | .entdaa .. | .setmwl .. | .setmrl .. | .enthdr0 | .rstact ..
  | .targetResetPattern | .setdasa .. | .setnewda .. | .getmwl | .getmrl | .getpid | .getbcr | .getdcr | .getstatus
  | .getmxds | .getcaps | .unsupportedCcc .. | .i3cProtocolError | .privateRead .. | .hotJoinRequest ..
  | .ibiRequest .. | .mboxLockRead .. | .mboxLockRelease .. | .mboxSend .. | .mboxWithdraw .. | .mboxTake ..
  | .mboxTimeoutExpire .. | .ping | .getVersion | .getState | .readFaults | .openWindow | .closeWindow
  | .flashErase | .flashWrite | .flashEnd | .proofClear | .messagePart | .indRead .. | .indWrite ..
  | .indAutoincRead | .indAutoincWrite .. | .indAccessDone | .attGo .. | .attNewNonce .. | .attReportDone
  | .ksTokenSubmit .. | .ksNewNonce .. | .tokenCheckDone | .bypass | .idcode | .samplePreload .. | .extest ..
  | .clamp | .highz | .challenge | .token .. | .jtagStatus | .relock | .provision .. | .provisionVerify ..
  | .jtagScan | .testLogicReset | .hello | .joinWaitExpire | .draft | .keepalive | .forced | .diverge | .decideMsg
  | .resyncReq | .join | .cutover | .nack | .stateBlock | .resyncBlockSend | .stepDigest | .frameDigest
  | .suspectWaitExpire | .hbToggle | .mirrorKeepaliveDue | .partnerHbLost | .mirrorSilent | .pairKick ..
  | .pairResyncCmd .. | .demote .. | .leave .. | .mateHbInEdge | .pairKickExpire | .timerCountTick ..
  | .tbLoRead .. | .tbHiRead .. | .timerCountWrite .. | .timerPeriodWrite .. | .gstart .. | .captureEdge ..
  | .capqValRead .. | .trigPulseEnd .. | .recordStage | .recordCommit .. | .timeRecord | .clearPageZero ..
  | .bucketRefill | .hgDeclare .. | .declareSweepDone .. | .scribeWdExpire .. | .scribeRestart .. | .scribeKick ..
  | .scribeRestartTimeout .. | .partRestart .. => true

end Sys2Proof
end

