-- ==== Sys2Proof/Tests/Slice0.lean ====
section
/-! SUPPORT. Tests of the model: ill-formed commands that the well-formedness check refuses, worked examples of the
spec, and for every statement with hypotheses a state and operands that meet them. -/

namespace Sys2Proof.Tests

set_option Elab.async false

open Sys2Proof.Machine

/-! ### Small devices -/

/-- A device at reset but for its domains, which are all ON, and its Scribes, which run. -/
def live : Device :=
  { regs := (List.range 8).map (fun i => (0x0010000040 + 4 * i, 0xAAAAAAAA))
    scribes := Vector.replicate 4 { running := true, released := true } }

/-- The same with fields written. -/
def with_ (l : List (Fld × Nat)) : Device := l.foldl (fun d e => d.put e.1 e.2) live

/-- Out of reset at a temperature. -/
def hot (deg : Nat) : Device :=
  ((with_ [(F.PWR_TS_MAX_VALID, 1), (F.PWR_TS_MAX_TEMP, 8 * deg)]).modBoot (fun b => { b with por := false }))

/-- Core 5 bound, running and waiting, with OPEN of step 7 to take. -/
def etchAt : Device :=
  ((with_ [(F.TOPO_ETCH_SITE_VALID 5, 1), (F.ETCH_CTRL_RUN 5, 1), (F.ETCH_STEP 5, 6)]).modCore 5
    (fun c => { c with phase := .waiting })).modPort 5 (fun p => { p with opened := some 7 })

/-- The same within step 7, an event of the step in its buffer. -/
def etchIn : Device :=
  (etchAt.modCore 5 (fun c => { c with phase := .opened, follows := true, fetches := [⟨3, 0, 1, 0, 4⟩] })).modPort 5
    (fun p => { p with opened := none, buf := [⟨1, 0, false, 7, 9, 2⟩] })

/-- The same with the step all-in. -/
def etchAll : Device :=
  (etchIn.modCore 5 (fun c => { c with fetches := [], flagDone := [3] })).modPort 5
    (fun p => { p with buf := [], allIn := true })

/-- The event of the step is for the reward axon. -/
def etchRew : Device := (etchIn.put (F.ETCH_REWARD_CFG_EN 5) 1).put (F.ETCH_REWARD_CFG_AXON 5) 9

/-- A running Stipple net, source 63 with an event to core 5 of the open step. -/
def netSend : Device :=
  (with_ [(F.TOPO_ETCH_SITE_VALID 5, 1), (F.STIPPLE_STATUS_STATE, 2), (F.STIPPLE_STEP, 4)]).modSource 63 (fun q =>
    { q with credit := [(5, 1)], sendQ := [.event 5 9 2 false [5]] })

theorem witness_EtchStepsComplete :
    ((etchAt.port 5).opened = some 7 ∧ etchAt.canOpen 5 = true) ∧
    (etchIn.consuming 5 = true ∧ etchIn.nextEvent 5 = some ⟨1, 0, false, 7, 9, 2⟩ ∧
      (etchIn.flag (F.ETCH_REWARD_CFG_EN 5) && decide (9 = etchIn.fld (F.ETCH_REWARD_CFG_AXON 5))) = false) ∧
    (etchRew.consuming 5 = true ∧ etchRew.nextEvent 5 = some ⟨1, 0, false, 7, 9, 2⟩ ∧
      (etchRew.flag (F.ETCH_REWARD_CFG_EN 5) && decide (9 = etchRew.fld (F.ETCH_REWARD_CFG_AXON 5))) = true) ∧
    (etchIn.core 5).fetches[0]? = some ⟨3, 0, 1, 0, 4⟩ ∧
    (etchAll.isOn (domEtch 5) = true ∧ (etchAll.core 5).phase = .opened ∧ (etchAll.port 5).allIn = true ∧
      (etchAll.core 5).fetches = [] ∧ ∀ e ∈ (etchAll.port 5).buf, e.tag ≠ etchAll.stepNow 5 % 16) ∧
    (¬ (64 ≤ 63 ∧ 63 < 72) ∧ (netSend.stState = 2 ∨ netSend.stState = 3) ∧
      (netSend.source 63).sendQ = .event 5 9 2 false [5] :: [] ∧
      netSend.hasCredit 63 ([5].filter netSend.etchBound) = true ∧ netSend.mayOffer 5 = true) ∧
    ((etchAll.core 5).flagDone.contains 3 = true ∧
      2 ≤ ({ etchAll with timebase := 2 } : Device).since (nget (etchAll.core 5).flagAt 3)) := by
  decide +kernel

/-- Core 5 as reset leaves it, ON. -/
def etchIdle : Device := with_ [(F.TOPO_ETCH_SITE_VALID 5, 1), (F.ETCH_CTRL_RUN 5, 1)]

theorem witness_EtchRunControlCompletes :
    (∀ d ∈ [etchIdle, etchIn, etchAt], d.admits (.scribe 0) (F.ETCH_CTRL_RUN 5).addr = true) ∧
    (etchIdle.core 5).phase = .idle ∧ (etchIn.core 5).phase = .opened ∧ (etchAt.core 5).phase = .waiting := by
  decide +kernel

/-- Core 5 idle, with tokens for a fix of no region at the next step. -/
def fixAt : Device :=
  with_ [(F.TOPO_ETCH_SITE_VALID 5, 1), (F.ETCH_STEP 5, 6), (F.ETCH_FIX_AT_STEP 5, 7), (F.ETCH_WEAR_TOKENS 5, 2)]

/-- A fix whose boundary has come, in each of its states. -/
def fixIn (st : Nat) : Device :=
  (fixAt.put (F.ETCH_FIX_STATUS_STATE 5) st).modCore 5 (fun c =>
    { c with fix := { atStep := 6, size := 3, regions := [(0, 16)] } })

theorem witness_FixCommandsComplete :
    (fixAt.admits (.scribe 0) (F.ETCH_FIX_CTRL_REQ 5).addr = true ∧ fixAt.fld (F.ETCH_FIX_STATUS_STATE 5) = 0 ∧
      fixAt.fld F.PAIR_STATUS_ROLE ≠ 2 ∧
      0 < stepDiff (fixAt.fld (F.ETCH_FIX_AT_STEP 5)) (fixAt.fld (F.ETCH_STEP 5)) ∧
      stepDiff (fixAt.fld (F.ETCH_FIX_AT_STEP 5)) (fixAt.fld (F.ETCH_STEP 5)) < 2 ^ 31 ∧
      dataPages (fixAt.fixRegions 5) + 2 ≤ 2040 - fixAt.fld (F.ETCH_FIX_LOG_PAGES 5) ∧
      dataPages (fixAt.fixRegions 5) + 2 ≤ fixAt.fld (F.ETCH_WEAR_TOKENS 5)) ∧
    ((fixIn 1).fixDue 5 = true ∧ (fixIn 1).isOn (domEtch 5) = true) ∧
    ((fixIn 2).fld (F.ETCH_FIX_STATUS_STATE 5) = 2 ∧ ((fixIn 2).core 5).fix.staged = [] ∧
      ((List.range (dataPages ((fixIn 2).core 5).fix.regions)).map (· + 1)).find?
        (fun i => !((fixIn 2).core 5).fix.copied.contains i) = some 1) ∧
    (let d := (fixIn 2).modCore 5 (fun c => { c with fix := { c.fix with staged := [(1, [0])] } })
     d.fld (F.ETCH_FIX_STATUS_STATE 5) = 2 ∧ d.isOn (domEtch 5) = true ∧ (d.core 5).fix.staged = [(1, [0])]) ∧
    (0x40000 ≤ 0x9FFFF ∧ 0x9FFFF < 0xA0000 ∧ fixAt.admitsMem (.scribe 0) (etchBase 5 + 4 * 0x9FFFF) = true ∧
      fixAt.ueAt (etchBase 5 + 4 * 0x9FFFF) = false) ∧
    ((fixIn 3).fld (F.ETCH_FIX_STATUS_STATE 5) = 3 ∧ (fixIn 3).isOn (domEtch 5) = true) ∧
    (let d : Device := { fixAt with verifyFails := [] }
     let h := headerPage 1 6 5 0 2 d.netHash []
     let r := (d.takeTokens 5 2).plateWrite 5 0 h
     d.admits (.scribe 0) (F.ETCH_FIX_CTRL_ERASE 5).addr = true ∧ d.fld (F.ETCH_FIX_LOG_HEAD 5) = 0 ∧
      (d.fld (F.ETCH_FIX_SEQ 5) + 1) % 2 ^ 32 = 1 ∧ 2 ≤ d.fld (F.ETCH_WEAR_TOKENS 5) ∧ r.2 = true ∧
      d.fld (F.ETCH_FIX_LOG_PAGES 5) ≤ 2038 ∧
      (r.1.plateWrite 5 1 (commitPage 1 2 (crc64 h))).2 = true) := by
  decide +kernel

/-- Router 20 with one unit at input p; core 5 bound at site 20. -/
def flitAt (u : FlitUnit) (p : Nat) : Device :=
  (with_ [(F.TOPO_ETCH_SITE_VALID 5, 1), (F.TOPO_ETCH_SITE_ROW 5, 1), (F.TOPO_ETCH_SITE_COL 5, 6)]).modRouter 20
    (fun r => { r with inq := vmod r.inq p (fun _ => [u]) })

/-- The forwarding of a multicast or OPEN at router 20 port p: whether every copy is accepted at once. -/
def copiesDone (d : Device) (p : Nat) (u : FlitUnit) : Bool :=
  let done := vget (d.router 20).served p []
  let now := (d.outputs 20 p u).filter (fun o => !done.contains o.1 && d.outEmpty 20 o.1)
  (d.outputs 20 p u).all (fun o => (done ++ now.map (·.1)).contains o.1)

/-- Router 20 with DONE from its core. -/
def treeAt : Device := (flitAt [] 1).modRouter 20 (fun r => { r with treeOwn := some 1, treeTag := 4 })

theorem witness_StippleForwardingCompletes :
    ((flitAt [0] 4).isOn domStipple = true ∧ vget ((flitAt [0] 4).router 20).inq 4 [] = [0] :: [] ∧
      unitOk [0] = false) ∧
    (unitOk (mkDone 4 1) = true ∧ fType ((mkDone 4 1).headD 0) = 8) ∧
    (let u := mkUnicast 4 5 1 0 9 2
     let d := flitAt u 4
     d.isOn domStipple = true ∧ vget (d.router 20).inq 4 [] = u :: [] ∧ unitOk u = true ∧
      fType (u.headD 0) ∉ [2, 8, 9] ∧ d.unitDest (u.headD 0) = some (20, 0) ∧
      (routeSet 20 20 0).find? (fun o => d.outEmpty 20 o) = some 0) ∧
    (let u := mkMulticast 4 1 0 9 2 (1 <<< 5)
     unitOk u = true ∧ fType (u.headD 0) = 2 ∧ copiesDone (flitAt u 4) 4 u = true) ∧
    (let u := mkOpen 4
     let d := (flitAt u 3).modRouter 20 (fun r => { r with out := vmod r.out 1 (fun l => { l with req := true }) })
     unitOk u = true ∧ fType (u.headD 0) = 9 ∧ copiesDone d 3 u = false) ∧
    (treeAt.isOn domStipple = true ∧ treeAt.treeKidsOf 20 = [0] ∧ treeAt.outEmpty 20 (treeOut 20) = true ∧
      (treeAt.router 20).treeOwn.isSome = true) ∧
    (let u := mkDone 4 1
     let d := (flitAt [] 1).modSource 5 (fun q => { q with outq := [u] })
     (d.source 5).outq = u :: [] ∧ d.attach 5 = some (20, 0) ∧ d.roomIn 20 0 u = true) := by
  decide +kernel

/-- The net RUNNING at step 4, core 5 bound and running, a unit at its port; window 1 for Tracer 0, enabled. -/
def portAt (u : FlitUnit) : Device :=
  (with_ [(F.TOPO_ETCH_SITE_VALID 5, 1), (F.STIPPLE_STATUS_STATE, 2), (F.STIPPLE_STEP, 4), (F.ETCH_STEP 5, 3),
      (F.ETCH_CTRL_RUN 5, 1), (F.PORT_WIN_WIN0 5 16, 1), (F.STIPPLE_SRC_EN2, 1)]).modSource 5
    (fun q => { q with arr := [u] })

theorem witness_StippleArrivalsComplete :
    (let u := mkUnicast 6 5 64 0 9 2
     (portAt u).arrived 5 [1, 2] = some u ∧ (portAt u).isOn domStipple = true ∧ (portAt u).stState ≠ 0 ∧
      (evtOf u).tag ≠ (portAt u).tOf 5 % 16 ∧ (evtOf u).tag ≠ ((portAt u).tOf 5 + 1) % 16) ∧
    (let u := mkUnicast 4 5 64 0 9 2
     (portAt u).arrived 5 [1, 2] = some u ∧ (evtOf u).tag = (portAt u).tOf 5 % 16 ∧
      ((portAt u).port 5).declared = false ∧
      ((portAt u).port 5).buf.any (fun f => f.src = (evtOf u).src && f.seq = (evtOf u).seq && f.mc == (evtOf u).mc)
        = false ∧
      (((portAt u).port 5).buf.filter (fun f => f.src = (evtOf u).src)).length < (portAt u).win 5 (evtOf u).src ∧
      (portAt u).domState (domEtch 5) = 2 ∧
      ((portAt u).put (F.ETCH_STATUS_STATE 5) 1).portIdle 5 = false) ∧
    (let u := mkUnicast 5 5 64 0 9 2
     let d := (portAt u).put (F.ETCH_CTRL_RUN 5) 0
     d.arrived 5 [1, 2] = some u ∧ (evtOf u).tag = (d.tOf 5 + 1) % 16 ∧
      ((d.port 5).buf.filter (fun f => f.src = (evtOf u).src)).length < d.win 5 (evtOf u).src ∧
      d.domState (domEtch 5) = 2 ∧ d.portIdle 5 = true) ∧
    (let u := mkClose 4 5 64 1
     (portAt u).arrived 5 [4] = some u ∧ ((portAt u).takeArr 5 u).expects 5 (bits (u.headD 0) 43 7) = true ∧
      fTag (u.headD 0) = (portAt u).tOf 5 % 16 ∧ ((portAt u).port 5).declared = false) ∧
    (let u := mkClose 5 5 64 1
     (portAt u).arrived 5 [4] = some u ∧ ((portAt u).takeArr 5 u).expects 5 (bits (u.headD 0) 43 7) = true ∧
      fTag (u.headD 0) = ((portAt u).tOf 5 + 1) % 16 ∧ fTag (u.headD 0) ≠ (portAt u).tOf 5 % 16) ∧
    (let u := mkAck 5 6 1
     (portAt u).arrived 5 [5] = some u ∧ (portAt u).isOn domStipple = true) ∧
    (let u := mkOpen 4
     (portAt u).arrived 5 [9] = some u ∧ (portAt u).etchBound 5 = true ∧
      (portAt u).flag (F.ETCH_CTRL_RUN 5) = true ∧ (portAt u).domState (domEtch 5) = 2 ∧
      ((portAt u).put (F.ETCH_CTRL_RUN 5) 0).flag (F.ETCH_CTRL_RUN 5) = false ∧
      ((portAt u).put (F.ETCH_CTRL_RUN 5) 0).scvDue 5 (stepDiff 4 1) = false) := by
  decide +kernel

/-- The barrier sum of step 4 complete with one core. -/
def barrierAt (st : Nat) : Device :=
  ((portAt []).put F.STIPPLE_STATUS_STATE st).put F.STIPPLE_STATUS_NCORES 1 |>.modSeq (fun q => { q with sum := some (4, 1) })

theorem witness_StippleBarrierCompletes :
    ((barrierAt 2).arrived 104 [8] = none ∧ (barrierAt 2).isOn domStipple = true ∧ (barrierAt 2).stState = 2 ∧
      (barrierAt 2).stepComplete = true ∧
      (barrierAt 2).fld F.STIPPLE_MIN_PERIOD ≤ (barrierAt 2).since (barrierAt 2).seq.openAt) ∧
    (let d : Device := { ((portAt []).modCore 5 (fun c => { c with follows := true })).modPort 5
       (fun p => { p with cls0 := [(64, 2)], rcv0 := [(64, 1)], closesAt := some 0 }) with timebase := 2 ^ 32 }
     d.missing 5 = [] ∧ (d.port 5).closesAt = some 0 ∧ (d.port 5).allIn = false ∧ d.unmatched 5 = [64] ∧
      (d.core 5).follows = true ∧ d.fld F.STIPPLE_STEP_LIMIT ≤ d.since 0 ∧
      d.flag (F.PORT_STATUS_STALLED 5) = false) ∧
    (let d := ((barrierAt 2).put F.STIPPLE_SRC_EN3 256).put F.RACK_STATUS_STATE 2 |>.modSeq (fun q =>
       { q with delayOpen := [4] })
     d.seq.delayOpen = 4 :: [] ∧ d.srcEn 104 = true ∧ d.stState = 2 ∧ d.fld F.RACK_STATUS_STATE = 2) := by
  decide +kernel

/-- Windows of 64 at core 0 for 65 sources, all enabled. -/
def overAt : Device :=
  (List.range 17).foldl (fun d i =>
    d.putWord (F.PORT_WIN_WIN0 0 i).addr 0x40404040) (with_ [(F.STIPPLE_SRC_EN_ETCH 0, 2 ^ 32 - 1),
      (F.STIPPLE_SRC_EN2, 2 ^ 32 - 1), (F.TOPO_ETCH_SITE_VALID 5, 1)] |>.put (F.STIPPLE_SRC_EN_ETCH 1) (2 ^ 32 - 1))

/-- No source enabled: no window is too wide. -/
theorem fits_of_none (d : Device) (h : (List.range 105).filter d.srcEn = []) : d.overWindow = none := by
  simp [Device.overWindow, h]

/-- No source enabled. -/
def muteAt : Device := (List.range 4).foldl (fun d k => d.putWord (0x0330000020 + 4 * k) 0) live

theorem witness_stippleStart : muteAt.stState = 0 ∧
    ((muteAt.put F.STIPPLE_CTRL_STALL_ACTION 0).put F.STIPPLE_CTRL_EN 1).overWindow = none :=
  ⟨by decide +kernel, fits_of_none _ (by decide +kernel)⟩

theorem witness_StippleStartStopCompletes :
    (live.admits (.scribe 0) F.STIPPLE_CTRL_EN.addr = true ∧ (barrierAt 2).stState ≠ 0 ∧
      (barrierAt 2).admits (.scribe 0) F.STIPPLE_CTRL_EN.addr = true) ∧
    (overAt.stState = 0 ∧ overAt.admits (.scribe 0) F.STIPPLE_CTRL_EN.addr = true ∧
      ((overAt.put F.STIPPLE_CTRL_STALL_ACTION 0).put F.STIPPLE_CTRL_EN 1).overWindow = some 0) ∧
    (barrierAt 2).stState = 2 ∧
    ((barrierAt 3).arrived 104 [8] = none ∧ (barrierAt 3).stState = 3 ∧ (barrierAt 3).stepComplete = true) := by
  decide +kernel

theorem witness_EtchRackTrafficCompletes :
    (let r : RackReq := { due := true, queue := 3, step := 4, spill := false, payload := [] }
     let d := live.modCore 5 (fun c => { c with rackCredit := 1, rackQ := [r] })
     (d.core 5).rackQ.find? (d.core 5).maySend = some r) ∧
    (let r : RackReq := { due := false, queue := 3, step := 4, spill := true, payload := [] }
     let u := mkRackResp 0 5 3 false []
     let d := (portAt u).modCore 5 (fun c => { c with rackOut := [(r, 0)] })
     d.arrived 5 [7] = some u ∧ d.isOn (domEtch 5) = true ∧ bits (u.headD 0) 58 2 = 0 ∧
      (d.core 5).rackOut.find? (fun r => r.1.due == decide (bits (u.headD 0) 58 2 ≠ 0) &&
        r.1.queue = bits (u.headD 0) 30 22) = some (r, 0) ∧ (r.spill && bit (u.headD 0) 29) = false) ∧
    (let u := mkRackResp 1 5 3 false (List.replicate 16 7)
     (portAt u).arrived 5 [7] = some u ∧ bits (u.headD 0) 58 2 = 1 ∧
      payChk (u.getD 1 0) (u.getD 2 0) = bits (u.headD 0) 8 16) ∧
    (let r : RackReq := { due := true, queue := 3, step := 4, spill := false, payload := [] }
     let u := mkRackResp 2 5 3 false []
     let d := (portAt u).modCore 5 (fun c => { c with rackOut := [(r, 0)] })
     d.arrived 5 [7] = some u ∧ 2 ≤ bits (u.headD 0) 58 2 ∧
      ((d.core 5).rackOut.find? (fun r => r.1.due == decide (bits (u.headD 0) 58 2 ≠ 0) &&
        r.1.queue = bits (u.headD 0) 30 22)).isSome = true) ∧
    (live.put F.STIPPLE_STATUS_LOSS 1).flag F.STIPPLE_STATUS_LOSS = true ∧
    (((live.modCore 5 (fun c => { c with scvWait := true })).core 5).scvWait = true ∧
      ((live.modCore 5 (fun c => { c with scvWait := true })).core 5).scvBuf.length < 2) := by
  decide +kernel

/-- A frame in progress at the mesh. -/
def meshOn : Device :=
  (with_ [(F.HATCH_STATUS_FSTATE, 2), (F.TOPO_GRAVER_SITE_VALID 2, 1), (F.TOPO_GRAVER_SITE_COL 2, 1)]).modHatch
    (fun h => { h with mode := 2 })

/-- A port of router 1 at table entry 1, which holds w. -/
def portEntry (out : Bool) (p w : Nat) : Device :=
  (meshOn.setBytes (tableAddr 1 out p 1) (leBytes 4 w)).modHr 1 (fun r => r.setPtr out p { en := true, entry := 1 })

theorem witness_HatchSchedulesComplete :
    ((portEntry true 4 0x67FFFFFF).atEntry 1 true 4 1 0x67FFFFFF = true ∧ bits 0x67FFFFFF 27 3 ≤ 4) ∧
    ((portEntry false 0 0x42000000).atEntry 1 false 0 1 0x42000000 = true ∧ bits 0x42000000 25 5 ≠ 0) ∧
    ((portEntry false 0 0x80000001).atEntry 1 false 0 2 0x80000001 = true ∧ bit 0x80000001 29 = false ∧
      bits 0x80000001 0 11 ≠ 0 ∧
      ((portEntry false 0 0x80000001).startOf 1 false 0
        ((portEntry false 0 0x80000001).fld F.HATCH_STATUS_DRAFT)).2 + 1 ≤
          (((portEntry false 0 0x80000001).hr 1).ptr false 0).entry) ∧
    (portEntry true 0 0).atEntry 1 true 0 0 0 = true ∧
    (let d := meshOn.modHr 1 (fun r => ({ r with inq := vmod r.inq 4 (fun _ => [mkTok 0 7]) } : HRouter).setPtr false 4
       { run := true, left := 1, sel := 1 } |>.setPtr true 0 { run := true, left := 1, sel := 4 })
     d.hrOn 1 = true ∧ d.hOutEmpty 1 0 = true ∧ d.hatch.mode = 2 ∧ d.inFrame 1 = true ∧
      ((d.hr 1).ptr true 0).run = true ∧ (d.hr 1).offered 0 ((d.hr 1).ptr true 0).sel = some (mkTok 0 7)) ∧
    (meshOn.inFrame 1 = true ∧ (meshOn.hr 1).reported = false ∧ meshOn.endpointsDone 1 = true ∧
      ∀ p < 5, (((meshOn.hr 1).ptr true p).en = false ∨ ((meshOn.hr 1).ptr true p).done = true) ∧
        (((meshOn.hr 1).ptr false p).en = false ∨ ((meshOn.hr 1).ptr false p).done = true) ∧
        meshOn.hOutEmpty 1 p = true) := by
  decide +kernel

/-- Two tokens at port p of router r for descriptor 5, whose words are w. -/
def landAt (r p : Nat) (w : List Nat) : Device :=
  (meshOn.setBytes (descWord r 5 0) (w.flatMap (leBytes 4))).modHr r (fun q =>
    { q with pend := [(p, 5, 1)], halves := [(5, 2)] })

/-- Router 3, at controller 0, with source-list entry 0 holding w0 and w1. -/
def sourceAt3 (w0 w1 : Nat) : Device :=
  (meshOn.setBytes (hrBase 3 + 0x31000) (leBytes 4 w0 ++ leBytes 4 w1)).modHr 3 (fun q => { q with edgeBusy := true })

theorem witness_HatchEndpointsComplete :
    (let d := landAt 1 0 [5 <<< 29]
     (d.hr 1).pend.find? (fun e => e.1 = 0) = some (0, 5, 1) ∧ d.aborting = false ∧ d.hrOn 1 = true ∧
      ((d.hr 1).ptr true 0).err = false ∧ d.ueAt (descWord 1 5 0) = false ∧ bits (d.ld (descWord 1 5 0) 4) 29 3 = 5) ∧
    (let d := landAt 1 0 [0x1FFFF]
     bits (d.ld (descWord 1 5 0) 4) 29 3 = 0 ∧ atMem 1 0 = false ∧ d.servedTile 1 = some 2 ∧
      d.isOn (domGraver 2) = true) ∧
    (let d := landAt 1 0 [4 <<< 29]
     bits (d.ld (descWord 1 5 0) 4) 29 3 = 4 ∧ atMem 1 0 = false ∧ d.servedTile 1 = some 2 ∧
      d.isOn (domGraver 2) = true ∧ (vget (d.tile 2).land 3 []).length < 64) ∧
    (let d := landAt 3 1 [6 <<< 29, 0, 0, 0x10EFFFFF]
     (d.hr 3).pend.find? (fun e => e.1 = 1) = some (1, 5, 1) ∧ d.aborting = false ∧ d.hrOn 3 = true ∧
      bits (d.ld (descWord 3 5 0) 4) 29 3 = 6 ∧ atMem 3 1 = true ∧
      inRegion (memCtl 3) (d.ld (descWord 3 5 3) 4 <<< 8 + 0) = true ∧ d.isOn (domMc (memCtl 3)) = true) ∧
    (let d := sourceAt3 0 0
     isMemSite 3 = true ∧ d.inFrame 3 = true ∧ (d.hr 3).edgeBusy = true ∧ (d.hr 3).offer = [] ∧
      ((d.hr 3).ptr false (memPort 3)).err = false ∧ (d.hr 3).memEntry < 256 ∧
      d.ueAt (hrBase 3 + 0x31000) = false ∧ bit (d.ld (hrBase 3 + 0x31004) 4) 31 = false) ∧
    (let d := sourceAt3 0xEFFFFFE0 0x80010010
     let a := hrBase 3 + 0x31000
     let at_ := (List.range (bits (d.ld (a + 4) 4) 16 15 + 1)).map
       (fun k => bits (d.ld a 4) 5 27 <<< 5 + bits (d.ld (a + 4) 4) 0 8 <<< 32 + 16 * k)
     bit (d.ld (a + 4) 4) 31 = true ∧ (∀ x ∈ at_, lpBase ≤ x → x < lpEnd → inRegion (memCtl 3) x = true) ∧
      d.isOn (domMc (memCtl 3)) = true) := by
  decide +kernel

/-- The mesh at a frame boundary. -/
def meshIdle : Device := (with_ [(F.HATCH_STATUS_FSTATE, 1)]).modHatch (fun h => { h with mode := 2 })

/-- The mesh with every node reported. -/
def meshReported : Device := { meshOn with hrs := Vector.replicate 112 { reported := true } }

theorem witness_HatchFramesComplete :
    meshIdle.mayStart = true ∧
    (meshReported.fld F.HATCH_STATUS_FSTATE = 2 ∧ meshReported.meshDone = true) ∧
    (let d := meshOn.modHatch (fun h => { h with idle := 2000 })
     d.fld F.HATCH_STATUS_FSTATE = 2 ∧ d.sentinelOff = false ∧ d.hatch.limit ≤ d.hatch.idle) ∧
    (meshOn.admits (.scribe 0) F.HATCH_CTRL_ABORT.addr = true ∧ meshOn.fld F.HATCH_STATUS_FSTATE = 2) ∧
    ((meshOn.put F.HATCH_STATUS_FSTATE 3).fld F.HATCH_STATUS_FSTATE = 3 ∧
      (∀ r < 112, ((meshOn.put F.HATCH_STATUS_FSTATE 3).hr r).ue = false) ∧
      (∀ n < 32, (meshOn.put F.HATCH_STATUS_FSTATE 3).progUe n = false)) ∧
    (let d : Device := { meshOn.put F.HATCH_STATUS_FSTATE 3 with timebase := 15000 }
     d.fld F.HATCH_STATUS_FSTATE = 3 ∧ 15000 ≤ d.since d.hatch.abortAt) ∧
    (meshIdle.admits (.scribe 0) F.HATCH_CTRL_MODE.addr = true ∧ meshIdle.fld F.HATCH_CTRL_ABORT = 0) ∧
    meshIdle.admits (.scribe 0) F.HATCH_LOAD_CTRL.addr = true := by
  decide +kernel

/-- The CRC of a load block stays within 32 bits. -/
theorem crc_fits (l : List Byte) : (crcBytesLsb 0xEDB88320 0xFFFFFFFF l) ^^^ 0xFFFFFFFF < 2 ^ 32 := by
  have bit (x : Nat) (b : Bool) (h : x < 2 ^ 32) : crcBitLsb 0xEDB88320 x b < 2 ^ 32 := by
    have h1 : x >>> 1 < 2 ^ 32 := by rw [Nat.shiftRight_eq_div_pow]; omega
    unfold crcBitLsb
    split
    · exact Nat.xor_lt_two_pow h1 (by decide)
    · exact h1
  have bits (l : List Bool) : ∀ x, x < 2 ^ 32 → l.foldl (crcBitLsb 0xEDB88320) x < 2 ^ 32 := by
    induction l with
    | nil => exact fun _ h => h
    | cons b t ih => exact fun x h => ih _ (bit x b h)
  have bytes (l : List Byte) : ∀ c, c < 2 ^ 32 →
      l.foldl (fun c b => (byteBitsLsb b).foldl (crcBitLsb 0xEDB88320) c) c < 2 ^ 32 := by
    induction l with
    | nil => exact fun _ h => h
    | cons b t ih => exact fun c h => ih _ (bits _ c h)
  exact Nat.xor_lt_two_pow (bytes l _ (by decide)) (by decide)

/-- The data of a load block of zeros. -/
def loadData : List Byte := List.replicate 4096 0

/-- The block with CRC x, for the landing descriptors of router 1 in window 9; the mesh in LOAD mode in that window,
and with the block received at router 1. -/
def loadHead (x : Nat) : Nat := 0x30000 + 1 <<< 32 + x <<< 64
def loadBlk (x : Nat) : List HTok := mkTok 1 (9 <<< 112) :: mkTok 1 (loadHead x) :: List.replicate 256 (mkTok 2 0)
def loadMode : Device := (with_ [(F.HATCH_LOAD_CTRL, 9)]).modHatch (fun h => { h with mode := 1 })
def loadAt (x : Nat) : Device := loadMode.modHr 1 (fun q => { q with rx := loadBlk x })

theorem loadHead_bits (x : Nat) (h : x < 2 ^ 32) :
    bit (loadHead x) 32 = true ∧ bits (loadHead x) 0 32 = 0x30000 ∧ bits (loadHead x) 64 32 = x := by
  unfold loadHead
  refine ⟨?_, ?_, ?_⟩
  · simp only [bit, Nat.testBit_eq_decide_div_mod_eq, Nat.shiftLeft_eq]; simp; omega
  · simp only [bits, Nat.shiftLeft_eq, Nat.shiftRight_eq_div_pow]; omega
  · simp only [bits, Nat.shiftLeft_eq, Nat.shiftRight_eq_div_pow]; omega

/-- What the receipt of a load block at router 1 asks of a device. -/
def LoadBlockMeets (d : Device) : Prop :=
  let blk := (d.hr 1).rx.take 258
  let h0 := (blk.getD 0 ⟨0, 0, 0⟩).data
  let h1 := (blk.getD 1 ⟨0, 0, 0⟩).data
  let off := bits h1 0 32
  let data := (blk.drop 2).flatMap (fun t => leBytes 16 t.data)
  d.hrOn 1 = true ∧ d.hatch.mode = 1 ∧ 258 ≤ (d.hr 1).rx.length ∧
  bit h1 32 = true ∧ off % 4096 = 0 ∧ off + 4096 ≤ 0x40000 ∧ (memAt (hrBase 1 + off)).isSome = true ∧
  (blk.all HTok.ok && (blk.take 2).all (fun t => t.kind = 1) && (blk.drop 2).all (fun t => t.kind = 2)) = true ∧
  (crcBytesLsb 0xEDB88320 0xFFFFFFFF data) ^^^ 0xFFFFFFFF = bits h1 64 32 ∧
  bits h0 112 16 = ((d.modHr 1 (fun q => { q with rx := q.rx.drop 258 })).loadWords (hrBase 1 + off) data).fld
    F.HATCH_LOAD_CTRL

theorem loadAt_meets (x : Nat) (h : x < 2 ^ 32)
    (hx : (crcBytesLsb 0xEDB88320 0xFFFFFFFF loadData) ^^^ 0xFFFFFFFF = x) : LoadBlockMeets (loadAt x) := by
  have hr : ((loadAt x).hr 1).rx = loadBlk x := by simp [loadAt, Device.hr, Device.modHr, vget, vmod]
  have hl : (loadBlk x).length = 258 := by simp only [loadBlk, List.length_cons, List.length_replicate]
  have hb : (loadBlk x).take 258 = loadBlk x := by rw [← hl]; exact List.take_length
  have hm : (loadAt x).modHr 1 (fun q => { q with rx := q.rx.drop 258 }) =
      loadMode.modHr 1 (fun q => { q with rx := [] }) := by
    have hz : (loadBlk x).drop 258 = [] := by rw [← hl]; exact List.drop_length
    simp [loadAt, Device.modHr, vmod, hz]
  have hd : ((loadBlk x).drop 2).flatMap (fun t => leBytes 16 t.data) = loadData := by
    have z : leBytes 16 (mkTok 2 0).data = List.replicate 16 0 := by decide +kernel
    show (List.replicate 256 (mkTok 2 0)).flatMap (fun t => leBytes 16 t.data) = List.replicate (256 * 16) 0
    rw [List.flatMap_replicate, z, List.flatten_replicate_replicate]
  have ok (k y : Nat) : HTok.ok (mkTok k y) = true := by simp [HTok.ok, mkTok]
  have ha : ((loadBlk x).all HTok.ok && ((loadBlk x).take 2).all (fun t => t.kind = 1) &&
      ((loadBlk x).drop 2).all (fun t => t.kind = 2)) = true := by
    show ((HTok.ok _ && (HTok.ok _ && (List.replicate 256 (mkTok 2 0)).all HTok.ok)) && true &&
      (List.replicate 256 (mkTok 2 0)).all (fun t => t.kind = 2)) = true
    rw [List.all_replicate, List.all_replicate, ok, ok, ok]
    rfl
  have h1 : ((loadBlk x).getD 1 ⟨0, 0, 0⟩).data = loadHead x := rfl
  have h0 : ((loadBlk x).getD 0 ⟨0, 0, 0⟩).data = 9 <<< 112 := rfl
  obtain ⟨e1, e2, e3⟩ := loadHead_bits x h
  unfold LoadBlockMeets
  simp only [hr, hm, hb, h1, h0, hd, e1, e2, e3, hl]
  refine ⟨?_, ?_, Nat.le_refl _, trivial, by decide, by decide, by decide +kernel, ha, hx, by decide +kernel⟩
  · show loadMode.hrOn 1 = true
    decide +kernel
  · show loadMode.hatch.mode = 1
    decide +kernel

theorem witness_loadBlockReceive : ∃ x, LoadBlockMeets (loadAt x) := ⟨_, loadAt_meets _ (crc_fits _) rfl⟩

/-- Tile 31 in its frame at instruction w, the last of its program store. -/
def progAt (w : Nat) : Device :=
  let d := with_ [(F.TOPO_GRAVER_SITE_VALID 31, 1), (F.GRAVER_STATUS_STATE 31, 2)]
  (d.modTile 31 (fun t => { t with pc := 32767 })).setBytes (graverBase 31 + 0x40000 + 8 * 32767) (leBytes 8 w)

/-- An instruction of an opcode on array 0. -/
def wordOf (op : Nat) : Nat := op <<< 58 + 1 <<< 54

theorem witness_GraverSequencerCompletes :
    (∀ op ∈ [2, 3, 4, 5, 9], (progAt (wordOf op)).atInstr 31 op (wordOf op) = true ∧
      (((progAt (wordOf op)).note ((progAt (wordOf op)).progAddr 31)).tile 31).hasRoom (wordOf op) = true) ∧
    (progAt 0).atInstr 31 0 0 = true ∧
    (progAt (1 <<< 58 + 3 <<< 27)).atInstr 31 1 (1 <<< 58 + 3 <<< 27) = true ∧
    ((progAt (6 <<< 58 + 7 <<< 55)).atInstr 31 6 (6 <<< 58 + 7 <<< 55) = true ∧
      bits (6 <<< 58 + 7 <<< 55) 38 17 ≤ (progAt (6 <<< 58 + 7 <<< 55)).fld (F.GRAVER_LC 31 7)) ∧
    (let w := 7 <<< 58 + 0x7F <<< 51
     (progAt w).atInstr 31 7 w = true ∧
      ∀ u ∈ (bitsSet 4 (bits w 54 4)) ++ (if bit w 53 then [4] else []) ++ (if bit w 52 then [5] else []) ++
        (if bit w 51 then [6] else []), ((progAt w).note ((progAt w).progAddr 31)).unitIdle 31 u = true) ∧
    (progAt (8 <<< 58 + 15 <<< 54)).atInstr 31 8 (8 <<< 58 + 15 <<< 54) = true ∧
    ((progAt (10 <<< 58)).modTile 31 (fun t => { t with clash := [⟨5, 0, 1⟩, ⟨5, 0, 2⟩] })).atInstr 31 10 (10 <<< 58) = true := by
  decide +kernel

/-- Tile 31 with one instruction issued. -/
def issuedAt (op : Nat) : Device :=
  (progAt 0).modTile 31 (fun t => { t with issued := [{ word := wordOf op, ag := [], gated := false }] })

theorem witness_GraverUnitsComplete :
    (∀ op ∈ [2, 3, 4, 5], ((issuedAt op).modTile 31 (fun t => { t with clash := [⟨5, 0, 1⟩] })).nextReady 31 op =
      some (0, { word := wordOf op, ag := [], gated := false })) ∧
    ((issuedAt 9).nextReady 31 9 = some (0, { word := wordOf 9, ag := [], gated := false }) ∧
      (issuedAt 9).landNeed 31 { word := wordOf 9, ag := [], gated := false } = []) ∧
    (let d := ((progAt 0).put F.HATCH_STATUS_FSTATE 2).modTile 31 (fun t => { t with ended := true })
     d.fld F.HATCH_STATUS_FSTATE = 2 ∧ d.isOn (domGraver 31) = true ∧ d.fld (F.GRAVER_STATUS_STATE 31) = 2 ∧ (d.tile 31).ended = true ∧
      (d.tile 31).issued = [] ∧ (d.tile 31).completing = [] ∧ (d.tile 31).hout = []) ∧
    (let d := (with_ [(F.STIPPLE_STATUS_STATE, 3), (F.STIPPLE_STEP, 4)]).modSource 103 (fun q =>
       { q with sendQ := [.event 5 9 2 true [63]] })
     (d.stState = 2 ∨ d.stState = 3) ∧ (d.source (72 + 31)).sendQ = .event 5 9 2 true [63] :: [] ∧
      d.hasCredit (72 + 31) ([63].filter d.etchBound) = true ∧ d.mayOffer 5 = true) := by
  decide +kernel

/-- Tile 31 bound and IDLE; its bank 15 given to an initiator. -/
def tileOwned (owner : Nat) : Device := with_ [(F.TOPO_GRAVER_SITE_VALID 31, 1), (F.GRAVER_BANK_OWN_OWNER 31 15, owner)]

theorem witness_GraverWritesComplete :
    (tileOwned 0).admits (.scribe 3) (F.GRAVER_CTRL 31).addr = true ∧
    ((tileOwned 0).admits (.scribe 3) (F.GRAVER_BANK_OWN_REQ 31 15).addr = true ∧ (Ini.scribe 3).num ≠ iniHg ∧
      (tileOwned 0).fld (F.GRAVER_BANK_OWN_OWNER 31 15) = 0 ∧
      (tileOwned 0).flag (F.GRAVER_BANK_OWN_PENDING 31 15) = false ∧
      ∀ k < 4, bit ((tileOwned 0).fld (F.GRAVER_PROG_BANK_USE 31 k)) 15 = false) ∧
    ((tileOwned 5).admits (.scribe 3) (F.GRAVER_BANK_OWN_REQ 31 15).addr = true ∧
      (tileOwned 5).fld (F.GRAVER_BANK_OWN_OWNER 31 15) = (Ini.scribe 3).num) ∧
    (tileOwned 5).admits .hg (F.GRAVER_BANK_OWN_REQ 31 15).addr = true ∧
    (let a := graverBase 31 + 0x400000 + 4 * 0xFFFFF
     (tileOwned 5).shut 5 = false ∧ (tileOwned 5).reach 5 a true = true ∧ (tileOwned 5).served a (domGraver 31) = true ∧
      (tileOwned 5).laneOpen 5 31 (4 * 0xFFFFF) true = true ∧ (tileOwned 5).ueAt a = false) ∧
    (let a := graverBase 31 + 0x400000
     (tileOwned 5).shut 5 = false ∧ (tileOwned 5).reach 5 a true = true ∧ (tileOwned 5).served a (domGraver 31) = true ∧
      (tileOwned 5).laneOpen 5 31 0 true = true ∧ (tileOwned 5).ueAt a = false) := by
  decide +kernel

/-- Tracer 7 receiving, channel 3 mapped to a stream with the given role. -/
def rxAt (role : Nat) : Device :=
  (with_ [(F.TRACER_LINK_STATUS_ENABLED 7, 1), (F.TRACER_RX_VCMAP_EN 7 3, 1),
    (F.TRACER_RX_VCMAP_ROLE 7 3, role), (F.TRACER_RX_VCMAP_STREAM 7 3, 3)]).modCsi (.rx 7) (fun l => { l with trained := true })

/-- The same with a frame open on channel 3. -/
def rxOpen : Device := (rxAt 0).put (F.TRACER_FRAME_OPEN 7) 8

/-- That device in the burst that delivers a packet of channel 3. -/
def inRx (d : Device) : Device := (d.inBurst (.rx 7)).corrected 7 true

/-- With the short packet counted. -/
def notedRx (d : Device) (dt num : Nat) : Device :=
  ((inRx d).bump (F.TRACER_SHORT_PKTS 7)).lastHdr 7 3 dt num

/-- A packet of channel 3 with one byte and its CRC. -/
def longOf (dt : Fin 64) : LongPkt := { vc := 3, dt := dt, wc := 1, corrected := true, crcOk := true, payload := [7], crcBytes := 2 }

/-- What a packet that is taken meets. -/
def takenBy (d : Device) (k : LongPkt) : Prop :=
  (16 ≤ k.dt.val ∧ k.wc.val + 2 ≤ k.payload.length + k.crcBytes.val) ∧ k.crcOk = true ∧ (inRx d).rxRole 7 3 ≠ 3 ∧
    admits ((inRx d).rxRole 7 3) k.dt.val = true

theorem witness_CsiReceptionCompletes :
    (rxOpen.rxLive 7 = true ∧ rxOpen.rxChannel 7 3 = 3 ∧ (longOf 15).dt.val < 16) ∧
    (let k : LongPkt := { longOf 0x30 with crcBytes := 1 }
     16 ≤ k.dt.val ∧ k.payload.length + k.crcBytes.val < k.wc.val + 2) ∧
    (let k : LongPkt := { longOf 0x30 with crcOk := false }
     (16 ≤ k.dt.val ∧ k.wc.val + 2 ≤ k.payload.length + k.crcBytes.val) ∧ k.crcOk = false) ∧
    ((rxAt 3).rxLive 7 = true ∧ (longOf 0x30).crcOk = true ∧
      ((inRx (rxAt 3)).rxRole 7 3 = 3 ∨ admits ((inRx (rxAt 3)).rxRole 7 3) 0x30 = false)) ∧
    (takenBy rxOpen (longOf 0x11) ∧ (longOf 0x11).dt.val ≤ 0x11) ∧
    (takenBy (rxAt 0) (longOf 0x12) ∧ 0x12 ≤ (longOf 0x12).dt.val ∧ (inRx (rxAt 0)).frameOpen 7 3 = false) ∧
    (takenBy rxOpen (longOf 0x31) ∧ (inRx rxOpen).frameOpen 7 3 = true ∧ (inRx rxOpen).rxRole 7 3 = 0) ∧
    (let d := (rxAt 1).put (F.TRACER_FRAME_OPEN 7) 8
     d.rxLive 7 = true ∧ takenBy d (longOf 0x35) ∧ (inRx d).frameOpen 7 3 = true ∧ (inRx d).rxRole 7 3 = 1) ∧
    (let d := (rxAt 2).put (F.TRACER_FRAME_OPEN 7) 8
     d.rxLive 7 = true ∧ takenBy d (longOf 0x36) ∧ (inRx d).frameOpen 7 3 = true ∧ (inRx d).rxRole 7 3 = 2) := by
  unfold takenBy
  decide +kernel

theorem witness_CsiLinksComplete :
    (live.admits (.scribe 0) (CsiPort.tx 3).en.addr = true ∧ live.flag (CsiPort.tx 3).enabled = false) ∧
    (rxOpen.admits (.scribe 0) (CsiPort.rx 7).en.addr = true ∧ rxOpen.flag (CsiPort.rx 7).enabled = true) ∧
    (live.flag (CsiPort.tx 0).enabled = false ∨ live.flag (CsiPort.tx 0).hs = false ∨ (live.press 0).txq = []) ∧
    (let d : Device := { live.modCsi (.rx 0) (fun l => { l with pendDis := some 0 }) with timebase := 10000 }
     (d.csi (.rx 0)).pendDis = some 0 ∧ 10000 ≤ d.since 0) ∧
    ({} : Device).isOn (domTracer 7) = false ∧
    (let d := rxOpen.put (CsiPort.rx 7).rate 1500
     d.flag (CsiPort.rx 7).enabled = true ∧ d.isOn (domTracer 7) = true ∧ d.flag (CsiPort.rx 7).cphy = false ∧
      1500 ≤ d.fld (CsiPort.rx 7).rate) ∧
    (let d : Device := { (live.put (CsiPort.tx 3).enabled 1).put (CsiPort.tx 3).rate 1500 |>.put
       (F.PRESS_LINK_TIMING_DESKEW_PERIOD 3) 1 with timebase := 100 }
     d.flag (CsiPort.tx 3).enabled = true ∧ d.isOn (domPress 3) = true ∧ d.flag (CsiPort.tx 3).cphy = false ∧
      1500 ≤ d.fld (CsiPort.tx 3).rate ∧ d.fld (F.PRESS_LINK_TIMING_DESKEW_PERIOD 3) ≠ 0 ∧
      100 * d.fld (F.PRESS_LINK_TIMING_DESKEW_PERIOD 3) ≤ d.since (d.csi (.tx 3)).deskewAt) ∧
    (∀ dt ∈ [0, 1, 15, 16, 0x37], let d := (live.put (CsiPort.tx 3).enabled 1).modPress 3 (fun q =>
        { q with txq := [⟨0, dt, 5, []⟩] })
     d.flag (CsiPort.tx 3).enabled = true ∧ (d.press 3).txq = ⟨0, dt, 5, []⟩ :: [] ∧
      d.flag (F.PRESS_REPEAT_EN 3) = false ∧ d.isOn (domPress 3) = true) ∧
    (let d : Device := { live.put F.PWR_ARR_HOLD 5 with timebase := 5 }
     d.flag (F.TRACER_LINK_STATUS_HS 7) = false ∧ (d.stState = 0 ∨ d.srcEn (64 + 7) = false) ∧ (d.tracer 7).rxq = [] ∧
      (d.tracer 7).evq = [] ∧ (∀ k < 4, (d.stream 7 k).units = []) ∧
      d.fld F.PWR_ARR_HOLD ≤ d.since (d.tracer 7).link.burstAt ∧ (d.press 3).txq = [] ∧ (d.press 3).trailer = none ∧
      (d.press 3).annDue = [] ∧ d.fld (F.PRESS_PR_STATUS 3) = 0 ∧ d.fld F.PWR_ARR_HOLD ≤ d.since (d.press 3).quietAt) := by
  decide +kernel

/-- Tracer 7, channel 3 of stream 2, one unit received and stream 2 as EN says. -/
def trAt (en dt : Nat) (b : List Byte) : Device :=
  (with_ [(F.TRACER_STREAM_CFG_EN 7 2, en)]).modTracer 7
    (fun t => { t with rxq := [.unit 2 3 dt b 9] })

/-- That device with the unit taken from the queue. -/
def trTaken (d : Device) : Device := (d.ingestHead 7).modTracer 7 (fun t => { t with rxq := [] })

/-- Stream 2 of Tracer 7 encoding, one unit held. -/
def encAt (encoded : Bool) : Device :=
  ((with_ [(F.TRACER_STREAM_CFG_EN 7 2, 1), (F.TRACER_STREAM_ENC_CFG0_TYPE 7 2, 1), (F.TRACER_STREAM_STEP 7 2, 6),
    (F.STIPPLE_STATUS_STATE, 2), (F.STIPPLE_STEP, 4), (F.STIPPLE_SRC_EN2, 128)]).modStream 7 2 (fun x =>
    { x with units := [⟨none, 5, 9, 0x30, 0, [1], false, encoded⟩] })).modTracer 7 (fun t => { t with closeNext := 5 })

/-- Tracer 7 with an event to send and credit for it. -/
def trSend : Device :=
  ((with_ [(F.TOPO_ETCH_SITE_VALID 5, 1), (F.STIPPLE_STATUS_STATE, 2), (F.STIPPLE_STEP, 4)]).modSource 71 (fun q =>
    { q with credit := [(5, 1)], sendQ := [.event 7 9 2 false [5], .event 5 9 2 false [5]] })).modTracer 7 (fun t =>
      { t with evq := [2, 3] })

/-- Stream 2 of Tracer 7 placing 16 bytes in the frame in progress. -/
def placeAt : Device :=
  ((with_ [(F.HATCH_STATUS_FSTATE, 2), (F.TRACER_PD0_STREAM 7 0, 2), (F.HATCH_FRAME_CFG_TRACER_MASK, 128)]).modStream 7 2
    (fun x => { x with cur := some 0, units := [⟨some 0, 5, 9, 0x30, 0, List.replicate 16 3, false, true⟩] })).modHr 98
    (fun r => { r with edgeBusy := true })

theorem witness_TracerCommandsComplete :
    (∀ en < 2, ∀ b ∈ [[], [1]], let d := trAt en 0x2C b
      d.isOn (domTracer 7) = true ∧ ((d.ingestHead 7).tracer 7).rxq = .unit 2 3 0x2C b 9 :: [] ∧
      (d.ingestHead 7).isOn (domTracer 7) = true ∧
      (trTaken d).flag (F.TRACER_STREAM_CFG_EN 7 2) = (en == 1) ∧
      unitMalformed 0x2C b = (b == [1])) ∧
    (let u : TUnit := ⟨none, 5, 9, 0x30, 0, [1], false, false⟩
     (encAt false).fld (F.TRACER_STREAM_ENC_CFG0_TYPE 7 2) ≠ 0 ∧ 2 ≤ (encAt false).stState ∧
      ((encAt false).stream 7 2).units.find? (fun u => !u.encoded) = some u) ∧
    (2 ≤ trSend.stState ∧ trSend.sendPick (64 + 7) = some 1 ∧
      (trSend.source (64 + 7)).sendQ[1]? = some (.event 5 9 2 false [5])) ∧
    (2 ≤ (encAt true).stState ∧ (encAt true).srcEn (64 + 7) = true ∧ (encAt true).encoding 7 ≠ [] ∧
      (∀ k ∈ (encAt true).encoding 7, ((encAt true).fld (F.TRACER_STREAM_STEP 7 k) ≠ ((encAt true).tracer 7).closeNext ∧
        stepDiff ((encAt true).fld (F.TRACER_STREAM_STEP 7 k)) ((encAt true).tracer 7).closeNext < 2 ^ 31) ∧
        ∀ x ∈ ((encAt true).stream 7 k).units, x.encoded = true) ∧
      ((encAt true).source (64 + 7)).sendQ = [] ∧ (encAt true).mayOffer ((encAt true).tracer 7).closeNext = true) ∧
    (bit (placeAt.fld F.HATCH_FRAME_CFG_TRACER_MASK) 7 = true ∧ (placeAt.placing 7).all (placeAt.streamReady 7) = true) ∧
    ((placeAt.hr (14 * 7)).edgeBusy = true ∧ (placeAt.hr (14 * 7)).offer = [] ∧
      placeAt.fld F.HATCH_STATUS_FSTATE = 2 ∧
      16 * (placeAt.fld (F.TRACER_PD0_OFFSET 7 (placeAt.tracer 7).plEntry) + (placeAt.tracer 7).plPos) + 16 ≤
        (placeAt.stream 7 (placeAt.fld (F.TRACER_PD0_STREAM 7 (placeAt.tracer 7).plEntry))).input.1.length) := by
  decide +kernel

/-- A token at the edge of Press 3, its output descriptor list on or not. -/
def pressTok (on : Bool) : Device :=
  ((with_ [(F.HATCH_STATUS_FSTATE, 2), (F.PRESS_OD1_TOKENS 3 0, 9), (F.PRESS_OD1_PKT_TOKENS 3 0, 9), (F.PRESS_OD0_STREAM 3 0, 1)]).modHatch
    (fun h => { h with mode := 2 })).modHr 111 (fun r =>
      { r with out := vmod r.out 2 (fun l => { l with req := true, data := (mkTok 0 7).onLink 0 }) }) |>.modPress 3
    (fun p => { p with odOn := on })

/-- The same with the token taken. -/
def pressTook (on : Bool) : Device := ((pressTok on).hAck 111 2).digTok 3 7

/-- A trailer without annotations. -/
def trailerAt : Trailer := { frame := 4, draft := 0, marks := 0, at_ := 0, stamp := 0, abort := none, anns := [], units := 0 }

theorem witness_PressCommandsComplete :
    (∀ on ∈ [true, false], (vget ((pressTok on).hr 111).out pEast {}).req ≠ (vget ((pressTok on).hr 111).out pEast {}).ack ∧
      (pressTok on).isOn (domPress 3) = true ∧ (pressTok on).hrOn 111 = true ∧ (pressTok on).hatch.mode = 2 ∧
      (pressTok on).pressRoom 3 = true ∧ (tokOf (vget ((pressTok on).hr 111).out pEast {}).data).data = 7 ∧
      (pressTok on).aborting = false ∧ ((pressTok on).put F.HATCH_STATUS_FSTATE 3).aborting = true ∧
      (pressTook on).flag (F.PRESS_REPEAT_EN 3) = false ∧ ((pressTook on).press 3).odOn = on) ∧
    (((pressTok true).put (F.PRESS_REPEAT_EN 3) 1).hAck 111 2 |>.digTok 3 7).flag (F.PRESS_REPEAT_EN 3) = true ∧
    (let d := live.modPress 3 (fun p => { p with trailer := some trailerAt })
     (d.press 3).trailer = some trailerAt) ∧
    (let d := live.modPress 3 (fun p => { p with annDue := [trailerAt, trailerAt] })
     (d.press 3).annDue = trailerAt :: [trailerAt]) ∧
    (let d := (with_ [(F.PRESS_RO_CFG_EN 3, 1), (F.RACK_STATUS_STATE, 2), (F.STIPPLE_STEP, 9)]).modPress 3 (fun p =>
       { p with roNext := some 8 })
     (d.press 3).roNext = some 8 ∧ d.flag (F.PRESS_RO_CFG_EN 3) = true ∧ d.flag (F.PRESS_REPEAT_EN 3) = false ∧
      ((List.range 8).filter (fun i => d.flag (F.PRESS_RO_BIND_VALID 3 i)) = [] ∨ d.fld F.RACK_STATUS_STATE = 2) ∧
      stepDiff d.openStep ((8 - 8 % d.roGroup 3 + d.roGroup 3) % 2 ^ 32) < 2 ^ 31) ∧
    (let d : Device := { live.put (F.PRESS_HB_CFG_EN 3) 1 with timebase := 2 ^ 32 }
     d.flag (F.PRESS_HB_CFG_EN 3) = true ∧ d.flag (F.PRESS_REPEAT_EN 3) = false ∧
      100 * max 10 (d.fld (F.PRESS_HB_CFG_PERIOD 3)) ≤ d.since (d.press 3).hbAt) ∧
    (live.put (F.PRESS_REPEAT_EN 3) 1).flag (F.PRESS_REPEAT_EN 3) = true := by
  decide +kernel

/-- A queue's descriptor: a ring of 4 KB at the start of LPDDR4X, valid, its tail, its claims. -/
def descAt (tail p c : Nat) : Desc := ⟨0x10000000, 1 <<< 31 + 12 <<< 24 + p <<< 17 + c <<< 10, 0, tail⟩

/-- The Rack in a state, queue 3 with that descriptor cached and one record of 16 bytes due at step 5 in its ring;
DQ_SEL of Scribe 3 and Hardground on queue 3. -/
def rackAt (st : Nat) (e : Desc) : Device :=
  ((with_ [(F.RACK_STATUS_STATE, st), (F.RACK_DQ_SEL 5, 3), (F.RACK_DQ_SEL 1, 3)]).modRack (fun k =>
    { k with cache := [(3, ⟨e, false⟩)] })).setBytes lpBase (recHeader 0 64 16 0 ++ leBytes 8 5 ++ leBytes 8 7)

/-- A request of core 63 for queue 3 at the Rack. -/
def rackReqAt (due bad : Bool) : Device :=
  let u := mkRackReq { due := due, queue := 3, step := 5, spill := false, payload := List.replicate 16 1 } 63
  (rackAt 2 (descAt 3 0 0)).modSeq (fun s => { s with rackArr := [if bad then u.set 1 0 else u] })

/-- A produce that waits at queue 3. -/
def waitAt (reserve : Bool) : Waiting := { queue := 3, claimant := 5, len := 16, payload := List.replicate 16 1, reserve }

theorem witness_RackQueuesComplete :
    (∀ bad ∈ [true, false], let d := (rackReqAt false bad).tieRack true
      (d.rackNext false).isSome = true ∧ d.fld F.RACK_STATUS_STATE ≠ 1 ∧ d.fld F.RACK_STATUS_STATE ≠ 3 ∧
      d.isOn domRack = true) ∧
    (let d := (rackAt 2 (descAt 3 0 0)).modRack (fun r => { r with waits := [waitAt true] })
     d.fld F.RACK_STATUS_STATE = 2 ∧ d.rack.resvs.any (fun r => r.queue = 3) = false ∧
      d.rack.waits.any (fun w => w.queue = 3) = true) ∧
    (let d := (rackReqAt true false).tieRack false
     (d.rackNext true).isSome = true ∧ d.isOn domRack = true) ∧
    (let r : Resv := { queue := 3, ini := 5, padLen := 0, pos := 3, len := 16, at_ := 0 }
     let d : Device := { (rackAt 2 (descAt 3 0 0)).modRack (fun k => { k with resvs := [r] }) with timebase := 2 ^ 33 }
     d.rack.resvs.find? (fun r => r.queue = 3) = some r ∧ d.fld F.RACK_RSV_LIMIT < d.since r.at_) := by
  decide +kernel

theorem witness_RackDescriptorCommandsComplete :
    (∀ ini ∈ [Ini.scribe 3, .hg], (rackAt 2 (descAt 3 0 0)).admits ini 0x0320000104 = true ∧
      (rackAt 2 (descAt 3 0 0)).fld F.RACK_STATUS_STATE = 2 ∧
      (rackAt 2 (descAt 3 0 0)).fld (F.RACK_DQ_SEL ini.num) = 3) := by
  decide +kernel

theorem witness_RackSoftwareCommandsComplete :
    (∀ len ∈ [65536, 65537], ∀ p ∈ [0, 6],
      let s := (rackAt 2 ⟨0x10000000, 1 <<< 31 + 20 <<< 24 + p <<< 17, 0, 3⟩).put (F.RACK_SW_LEN 5) len
      let d := s.swStart 5 3
      let f := d.fetchDesc 3
      s.admits (.scribe 3) 0x0320000120 = true ∧ s.fld F.RACK_STATUS_STATE = 2 ∧ s.fld (F.RACK_DQ_SEL 5) = 3 ∧
      d.fld F.RACK_STATUS_STATE = 2 ∧ s.fld (F.RACK_SW_LEN 5) = len ∧ (f.2.refuses 5 65536).isSome = decide (p = 6)) ∧
    (∀ rs ∈ [[], [({ queue := 3, ini := 5, padLen := 0, pos := 3, len := 16, at_ := 0 } : Resv)]],
      let d := ((rackAt 2 (descAt 3 0 5)).modRack (fun k => { k with resvs := rs })).swStart 5 3
      d.rack.resvs.find? (fun r => r.queue = 3 && r.ini = 5) = rs.head?) ∧
    (∀ ps ∈ [[], [(5, 3)]],
      let d := ((rackAt 2 (descAt 3 0 5)).modRack (fun k => { k with peeks := ps })).swStart 5 3
      d.rack.peeks.contains (5, 3) = !ps.isEmpty) := by
  decide +kernel

/-- An endpoint list of the Rack with one record of one token for queue 3. -/
def rhAt (out : Bool) : Device :=
  let d := (rackAt 2 (descAt 3 0 0)).modRack (fun k =>
    { k with rhIn := { active := true, toks := [9] }, rhOut := { active := true } })
  if out then d.put (F.RACK_RH_OUT 0 0) 3 else d.put (F.RACK_RH_IN 0 0) 3

theorem witness_RackControlCompletes :
    (∀ st ∈ [0, 2], let d := rackAt st (descAt 3 0 0)
     d.admits (.scribe 3) F.RACK_CTRL_EN.addr = true ∧ d.fld F.RACK_CTRL_FLUSH = 0 ∧ d.fld F.RACK_STATUS_STATE = st) ∧
    ((rackAt 2 (descAt 3 0 0)).admits (.scribe 3) F.RACK_CTRL_FLUSH.addr = true) ∧
    (rackAt 1 (descAt 3 0 0)).fld F.RACK_STATUS_STATE = 1 ∧ (rackAt 3 (descAt 3 0 0)).fld F.RACK_STATUS_STATE = 3 ∧
    (let x := (rhAt false).rack.rhIn
     let e := (rhAt false).rhEntry false x.entry
     (rhAt false).isOn domRack = true ∧ x.active = true ∧ e.tokens ≤ x.toks.length ∧
      (rhAt false).rhHeld = false) ∧
    (let x := (rhAt true).rack.rhOut
     (rhAt true).isOn domRack = true ∧ x.active = true ∧ ((rhAt true).hr 104).offer = []) := by
  decide +kernel

/-- A correctable page of controller 3, first in its queue. -/
def corrAt : Device :=
  { live with corrQ := [(mcBase 3, [lpBase + 3 * 0xF0000000])]
              damage := [(lpBase + 3 * 0xF0000000, { ue := false, nbits := 1, raw := [] })] }

/-- The last block of each kind but the plates. -/
def blocks : List IntBlk := [.graver 31, .etch 63, .tracer 7, .press 3, .rack, .scribe 3, .mc 3]

theorem witness_IntegrityCommandsComplete :
    (let d := live.put (F.PLATE_SCRUB_EN (IntBlk.plate 63).base) 1
     d.isOn (IntBlk.plate 63).dom = true ∧ d.flag (F.PLATE_SCRUB_EN (IntBlk.plate 63).base) = true ∧
      d.fld (F.ETCH_FIX_STATUS_STATE 63) ≠ 2 ∧ d.fld (F.ETCH_FIX_STATUS_STATE 63) ≠ 3) ∧
    (∀ b ∈ blocks, ∀ q ∈ [[], [0]],
      let f := match b with
        | .mc m => F.MC_CTRL_SCRUB_EN m
        | _ => F.INT_CTRL_SCRUB_EN b.base
      let d : Device := { live.put f 1 with corrQ := mapPut (fun _ => []) [] b.base q }
      d.isOn b.dom = true ∧ d.flag f = true ∧ d.corr b.base = q) ∧
    (corrAt.corr (IntBlk.mc 3).base = (lpBase + 3 * 0xF0000000) :: [] ∧ corrAt.isOn (IntBlk.mc 3).dom = true ∧
      ({ corrAt with corrQ := mapPut (fun _ => []) corrAt.corrQ (IntBlk.mc 3).base [] } : Device).damageAt
        (lpBase + 3 * 0xF0000000) = some { ue := false, nbits := 1, raw := [] }) ∧
    (∀ b ∈ IntBlk.plate 63 :: blocks,
      let d := with_ [(F.TOPO_ETCH_SITE_VALID 63, 1), (F.TOPO_GRAVER_SITE_VALID 31, 1)]
      d.admits (.scribe 3) (b.remapAddr 3 7) = true ∧ (regRow (b.remapAddr 3 7)).isSome = true ∧
      d.admits (.scribe 3) b.logClearAddr = true ∧ d.admits (.scribe 3) b.rawCmdAddr = true) ∧
    isScribeOrJtag (Ini.scribe 3).num = true ∧ live.admits (.scribe 3) (F.MC_INVAL_CMD_GO 3).addr = true ∧
    ({ live with inval := [(3, 0, 1)] } : Device).inval.find? (fun e => e.1 = 3) = some (3, 0, 1) ∧
    live.isOn (domMc 3) = true := by
  decide +kernel

/-- Every domain OFF but AON, boot past FUSE, core 63 voted ON. -/
def votedOn : Device := (({} : Device).put F.BOOT_STATUS_STATE 2).setVote 1 (domEtch 63) 2

/-- A domain in a phase, the others ON. -/
def inPhase (i : Nat) (p : DomPhase) : Device := live.modDom i (fun x => { x with phase := p })

theorem witness_PowerDomainsComplete :
    (live.admits (.scribe 3) (F.PWR_VOTE 4 7).addr = true ∧ live.admits .hg (F.PWR_VOTE 31 7).addr = true ∧
      live.admits (.scribe 0) (F.PWR_VOTE 31 0).addr = true ∧ live.admits .hg (F.PWR_VOTE 5 0).addr = true) ∧
    (2 ≤ votedOn.boot ∧ votedOn.resolved 64 = 2 ∧ (votedOn.dom 64).phase = .steady ∧ votedOn.domState 64 < 2 ∧
      (votedOn.setDom 64 3).mayWake 64 true = true) ∧
    (let d := votedOn.modDom 63 (fun x => { x with phase := .pending true })
     2 ≤ d.boot ∧ (d.dom 63).phase = .pending true ∧ d.resolved 64 = 2 ∧ (d.dom 64).phase = .steady ∧
      d.domState 64 < 2 ∧ (d.setDom 64 3).mayWake 64 true = false) ∧
    (let d := votedOn.modDom 64 (fun x => { x with phase := .hold 0 0 })
     (d.dom 64).phase = .hold 0 0 ∧ d.resolved 64 = 2 ∧ d.domState 64 < 2) ∧
    (∀ k ∈ [1, 2, 3, 4], ((inPhase 126 (.wake k 0 true)).dom 126).phase = .wake k 0 true) ∧
    (∀ st ∈ [1, 2], let d : Device := { (inPhase 126 (.hold 0 0)).setDom 126 st with timebase := 2 ^ 16 }
      (d.dom 126).phase = .hold 0 0 ∧ d.fld F.PWR_CTRL_HOLD ≤ d.since 0 ∧ d.domState 126 = st) ∧
    (let d := inPhase 64 (.quiesce 0 0 false)
     (d.dom 64).phase = .quiesce 0 0 false ∧ d.quiescent 64 = true ∧ d.boundaryEmpty 64 = true ∧
      d.fld F.PWR_DRAIN_LIMIT ≤ ({ d with timebase := 2 ^ 33 } : Device).since 0) ∧
    (let d : Device := { inPhase 64 (.quiesce 0 0 true) with timebase := 1000 }
     (d.dom 64).phase = .quiesce 0 0 true ∧ 1000 ≤ d.since 0) ∧
    (let d : Device := ({} : Device).modI3c (fun x => { x with da := some 9 })
     d.isOn (domScribe 0) = false ∧ d.host.i3c.da.isSome = true) ∧
    (let d := live.put F.PWR_BAND_REQ (7 - live.fld F.CONTRACT_STATUS_VB)
     d.atBoundary = true ∧ d.flag F.CONTRACT_STATUS_TRANSITION = false ∧ d.flag F.HG_STATUS_FORCED = false ∧
      d.fld F.PWR_BAND_REQ ≠ d.fld F.CONTRACT_STATUS_VB) ∧
    (live.put F.CONTRACT_STATUS_TRANSITION 1).flag F.CONTRACT_STATUS_TRANSITION = true := by
  decide +kernel

theorem witness_PowerSafetyCompletes :
    (let d : Device := (({ live with scribes := vmod live.scribes 1 (fun x => { x with running := true }) } : Device).modPower
       (fun p => { p with policy := { p.policy with points := [0] } }))
     d.atBoundary = true ∧ (vget d.scribes 1 {}).running = true ∧ d.isOn (domScribe 1) = true ∧
      d.fld F.PAIR_STATUS_ROLE ≠ 2 ∧ d.power.policy.points ≠ []) ∧
    ((hot 0).inReset = false ∧
      ((hot 0).put F.PWR_PKG_POWER 130001).capMw < ((hot 0).put F.PWR_PKG_POWER 130001).fld F.PWR_PKG_POWER) ∧
    ((hot 110).inReset = false ∧ (hot 110).hotAt (min 110 ((hot 110).fld F.HG_CFG_WARN)) = true ∧
      (hot 110).hotAt 110 = true ∧ (hot 115).inReset = false ∧ (hot 115).hotAt 115 = true) ∧
    (let d := (hot 0).put (F.MC_STATUS_HOT 3) 1
     d.inReset = false ∧ d.isOn (domMc 3) = true ∧ d.flag (F.MC_STATUS_HOT 3) = true) ∧
    (let d := (hot 0).put F.HG_STATUS_LIMITING 1
     d.inReset = false ∧ d.flag F.HG_STATUS_LIMITING = true) ∧
    (live.modPower (fun p => { p with failedTs := [15] })).power.failedTs ≠ [] ∧
    (let d : Device := { (live.put F.HG_STATUS_TRIP 1).modPower (fun p => { p with tripAt := some 0 }) with timebase := 100000 }
     d.power.tripAt = some 0 ∧ 100000 ≤ d.since 0 ∧ d.flag F.HG_STATUS_TRIP = true) ∧
    (let d : Device := { (live.put F.HG_CFG_WD_MS 1).modPower (fun p => { p with wdOn := true }) with timebase := 100000 }
     d.power.wdOn = true ∧ d.flag F.HG_STATUS_WATCHDOG = false ∧ d.fld F.HG_CFG_WD_MS ≠ 0 ∧
      100000 * d.fld F.HG_CFG_WD_MS ≤ d.since d.power.wdSince) ∧
    (let d : Device := { live.modPower (fun p => { p with capBelow := some 0 }) with timebase := 100000 }
     d.power.capBelow = some 0 ∧ 100000 ≤ d.since 0) ∧
    ((hot 104).flag F.PWR_TS_MAX_VALID = true ∧ (hot 104).hotAt 105 = false ∧
      (∀ m : Fin 4, live.flag (F.MC_STATUS_HOT m) = false) ∧ live.power.failedTs = []) ∧
    (live.admits (.scribe 3) F.HG_KICK.addr = true ∧ live.admits .hg F.HG_KICK.addr = true ∧
      live.admits (.scribe 3) F.HG_RELEASE.addr = true ∧ live.admits .hg F.HG_RELEASE.addr = true ∧
      bits (live.word F.HG_STATUS_CAP.addr).toNat 0 5 = 0 ∧ live.admits (.scribe 3) F.HG_CFG_CAP.addr = true ∧
      live.admits .hg F.HG_CFG_CAP.addr = true) := by
  decide +kernel

/-- Nothing that BIST finds. -/
def allWell : Verdict :=
  { sites := [], routers := [], mcs := [], scribes := [], tracers := [], presses := [], rack := false, stipple := false }

theorem witness_BootCompletes :
    (live.bootc.por = true ∧ live.flag F.HG_STATUS_SHUTDOWN = false) ∧
    ((hot 99).modBoot (fun b => { b with rst := true })).bootc.rst = true ∧
    ((hot 99).flag F.PWR_TS_MAX_VALID = true ∧ (hot 99).hotAt 100 = false) ∧
    (live.put F.BOOT_STATUS_STATE 1).boot = 1 ∧
    ((live.put F.BOOT_STATUS_STATE 2).boot = 2 ∧ (live.put F.BOOT_STATUS_STATE 2).isOn (domScribe 0) = true) ∧
    (live.put F.BOOT_STATUS_STATE 3).boot = 3 ∧ (live.put F.BOOT_STATUS_STATE 4).boot = 4 ∧
    (live.put F.BOOT_STATUS_STATE 5).boot = 5 ∧
    ((live.put F.BOOT_STATUS_STATE 6).boot = 6 ∧ (live.put F.BOOT_STATUS_STATE 6).bootc.loaded = false) ∧
    ((live.put F.BOOT_STATUS_STATE 6).modBoot (fun b => { b with loaded := true })).bootc.loaded = true ∧
    (1 ≤ (live.put F.BOOT_STATUS_STATE 6).boot ∧ (live.put F.BOOT_STATUS_STATE 6).boot ≤ 6) ∧
    (live.put F.BOOT_STATUS_STATE 9).admits (.scribe 3) F.BOOT_CTRL_REBOOT.addr = true := by
  decide +kernel

/-- An image-load packet of a kind. -/
def imgPkt (kind : Nat) : List Byte := leBytes 4 (1 + kind <<< 8) ++ List.replicate 12 0

/-- RECOVERY, such a packet at the Tracers' head behind one of no kind. -/
def flashSess (kind : Nat) : Device := { live.put F.BOOT_STATUS_STATE 9 with imageRx := [(7, []), (7, imgPkt kind)] }

/-- RECOVERY, an operation of Tracer 7's session in progress. -/
def flashBusy (op : FlashOp) : Device := live.modBoot (fun b => { b with op := some (op, 15) })

theorem witness_FlashSessionsComplete :
    (∀ k ∈ [(0x51, 0), (0x50, 1), (0x52, 2)], (flashSess k.1).boot = 9 ∧ (flashSess k.1).bootc.op = none ∧
      (flashSess k.1).imageRx.dropWhile (fun e => (flashPacket e.2).isNone) = (7, imgPkt k.1) :: [] ∧
      flashPacket (imgPkt k.1) = some ⟨k.2, 0, 0, 0, 0, []⟩) ∧
    (∀ k < 3, (flashBusy ⟨k, 0, 0, 0, 0, []⟩).bootc.op = some (⟨k, 0, 0, 0, 0, []⟩, 15)) ∧
    live.admits .hg F.BOOT_FLASH_SESSION_ACTIVE.addr = true := by
  decide +kernel

/-- The target with clocks running and the dynamic address `a`, at rest or as `f` leaves it. -/
def i3cAt (a : Option Nat) (f : I3c → I3c) : Device := live.modI3c (fun x => f { x with da := a })

/-- A Hot-Join that is due, and a doorbell that has risen. -/
def joinAt : Device :=
  { (i3cAt none fun x => { x with hj := true, enHj := true, hjAt := some 0 }).modBoot (fun b =>
      { b with latched := true }) with timebase := 100000 }
def bellAt : Device :=
  ((i3cAt (some 8) fun x => { x with ibi := true, enInt := true }).put F.MB_DB_HOST_SW 0x80).put F.MB_DB_HOST_EN 0x80000000

theorem witness_I3cTransfersComplete :
    (joinAt.host.i3c.hj = true ∧ joinAt.host.i3c.enHj = true ∧ joinAt.host.i3c.da.isSome = false ∧
      joinAt.bootc.latched = true ∧ (joinAt.host.i3c.hjAt.all fun t => decide (100000 ≤ joinAt.since t)) = true) ∧
    (bellAt.host.i3c.ibi = true ∧ bellAt.host.i3c.enInt = true ∧ bellAt.host.i3c.da.isSome = true ∧
      bellAt.pendingBells ≠ 0) := by
  decide +kernel

/-- SETMWL takes its limits and no value beyond them, SETMRL likewise (R408). -/
theorem test_i3cLengths :
    (((i3cAt (some 8) id).setmwl true 260).host.i3c.mwl = 260 ∧ ((i3cAt (some 8) id).setmwl true 8).host.i3c.mwl = 8 ∧
      ((i3cAt (some 8) id).setmwl true 261).host.i3c.acked = false) ∧
    (((i3cAt (some 8) id).setmrl true 4).host.i3c.mrl = 4 ∧ ((i3cAt (some 8) id).setmrl true 3).host.i3c.acked = false) := by
  decide +kernel

/-- Mailbox `i` with a lock holder, a receiver, a length, FULL or not. -/
def boxAt (i owner rcvr len full : Nat) : Device :=
  with_ [(F.MBOX_LOCK i, owner), (F.MB_MBOX_CFG_RCVR i, rcvr), (F.MBOX_STATUS_LEN i, len), (F.MBOX_STATUS_FULL i, full)]

theorem witness_MailboxesComplete : ∀ i : Fin 8,
    (∀ tied : Bool, ((boxAt i 0 2 0 0).tie tied iniHost (iniAddr .host (F.MBOX_LOCK i).addr) false).admits .host
      (F.MBOX_LOCK i).addr false = true) ∧
    (boxAt i 7 2 0 0).admits .host (F.MBOX_LOCK i).addr = true ∧
    (boxAt i 2 7 0 0).admits (.scribe 0) (F.MBOX_CTRL_SEND i).addr = true ∧
    (∀ len ∈ [1, 64], (boxAt i 2 7 len 1).fld (F.MBOX_STATUS_LEN i) ≤ 64 ∧
      (boxAt i 2 7 len 1).admits .host (F.MBOX_DATA i ((len - 1) / 4)).addr false = true) ∧
    (let d : Device := { (boxAt i 2 7 1 1).modHost (fun h => { h with fullAt := [(i.val, 1)] }) with timebase := 5000000 }
     d.flag (F.MBOX_STATUS_FULL i) = true ∧ nget d.host.fullAt i ≠ 0 ∧
      max 1 (d.fld F.MB_MBOX_TIMEOUT) ≤ d.since (nget d.host.fullAt i - 1)) := by
  decide +kernel

/-- READY (or a boot state) with SCRIBE[0] running, MBOX[0] received by it, full of a message. -/
def askAt (boot : Nat) (l : List Byte) : Device :=
  ((with_ ([(F.BOOT_STATUS_STATE, boot), (F.MB_MBOX_CFG_RCVR 0, 2), (F.MBOX_STATUS_LEN 0, l.length),
    (F.MBOX_STATUS_FULL 0, 1)] ++ (List.range 16).map (fun w =>
      (F.MBOX_DATA 0 w, leNat ((l.drop (4 * w)).take 4))))).modScribe 0 (fun x => { x with running := true, halted := false, released := true }))

/-- A message: CMD, FLAGS, TAG 5, payload. -/
def msgAt (cmd flags : Nat) (p : List Byte) : List Byte :=
  [leBytes 1 cmd, leBytes 1 flags, leBytes 2 5, leBytes 2 p.length, [0, 0], p].flatten

/-- The same where earlier parts hold the payload, this one adding its last bytes. -/
def askParts (boot cmd : Nat) (old p : List Byte) : Device :=
  (askAt boot (msgAt cmd 0 p)).modHost (fun h => { h with tag := some 5, parts := old })

/-- What the server needs of a message that is the last part of its request. -/
def Asked (d : Device) (cmd n : Nat) : Bool :=
  d.serving && d.mboxFull 0 && d.mboxRcvr 0 == 2 && !d.host.lost && !msgMore (d.mboxBytes 0) &&
    msgCmd (d.mboxBytes 0) == cmd && ((d.payload (d.mboxBytes 0)).map List.length == some n)

theorem witness_MessagesComplete :
    (∀ c ∈ [0, 1, 2, 3, 4, 5, 6, 7, 0x20], Asked (askAt 7 (msgAt c 0 (List.replicate 20 9))) c 20 = true) ∧
    (∀ c ∈ [0x10, 0x11, 0x12], Asked (askAt 9 (msgAt c 0 (List.replicate 12 0))) c 12 = true) ∧
    (let d : Device := askAt 7 (msgAt 1 1 (List.replicate 56 9))
     d.serving = true ∧ d.mboxFull 0 = true ∧ d.mboxRcvr 0 = 2 ∧ d.host.lost = false ∧
      msgMore (d.mboxBytes 0) = true) := by
  decide +kernel

/-- A request of three parts is put together (R424). -/
theorem test_messageParts : Asked (askParts 7 0x20 (List.replicate 400 0) (List.replicate 44 0)) 0x20 444 = true := by
  decide +kernel

theorem witness_IndirectPortCompletes : live.domState 0 = 2 ∧
    ∀ wr : Bool, (live.modHost (fun h => { h with ind := some (0x1080000FFC, wr) })).host.ind = some (0x1080000FFC, wr) := by
  decide +kernel

/-- A part whose engine has a token of a purpose in front, all else zero: it breaks the first rule. -/
def tokAt (purpose : Nat) : Device :=
  live.modSec (fun k => { k with reqs := [⟨false, iniHost, [0, 0, 0, 0] ++ leBytes 2 purpose ++ List.replicate 438 0⟩] })

theorem witness_TokensComplete :
    live.admits .host F.HOST_ATT_CTRL_GO.addr = true ∧
    (live.modSec (fun k => { k with reqs := [⟨true, iniHost, []⟩] })).sec.reqs = ⟨true, iniHost, []⟩ :: [] ∧
    (∀ n : Fin 4, live.admits (.scribe n) 0x0010600010 = true) ∧
    (∀ p ∈ [0, 1, 2, 3, 4, 65535], (tokAt p).sec.reqs.map (fun r => (r.report, tokField r.bytes 4 2)) = [(false, p)]) := by
  decide +kernel

/-- A programming that waits. -/
def provAt : Device := live.modSec (fun k => { k with prov := some (3, []) })

theorem witness_JtagCompletes : provAt.sec.prov = some (3, []) := rfl

/-- A mirror packet of a kind, NUMBER and body. -/
def mirPkt (kind num : Nat) (body : List Byte) : List Byte :=
  leBytes 4 (1 + kind <<< 8) ++ leBytes 4 num ++ List.replicate 4 0 ++ leBytes 4 (body.length - 8) ++ body

/-- A part of a pair, of a role and a state, that has accepted one such packet, behind one of another Tracer. -/
def pairAt (role state kind num : Nat) (body : List Byte) (f : PairUnit → PairUnit) : Device :=
  { ((with_ [(F.PAIR_CFG_EN, 1), (F.PAIR_STATUS_ROLE, role), (F.PAIR_STATUS_STATE, state), (F.PAIR_TIMING_HB_TIMEOUT, 0xFFFF),
    (F.PAIR_STATUS_MIRROR_LIVE, 1), (F.BOOT_STATUS_STATE, 8)]).modPair f) with mirrorRx := [(7, []), (0, mirPkt kind num body)] }

/-- Whether that packet stands at the head. -/
def headAt (d : Device) (kind num : Nat) (body : List Byte) : Bool := d.mirrorHead kind (mirPkt kind num body) []

/-- The body of a state block: the first bytes of LPDDR4X, or of the register given. -/
def blockBody (a n : Nat) : List Byte := leBytes 8 a ++ List.replicate n 7

/-- A resynchronisation that has sent a block. -/
def syncAt (p : PairUnit) : PairUnit := { p with resync := some { next := 1 } }

theorem witness_PairPacketsComplete :
    (∀ n ∈ [0, 1, 2, 3, 4, 5, 6, 7, 9], let body : List Byte := List.replicate 16 1
      headAt (pairAt 2 3 0x43 n body syncAt) 0x43 n body = true ∧ wordAt (mirPkt 0x43 n body) 4 = n) ∧
    (∀ e ∈ [(0x1000000000, 1), (0x1000000000, 4096), (F.BOOT_STATUS_STATE.addr, 4)],
      headAt (pairAt 2 2 0x42 0 (blockBody e.1 e.2) syncAt) 0x42 0 (blockBody e.1 e.2) = true) ∧
    headAt (pairAt 2 3 0x40 5 (List.replicate 8 1) id) 0x40 5 (List.replicate 8 1) = true ∧
    headAt (pairAt 2 3 0x41 5 (List.replicate 8 1) id) 0x41 5 (List.replicate 8 1) = true := by
  decide +kernel

/-- A block of LPDDR4X or of a register can be copied, a block of neither cannot (R461). -/
theorem test_syncable : syncable 0x1000000000 4096 = true ∧ syncable F.BOOT_STATUS_STATE.addr 4 = true ∧
    syncable 0x1F00000000 4 = false := by decide +kernel

/-- ALIVE, of a role and a state, at a time. -/
def aliveAt (role state now : Nat) (f : PairUnit → PairUnit) : Device :=
  { (pairAt role state 0 0 [] f).put F.PAIR_STATUS_ALIVE 1 with timebase := now }

theorem witness_PairControlCompletes :
    (let body : List Byte := List.replicate 16 1
     headAt (pairAt 2 2 0x43 8 body syncAt) 0x43 8 body = true ∧ wordAt (mirPkt 0x43 8 body) 4 = 8) ∧
    (let r : Resync := { set := [⟨0x1000000000, 4096, 0, 0, false⟩, ⟨0x1000001000, 4096, 0, 0, true⟩] }
     let d : Device := aliveAt 1 2 0 (fun p => { p with resync := some r })
     d.pair.resync = some r ∧ d.pairRole = 1 ∧ d.flag F.PAIR_STATUS_ALIVE = true) ∧
    (let d : Device := aliveAt 1 3 2000 (fun p => { p with div := some ⟨0, 5, 0, true, none⟩ })
     d.pair.div = some ⟨0, 5, 0, true, none⟩ ∧ d.pairRole = 1 ∧ 2000 ≤ d.since 0) ∧
    (let d : Device := aliveAt 1 3 0x10000 (fun p => { p with kickAt := some 0x10000 })
     d.flag F.PAIR_STATUS_ALIVE = true ∧ d.aliveNow = true ∧ d.fld F.PAIR_TIMING_HB_HALF ≤ d.since d.pair.hbOutAt ∧
      d.hbTimeout ≤ 2 * d.since d.pair.sentAt) ∧
    (let d : Device := aliveAt 2 1 0xFFFFFFFF (fun p => { p with joinAt := some 0 })
     d.flag F.PAIR_STATUS_ALIVE = true ∧ d.pair.joinAt = some 0 ∧ d.pairRole = 2 ∧ d.pairState = 1 ∧
      d.fld F.PAIR_JOIN_WAIT ≤ d.since 0) ∧
    (let d : Device := { aliveAt 2 3 0xFFFF id with mirrorRx := [(7, [])] }
     d.flag F.PAIR_CFG_EN = true ∧ d.pair.hbGone = false ∧ d.hbTimeout ≤ d.since d.pair.hbInAt ∧
      d.pair.mirGone = false ∧ d.hbTimeout ≤ d.since d.pair.mirrorAt ∧ d.mirrorRx.any d.mirrorValid = false) ∧
    ((pairAt 1 3 0 0 [] id).admits (.scribe 3) F.PAIR_KICK.addr = true ∧
      (pairAt 1 3 0 0 [] id).admits (.scribe 0) F.PAIR_KICK.addr = true) ∧
    (let d : Device := aliveAt 1 3 0x8000 (fun p => { p with kickAt := some 0 })
     d.pair.kickAt = some 0 ∧ d.hbTimeout < 2 * d.since 0) ∧
    (∀ role ∈ [0, 1, 2], (aliveAt role 3 0 id).admits (.scribe 0) F.PAIR_CMD.addr = true) := by
  decide +kernel

theorem witness_TimersComplete :
    (live.admits (.scribe 0) F.TMR_TB_LO.addr false = true ∧ live.admits (.scribe 3) F.TMR_TB_HI.addr false = true) ∧
    (mapGet (fun _ => none) live.hiLatch (F.TMR_TB_HI.addr + bankStride * (Ini.scribe 0).num) = none ∧
      mapGet (fun _ => none) (live.latchHi 2 F.TMR_TB_HI.addr 0xFFFFFFFF).hiLatch
        (F.TMR_TB_HI.addr + bankStride * (Ini.scribe 0).num) = some 0xFFFFFFFF ∧ (0xFFFFFFFF : Nat) < 2 ^ 32) ∧
    (∀ i : Fin 8, let d : Device := (live.put (F.TIMER_CTRL_EN i) 1).modTch i (fun t => { t with pres := 1 })
     let p : Device := live.put (F.TIMER_CTRL_LINK i) 1
     d.counting i = true ∧ d.fld (F.TIMER_CTRL_PRESCALE i) + 1 ≤ (d.tch i).pres ∧
     live.admits (.scribe 0) (F.TIMER_COUNT i).addr = true ∧ live.admits (.scribe 0) (F.TIMER_PERIOD i).addr = true ∧
     (i.val % 2 = 0 → p.linkedLow i = true ∧ p.admits (.scribe 0) (F.TIMER_COUNT i).addr false = true ∧
       p.admits (.scribe 0) (F.TIMER_CAP_RISE i).addr false = true ∧ p.admits (.scribe 0) (F.TIMER_CAP_FALL i).addr false = true)) ∧
    live.admits (.scribe 0) F.TMR_GSTART.addr = true ∧
    (∀ i : Fin 8, ({ live with timers := { live.timers with src := Vector.replicate 8 ⟨true, 1⟩ } } : Device).accepts i true = true) ∧
    (∀ i : Fin 8, live.admits (.scribe 0) (F.TIMER_CAPQ_VAL i).addr false = true) ∧
    (∀ j : Fin 2, let d : Device :=
      { (live.put (F.TMR_OUT_CFG_MODE j) 1).modTout j (fun o => { o with pulseAt := some 0 }) with timebase := 1 }
     (d.tout j).pulseAt = some 0 ∧ d.fld (F.TMR_OUT_CFG_PW j) < d.since 0) := by
  decide +kernel

/-- A record of a sequence number. -/
def recAt (seq : Nat) : Rec := ⟨seq, 0x0111, 3, 0, 1, 8, 100, 0, 0, [], 0⟩

/-- A synchronised Proof log, its front end as `f` leaves it. -/
def logAt (f : Proof → Proof) : Device := (live.put F.PL_STATUS_SYNCED 1).modProof f

theorem witness_ProofLogCompletes :
    (logAt fun p => { p with pend := [⟨recAt 5, [F.BOOT_STATUS_STATE.addr]⟩] }).proof.pend =
      ⟨recAt 5, [F.BOOT_STATUS_STATE.addr]⟩ :: [] ∧
    (∀ q ∈ [1, 4095, 0xFFFFFFFF], let d : Device := logAt fun p => { p with staged := [recAt q] }
     d.proof.staged = recAt q :: [] ∧ d.flag F.PL_STATUS_SYNCED = true) ∧
    (let d : Device := { (logAt id).put F.PL_CFG 0 with timebase := 100000000 }
     d.flag F.PL_STATUS_SYNCED = true ∧ 100000000 * max 1 (d.fld F.PL_CFG) ≤ d.since d.proof.timeAt) ∧
    ((logAt id).put F.PL_STATUS_CLEARING 1).flag F.PL_STATUS_CLEARING = true := by
  decide +kernel

/-- Scribes that run, the watchdog at a limit, a Scribe's restart state. -/
def scribesAt (n state now : Nat) : Device :=
  { ((List.range 4).foldl (fun d k => d.modScribe k (fun x => { x with running := true, halted := false, released := true, restartAt := some 0 }))
      (((with_ [(F.HG_SCRIBE_WD, 1), (voteFld 31 (domScribe n), 2)]).put (scribeStateFld n) state).modPower
        (fun p => { p with wdOn := true }))) with timebase := now }

theorem witness_RecoveryCompletes :
    (∀ n : Fin 4, (∀ tied, (live.tie tied (2 + n) F.HG_DECLARE.addr true).admits (.scribe n) F.HG_DECLARE.addr = true) ∧ 2 ≤ (127 : Fin 128).val ∧ (127 : Fin 128).val ≠ 2 + n.val) ∧
    (live.modRack (fun r => { r with sweeping := [127] })).rack.sweeping.contains (127 : Fin 128).val = true ∧
    (∀ n : Fin 4,
      (let d : Device := scribesAt n 0 100000
       d.power.wdOn = true ∧ d.fld F.HG_SCRIBE_WD ≠ 0 ∧ d.fld (scribeStateFld n) ≠ 2 ∧ (d.scribe n).running = true ∧ (d.scribe n).halted = false ∧
        100000 * d.fld F.HG_SCRIBE_WD ≤ d.since (d.scribe n).kickAt) ∧
      (let d : Device := scribesAt n 1 0
       d.fld (scribeStateFld n) = 1 ∧ d.isOn (domScribe n) = true ∧ d.vote 31 (domScribe n) = 2 ∧
        (d.scribe 0).running = true) ∧
      (let d : Device := scribesAt n 2 200001
       (d.scribe n).restartAt = some 0 ∧ d.fld (scribeStateFld n) = 2 ∧ d.fld F.HG_SCRIBE_WD ≠ 0 ∧
        200000 * d.fld F.HG_SCRIBE_WD < d.since 0) ∧
      ((scribesAt n 2 0).admits (.scribe n) F.HG_SCRIBE_KICK.addr = true ∧ (BitVec.ofNat 4 (2 ^ n.val)).toNat = 2 ^ n.val ∧
        (scribesAt n 2 0).fld (scribeStateFld n) = 2 ∧ (scribesAt n 0 0).fld (scribeStateFld n) ≠ 2) ∧
      live.admits (.scribe n) F.HG_CMD.addr = true) := by
  decide +kernel

/-- With ETCH[0], ETCH[63] and GRAVER[31] bound. -/
def bound : Device := with_ [(F.TOPO_ETCH_SITE_VALID 0, 1), (F.TOPO_ETCH_SITE_VALID 63, 1), (F.TOPO_GRAVER_SITE_VALID 31, 1)]

/-- An address of a register, one in each of the blocks that the statement names. -/
def someRegs : List Nat :=
  [F.CONTRACT_STATUS_DRAFT.addr, F.BOOT_STATUS_STATE.addr, F.HG_DECLARE.addr, F.PAIR_CMD.addr, (F.ETCH_CTRL_RUN 63).addr,
    F.STIPPLE_STEP_START.addr, (F.GRAVER_STATUS_STATE 31).addr, (F.MC_STATUS_TRAINED 3).addr, F.TOPO_ID_PART.addr]

/-- Memory: a Scribe's SRAM, a core's, the top of usable LPDDR4X. -/
def someMem : List (Nat × Fin 9) := [(0x0020300000, 1), (0x002037FFF8, 8), (0x0100040000, 4), (0x013F0BFFFC, 4), (0x13BFFFFFF8, 8)]

theorem witness_RegisterPathCompletes :
    (∀ wr, bound.reach (Ini.scribe 0).num F.BOOT_STATUS_STATE.addr wr = true) ∧ bound.shut (Ini.scribe 0).num = false ∧
    (∀ a ∈ someRegs, let x := busAddr (BitVec.ofNat 40 a).toNat
     laneOf x = none ∧ x % 4 = 0 ∧ (regRow x).isSome = true ∧ (regLoc x).any (fun p => bound.served x (p.dom x)) = true) ∧
    (∀ a ∈ [F.TOPO_ID_PART.addr, F.CONTRACT_STATUS_DRAFT.addr],
      (regLoc a).any (fun p => decide (p.blk = .topo ∨ p.blk = .contract)) = true) ∧
    ((regRow F.BOOT_STATUS_STATE.addr).any (fun r => !r.banked)) = true ∧
    (∀ e ∈ someMem, let x := busAddr (BitVec.ofNat 40 e.1).toNat
     laneOf x = none ∧ regRow (x / 4 * 4) = none ∧ 1 ≤ e.2.val ∧
      x % e.2.val = 0 ∧ (wordOnly x = true → e.2.val = 4) ∧
      (memAt x).any (fun m => bound.served x m.dom) = true ∧ bound.memShut x = false ∧ bound.inTable x = false) ∧
    (let x := graverBase 31 + 0x400000
     laneOf x = some (31, 0, 0) ∧ bound.served x (domGraver 31) = true ∧
      (∀ wr, bound.laneOpen (Ini.scribe 0).num 31 0 wr = true)) := by
  decide +kernel

theorem witness_OtherWidthsAreDiscarded : ∀ a ∈ [F.BOOT_STATUS_STATE.addr, F.BOOT_STATUS_STATE.addr + 3],
    let x := busAddr (BitVec.ofNat 40 a).toNat
    (regLoc x).isSome = true ∧ (regRow (x / 4 * 4)).isSome = true ∧ laneOf x = none ∧
      (([1, 2] : List Byte).length ≠ 4 ∨ x % 4 ≠ 0) ∧ ((8 : Fin 9).val ≠ 4 ∨ x % 4 ≠ 0) := by
  decide +kernel

theorem witness_AccessCodesHold :
    (∀ c ∈ [Acc.rw, .ro, .w1c, .w1s, .wo, .rc], ∃ a ∈ [F.PWR_VOTE 0 0, F.BOOT_STATUS_STATE, F.HOST_HFAULT_ACC, F.HG_DECLARE,
        F.MB_DB_HOST_SET, F.PAIR_SEQ_GAP, F.TMR_GSTART, F.HATCH_CTRL_MODE, F.HG_CMD].map Fld.addr,
      (regRow a).any (fun r => r.fields.any (fun f => decide (f.acc = c))) = true) := by
  decide +kernel

theorem witness_HostNeverReachesGlobals : ∀ n ∈ [0, 0x00203FFFFF, 0x0010200000, 0xFFFFFFFFFF],
    let a : BitVec 40 := BitVec.ofNat 40 n
    ¬ (hostBase ≤ a.toNat ∧ a.toNat < hostBase + 0x10000) ∧ ∀ wr, bound.indOpen a.toNat wr = false := by
  decide +kernel

theorem witness_HostInjectsNoFaults : ∃ t,
    exec (.rawRead .host (.mc 0)) { dev := bound, pending := [] } = .next t := ⟨_, exec_rawRead .host (.mc 0) { dev := bound, pending := [] }⟩

theorem witness_MemoryReadsWhatWasWritten :
    (∀ e ∈ someMem, let x := busAddr (BitVec.ofNat 40 e.1).toNat
     (List.replicate e.2.val (5 : Byte)).length = e.2.val ∧ bound.damage = [] ∧ bound.calm = true ∧ 0x40000 ≤ x) ∧
    ∃ t, exec (.registerWrite (.scribe 3) (BitVec.ofNat 40 0x0020300000) [5] true) { dev := bound, pending := [] } = .next t :=
  ⟨by decide +kernel, _, exec_registerWrite (.scribe 3) (BitVec.ofNat 40 0x0020300000) [5] true { dev := bound, pending := [] }⟩

theorem witness_EmptyQueueIdles : State.reset.pending = [] := rfl

theorem witness_StepKeepsStatesSettled : State.reset.settled = true ∧ ∃ t, step State.reset = .next t :=
  ⟨by decide +kernel, _, rfl⟩

theorem witness_CanonicalMapsAreEqual : live.canon = true := by decide +kernel

theorem witness_CalmEndLeavesTheEffect : live.calm = true ∧ (live.put F.HG_SCRIBE_WD 5).calm = true := by decide +kernel

theorem witness_RaisedCodeIsCollected : live.calm = true ∧ live.fld F.HG_FR_RAISED < 2 ^ 32 - 1 ∧
    sev 0x0711 ≠ .record ∧ sev 0x0902 = .record ∧ sev 0x0705 = .fatal := by
  decide +kernel

/-- A channel that counts, in a mode and direction, from a count with a period. -/
def countAt (i mode dir period count : Nat) : Device :=
  (with_ [(F.TIMER_CTRL_EN i, 1), (F.TIMER_CTRL_MODE i, mode), (F.TIMER_CTRL_DIR i, dir), (F.TIMER_PERIOD i, period),
    (F.TIMER_COUNT i, count)]).modTch i (fun t => { t with pres := 1 })

theorem witness_GatesStopAndLetCount : ∀ i : Fin 8,
    live.fld (F.TIMER_CTRL_GATE_EN i) = 0 ∧ (live.put (F.TIMER_CTRL_GATE_EN i) 1).fld (F.TIMER_CTRL_GATE_EN i) = 1 ∧
      (live.put (F.TIMER_CTRL_GATE_EN i) 1).gateOn i = false ∧ (∀ k : Fin 8, (live.tch k).wr = none) ∧
      (((live.put (F.TIMER_CTRL_GATE_EN i) 1).put (F.TIMER_CTRL_GATE_POL i) 1).put F.TMR_TRIG_STATUS_IN 1).gateOn i = false ∧
      ((live.put (F.TIMER_CTRL_GATE_EN i) 1).put F.TMR_TRIG_STATUS_IN 1).gateOn i = true := by
  decide +kernel

/-- Whether such a channel meets the premises, with the mode, direction, period and count that it was given. -/
def countOk (mode dir period count : Nat) : Bool :=
  (List.range 8).all (fun i => let d := countAt i mode dir period count
    d.counting i && decide (d.fld (F.TIMER_CTRL_PRESCALE i) + 1 ≤ (d.tch i).pres) && decide (d.countOf i = count) &&
    decide (d.periodOf i = period) && decide (d.fld (F.TIMER_CTRL_MODE i) = mode) && decide (d.fld (F.TIMER_CTRL_DIR i) = dir) &&
    !d.linkedLow i)

theorem witness_CountTicksFollowTheTable :
    (countOk 0 0 5 5 = true ∧ countOk 0 0 5 6 = true ∧ countOk 0 0 5 4 = true ∧ countOk 0 0 0xFFFFFFFF 0xFFFFFFFF = true) ∧
    (countOk 1 0 0 0 = true ∧ countOk 1 0 5 5 = true ∧ countOk 1 0 5 6 = true ∧ countOk 1 0 5 4 = true) ∧
    (countOk 1 1 5 0 = true ∧ countOk 1 1 5 1 = true) ∧
    (let d : Device := (countAt 6 0 0 5 5).put (F.TIMER_CTRL_LINK 6) 1
     d.linkedLow 6 = true ∧ d.counting 6 = true ∧ d.countOf 6 = 5 + 0 * 2 ^ 32) := by
  decide +kernel

theorem witness_TargetAndTapLeaveTheRest : live.calm = true ∧ live.power.gated = false ∧
    ∃ t, exec .idcode { dev := live, pending := [] } = .next t := ⟨by decide +kernel, by decide +kernel, _, exec_idcode _⟩

theorem witness_TimersLeaveTheRest : live.calm = true ∧ live.admits (.scribe 0) F.TMR_TB_LO.addr = true ∧
    (∃ t, exec (.timerCountTick 7) { dev := countAt 7 1 0 5 5, pending := [] } = .next t) ∧
    ∃ t, exec (.gstart (.scribe 0) 255) { dev := live, pending := [] } = .next t :=
  ⟨by decide +kernel, by decide +kernel, ⟨_, exec_timerCountTick 7 { dev := countAt 7 1 0 5 5, pending := [] }⟩,
    _, exec_gstart (.scribe 0) 255 { dev := live, pending := [] }⟩

/-! ### Ill-formed commands

For each check of Instr.wf a command that it refuses, beside one that it takes. -/

theorem test_widths :
    (Instr.registerWrite .host 0 [1, 2, 3] false).wf = false ∧ (Instr.registerWrite .host 0 [] false).wf = false ∧
    (Instr.registerWrite .host 0 [1, 2] true).wf = true ∧
    (Instr.rcRead .host 0 5 false).wf = false ∧ (Instr.rcRead .host 0 8 false).wf = true ∧
    (Instr.jtagDebug (.read 0 3) false).wf = false ∧ (Instr.jtagDebug (.write 0 []) false).wf = false ∧
    (Instr.jtagDebug (.halt 3) false).wf = true ∧
    (Instr.privateWrite none (List.replicate 261 0)).wf = false ∧ (Instr.privateWrite none (List.replicate 260 0)).wf = true ∧
    (Instr.i2cTransfer (List.replicate 261 0) 0).wf = false ∧ (Instr.i2cTransfer [] 256).wf = true := by
  decide +kernel

theorem test_disturbances :
    (Instr.linkTransfer (.stippleIn 0) [1, 2, 3, 4, 5]).wf = false ∧ (Instr.linkTransfer (.stippleIn 0) [2 ^ 64]).wf = false ∧
    (Instr.linkTransfer (.stippleIn 0) [2 ^ 64 - 1]).wf = true ∧
    (Instr.linkTransfer (.hatchIn 0 0) [0, 4]).wf = false ∧ (Instr.linkTransfer (.hatchIn 0 0) [2 ^ 128]).wf = false ∧
    (Instr.linkTransfer (.hatchOut 0 0) [0, 0, 256]).wf = false ∧
    (Instr.linkTransfer (.hatchLoad 0 0 0) [0, 0, 0, 0]).wf = false ∧ (Instr.linkTransfer (.hatchOut 0 0) []).wf = true := by
  decide +kernel

theorem test_conflicts :
    (∀ ph ∈ [Phase.issue, .execute], (Instr.mma 0 ph [⟨131072, 0, 1⟩]).wf = false ∧ (Instr.lds 0 ph [⟨0, 10, 10⟩]).wf = false ∧
      (Instr.move 0 ph [⟨0, 1, 0⟩]).wf = false ∧ (Instr.drain 0 ph [⟨0, 1, 4⟩, ⟨0, 1, 0⟩] 0).wf = false) ∧
    (Instr.mma 0 .issue [⟨0, 0, 1⟩]).wf = false ∧ (Instr.lds 0 .issue [⟨0, 0, 1⟩]).wf = false ∧
    (Instr.move 0 .issue [⟨0, 0, 1⟩]).wf = false ∧ (Instr.drain 0 .issue [⟨0, 0, 1⟩] 0).wf = false ∧
    (Instr.drain 0 .issue [] 1).wf = false ∧ (Instr.drain 0 .execute [] 15).wf = true ∧
    (Instr.mma 0 .execute [⟨131071, 0, 9⟩, ⟨0, 9, 5⟩]).wf = true ∧
    (Instr.gate 0 [⟨0, 5, 9⟩]).wf = false ∧ (Instr.gate 0 [⟨0, 9, 5⟩]).wf = true ∧
    (Instr.tokenLanding 0 0 [⟨131072, 0, 0⟩]).wf = false ∧ (Instr.tokenLanding 0 0 []).wf = true ∧
    (Instr.scrubRead (.etch 0) [] (some ⟨0, 0, 1⟩) false).wf = false ∧
    (Instr.scrubRead (.graver 0) [] (some ⟨0, 1, 0⟩) false).wf = false ∧
    (Instr.scrubRead (.graver 0) [true] none false).wf = false ∧ (Instr.scrubRead (.graver 0) [] none true).wf = false ∧
    (Instr.scrubRead (.plate 0) [true] none false).wf = true ∧ (Instr.scrubRead (.mc 0) [] none true).wf = true := by
  decide +kernel

theorem test_cuts :
    (Instr.stallSentinelExpire [⟨32, 0, 0⟩]).wf = false ∧ (Instr.stallSentinelExpire [⟨3, 0, 1⟩, ⟨3, 0, 2⟩]).wf = false ∧
    (Instr.hatchAbort .host [⟨32, 0, 0⟩]).wf = false ∧ (Instr.hatchAbort .host [⟨3, 0, 5⟩, ⟨3, 1, 1⟩]).wf = true := by
  decide +kernel

theorem test_packets :
    (Instr.longPacketReceive 0 ⟨0, 0, 1, false, true, 2, [1, 2]⟩).wf = false ∧
    (Instr.longPacketReceive 0 ⟨0, 0, 2, false, true, 0, [1]⟩).wf = false ∧
    (Instr.longPacketReceive 0 ⟨0, 0, 2, false, true, 1, [1, 2]⟩).wf = false ∧
    (Instr.longPacketReceive 0 ⟨0, 0, 2, false, false, 1, [1]⟩).wf = false ∧
    (Instr.longPacketReceive 0 ⟨0, 0, 2, false, false, 0, [1]⟩).wf = true ∧
    (Instr.longPacketReceive 0 ⟨0, 0, 2, false, true, 2, [1, 2]⟩).wf = true ∧
    (Instr.linkDisableTimeout (.tx 0) (some ⟨0, 0, 1⟩)).wf = false ∧ (Instr.linkDisableTimeout (.tx 0) none).wf = true ∧
    (Instr.encoderUnit 0 0 [16384]).wf = false ∧ (Instr.encoderUnit 0 0 [16383]).wf = true ∧
    (Instr.repeatBurst 0 [] 0).wf = false ∧ (Instr.repeatBurst 0 [1, 2, 3, 4] 2).wf = false ∧
    (Instr.repeatBurst 0 [1, 2, 3, 4] 1).wf = true ∧ (Instr.rackConsume 0 5 false false).wf = false ∧
    (Instr.rackConsume 64 5 false false).wf = true := by
  decide +kernel

theorem test_blocks :
    (Instr.remapWrite .host (.plate 0) 0 0 0).wf = false ∧ (Instr.remapWrite .host (.mc 0) 4 0 0).wf = false ∧
    (Instr.remapWrite .host (.mc 0) 3 31 0).wf = true ∧ (Instr.remapWrite .host .rack 0 8 0).wf = false ∧
    (Instr.logClear .host (.plate 0)).wf = false ∧ (Instr.rawRead .host (.plate 0)).wf = false ∧
    (Instr.rawWrite .host (.plate 0) []).wf = false ∧ (Instr.rawGet .host (.plate 0)).wf = false ∧
    (Instr.rawPut .host (.plate 0)).wf = false ∧ (Instr.rawPut .host (.mc 3)).wf = true ∧
    (Instr.refreshRatePoll 0 3 false).wf = false ∧ (Instr.refreshRatePoll 0 2 true).wf = true := by
  decide +kernel

theorem test_boot :
    (Instr.resetAssert [1, 1]).wf = false ∧ (Instr.resetRelease [2, 2]).wf = false ∧ (Instr.resetRelease [2, 0]).wf = true ∧
    (Instr.bootBist { allWell with sites := [5, 5] }).wf = false ∧ (Instr.bootBist { allWell with mcs := [3, 3] }).wf = false ∧
    (Instr.bootBist allWell).wf = true ∧ (Instr.bootLoad ⟨true, 3, 0, [7, 7], false⟩).wf = false ∧
    (Instr.bootLoad ⟨true, 2, 0, [7], false⟩).wf = false ∧ (Instr.bootLoad ⟨true, 2, 0, [], true⟩).wf = false ∧
    (Instr.bootLoad ⟨true, 3, 0, [7], true⟩).wf = true ∧
    (Instr.timebaseTick 0 0).wf = false ∧ (Instr.timebaseTick 1 0).wf = true ∧
    (Instr.linkedLowRead .host 1 0).wf = false ∧ (Instr.linkedLowRead .host 6 2).wf = true := by
  decide +kernel

/-! ### Worked examples of the spec -/

/-- Arithmetic (the example after R15): x = -13, k = 2. -/
theorem test_arithmetic : asr (-13) 2 = -4 ∧ rhu (-13) 2 = -3 ∧ sat (-3) (-2) 7 = -2 ∧ wrapU 4 (-3) = 13 ∧
    (-7 : Int).fdiv 2 = -4 := by decide +kernel

/-- The group of the LIF and ALIF examples (after R80). -/
def lifGroup (model policy : Nat) : Group :=
  { groupOf (fun k => [0, 1000, 0, 256 <<< 20 + 512 <<< 8, 0, 0xFFF0BDC0, 400, 0].getD k 0) with
    model := model, policy := policy }

/-- LIF (after R80): CARRY, CLIP and GRADED, and CARRY once more. -/
theorem test_lif :
    ((lifUpdate (lifGroup 0 0) 800 1800 0 0).v = 1550 ∧ (lifUpdate (lifGroup 0 0) 800 1800 0 0).spike = true) ∧
    ((lifUpdate (lifGroup 0 1) 800 1800 0 0).v = 0 ∧ (lifUpdate (lifGroup 0 1) 800 1800 0 0).clip = true) ∧
    ((lifUpdate (lifGroup 0 2) 800 1800 0 0).v = 550 ∧ (lifUpdate (lifGroup 0 2) 800 1800 0 0).payload = 2) ∧
    ((lifUpdate (lifGroup 0 0) 1550 0 0 0).v = 453 ∧ (lifUpdate (lifGroup 0 0) 1550 0 0 0).spike = true) := by
  decide +kernel

/-- ALIF (after R80), two steps. -/
theorem test_alif :
    ((lifUpdate (lifGroup 1 0) 800 1800 600 0).v = 1025 ∧ (lifUpdate (lifGroup 1 0) 800 1800 600 0).a = 925) ∧
    ((lifUpdate (lifGroup 1 0) 1025 0 925 0).v = 961 ∧ (lifUpdate (lifGroup 1 0) 1025 0 925 0).a = 809 ∧
      (lifUpdate (lifGroup 1 0) 1025 0 925 0).spike = false) := by
  decide +kernel

/-- RF (after R82). -/
theorem test_rf : rfUpdate { lifGroup 2 0 with cr := 14191, ci := 5878, th := 3500 } 10000 0 2000 0 0 =
    (10661, 3588, 0, true, 1) := by decide +kernel

/-- SD (after R83), three steps. -/
theorem test_sd : let g := { lifGroup 3 0 with yshift := 4, dth := 2, dv := 0 }
    sdUpdate g 512 100 30 = (612, 38, true, 8) ∧ sdUpdate g 612 (-40) 38 = (572, 35, true, -3) ∧
      sdUpdate g 572 4 35 = (576, 35, false, 1) := by decide +kernel

/-- A SPARSE entry (after R88): target 0x123, delay 5, tag 0, weight -3. -/
theorem test_sparse_entry : bits 0x0918A0FD 19 13 = 0x123 ∧ bits 0x0918A0FD 13 6 = 5 ∧ bits 0x0918A0FD 8 5 = 0 ∧
    sgn 8 (bits 0x0918A0FD 0 8) = -3 := by decide +kernel

/-- Decay of a trace (after R107). -/
theorem test_decay : decay 200 3 0xE000 = 133 ∧ decay 200 1 0xE000 = 175 ∧ decay 90 2 0xC000 = 50 := by decide +kernel

/-- Rotation (after R187): x_0 = 1,000 and x_5 = -200, RSHIFT = 2. -/
theorem test_rotate : rotate [1000, 0, 0, 0, 0, -200, 0, 0] 2 0 = 200 ∧ rotate [1000, 0, 0, 0, 0, -200, 0, 0] 2 1 = 300 := by
  decide +kernel

/-- Requantisation (after R220): 34,703 with M = 21,845, SH = 24, Z = -3. -/
theorem test_requant : requant 34703 21845 (-3) 24 0 true = (42, false) := by decide +kernel

/-- Record headers (after R311): the PAD and the DATA record of the example. -/
theorem test_record_headers :
    recHeader 1 0x45 0xC8 0x31 = leBytes 4 0x628000C8 ++ leBytes 4 0x00310000 ∧
    recHeader 0 0x45 300 0x31 = leBytes 4 0x2280012C ++ leBytes 4 0x00310000 := by decide +kernel

/-- A period shortened below the count (after R471), in both modes. -/
theorem test_short_period : countNext false false 500 800 = (0, false, true, true) ∧
    countNext true false 500 800 = (799, true, false, true) ∧ countNext true true 500 799 = (798, true, false, false) := by
  decide +kernel

/-- The slot of Proof log record 10,000 (after R495). -/
theorem test_proof_slot : slotCore 10000 = 28 ∧ slotPage 10000 = 2042 ∧ slotByte 10000 = 0 ∧
    slotAddr 10000 = 0x0401CFF400 := by decide +kernel

/-- A code through the whole end of a command: SCRIBE[0]'s missed kick becomes the newest entry of the history. -/
theorem test_code_collected : (live.commit (live.raise 0x0711 0)).fld F.HG_FR_NEWEST_CODE = 0x0711 := by decide +kernel

/-- From reset, TIMEBASE counts the ticks of a tick command. -/
theorem test_tick_from_reset :
    (match step { State.reset with pending := [.timebaseTick 5 0] } with
      | .next t => decide (t.dev.timebase = 5 ∧ t.pending = [])
      | _ => false) = true := by decide +kernel

end Sys2Proof.Tests
end

section
/-! Each command is answered by its own effect and the end of a command, so every step keeps the canonical form. -/

namespace Sys2Proof.Machine

/-- Settles O48: each meaning is a function of the device, followed by the end of a command. -/
theorem everyCommandIsAnswered : Obligations.EveryCommandIsAnswered := by
  unfold Obligations.EveryCommandIsAnswered
  intro c s
  cases c <;> exact ⟨_, rfl⟩

/-- What one step answers: the same state while nothing waits, else the end of the front command's effect. -/
theorem step_eq_next (s : State) :
    (s.pending = [] ∧ step s = .next s) ∨
    ∃ (c : Instr) (rest : List Instr) (d : Device),
      s.pending = c :: rest ∧ step s = .next (({ s with pending := rest } : State).after d) := by
  cases hp : s.pending with
  | nil => exact .inl ⟨rfl, by simp [step, hp]⟩
  | cons c rest =>
    obtain ⟨d, hd⟩ := everyCommandIsAnswered c { s with pending := rest }
    exact .inr ⟨c, rest, d, rfl, by simp only [step, hp, hd]⟩

/-- Settles O51: an idle step keeps the state, and the end of a command leaves any device settled. -/
theorem stepKeepsStatesSettled : Obligations.StepKeepsStatesSettled := by
  unfold Obligations.StepKeepsStatesSettled
  intro s t hs ht
  rcases step_eq_next s with ⟨-, h⟩ | ⟨c, rest, d, -, h⟩
  · obtain rfl := Host.Outcome.next.inj (h.symm.trans ht)
    exact hs
  · obtain rfl := Host.Outcome.next.inj (h.symm.trans ht)
    exact after_settled _ d

end Sys2Proof.Machine
end

section
/-! Canonical maps are determined by what their keys read as. -/

namespace Sys2Proof.Machine

variable {α : Type} [DecidableEq α]

omit [DecidableEq α] in
theorem mapGet_of_lt (f : Nat → α) (m : List (Nat × α)) (k : Nat) (h : ∀ e ∈ m, k < e.1) : mapGet f m k = f k := by
  induction m with
  | nil => rfl
  | cons e t ih =>
    have hk : e.1 ≠ k := (h e (by simp)).ne'
    simpa [mapGet, hk] using ih (fun x hx => h x (by simp [hx]))

/-- A key below the first key of a canonical map reads as the default. -/
theorem mapGet_of_lt_head (f : Nat → α) (e : Nat × α) (t : List (Nat × α)) (k : Nat) (h : mapWf f (e :: t) = true)
    (hk : k < e.1) : mapGet f (e :: t) k = f k := by
  obtain ⟨-, hlt, -⟩ := (mapWf_cons f e t).1 h
  exact mapGet_of_lt f _ k (by simpa [hk] using fun a b hab => hk.trans (hlt (a, b) hab))

/-- The first entry of a canonical map reads as its value, which is not the default. -/
theorem mapGet_head_ne (f : Nat → α) (e : Nat × α) (t : List (Nat × α)) (h : mapWf f (e :: t) = true) :
    mapGet f (e :: t) e.1 ≠ f e.1 := by
  obtain ⟨hne, -, -⟩ := (mapWf_cons f e t).1 h
  simpa [mapGet] using hne

/-- Canonical maps that read alike have the same first entry, since each one's first key does not read as the default. -/
theorem head_eq_of_mapGet (f : Nat → α) (a b : Nat × α) (s t : List (Nat × α)) (hs : mapWf f (a :: s) = true)
    (ht : mapWf f (b :: t) = true) (h : ∀ k, mapGet f (a :: s) k = mapGet f (b :: t) k) : a = b := by
  have hkey : a.1 = b.1 := by
    rcases lt_trichotomy a.1 b.1 with hlt | heq | hgt
    · exact absurd ((h a.1).trans (mapGet_of_lt_head f b t _ ht hlt)) (mapGet_head_ne f a s hs)
    · exact heq
    · exact absurd ((h b.1).symm.trans (mapGet_of_lt_head f a s _ hs hgt)) (mapGet_head_ne f b t ht)
  have hval := h a.1
  simp only [mapGet, hkey, if_true] at hval
  exact Prod.ext hkey hval

/-- Canonical maps that read alike are equal. -/
theorem mapWf_ext (f : Nat → α) (s t : List (Nat × α)) (hs : mapWf f s = true) (ht : mapWf f t = true)
    (h : ∀ k, mapGet f s k = mapGet f t k) : s = t := by
  induction s generalizing t with
  | nil =>
    cases t with
    | nil => rfl
    | cons b t => exact absurd (h b.1).symm (mapGet_head_ne f b t ht)
  | cons a s ih =>
    cases t with
    | nil => exact absurd (h a.1) (mapGet_head_ne f a s hs)
    | cons b t =>
      obtain rfl := head_eq_of_mapGet f a b s t hs ht h
      obtain ⟨-, hlts, hws⟩ := (mapWf_cons f a s).1 hs
      obtain ⟨-, hltt, hwt⟩ := (mapWf_cons f a t).1 ht
      have htail : ∀ k, mapGet f s k = mapGet f t k := by
        intro k
        by_cases hk : a.1 = k
        · subst hk
          rw [mapGet_of_lt f s _ hlts, mapGet_of_lt f t _ hltt]
        · simpa [mapGet, hk] using h k
      rw [ih t hws hwt htail]

/-- Settles O52: each of the three maps is determined by its readings. -/
theorem canonicalMapsAreEqual : Obligations.CanonicalMapsAreEqual := by
  unfold Obligations.CanonicalMapsAreEqual
  intro d e hd he hbyte hword hvalid
  simp only [Device.canon, Memory.wf, Bool.and_eq_true] at hd he
  obtain ⟨⟨hdm, hdr⟩, hdv⟩ := hd
  obtain ⟨⟨hem, her⟩, hev⟩ := he
  exact ⟨mapWf_ext _ _ _ hdm hem hbyte, mapWf_ext _ _ _ hdr her hword, mapWf_ext _ _ _ hdv hev hvalid⟩

end Sys2Proof.Machine
end

section
/-! The state that reset leaves. -/

namespace Sys2Proof.Machine

/-- At reset AON's domain reads ON and the 126 others OFF: PWR.STATE at its reset values (R373). -/
theorem domState_reset : ∀ i < 127, State.reset.dev.domState i = if i = 0 then 2 else 0 := by decide +kernel

/-- Settles O50: every map of the reset state is empty, and a key that is not listed reads as its default. -/
theorem resetIsAsTabled : Obligations.ResetIsAsTabled := by
  unfold Obligations.ResetIsAsTabled
  have hboot : State.reset.dev.boot = 0 := by decide +kernel
  have haon : State.reset.dev.isOn 0 = true := by simp [Device.isOn, domState_reset]
  have hoff : ∀ i < 126, State.reset.dev.domState (i + 1) = 0 := fun i hi =>
    (domState_reset (i + 1) (by omega)).trans (if_neg (by omega))
  exact ⟨fun _ => rfl, fun _ => rfl, fun _ => rfl, rfl, hboot, haon, hoff, rfl, rfl, rfl, rfl, rfl⟩

end Sys2Proof.Machine
end

section
/-! Fields of a register row: they lie apart within the word, so each obeys its own access code. -/

namespace Sys2Proof.Machine

/-! ### Numbers whose bits lie apart -/

/-- Numbers without a common bit add without a carry. -/
theorem add_eq_or_of_and_eq_zero {x y : Nat} (h : x &&& y = 0) : x + y = x ||| y := by
  have hx : x < 2 ^ (x + y) := (Nat.le_add_right x y).trans_lt Nat.lt_two_pow_self
  have hy : y < 2 ^ (x + y) := (Nat.le_add_left y x).trans_lt Nat.lt_two_pow_self
  have hand : BitVec.ofNat (x + y) x &&& BitVec.ofNat (x + y) y = 0#(x + y) := by
    rw [← BitVec.ofNat_and, h]
  have hsum := BitVec.toNat_add_of_and_eq_zero hand
  rw [BitVec.add_eq_or_of_and_eq_zero _ _ hand] at hsum
  simpa [Nat.mod_eq_of_lt hx, Nat.mod_eq_of_lt hy] using hsum.symm

/-- Taking from a number the bits that another has in common with it clears them. -/
theorem testBit_sub_and (x v i : Nat) : (x - (x &&& v)).testBit i = (x.testBit i && !v.testBit i) := by
  have hand : (x &&& v) &&& (x ^^^ (x &&& v)) = 0 := by
    apply Nat.eq_of_testBit_eq
    intro j
    cases hx : x.testBit j <;> cases hv : v.testBit j <;> simp [hx, hv]
  have hor : (x &&& v) ||| (x ^^^ (x &&& v)) = x := by
    apply Nat.eq_of_testBit_eq
    intro j
    cases hx : x.testBit j <;> cases hv : v.testBit j <;> simp [hx, hv]
  have hsum := add_eq_or_of_and_eq_zero hand
  rw [hor] at hsum
  rw [show x - (x &&& v) = x ^^^ (x &&& v) by omega]
  cases hx : x.testBit i <;> cases hv : v.testBit i <;> simp [hx, hv]

/-- A field added at a place that is free is put in it. -/
theorem add_shiftLeft_eq_or {x lo len v : Nat} (hx : bits x lo len = 0) (hv : v < 2 ^ len) :
    x + v <<< lo = x ||| v <<< lo := by
  apply add_eq_or_of_and_eq_zero
  apply Nat.eq_of_testBit_eq
  intro i
  simp only [Nat.testBit_and, Nat.testBit_shiftLeft, Nat.zero_testBit]
  by_cases hlo : lo ≤ i
  · by_cases hhi : i - lo < len
    · have hbit := testBit_bits x lo len (i - lo)
      simp_all
    · have hbit := Nat.testBit_lt_two_pow (hv.trans_le (Nat.pow_le_pow_right (by omega) (not_lt.1 hhi)))
      simp [hbit]
  · simp [hlo]

theorem bits_add_same {x lo len v : Nat} (hx : bits x lo len = 0) (hv : v < 2 ^ len) :
    bits (x + v <<< lo) lo len = v := by
  rw [add_shiftLeft_eq_or hx hv]
  unfold bits at hx ⊢
  rw [Nat.shiftRight_or_distrib, Nat.shiftLeft_shiftRight, Nat.or_mod_two_pow, hx, Nat.zero_or, Nat.mod_eq_of_lt hv]

theorem bits_add_other {x lo len v lo' len' : Nat} (hx : bits x lo len = 0) (hv : v < 2 ^ len)
    (h : lo + len ≤ lo' ∨ lo' + len' ≤ lo) : bits (x + v <<< lo) lo' len' = bits x lo' len' := by
  rw [add_shiftLeft_eq_or hx hv]
  apply Nat.eq_of_testBit_eq
  intro i
  simp only [testBit_bits, Nat.testBit_or, Nat.testBit_shiftLeft]
  by_cases hi : i < len'
  · by_cases hlo : lo ≤ lo' + i
    · have hhi : len ≤ lo' + i - lo := by omega
      have hbit := Nat.testBit_lt_two_pow (hv.trans_le (Nat.pow_le_pow_right (by omega) hhi))
      simp [hbit]
    · simp [hlo]
  · simp [hi]

/-! ### The rows of the register tables -/

/-- Two fields that share no bit. -/
abbrev FieldRow.apart (f g : FieldRow) : Prop := f.lo + f.len ≤ g.lo ∨ g.lo + g.len ≤ f.lo

/-- A row whose fields lie in the word, share no bit and hold their reset values. -/
abbrev RegRow.wellPlaced (r : RegRow) : Prop :=
  (∀ f ∈ r.fields, f.lo + f.len ≤ 32 ∧ f.reset < 2 ^ f.len) ∧ r.fields.Pairwise FieldRow.apart

theorem wellPlaced_rows (b : Blk) : ∀ r ∈ b.rows, r.wellPlaced := by
  cases b <;> decide +kernel

/-- A row that an address finds stands in a table of a block, and every row of the tables is well placed. -/
theorem wellPlaced_of_regRow {a : Nat} {r : RegRow} (h : regRow a = some r) : r.wellPlaced := by
  unfold regRow at h
  split at h
  · exact wellPlaced_rows _ r (List.mem_of_find?_eq_some h)
  · exact absurd h (by simp)

theorem apart_comm {f g : FieldRow} (h : f.apart g) : g.apart f := h.symm

/-- Different fields of a well-placed row share no bit. -/
theorem apart_of_ne {r : RegRow} (hr : r.wellPlaced) {f g : FieldRow} (hf : f ∈ r.fields) (hg : g ∈ r.fields)
    (h : f ≠ g) : f.apart g :=
  have : Std.Symm FieldRow.apart := ⟨fun _ _ => apart_comm⟩
  hr.2.forall hf hg h

/-! ### Fields visited one after another -/

/-- The field of the register at an address that a row lists. -/
def FieldRow.fldAt (f : FieldRow) (a : Nat) : Fld := ⟨a, f.lo, f.len⟩

/-- An operation that, visiting a field of the register at an address, makes of it a function of what it held, and
leaves every other register, the fields apart from it, and memory. -/
structure FieldVisit (a : Nat) (visit : Device → FieldRow → Device) (val : FieldRow → Nat → Nat) : Prop where
  mem : ∀ d f, (visit d f).mem = d.mem
  word : ∀ d f b, b ≠ a → (visit d f).word b = d.word b
  apart : ∀ d f (g : FieldRow), f.apart g → (visit d f).fld (g.fldAt a) = d.fld (g.fldAt a)
  same : ∀ d f, f.lo + f.len ≤ 32 → (visit d f).fld (f.fldAt a) = val f (d.fld (f.fldAt a))

namespace FieldVisit

variable {a : Nat} {visit : Device → FieldRow → Device} {val : FieldRow → Nat → Nat}

theorem each_mem (h : FieldVisit a visit val) (d : Device) (l : List FieldRow) : (d.each l visit).mem = d.mem := by
  induction l generalizing d with
  | nil => rfl
  | cons f t ih => exact (ih (visit d f)).trans (h.mem d f)

theorem each_word (h : FieldVisit a visit val) (d : Device) (l : List FieldRow) (b : Nat) (hb : b ≠ a) :
    (d.each l visit).word b = d.word b := by
  induction l generalizing d with
  | nil => rfl
  | cons f t ih => exact (ih (visit d f)).trans (h.word d f b hb)

/-- A field apart from every field visited reads as before. -/
theorem each_apart (h : FieldVisit a visit val) (d : Device) (l : List FieldRow) (g : FieldRow)
    (hg : ∀ f ∈ l, f.apart g) : (d.each l visit).fld (g.fldAt a) = d.fld (g.fldAt a) := by
  induction l generalizing d with
  | nil => rfl
  | cons f t ih =>
    exact (ih (visit d f) (fun x hx => hg x (by simp [hx]))).trans (h.apart d f g (hg f (by simp)))

/-- A field visited among fields apart from one another becomes what its own visit makes of it. -/
theorem each_same (h : FieldVisit a visit val) (d : Device) (l : List FieldRow) (f : FieldRow)
    (hl : l.Pairwise FieldRow.apart) (hf : f ∈ l) (h32 : f.lo + f.len ≤ 32) :
    (d.each l visit).fld (f.fldAt a) = val f (d.fld (f.fldAt a)) := by
  induction l generalizing d with
  | nil => simp at hf
  | cons g t ih =>
    obtain ⟨hgt, ht⟩ := List.pairwise_cons.1 hl
    rcases List.mem_cons.1 hf with rfl | hft
    · exact (h.each_apart (visit d f) t f (fun x hx => apart_comm (hgt x hx))).trans (h.same d f h32)
    · exact (ih (visit d g) ht hft).trans (by rw [h.apart d g f (hgt f hft)])

end FieldVisit

/-! ### Writes under the access codes (R12) -/

/-- What a write of v makes of a field, by its access code (R12). -/
def Acc.written (c : Acc) (v old : Nat) : Nat :=
  match c with
  | .rw => v
  | .w1c => old - (old &&& v)
  | .w1s => old ||| v
  | _ => old

/-- One field of a register written under its access code. -/
def Device.fieldSet (a : Nat) (w : Word) (d : Device) (f : FieldRow) : Device :=
  match f.acc with
  | .rw => d.put (f.fldAt a) (bits w.toNat f.lo f.len)
  | .w1c => d.put (f.fldAt a) (d.fld (f.fldAt a) - (d.fld (f.fldAt a) &&& bits w.toNat f.lo f.len))
  | .w1s => d.put (f.fldAt a) (d.fld (f.fldAt a) ||| bits w.toNat f.lo f.len)
  | _ => d

theorem regSet_eq_each (d : Device) (a : Nat) (r : RegRow) (w : Word) :
    d.regSet a r w = d.each r.fields (Device.fieldSet a w) := rfl

/-- A field write leaves the field alone or puts into it what its access code makes of it. -/
theorem fieldSet_eq (a : Nat) (w : Word) (d : Device) (f : FieldRow) :
    (Device.fieldSet a w d f = d ∧ f.acc.written (bits w.toNat f.lo f.len) (d.fld (f.fldAt a)) = d.fld (f.fldAt a)) ∨
    Device.fieldSet a w d f = d.put (f.fldAt a) (f.acc.written (bits w.toNat f.lo f.len) (d.fld (f.fldAt a))) := by
  unfold Device.fieldSet Acc.written
  cases f.acc <;> simp

theorem written_lt (c : Acc) {v old len : Nat} (hv : v < 2 ^ len) (hold : old < 2 ^ len) : c.written v old < 2 ^ len := by
  cases c with
  | rw => exact hv
  | w1c => exact (Nat.sub_le _ _).trans_lt hold
  | w1s => exact Nat.or_lt_two_pow hold hv
  | ro => exact hold
  | rc => exact hold
  | wo => exact hold

theorem fieldVisit_fieldSet (a : Nat) (w : Word) :
    FieldVisit a (Device.fieldSet a w) (fun f old => f.acc.written (bits w.toNat f.lo f.len) old) where
  mem d f := by
    rcases fieldSet_eq a w d f with ⟨h, -⟩ | h <;> rw [h]
    exact put_mem _ _ _
  word d f b hb := by
    rcases fieldSet_eq a w d f with ⟨h, -⟩ | h <;> rw [h]
    exact word_put_other _ _ _ _ hb
  apart d f g hg := by
    rcases fieldSet_eq a w d f with ⟨h, -⟩ | h <;> rw [h]
    exact fld_put_other _ _ _ _ (.inr hg)
  same d f h32 := by
    rcases fieldSet_eq a w d f with ⟨h, hval⟩ | h <;> rw [h]
    · exact hval.symm
    · rw [fld_put_same _ _ _ h32]
      exact Nat.mod_eq_of_lt (written_lt _ (bits_lt _ _ _) (fld_lt d (f.fldAt a)))

/-- A write of a register makes of each of its fields what its access code says. -/
theorem fld_regSet (d : Device) (a : Nat) (r : RegRow) (w : Word) (hr : r.wellPlaced) (f : FieldRow) (hf : f ∈ r.fields) :
    (d.regSet a r w).fld (f.fldAt a) = f.acc.written (bits w.toNat f.lo f.len) (d.fld (f.fldAt a)) := by
  rw [regSet_eq_each]
  exact (fieldVisit_fieldSet a w).each_same d r.fields f hr.2 hf (hr.1 f hf).1

theorem regSet_mem (d : Device) (a : Nat) (r : RegRow) (w : Word) : (d.regSet a r w).mem = d.mem :=
  (fieldVisit_fieldSet a w).each_mem d r.fields

theorem word_regSet_other (d : Device) (a b : Nat) (r : RegRow) (w : Word) (hb : b ≠ a) :
    (d.regSet a r w).word b = d.word b :=
  (fieldVisit_fieldSet a w).each_word d r.fields b hb

/-! ### Reads under the access codes (R12) -/

/-- One field of a register back at its reset value. -/
def Device.fieldReset (a : Nat) (d : Device) (f : FieldRow) : Device := d.put (f.fldAt a) f.reset

theorem fieldVisit_fieldReset (a : Nat) :
    FieldVisit a (Device.fieldReset a) (fun f _ => f.reset % 2 ^ f.len) where
  mem _ _ := put_mem _ _ _
  word _ _ _ hb := word_put_other _ _ _ _ hb
  apart _ _ _ hg := fld_put_other _ _ _ _ (.inr hg)
  same _ _ h32 := fld_put_same _ _ _ h32

/-- The fields that reading returns to their reset value. -/
def RegRow.readCleared (r : RegRow) : List FieldRow := r.fields.filter (fun f => f.acc = .rc)

theorem mem_readCleared {r : RegRow} {f : FieldRow} : f ∈ r.readCleared ↔ f ∈ r.fields ∧ f.acc = .rc := by
  simp [RegRow.readCleared]

@[simp] theorem rearm_mem (d : Device) (a : Nat) : (d.rearm a).mem = d.mem := rfl
@[simp] theorem rearm_word (d : Device) (a b : Nat) : (d.rearm a).word b = d.word b := rfl
@[simp] theorem rearm_fld (d : Device) (a : Nat) (f : Fld) : (d.rearm a).fld f = d.fld f := rfl

theorem regGet_fst (d : Device) (a : Nat) (r : RegRow) : (d.regGet a r).1 = d.regVal a r := by
  simp only [Device.regGet]
  split <;> rfl

/-- A read leaves the device, where no field is read-cleared, or resets those fields and rearms the register's codes. -/
theorem regGet_snd (d : Device) (a : Nat) (r : RegRow) :
    (d.regGet a r).2 = if r.readCleared.isEmpty then d else (d.each r.readCleared (Device.fieldReset a)).rearm a := by
  exact apply_ite Prod.snd _ _ _

theorem regGet_mem (d : Device) (a : Nat) (r : RegRow) : (d.regGet a r).2.mem = d.mem := by
  rw [regGet_snd]
  split
  · rfl
  · exact (fieldVisit_fieldReset a).each_mem d _

theorem word_regGet_other (d : Device) (a b : Nat) (r : RegRow) (hb : b ≠ a) : (d.regGet a r).2.word b = d.word b := by
  rw [regGet_snd]
  split
  · rfl
  · exact (fieldVisit_fieldReset a).each_word d _ b hb

/-- A read returns read-cleared fields to their reset value and leaves the others. -/
theorem fld_regGet (d : Device) (a : Nat) (r : RegRow) (hr : r.wellPlaced) (f : FieldRow) (hf : f ∈ r.fields) :
    (d.regGet a r).2.fld (f.fldAt a) = if f.acc = .rc then f.reset else d.fld (f.fldAt a) := by
  obtain ⟨h32, hreset⟩ := hr.1 f hf
  rw [regGet_snd]
  by_cases hrc : f.acc = .rc
  · have hmem : f ∈ r.readCleared := mem_readCleared.2 ⟨hf, hrc⟩
    rw [if_neg (by simpa using List.ne_nil_of_mem hmem), if_pos hrc, rearm_fld,
      (fieldVisit_fieldReset a).each_same d r.readCleared f (hr.2.filter _) hmem h32]
    exact Nat.mod_eq_of_lt hreset
  · rw [if_neg hrc]
    split
    · rfl
    · refine (fieldVisit_fieldReset a).each_apart d _ f fun g hg => ?_
      obtain ⟨hgr, hgc⟩ := mem_readCleared.1 hg
      exact apart_of_ne hr hgr hf (by rintro rfl; exact hrc hgc)

/-! ### What a read returns -/

/-- Values added in the places of a list of fields, each at its low bit. -/
def placeAll (v : FieldRow → Nat) (l : List FieldRow) (x : Nat) : Nat := l.foldl (fun x f => x + v f <<< f.lo) x

/-- A place apart from the fields reads as before they were added. -/
theorem bits_placeAll_apart (v : FieldRow → Nat) (l : List FieldRow) (x : Nat) (g : FieldRow)
    (hv : ∀ f ∈ l, v f < 2 ^ f.len) (hl : l.Pairwise FieldRow.apart) (hx : ∀ f ∈ l, bits x f.lo f.len = 0)
    (hg : ∀ f ∈ l, f.apart g) : bits (placeAll v l x) g.lo g.len = bits x g.lo g.len := by
  induction l generalizing x with
  | nil => rfl
  | cons f t ih =>
    obtain ⟨hft, ht⟩ := List.pairwise_cons.1 hl
    simp only [List.forall_mem_cons] at hv hx hg
    refine (ih (x + v f <<< f.lo) hv.2 ht (fun k hk => ?_) hg.2).trans (bits_add_other hx.1 hv.1 hg.1)
    exact (bits_add_other hx.1 hv.1 (hft k hk)).trans (hx.2 k hk)

/-- A field of the list reads as the value added in its place. -/
theorem bits_placeAll_same (v : FieldRow → Nat) (l : List FieldRow) (x : Nat) (f : FieldRow)
    (hv : ∀ f ∈ l, v f < 2 ^ f.len) (hl : l.Pairwise FieldRow.apart) (hx : ∀ f ∈ l, bits x f.lo f.len = 0)
    (hf : f ∈ l) : bits (placeAll v l x) f.lo f.len = v f := by
  induction l generalizing x with
  | nil => simp at hf
  | cons g t ih =>
    obtain ⟨hgt, ht⟩ := List.pairwise_cons.1 hl
    simp only [List.forall_mem_cons] at hv hx
    have hx' : ∀ k ∈ t, bits (x + v g <<< g.lo) k.lo k.len = 0 := fun k hk =>
      (bits_add_other hx.1 hv.1 (hgt k hk)).trans (hx.2 k hk)
    rcases List.mem_cons.1 hf with rfl | hft
    · exact (bits_placeAll_apart v t _ f hv.2 ht hx' (fun k hk => apart_comm (hgt k hk))).trans
        (bits_add_same hx.1 hv.1)
    · exact ih _ hv.2 ht hx' hft

/-- The fields that a read shows. -/
def RegRow.shown (r : RegRow) : List FieldRow := r.fields.filter (fun f => f.acc ≠ .wo)

theorem mem_shown {r : RegRow} {f : FieldRow} : f ∈ r.shown ↔ f ∈ r.fields ∧ f.acc ≠ .wo := by
  simp [RegRow.shown]

theorem regVal_eq_placeAll (d : Device) (a : Nat) (r : RegRow) :
    d.regVal a r = placeAll (fun f => d.fld (f.fldAt a)) r.shown 0 := rfl

/-- A read shows every field in place but the write-only ones, which read as zero. -/
theorem bits_regVal (d : Device) (a : Nat) (r : RegRow) (hr : r.wellPlaced) (f : FieldRow) (hf : f ∈ r.fields) :
    bits (d.regVal a r) f.lo f.len = if f.acc = .wo then 0 else d.fld (f.fldAt a) := by
  have hv : ∀ g ∈ r.shown, d.fld (g.fldAt a) < 2 ^ g.len := fun g _ => fld_lt d (g.fldAt a)
  have hx : ∀ g ∈ r.shown, bits 0 g.lo g.len = 0 := fun g _ => by simp [bits]
  rw [regVal_eq_placeAll]
  split
  · rename_i hwo
    refine (bits_placeAll_apart _ _ 0 f hv (hr.2.filter _) hx fun g hg => ?_).trans (by simp [bits])
    obtain ⟨hgr, hgc⟩ := mem_shown.1 hg
    exact apart_of_ne hr hgr hf (by rintro rfl; exact hgc hwo)
  · rename_i hwo
    exact bits_placeAll_same _ _ 0 f hv (hr.2.filter _) hx (mem_shown.2 ⟨hf, hwo⟩)

/-- Settles O42: the fields of every row lie apart, so a write or a read treats each by its own access code. -/
theorem accessCodesHold : Obligations.AccessCodesHold := by
  unfold Obligations.AccessCodesHold
  intro d a r w h
  have hr := wellPlaced_of_regRow h
  refine ⟨regSet_mem d a r w, fun b => word_regSet_other d a b r w, fun f hf => ?_, regGet_mem d a r,
    fun b => word_regGet_other d a b r⟩
  have hset := fld_regSet d a r w hr f hf
  refine ⟨fun hc => ?_, fun hc i => ?_, fun hc => ?_, fun hc => ?_, ?_, fld_regGet d a r hr f hf⟩
  · rw [hc] at hset
    exact hset
  · rw [hc] at hset
    exact (congrArg (·.testBit i) hset).trans (testBit_sub_and _ _ i)
  · rw [hc] at hset
    exact hset
  · rcases hc with hc | hc <;> rw [hc] at hset <;> exact hset
  · rw [regGet_fst]
    exact bits_regVal d a r hr f hf

end Sys2Proof.Machine
end

section
/-! The register path: what a served access of a register, a memory or a lane makes of the device. -/

namespace Sys2Proof.Machine

/-! ### Reads and writes of plain blocks -/

/-- A register's own address finds the row that its word address finds. -/
theorem regRow_word {x : Nat} {r : RegRow} (h4 : x % 4 = 0) (hr : regRow x = some r) : regRow (x / 4 * 4) = some r := by
  rwa [Nat.div_mul_cancel (Nat.dvd_of_mod_eq_zero h4)]

/-- The blocks whose writes are what the access codes give. -/
theorem regWrite_plain (d : Device) (ini : Nat) (p : Loc) (a : Nat) (r : RegRow) (w : Word) (off : Nat)
    (h : p.blk = .topo ∨ p.blk = .contract ∨ p.blk = .plate ∨ p.blk = .hr) :
    d.regWrite ini p a r w off = d.regSet a r w := by
  rcases h with h | h | h | h <;> simp [Device.regWrite, Device.writeAon, Device.writeHatch, h]

/-- The blocks whose reads are what the access codes give, for a register that is not banked. -/
theorem regRead_plain (d : Device) (ini : Nat) (p : Loc) (a : Nat) (r : RegRow) (off : Nat)
    (h : p.blk = .topo ∨ p.blk = .contract ∨ p.blk = .boot ∨ p.blk = .hg ∨ p.blk = .pair ∨ p.blk = .etch ∨
      p.blk = .stipple ∨ p.blk = .port ∨ p.blk = .graver ∨ p.blk = .press ∨ p.blk = .int ∨ p.blk = .mc)
    (hb : r.banked = false) : d.regRead ini p a r off = d.regGet a r := by
  rcases h with h | h | h | h | h | h | h | h | h | h | h | h <;> simp [Device.regRead, h, hb]

/-- A write command leaves what the register path makes of the write, after the tie is counted. -/
theorem exec_write_of_busWrite {s : State} {ini : Ini} {a : BitVec 40} {bytes : List Byte} {tied : Bool} {e : Device}
    (h : (s.dev.tie tied ini.num a.toNat true).busWrite ini.num a.toNat bytes = e) :
    exec (.registerWrite ini a bytes tied) s = .next (s.after e) := by
  rw [exec_registerWrite, ← h]

/-- A read command leaves what the register path makes of the read, with the bytes read as its answer. -/
theorem exec_read_of_busRead {s : State} {ini : Ini} {a : BitVec 40} {len : Fin 9} {tied : Bool}
    {r : List Byte × Device} (h : (s.dev.tie tied ini.num a.toNat false).busRead ini.num a.toNat len = r) :
    exec (.rcRead ini a len tied) s = .next (s.after { r.2 with rbytes := r.1, rdata := BitVec.ofNat 32 (leNat r.1) }) := by
  subst h
  exact exec_rcRead ini a len tied s

/-- Settles O40: each clause is the path's own case for what the address names. -/
theorem registerPathCompletes : Obligations.RegisterPathCompletes := by
  unfold Obligations.RegisterPathCompletes
  intro s ini a tied
  refine ⟨fun hreach hshut => ⟨?_, ?_, ?_⟩, fun hreach hshut => ⟨?_, ?_, ?_⟩⟩
  · intro p r w hl hp hr h4 hs
    have hpath := busWrite_reg _ ini.num a.toNat (leBytes 4 w.toNat) p r hreach hshut hl hp (regRow_word h4 hr) h4
      (leBytes_length 4 _) hs
    rw [leNat_leBytes_word] at hpath
    exact ⟨exec_write_of_busWrite hpath,
      fun hblk => exec_write_of_busWrite (hpath.trans (regWrite_plain _ _ _ _ _ _ _ hblk))⟩
  · intro m bytes hl hr hm h0 h8 hal hw hs ho
    have hpath := busWrite_mem _ ini.num a.toNat bytes m hreach hshut hl hr hm h0 h8 hal hw hs ho
    simp only [Device.memPut, Bool.and_eq_true, decide_eq_true_eq] at hpath
    exact exec_write_of_busWrite hpath
  · intro n o op bytes hl hlen h4 hs ho
    exact exec_write_of_busWrite (busWrite_lane _ ini.num a.toNat n o op bytes hreach hshut hl hlen h4 hs ho)
  · intro p r hl hp hr h4 hs
    have hpath := busRead_reg _ ini.num a.toNat p r hreach hshut hl hp (regRow_word h4 hr) h4 hs
    refine ⟨exec_read_of_busRead hpath, fun hblk hb => ?_⟩
    rw [regRead_plain _ _ _ _ _ _ hblk hb] at hpath
    exact exec_read_of_busRead hpath
  · intro m len hl hr hm h1 hal hw hs ho
    exact exec_read_of_busRead (busRead_mem _ ini.num a.toNat len m hreach hshut hl hr hm h1 (by omega) hal hw hs ho)
  · intro n o op hl h4 hs ho
    exact exec_read_of_busRead (busRead_lane _ ini.num a.toNat n o op hreach hshut hl h4 hs ho)

end Sys2Proof.Machine
end

section
/-! Memory through the register path: what is written is read back, since neither the write, the count of a tie nor the
end of a calm command changes anything that the path looks at. -/

namespace Sys2Proof.Machine

/-! ### Undamaged memory -/

theorem ueAt_undamaged {d : Device} (h : d.damage = []) (a : Nat) : d.ueAt a = false := by simp [Device.ueAt, h]

theorem note_undamaged {d : Device} (h : d.damage = []) (a : Nat) : d.note a = d := by
  simp [Device.note, Device.damageAt, h]

theorem rdBytes_undamaged {d : Device} (h : d.damage = []) (a n : Nat) :
    d.rdBytes a n = (List.range n).map (fun i => d.byte (a + i)) := by
  simp [Device.rdBytes, Device.rdByte, ueAt_undamaged h]

/-- Bytes put into memory from an address on, and their word or page encoded anew. -/
def Device.store (d : Device) (a : Nat) (l : List Byte) : Device := (d.setBytes a l).reencode a

theorem st_undamaged {d : Device} (h : d.damage = []) (a : Nat) {l : List Byte} (hl : l ≠ []) :
    d.st a l = d.store a l := by
  simp [Device.st, Device.store, ueAt_undamaged h, hl]

theorem byte_store (d : Device) (a b : Nat) (l : List Byte) : (d.store a l).byte b = (d.setBytes a l).byte b := rfl

/-- Bytes stored change memory alone. -/
theorem setBytes_eq (d : Device) (a : Nat) (l : List Byte) : d.setBytes a l = { d with mem := (d.setBytes a l).mem } := by
  induction l generalizing d a with
  | nil => rfl
  | cons b t ih => exact ih (d.setByte a b) (a + 1)

/-- A store changes memory, valid bits and damage alone. -/
theorem store_eq (d : Device) (a : Nat) (l : List Byte) : d.store a l =
    { d with mem := (d.store a l).mem, valid := (d.store a l).valid, damage := mapDel (codeUnit a) d.damage } := by
  unfold Device.store
  rw [setBytes_eq]
  rfl

/-! ### What bytes a memory holds (R14, R136) -/

@[simp] theorem heldBytes_length (a : Nat) (l : List Byte) : (heldBytes a l).length = l.length := by simp [heldBytes]

theorem heldBytes_ne_nil {a : Nat} {l : List Byte} (h : l ≠ []) : heldBytes a l ≠ [] := by
  simpa [← List.length_pos_iff] using List.length_pos_iff.2 h

theorem inRange_eq_false {a lo len : Nat} (h : a < lo ∨ lo + len ≤ a) : inRange a lo len = false := by
  simp only [inRange, Bool.and_eq_false_iff, decide_eq_false_iff_not]
  omega

/-- No memory lies between the Scribes' SRAM and the Etch windows. -/
theorem memAt_gap {x : Nat} (hlo : 0x0020400000 ≤ x) (hhi : x < 0x0100000000) : memAt x = none := by
  have hrom : ¬ x < 0x40000 := by omega
  have hsram : inRange x 0x0020000000 0x400000 = false := inRange_eq_false (by omega)
  have hout : ∀ lo len, 0x0100000000 ≤ lo → inRange x lo len = false := fun lo len h => inRange_eq_false (by omega)
  simp (disch := decide) only [memAt, if_neg hrom, hsram, hout, Bool.false_eq_true, if_false]

/-- A memory outside the Etch windows lies far below them, or above. -/
theorem memAt_outside_etch {x : Nat} {m : MemAt} (hm : memAt x = some m) (h : ¬ inRange x 0x0100000000 0x40000000 = true) :
    x < 0x0020400000 ∨ 0x0140000000 ≤ x := by
  simp only [inRange, Bool.and_eq_true, decide_eq_true_eq] at h
  by_contra hc
  exact absurd ((memAt_gap (by omega) (by omega)).symm.trans hm) (by simp)

/-- A word outside the Etch windows holds all of its bits. -/
theorem memMask_outside_etch {a : Nat} (h : a < 0x0100000000 ∨ 0x0140000000 ≤ a) : memMask a = 2 ^ 32 - 1 := by
  have hr : inRange a 0x0100000000 0x40000000 = false := inRange_eq_false (by omega)
  simp [memMask, hr]

/-- Every byte of a word that holds all of its bits is kept whole. -/
theorem byteMask_full (k : Nat) (h : k < 4) : BitVec.ofNat 8 ((2 ^ 32 - 1) >>> (8 * k)) = BitVec.allOnes 8 := by
  interval_cases k <;> rfl

/-- Memories outside the Etch windows hold bytes as they are written. -/
theorem heldBytes_outside_etch {x : Nat} {m : MemAt} {l : List Byte} (hm : memAt x = some m) (h8 : l.length ≤ 8)
    (h : ¬ inRange x 0x0100000000 0x40000000 = true) : heldBytes x l = l := by
  have hx := memAt_outside_etch hm h
  refine List.ext_getElem (by simp) fun i hi hi' => ?_
  have hword : (x + i) / 4 * 4 < 0x0100000000 ∨ 0x0140000000 ≤ (x + i) / 4 * 4 := by omega
  simp only [heldBytes, List.getElem_map, List.getElem_range, memMask_outside_etch hword,
    byteMask_full _ (Nat.mod_lt _ (by omega)), BitVec.and_allOnes]
  exact (List.getElem_eq_getD 0).symm

/-! ### Devices that the register path treats alike -/

/-- Devices whose registers but the count of arbitration ties, and whose units that the register path and the end of a
calm command look at, are the same. -/
structure SameControl (d e : Device) : Prop where
  word : ∀ b, b ≠ F.CONTRACT_ARB_TIES.addr → e.word b = d.word b
  doms : e.doms = d.doms
  scribes : e.scribes = d.scribes
  hatch : e.hatch = d.hatch
  host : e.host = d.host
  bootc : e.bootc = d.bootc
  pair : e.pair = d.pair
  timebase : e.timebase = d.timebase
  damage : d.damage = [] → e.damage = []
  raising : d.raising = [] → e.raising = []
  scribeUe : d.scribeUe = [] → e.scribeUe = []

namespace SameControl

variable {d e g : Device}

theorem trans (h : SameControl d e) (k : SameControl e g) : SameControl d g where
  word b hb := (k.word b hb).trans (h.word b hb)
  doms := k.doms.trans h.doms
  scribes := k.scribes.trans h.scribes
  hatch := k.hatch.trans h.hatch
  host := k.host.trans h.host
  bootc := k.bootc.trans h.bootc
  pair := k.pair.trans h.pair
  timebase := k.timebase.trans h.timebase
  damage hd := k.damage (h.damage hd)
  raising hd := k.raising (h.raising hd)
  scribeUe hd := k.scribeUe (h.scribeUe hd)

theorem fld (h : SameControl d e) (f : Fld) (hf : f.addr ≠ F.CONTRACT_ARB_TIES.addr) : e.fld f = d.fld f := by
  simp [Device.fld, h.word _ hf]

theorem flag (h : SameControl d e) (f : Fld) (hf : f.addr ≠ F.CONTRACT_ARB_TIES.addr) : e.flag f = d.flag f := by
  simp [Device.flag, h.fld f hf]

theorem domState (h : SameControl d e) {i : Nat} (hi : i < 128) : e.domState i = d.domState i := by
  have ha : 0x0010000040 + 4 * (i / 16) ≠ F.CONTRACT_ARB_TIES.addr := by simp only [F.CONTRACT_ARB_TIES]; omega
  simp [Device.domState, h.word _ ha]

theorem isOn (h : SameControl d e) {i : Nat} (hi : i < 128) : e.isOn i = d.isOn i := by
  simp [Device.isOn, Device.dom, h.domState hi, h.doms]

theorem etchBound (h : SameControl d e) (n : Nat) : e.etchBound n = d.etchBound n :=
  h.flag _ (by simp only [F.TOPO_ETCH_SITE_VALID, F.CONTRACT_ARB_TIES]; omega)

theorem graverBound (h : SameControl d e) (n : Nat) : e.graverBound n = d.graverBound n :=
  h.flag _ (by simp only [F.TOPO_GRAVER_SITE_VALID, F.CONTRACT_ARB_TIES]; omega)

theorem served (h : SameControl d e) (a : Nat) {i : Nat} (hi : i < 128) : e.served a i = d.served a i := by
  simp only [Device.served, h.domState hi, h.etchBound, h.graverBound]

theorem indOpen (h : SameControl d e) (a : Nat) (wr : Bool) : e.indOpen a wr = d.indOpen a wr := by
  have hwin : ∀ (i : Nat) (f : Fld), f.addr = (F.HOST_IND_WIN0_VALID i).addr ∨ f.addr = (F.HOST_IND_WIN1_SIZE i).addr →
      f.addr ≠ F.CONTRACT_ARB_TIES.addr := by
    intro i f hf
    simp only [F.HOST_IND_WIN0_VALID, F.HOST_IND_WIN1_SIZE] at hf
    simp only [F.CONTRACT_ARB_TIES]
    omega
  have hfld : ∀ (i : Nat) (f : Fld),
      f.addr = (F.HOST_IND_WIN0_VALID i).addr ∨ f.addr = (F.HOST_IND_WIN1_SIZE i).addr → e.fld f = d.fld f :=
    fun i f hf => h.fld f (hwin i f hf)
  unfold Device.indOpen
  congr 2
  funext i
  simp only [Device.flag, hfld i (F.HOST_IND_WIN0_BASE_HI i) (.inl rfl), hfld i (F.HOST_IND_WIN1_BASE_LO i) (.inr rfl),
    hfld i (F.HOST_IND_WIN0_VALID i) (.inl rfl), hfld i (F.HOST_IND_WIN1_SIZE i) (.inr rfl),
    hfld i (F.HOST_IND_WIN0_WR i) (.inl rfl), hfld i (F.HOST_IND_WIN0_RD i) (.inl rfl)]

theorem reach (h : SameControl d e) (ini a : Nat) (wr : Bool) : e.reach ini a wr = d.reach ini a wr := by
  simp only [Device.reach, h.indOpen]

theorem shut (h : SameControl d e) (ini : Nat) : e.shut ini = d.shut ini := by
  unfold Device.shut
  cases hi : isScribe ini with
  | false => rfl
  | true =>
    simp only [isScribe, Bool.and_eq_true, decide_eq_true_eq] at hi
    have hdom : domScribe (ini - 2) < 128 := by unfold domScribe; omega
    simp only [Device.scribe, h.scribes, h.isOn hdom]

theorem inTable (h : SameControl d e) (a : Nat) : e.inTable a = d.inTable a := by
  unfold Device.inTable Device.descBase
  rw [h.flag F.RACK_CTRL_EN (by decide), h.fld F.RACK_DESC_BASE_LO (by decide), h.fld F.RACK_DESC_BASE_HI (by decide)]

theorem memShut (h : SameControl d e) (a : Nat) : e.memShut a = d.memShut a := by
  have hst : ∀ n, (F.GRAVER_STATUS_STATE n).addr ≠ F.CONTRACT_ARB_TIES.addr := by
    intro n
    simp only [F.GRAVER_STATUS_STATE, F.CONTRACT_ARB_TIES]
    omega
  unfold Device.memShut Device.stState Device.sched
  rw [h.fld _ (hst _), h.fld F.STIPPLE_STATUS_STATE (by decide), h.hatch, h.inTable]

theorem aliveNow (h : SameControl d e) : e.aliveNow = d.aliveNow := by
  unfold Device.aliveNow Device.boot Device.pairRole Device.since Device.hbTimeout
  rw [h.pair, h.timebase, h.fld F.BOOT_STATUS_STATE (by decide), h.flag F.PAIR_CFG_EN (by decide),
    h.fld F.PAIR_STATUS_ROLE (by decide), h.fld F.PAIR_TIMING_HB_TIMEOUT (by decide)]

theorem calm (h : SameControl d e) (hd : d.calm = true) : e.calm = true := by
  have hs : ∀ n,
      (scribeStateFld n).addr ≠ F.CONTRACT_ARB_TIES.addr := by simp [scribeStateFld, F.HG_SCRIBE_STATE_S0, F.CONTRACT_ARB_TIES]
  simp only [Device.calm, Bool.and_eq_true, List.isEmpty_iff] at hd ⊢
  simp only [Device.pairRole, h.host, h.bootc, h.aliveNow, h.fld _ (hs _), h.fld F.PAIR_STATUS_ROLE (by decide),
    h.flag F.PAIR_STATUS_ALIVE (by decide)]
  obtain ⟨⟨⟨⟨⟨⟨⟨hraise, hue⟩, hrest⟩, h4⟩, h5⟩, h6⟩, h7⟩, h8⟩ := hd
  exact ⟨⟨⟨⟨⟨⟨⟨h.raising hraise, h.scribeUe hue⟩, hrest⟩, h4⟩, h5⟩, h6⟩, h7⟩, h8⟩

end SameControl

/-- An access counts a tie or leaves the device. -/
theorem tie_eq (d : Device) (tied : Bool) (ini a : Nat) (wr : Bool) :
    d.tie tied ini a wr = d ∨ d.tie tied ini a wr = d.bump F.CONTRACT_ARB_TIES := by
  simp only [Device.tie]
  exact (ite_eq_or_eq _ _ _).symm

theorem byte_congr {d e : Device} (h : d.mem = e.mem) (a : Nat) : d.byte a = e.byte a := by simp [Device.byte, h]

theorem tie_mem (d : Device) (tied : Bool) (ini a : Nat) (wr : Bool) : (d.tie tied ini a wr).mem = d.mem := by
  rcases tie_eq d tied ini a wr with h | h <;> rw [h]
  exact bump_mem _ _

theorem sameControl_refl (d : Device) : SameControl d d :=
  ⟨fun _ _ => rfl, rfl, rfl, rfl, rfl, rfl, rfl, rfl, id, id, id⟩

/-- The count of a tie changes nothing else. -/
theorem sameControl_tie (d : Device) (tied : Bool) (ini a : Nat) (wr : Bool) : SameControl d (d.tie tied ini a wr) := by
  rcases tie_eq d tied ini a wr with h | h <;> rw [h]
  · exact sameControl_refl d
  · exact ⟨fun b hb => word_put_other _ _ _ _ hb, rfl, rfl, rfl, rfl, rfl, rfl, rfl, id, id, id⟩

theorem sameControl_store (d : Device) (a : Nat) (l : List Byte) : SameControl d (d.store a l) := by
  rw [store_eq]
  exact ⟨fun _ _ => rfl, rfl, rfl, rfl, rfl, rfl, rfl, rfl, fun h => by simp [h, mapDel], id, id⟩

/-- The bytes that a read answers are no part of what the path looks at. -/
theorem sameControl_answer (d : Device) (l : List Byte) (w : Word) : SameControl d { d with rbytes := l, rdata := w } :=
  ⟨fun _ _ => rfl, rfl, rfl, rfl, rfl, rfl, rfl, rfl, id, id, id⟩

theorem sameControl_tidy (d : Device) : SameControl d d.tidy :=
  ⟨fun b _ => tidy_word d b, rfl, rfl, rfl, rfl, rfl, rfl, rfl, id, fun _ => rfl, fun _ => rfl⟩

/-! ### A write and the read that follows it -/

/-- Every memory lies in a domain of the part. -/
theorem memAt_dom_lt {x : Nat} {m : MemAt} (h : memAt x = some m) : m.dom < 128 := by
  unfold memAt at h
  simp only [inRange, Bool.and_eq_true, decide_eq_true_eq] at h
  split_ifs at h <;> cases h <;>
    simp only [domAon, domScribe, domEtch, domGraver, domTracer, domHatch, domMc, lpBase] at * <;> omega

/-- A memory that may be written lies outside the Rack's table. -/
theorem inTable_of_memShut {d : Device} {x : Nat} (h : d.memShut x = false) : d.inTable x = false :=
  (Bool.or_eq_false_iff.1 h).2

/-- A command that leaves a calm device ends with that device tidied. -/
theorem after_calm (s : State) {d : Device} (h : d.calm = true) : s.after d = { s with dev := d.tidy } := by
  rw [State.after, commit_calm _ _ h]

/-- What a write of a memory that may be written and is not damaged makes of the device: the bytes are stored. -/
theorem memPut_undamaged {d : Device} (hd : d.damage = []) (ini x off : Nat) {l : List Byte} (hl : l ≠ [])
    (hsyn : (inRange x 0x0100000000 0x40000000 && inRange (x % 0x1000000) 0x100000 0x180000) = false) :
    d.memPut ini x off l = d.store x (heldBytes x l) := by
  have hsyn' : ¬ (inRange x 0x0100000000 0x40000000 = true ∧ inRange (x % 0x1000000) 0x100000 0x180000 = true) := by
    rwa [← Bool.and_eq_true, Bool.not_eq_true]
  simp only [Device.memPut, ueAt_undamaged hd, Bool.false_and, Bool.false_eq_true, if_false, note_undamaged hd,
    if_neg hsyn', st_undamaged hd x (heldBytes_ne_nil hl)]

/-- What a read of a memory that is not damaged answers: its bytes, the device as it was. -/
theorem memGet_undamaged {d : Device} (hd : d.damage = []) (ini x off n : Nat) (hx : 0x40000 ≤ x) :
    d.memGet ini x off n = ((List.range n).map (fun i => d.byte (x + i)), d) := by
  simp [Device.memGet, not_lt.2 hx, ueAt_undamaged hd, note_undamaged hd, rdBytes_undamaged hd]

/-- An access of n bytes at an address that names the memory m alone, in a width that it takes, naturally aligned. -/
structure MemAccess (x : Nat) (m : MemAt) (n : Nat) : Prop where
  lane : laneOf x = none
  row : regRow (x / 4 * 4) = none
  mem : memAt x = some m
  pos : 1 ≤ n
  le : n ≤ 8
  aligned : x % n = 0
  word : wordOnly x = true → n = 4

/-- An initiator that makes accesses reaches an address of the memory m, whose unit is served. -/
structure Device.Admitted (d : Device) (ini : Ini) (a : Nat) (wr : Bool) (m : MemAt) : Prop where
  reach : d.reach ini.num a wr = true
  shut : d.shut ini.num = false
  served : d.served (busAddr a) m.dom = true

theorem SameControl.admitted {d e : Device} {ini : Ini} {a : Nat} {wr : Bool} {m : MemAt} (h : SameControl d e)
    (hm : memAt (busAddr a) = some m) (hd : d.Admitted ini a wr m) : e.Admitted ini a wr m where
  reach := (h.reach _ _ _).trans hd.reach
  shut := (h.shut _).trans hd.shut
  served := (h.served _ (memAt_dom_lt hm)).trans hd.served

/-- The device that a write of a memory leaves: the tie counted, the bytes stored as that memory holds them, tidied. -/
def Device.afterWrite (d : Device) (ini : Ini) (a : Nat) (bytes : List Byte) (tied : Bool) : Device :=
  ((d.tie tied ini.num a true).store (busAddr a) (heldBytes (busAddr a) bytes)).tidy

theorem sameControl_afterWrite (d : Device) (ini : Ini) (a : Nat) (bytes : List Byte) (tied : Bool) :
    SameControl d (d.afterWrite ini a bytes tied) :=
  (sameControl_tie _ _ _ _ _).trans ((sameControl_store _ _ _).trans (sameControl_tidy _))

theorem byte_afterWrite (d : Device) (ini : Ini) (a b : Nat) (bytes : List Byte) (tied : Bool) :
    (d.afterWrite ini a bytes tied).byte b =
      ((d.tie tied ini.num a true).setBytes (busAddr a) (heldBytes (busAddr a) bytes)).byte b := by
  rw [Device.afterWrite, tidy_byte, byte_store]

theorem byte_afterWrite_other (d : Device) (ini : Ini) (a b : Nat) (bytes : List Byte) (tied : Bool)
    (hb : b < busAddr a ∨ busAddr a + bytes.length ≤ b) : (d.afterWrite ini a bytes tied).byte b = d.byte b := by
  rw [byte_afterWrite, byte_setBytes_other _ _ _ _ (by rwa [heldBytes_length])]
  exact byte_congr (tie_mem _ _ _ _ _) b

theorem bytes_afterWrite (d : Device) (ini : Ini) (a : Nat) (bytes : List Byte) (tied : Bool) :
    (List.range bytes.length).map (fun i => (d.afterWrite ini a bytes tied).byte (busAddr a + i)) =
      heldBytes (busAddr a) bytes := by
  refine List.ext_getElem (by simp) fun i _ hi => ?_
  simp [byte_afterWrite, byte_setBytes_in _ _ i _ hi]

/-- A write of an undamaged memory from a calm state stores the bytes and ends with the device tidied. -/
theorem exec_write_undamaged {s : State} {ini : Ini} {a : BitVec 40} {m : MemAt} {bytes : List Byte} (tied : Bool)
    (hx : MemAccess (busAddr a.toNat) m bytes.length) (hs : s.dev.Admitted ini a.toNat true m)
    (hopen : s.dev.memShut (busAddr a.toNat) = false)
    (hsyn : (inRange (busAddr a.toNat) 0x0100000000 0x40000000 &&
      inRange (busAddr a.toNat % 0x1000000) 0x100000 0x180000) = false)
    (hdam : s.dev.damage = []) (hcalm : s.dev.calm = true) :
    exec (.registerWrite ini a bytes tied) s = .next { s with dev := s.dev.afterWrite ini a.toNat bytes tied } := by
  have htie := sameControl_tie s.dev tied ini.num a.toNat true
  have hd := htie.admitted hx.mem hs
  have h0 : bytes ≠ [] := List.length_pos_iff.1 hx.pos
  have hpath := busWrite_mem _ ini.num a.toNat bytes m hd.reach hd.shut hx.lane hx.row hx.mem h0 hx.le hx.aligned hx.word
    hd.served ((htie.memShut _).trans hopen)
  rw [memPut_undamaged (htie.damage hdam) _ _ _ h0 hsyn] at hpath
  rw [exec_write_of_busWrite hpath, after_calm s ((htie.trans (sameControl_store _ _ _)).calm hcalm)]
  rfl

/-- A read of an undamaged memory from a calm state answers its bytes. -/
theorem exec_read_undamaged {s : State} {ini : Ini} {a : BitVec 40} {m : MemAt} {len : Fin 9} (tied : Bool)
    (hx : MemAccess (busAddr a.toNat) m len) (hs : s.dev.Admitted ini a.toNat false m) (hrom : 0x40000 ≤ busAddr a.toNat)
    (htable : s.dev.inTable (busAddr a.toNat) = false) (hdam : s.dev.damage = []) (hcalm : s.dev.calm = true) :
    ∃ u, exec (.rcRead ini a len tied) s = .next u ∧
      u.dev.rbytes = (List.range len).map (fun i => s.dev.byte (busAddr a.toNat + i)) := by
  have htie := sameControl_tie s.dev tied ini.num a.toNat false
  have hd := htie.admitted hx.mem hs
  have hpath := busRead_mem _ ini.num a.toNat len m hd.reach hd.shut hx.lane hx.row hx.mem hx.pos hx.le hx.aligned hx.word
    hd.served ((htie.inTable _).trans htable)
  rw [memGet_undamaged (htie.damage hdam) _ _ _ _ hrom] at hpath
  refine ⟨_, exec_read_of_busRead hpath, ?_⟩
  rw [after_calm s ((htie.trans (sameControl_answer _ _ _)).calm hcalm)]
  exact List.map_congr_left fun i _ => byte_congr (tie_mem _ _ _ _ _) _

/-- Settles O45: the write stores the bytes and leaves what the path looks at, so the read is served and answers them. -/
theorem memoryReadsWhatWasWritten : Obligations.MemoryReadsWhatWasWritten := by
  unfold Obligations.MemoryReadsWhatWasWritten
  intro s t ini a m len bytes tied x hlen h1 hreachW hreachR hshut hlane hrow hmem hal hrom hword hserved hopen hsyn
    hdam hcalm hwrite
  have hx : MemAccess x m len := ⟨hlane, hrow, hmem, h1, by omega, hal, hword⟩
  have ht := (exec_write_undamaged tied (hlen ▸ hx) ⟨hreachW, hshut, hserved⟩ hopen hsyn hdam hcalm).symm.trans hwrite
  obtain rfl := Host.Outcome.next.inj ht
  have hsame := sameControl_afterWrite s.dev ini a.toNat bytes tied
  refine ⟨fun b hb => byte_afterWrite_other _ _ _ _ _ _ (by rwa [hlen]), hsame.word, ?_⟩
  obtain ⟨u, hu, hbytes⟩ := exec_read_undamaged (s := { s with dev := s.dev.afterWrite ini a.toNat bytes tied }) tied hx
    (hsame.admitted hmem ⟨hreachR, hshut, hserved⟩) hrom ((hsame.inTable x).trans (inTable_of_memShut hopen))
    (hsame.damage hdam) (hsame.calm hcalm)
  rw [← hlen, bytes_afterWrite] at hbytes
  exact ⟨u, hu, hbytes, fun hx => hbytes.trans (heldBytes_outside_etch hmem (by omega) hx)⟩

end Sys2Proof.Machine
end

section
/-! Accesses that R34 refuses: an initiator that does not reach an address changes nothing but the record of access
errors, and the host reaches nothing outside its window but what policy has opened. -/

namespace Sys2Proof.Machine

/-! ### Accesses of an address that the initiator does not reach -/

/-- Zeros are the bytes of the number 0. -/
theorem leNat_replicate_zero (n : Nat) : leNat (List.replicate n 0) = 0 := by
  induction n with
  | zero => rfl
  | succ n ih => rw [List.replicate_succ, leNat, ih]; rfl

/-- A refused access is not granted, so no tie counts. -/
theorem tie_unreached {d : Device} {ini a : Nat} {wr : Bool} (tied : Bool) (h : d.reach ini a wr = false) :
    d.tie tied ini a wr = d := by
  simp [Device.tie, h]

theorem busWrite_unreached {d : Device} {ini a : Nat} (l : List Byte) (h : d.reach ini a true = false) :
    d.busWrite ini a l = d.accError ini 3 (busOff a) := by
  simp [Device.busWrite, h]

theorem busRead_unreached {d : Device} {ini a : Nat} (n : Nat) (h : d.reach ini a false = false) :
    d.busRead ini a n = (List.replicate n 0, d.accError ini 3 (busOff a)) := by
  simp [Device.busRead, h]

/-- A write of an address that the initiator does not reach is discarded as an access error. -/
theorem exec_write_unreached {s : State} {ini : Ini} {a : BitVec 40} (bytes : List Byte) (tied : Bool)
    (h : s.dev.reach ini.num a.toNat true = false) :
    exec (.registerWrite ini a bytes tied) s = .next (s.after (s.dev.accError ini.num 3 (busOff a.toNat))) :=
  exec_write_of_busWrite (by rw [tie_unreached tied h, busWrite_unreached bytes h])

/-- A read of an address that the initiator does not reach returns zeros, as an access error. -/
theorem exec_read_unreached {s : State} {ini : Ini} {a : BitVec 40} (len : Fin 9) (tied : Bool)
    (h : s.dev.reach ini.num a.toNat false = false) :
    exec (.rcRead ini a len tied) s = .next (s.after
      { s.dev.accError ini.num 3 (busOff a.toNat) with rbytes := List.replicate len 0, rdata := 0 }) := by
  have hpath : (s.dev.tie tied ini.num a.toNat false).busRead ini.num a.toNat len =
      (List.replicate len 0, s.dev.accError ini.num 3 (busOff a.toNat)) := by
    rw [tie_unreached tied h, busRead_unreached _ h]
  rw [exec_read_of_busRead hpath, leNat_replicate_zero]
  rfl

/-! ### What the host reaches (R34) -/

/-- The host reaches its window, and what policy has opened. -/
theorem reach_host (d : Device) (a : Nat) (wr : Bool) :
    d.reach iniHost a wr = (inRange a hostBase 0x10000 || d.indOpen a wr) := by
  simp [Device.reach, isScribeOrJtag, iniHost, iniHg]

theorem reach_host_outside_window {d : Device} {a : Nat} {wr : Bool} (hwin : inRange a hostBase 0x10000 = false)
    (hshut : d.indOpen a wr = false) : d.reach iniHost a wr = false := by
  rw [reach_host, hwin, hshut, Bool.or_self]

/-- An access outside the host window records the offset of IND_DATA (log entry 7). -/
theorem busOff_outside_window {a : Nat} (h : inRange a hostBase 0x10000 = false) : busOff a = 0x1008 := by
  simp [busOff, h]

/-- Below the unit windows, no window of the indirect port opens anything outside the host window: there lie the boot
ROM, the global registers and the Scribes' SRAM. -/
theorem indOpen_below_units (d : Device) {a : Nat} (wr : Bool) (hwin : inRange a hostBase 0x10000 = false)
    (h : a < 0x0020400000) : d.indOpen a wr = false := by
  have hmay : mayOpen a = false := by simp [mayOpen, hwin, h]
  rw [Device.indOpen, hmay, Bool.false_and]

/-- Settles O43: outside its window the host reaches only what a window of the indirect port opens, and none opens an
address below the unit windows. -/
theorem hostNeverReachesGlobals : Obligations.HostNeverReachesGlobals := by
  unfold Obligations.HostNeverReachesGlobals
  intro s a hout
  have hwin : inRange a.toNat hostBase 0x10000 = false := inRange_eq_false (by omega)
  refine ⟨fun hshut bytes tied => ?_, fun hshut len tied => ?_, fun hlow wr => indOpen_below_units s.dev wr hwin hlow⟩
  · rw [exec_write_unreached bytes tied (ini := .host) (reach_host_outside_window hwin hshut), busOff_outside_window hwin]
    rfl
  · rw [exec_read_unreached len tied (ini := .host) (reach_host_outside_window hwin hshut), busOff_outside_window hwin]
    rfl

end Sys2Proof.Machine
end

section
/-! The grid of sites: every row of 14 has its Etch and Graver sites in the same columns (R17). -/

namespace Sys2Proof.Machine

/-- A site's kind depends on its column alone. -/
theorem isEtchSite_row (r c : Nat) : isEtchSite (14 * r + c) = isEtchSite c := by
  simp only [isEtchSite, Nat.mul_add_mod]

/-- Each row adds its nine Etch sites. -/
theorem length_etchSites (r : Nat) : ((List.range (14 * r)).filter isEtchSite).length = 9 * r := by
  induction r with
  | zero => rfl
  | succ r ih =>
    have hrow : isEtchSite ∘ (14 * r + ·) = isEtchSite := funext (isEtchSite_row r)
    have hnine : ((List.range 14).filter isEtchSite).length = 9 := by decide
    rw [Nat.mul_succ, List.range_add, List.filter_append, List.filter_map, hrow, List.length_append, List.length_map, ih,
      hnine, Nat.mul_succ]

/-- Settles O56: the columns of one row, and eight rows with nine Etch sites each. -/
theorem sitesAreAsTheGridHasThem : Obligations.SitesAreAsTheGridHasThem := by
  unfold Obligations.SitesAreAsTheGridHasThem
  have hetch : ((List.range 112).filter isEtchSite).length = 72 := length_etchSites 8
  have hcols : ∀ c < 14, isEtchSite c = decide (c ∈ [0, 2, 3, 5, 6, 8, 9, 11, 13]) ∧
      (isEtchSite c = false ↔ c ∈ [1, 4, 7, 10, 12]) := by decide
  refine ⟨fun r _ c hc => ?_, hetch, ?_⟩
  · rw [isEtchSite_row]
    exact hcols c hc
  · have hall := List.length_eq_length_filter_add (l := List.range 112) isEtchSite
    rw [List.length_range, hetch] at hall
    omega

end Sys2Proof.Machine
end

section
/-! What a command answers is determined by its effect on the device. -/

namespace Sys2Proof.Machine

/-- Commands with equal effects answer the same. -/
theorem next_after_congr (s : State) {d e : Device} (h : d = e) :
    (Host.Outcome.next (s.after d) : Host.Outcome State Fault Refusal) = .next (s.after e) := by
  rw [h]

end Sys2Proof.Machine
end

section
/-! Forwarding on the Stipple net: what a router, the barrier tree and a link make of the unit they hold (R41, R141,
R144, R145, R157). -/

namespace Sys2Proof.Machine

/-! ### A router's input (R141, R144, R145) -/

section
variable {d : Device} {r p : Nat} {u : FlitUnit} {rest : List FlitUnit}

/-- A unit whose check fails is dropped. -/
theorem flitForward_badCheck (hon : d.isOn domStipple = true) (hq : vget (d.router r).inq p [] = u :: rest)
    (hok : unitOk u = false) : d.flitForward r p = (d.popIn r p).linkLoss := by
  simp [Device.flitForward, hon, hq, hok]

theorem flitForward_done (hon : d.isOn domStipple = true) (hq : vget (d.router r).inq p [] = u :: rest)
    (hok : unitOk u = true) (htype : fType (u.headD 0) = 8) :
    d.flitForward r p = (d.treeTake r p (u.headD 0)).popIn r p := by
  simp only [Device.flitForward, hon, hq, hok, htype, Bool.not_true, Bool.false_eq_true, if_false, if_true]

/-- A unicast takes the first empty output of its set. -/
theorem flitForward_unicast {ds dp o : Nat} (hon : d.isOn domStipple = true)
    (hq : vget (d.router r).inq p [] = u :: rest) (hok : unitOk u = true) (htype : fType (u.headD 0) ∉ [2, 8, 9])
    (hdest : d.unitDest (u.headD 0) = some (ds, dp)) (hout : (routeSet r ds dp).find? (fun o => d.outEmpty r o) = some o) :
    d.flitForward r p = (d.popIn r p).offer r o u := by
  obtain ⟨h2, h8, h9⟩ : fType (u.headD 0) ≠ 2 ∧ fType (u.headD 0) ≠ 8 ∧ fType (u.headD 0) ≠ 9 := by
    simpa using htype
  simp only [Device.flitForward, hon, hq, hok, h2, h8, h9, hdest, hout, or_self, Bool.not_true, Bool.false_eq_true,
    if_false]

/-- The copies of a multicast or OPEN that its empty outputs accept now. -/
def Device.copiesNow (d : Device) (r p : Nat) (u : FlitUnit) : List (Nat × FlitUnit) :=
  (d.outputs r p u).filter (fun o => !(vget (d.router r).served p []).contains o.1 && d.outEmpty r o.1)

/-- The outputs that have their copy once those are accepted. -/
def Device.servedNow (d : Device) (r p : Nat) (u : FlitUnit) : List Nat :=
  vget (d.router r).served p [] ++ (d.copiesNow r p u).map (·.1)

/-- A multicast or OPEN is released once every output has its copy, and else marks those that have. -/
theorem flitForward_copies (hon : d.isOn domStipple = true) (hq : vget (d.router r).inq p [] = u :: rest)
    (hok : unitOk u = true) (htype : fType (u.headD 0) = 2 ∨ fType (u.headD 0) = 9) :
    d.flitForward r p =
      (let e := d.each (d.copiesNow r p u) (fun d o => d.offer r o.1 o.2)
       if (d.outputs r p u).all (fun o => (d.servedNow r p u).contains o.1) then e.popIn r p
       else e.modRouter r (fun x => { x with served := vmod x.served p (fun _ => d.servedNow r p u) })) := by
  have h8 : fType (u.headD 0) ≠ 8 := by omega
  simp only [Device.flitForward, hon, hq, hok, h8, htype, Bool.not_true, Bool.false_eq_true, if_false, if_true]
  rfl

end

/-! ### The barrier tree (R157) -/

/-- What input p of the tree has given a router so far. -/
def SRouter.treeGot (x : SRouter) (p : Nat) : Option Nat :=
  if p = pLocal then x.treeOwn else (if nget x.treeKids p = 0 then none else some (nget x.treeKids p - 1))

/-- A router that has DONE from all its children sends their sum on. -/
theorem doneReduce_complete {d : Device} {r : Nat} (hon : d.isOn domStipple = true) (hkids : d.treeKidsOf r ≠ [])
    (hout : d.outEmpty r (treeOut r) = true) (hgot : ∀ p ∈ d.treeKidsOf r, ((d.router r).treeGot p).isSome = true) :
    d.doneReduce r = (d.offer r (treeOut r) (mkDone (d.router r).treeTag
      ((d.treeKidsOf r).foldl (fun a p => a + ((d.router r).treeGot p).getD 0) 0))).modRouter r
        (fun x => { x with treeOwn := none, treeKids := [] }) := by
  have hready : (d.isOn domStipple && (d.treeKidsOf r).all (fun p => ((d.router r).treeGot p).isSome) &&
      !(d.treeKidsOf r).isEmpty && d.outEmpty r (treeOut r)) = true := by
    simp [hon, hout, hkids, List.all_eq_true.2 hgot]
  exact if_pos hready

/-! ### A source's link (R41) -/

theorem linkSource_room {d : Device} {i t p : Nat} {u : FlitUnit} {rest : List FlitUnit} (flip : FlitUnit)
    (hq : (d.source i).outq = u :: rest) (hat : d.attach i = some (t, p)) (hroom : d.roomIn t p u = true) :
    d.linkSource i flip = ((d.modSource i (fun q => { q with outq := rest })).enter t p (disturb flip u)).ackLink
      (linkStipple i) u.length := by
  simp only [Device.linkSource, hq, hat, hroom, if_true]

/-- Settles O4: each clause is what the router, the tree or the link makes of the unit it holds. -/
theorem stippleForwardingCompletes : Obligations.StippleForwardingCompletes := by
  unfold Obligations.StippleForwardingCompletes
  intro s
  refine ⟨fun r p u rest hon hq => ⟨fun hok => ?_, fun hok htype => ?_, fun ds dp o hok htype hdest hout => ?_,
    fun hok htype => ⟨fun hall => ?_, fun hall => ?_⟩⟩, fun r hon hkids hout hgot => ?_,
    fun i u rest t p hq hat hroom => ?_⟩
  · exact (exec_flitForward r p s).trans (next_after_congr s (flitForward_badCheck hon hq hok))
  · exact (exec_flitForward r p s).trans (next_after_congr s (flitForward_done hon hq hok htype))
  · exact (exec_flitForward r p s).trans (next_after_congr s (flitForward_unicast hon hq hok htype hdest hout))
  · exact (exec_flitForward r p s).trans (next_after_congr s ((flitForward_copies hon hq hok htype).trans (if_pos hall)))
  · exact (exec_flitForward r p s).trans
      (next_after_congr s ((flitForward_copies hon hq hok htype).trans (if_neg (Bool.eq_false_iff.1 hall))))
  · exact (exec_doneReduce r s).trans (next_after_congr s (doneReduce_complete hon hkids hout hgot))
  · exact (exec_linkTransfer _ _ s).trans (next_after_congr s (linkSource_room [] hq hat hroom))

end Sys2Proof.Machine
end

section
/-! Queues of the Rack: the requests of Etch cores, the hardware operations, retries and time-outs (R164, R306 to R323). -/

namespace Sys2Proof.Machine

/-! ### Requests of Etch cores (R164) -/

section
variable {d e : Device} {u : FlitUnit}

/-- A produce request that the Rack takes up: produced for its core, or answered DROPPED where its payload check fails. -/
theorem rackProduceReq_taken (ue : Bool) (hnext : d.rackNext false = some (u, e)) (h1 : d.fld F.RACK_STATUS_STATE ≠ 1)
    (h3 : d.fld F.RACK_STATUS_STATE ≠ 3) (hon : d.isOn domRack = true) :
    d.rackProduceReq ue =
      if payChk (u.getD 1 0) (u.getD 2 0) = bits (u.headD 0) 8 16 then
        ((e.cacheUe ue (bits (u.headD 0) 37 22)).produce (bits (u.headD 0) 37 22) (64 + bits (u.headD 0) 30 7) 16
          (leBytes 8 (u.getD 1 0) ++ leBytes 8 (u.getD 2 0))).1
      else e.linkLoss.rackRespond 0 (bits (u.headD 0) 30 7) (bits (u.headD 0) 37 22) true [] := by
  simp only [Device.rackProduceReq, hnext, h1, h3, hon, not_true_eq_false, or_self, if_false, ne_eq, ite_not]

/-- The answer to a consume-due request of a core that finds nothing due. -/
def Device.nothingDue (core q : Nat) (d : Device) : Device := d.rackRespond 2 core q false []

/-- What a consume-due request makes of the DATA record at the head of its queue: a damaged one freezes the queue, and
one whose step lies ahead of DUE16 stays. -/
def Device.headDue (core q due pos h0 h1 : Nat) (d : Device) : Device :=
  let a := (d.desc q).addr pos
  if d.ueRange a (recSize (bits h0 0 17)) then ((d.noteRange a (recSize (bits h0 0 17))).freezeRec q).nothingDue core q
  else if wrapU 16 ((due : Int) - (bits (d.ld (a + 8) 4) 0 16 : Int)) < 32768 then
    match (d.takeRec q pos h0 h1).2 with
    | .got _ _ p => (d.takeRec q pos h0 h1).1.rackRespond 1 core q false ((p ++ List.replicate 16 0).take 16)
    | _ => (d.takeRec q pos h0 h1).1.nothingDue core q
  else d.nothingDue core q

/-- A consume-due request that the Rack takes up: what it may consume is the DATA record at the head. -/
theorem consumeDueReq_taken (ue : Bool) (hnext : d.rackNext true = some (u, e)) (hon : d.isOn domRack = true) :
    d.consumeDueReq ue =
      (let q := bits (u.headD 0) 37 22
       let core := bits (u.headD 0) 30 7
       let c := (e.cacheUe ue q).consumeCheck q (64 + core)
       if c.2.isSome then c.1.nothingDue core q
       else match (c.1.headRec q).2 with
         | .data pos h0 h1 => (c.1.headRec q).1.headDue core q (bits (u.headD 0) 8 16) pos h0 h1
         | _ => (c.1.headRec q).1.nothingDue core q) := by
  simp only [Device.consumeDueReq, hnext, hon, not_true_eq_false, if_false]
  rcases hc : (e.cacheUe ue (bits (u.headD 0) 37 22)).consumeCheck (bits (u.headD 0) 37 22)
    (64 + bits (u.headD 0) 30 7) with ⟨c, _ | t⟩
  · simp only [Option.isSome_none, Bool.false_eq_true, if_false]
    rcases hh : c.headRec (bits (u.headD 0) 37 22) with ⟨f, _ | ue' | ⟨pos, h0, h1⟩⟩
    · rfl
    · rfl
    · simp only [Device.headDue]
      rcases f.takeRec (bits (u.headD 0) 37 22) pos h0 h1 with ⟨g, _ | _ | _ | _ | _ | _⟩ <;> rfl
  · rfl

end

/-! ### Hardware operations and time-outs (R309, R311, R319) -/

/-- A consume answers the payload of the record that it takes. -/
theorem rackConsume_eq (d : Device) (claimant q : Nat) (ue : Bool) :
    d.rackConsume claimant q ue =
      match ((d.cacheUe ue q).consume q claimant).2 with
      | .got _ _ p => { ((d.cacheUe ue q).consume q claimant).1 with rbytes := p }
      | _ => ((d.cacheUe ue q).consume q claimant).1 := by
  unfold Device.rackConsume
  rcases (d.cacheUe ue q).consume q claimant with ⟨c, _ | _ | _ | _ | _ | _⟩ <;> rfl

/-- A reservation that has stood longer than RSV_LIMIT becomes a PAD. -/
theorem resvTimeout_late {d : Device} {q : Nat} {r : Resv} (hr : d.rack.resvs.find? (fun r => r.queue = q) = some r)
    (hlate : d.fld F.RACK_RSV_LIMIT < d.since r.at_) :
    d.resvTimeout q = ((d.resvPad r).bump F.RACK_REJECTS).rackFault F.RACK_FAULT_INVALID 0x0183 q := by
  simp only [Device.resvTimeout, hr, hlate, if_true]

/-- A produce that waits at a queue, taken out and tried again for what the descriptor e of the queue says: refused,
resolved, or put back where it waits on. -/
def Device.retryWait (d : Device) (q : Nat) (e : Desc) (w : Waiting) : Device :=
  let c := d.modRack (fun r => { r with waits := r.waits.erase w })
  match e.refuses w.claimant w.len with
  | some (f, code, reason) => c.refuseWait w f code reason
  | none =>
    if w.reserve then (c.put (F.RACK_SW_STATUS_BUSY w.claimant) 0).reserveNow q w.claimant w.len
    else
      let r := c.produceNow q w.claimant w.len w.payload
      if r.2 = .waits then (r.1.modRack (fun k => { k with waits := d.rack.waits })).fullWaits q else r.1

/-- A retry at a running Rack, of the first that waits at a queue without an open reservation. -/
theorem blockedRetry_waiting {d : Device} {q : Nat} (ue : Bool) (hrun : d.fld F.RACK_STATUS_STATE = 2)
    (hresv : d.rack.resvs.any (fun r => r.queue = q) = false) (hwait : d.rack.waits.any (fun w => w.queue = q) = true) :
    d.blockedRetry q ue =
      match ((d.cacheUe ue q).fetchDesc q).1.rack.waits.find? (fun w => w.queue = q) with
      | none => ((d.cacheUe ue q).fetchDesc q).1
      | some w => ((d.cacheUe ue q).fetchDesc q).1.retryWait q ((d.cacheUe ue q).fetchDesc q).2 w := by
  have hgo : ¬ (d.fld F.RACK_STATUS_STATE ≠ 2 ∨ d.rack.resvs.any (fun r => r.queue = q) = true ∨
      ¬ d.rack.waits.any (fun w => w.queue = q) = true) := by simp only [hrun, hresv, hwait]; decide
  exact if_neg hgo

/-- Settles O19: each command is what the Rack makes of the request, the queue or the reservation. -/
theorem rackQueuesComplete : Obligations.RackQueuesComplete := by
  unfold Obligations.RackQueuesComplete
  intro s tied ue t
  refine ⟨?_, ?_, ?_, ?_, ?_⟩
  · intro u d hnext h1 h3 hon
    exact (exec_rackProduce tied ue s).trans (next_after_congr s (rackProduceReq_taken ue hnext h1 h3 hon))
  · intro q hrun hresv hwait f
    refine (exec_blockedProduceRetry q ue s).trans
      (next_after_congr s ((blockedRetry_waiting ue hrun hresv hwait).trans ?_))
    cases f.1.rack.waits.find? (fun w => w.queue = q.toNat) with
    | none => rfl
    | some w => rfl
  · intro claimant q r
    exact (exec_rackConsume claimant q tied ue s).trans (next_after_congr s (rackConsume_eq t claimant q.toNat ue))
  · intro u d hnext hon q core nothing c
    exact (exec_consumeDue tied ue s).trans (next_after_congr s (consumeDueReq_taken ue hnext hon))
  · intro q r hr hlate
    exact (exec_reservationTimeout q s).trans (next_after_congr s (resvTimeout_late hr hlate))

end Sys2Proof.Machine
end

section
/-! Mailboxes: the lock, the control word, the data words and the sender's timeout (R62, R417, R418). -/

namespace Sys2Proof.Machine

/-! ### The lock (R417) -/

/-- The device with the number that a 32-bit read answers. -/
def Device.answer (d : Device) (v : Nat) : Device := { d with rbytes := leBytes 4 v, rdata := BitVec.ofNat 32 v }

theorem ofNat_leNat_leBytes (v : Nat) : BitVec.ofNat 32 (leNat (leBytes 4 v)) = BitVec.ofNat 32 v := by
  rw [leNat_leBytes]
  apply BitVec.eq_of_toNat_eq
  simp only [BitVec.toNat_ofNat]
  exact Nat.mod_mod _ _

theorem readReg_mboxLock {d : Device} {ini : Ini} {i : Fin 8} (ha : d.admits ini (F.MBOX_LOCK i).addr false = true) :
    d.readReg ini (F.MBOX_LOCK i).addr = (d.lockRead ini.num i).2.answer (d.lockRead ini.num i).1 := by
  obtain ⟨r, -, h⟩ := readReg_at d ini _ _ (regAt_mboxLock i) ha
  rw [h]
  simp only [ofNat_leNat_leBytes]
  rfl

/-- What a read of LOCK answers: 0 to the owner and to whom it is granted, else who holds it or whom it is set aside
for. -/
theorem answer_lockRead (d : Device) (ini i : Nat) :
    (d.lockRead ini i).2.answer (d.lockRead ini i).1 =
      if d.fld (F.MBOX_LOCK i) = ini then d.answer 0
      else if d.fld (F.MBOX_LOCK i) ≠ 0 then d.answer (d.fld (F.MBOX_LOCK i))
      else if d.fld (F.MB_MBOX_CFG_PRIV i) ≠ 0 ∧ d.fld (F.MB_MBOX_CFG_PRIV i) ≠ ini then
        d.answer (d.fld (F.MB_MBOX_CFG_PRIV i))
      else (d.put (F.MBOX_LOCK i) ini).answer 0 := by
  unfold Device.lockRead Device.mboxOwner
  by_cases hown : d.fld (F.MBOX_LOCK i) = ini
  · simp only [if_pos hown]
  by_cases hheld : d.fld (F.MBOX_LOCK i) ≠ 0
  · simp only [if_neg hown, if_pos hheld]
  by_cases haside : d.fld (F.MB_MBOX_CFG_PRIV i) ≠ 0 ∧ d.fld (F.MB_MBOX_CFG_PRIV i) ≠ ini
  · simp only [if_neg hown, if_neg hheld, if_pos haside]
  · simp only [if_neg hown, if_neg hheld, if_neg haside]

/-- A write of 0 to LOCK releases an empty mailbox of the writer. -/
theorem lockWrite_zero (d : Device) (ini i off : Nat) :
    d.lockWrite ini i 0 off =
      if d.fld (F.MBOX_LOCK i) = ini ∧ d.flag (F.MBOX_STATUS_FULL i) = false then d.put (F.MBOX_LOCK i) 0
      else d.accError ini (if d.fld (F.MBOX_LOCK i) = ini then 4 else 2) off := by
  simp [Device.lockWrite, Device.mboxOwner, Device.mboxFull, eq_comm (a := ini)]

/-! ### The control word (R418) -/

theorem toNat_sendWord (len : BitVec 7) : (BitVec.ofNat 32 (2 ^ 31 + len.toNat)).toNat = 2 ^ 31 + len.toNat := by
  have := len.isLt
  rw [BitVec.toNat_ofNat]
  omega

theorem bits_sendWord (len : BitVec 7) : bits (2 ^ 31 + len.toNat) 0 7 = len.toNat := by
  have := len.isLt
  rw [bits, Nat.shiftRight_zero]
  omega

theorem bit_sendWord (len : BitVec 7) : bit (2 ^ 31 + len.toNat) 31 = true := by
  have := len.isLt
  rw [bit_eq, decide_eq_true_iff, bits, Nat.shiftRight_eq_div_pow]
  omega

/-- SEND is refused to all but the owner of an empty mailbox, and for a length that no message has. -/
theorem mboxCtrl_send (d : Device) (ini i off : Nat) (len : BitVec 7) :
    d.mboxCtrl ini i (BitVec.ofNat 32 (2 ^ 31 + len.toNat)) off =
      if d.fld (F.MBOX_LOCK i) ≠ ini ∨ d.flag (F.MBOX_STATUS_FULL i) = true then d.accError ini 2 off
      else if len.toNat = 0 ∨ 64 < len.toNat then d.accError ini 4 off
      else d.mboxSend i len.toNat := by
  unfold Device.mboxCtrl Device.mboxOwner Device.mboxFull
  rw [toNat_sendWord, bits_sendWord, bit_sendWord]
  by_cases ho : d.fld (F.MBOX_LOCK i) = ini
  · simp [ho]
  · simp [ho, Ne.symm ho]

/-- WITHDRAW empties the mailbox of its owner. -/
theorem mboxCtrl_withdraw (d : Device) (ini i off : Nat) :
    d.mboxCtrl ini i 0x40000000 off =
      if d.fld (F.MBOX_LOCK i) ≠ ini then d.accError ini 2 off else d.mboxWithdraw i := by
  have h31 : bit (0x40000000 : Word).toNat 31 = false := by decide
  have h30 : bit (0x40000000 : Word).toNat 30 = true := by decide
  unfold Device.mboxCtrl Device.mboxOwner
  simp only [h31, h30, Bool.false_eq_true, if_false, if_true, ne_comm (a := ini)]

theorem bellFull_eq (i : Nat) : bellFull i = 2 ^ i := Nat.one_shiftLeft i
theorem bellDone_eq (i : Nat) : bellDone i = 2 ^ (8 + i) := Nat.one_shiftLeft _
theorem bellTmo_eq (i : Nat) : bellTmo i = 2 ^ (16 + i) := Nat.one_shiftLeft _

/-! ### The data words (R418) -/

/-- The row of the data words. -/
def mboxDataRow : RegRow := ⟨0x40, 4, 16, 4, 1, false, [⟨0, 32, .rw, 0, false⟩]⟩

theorem regAt_mboxData : ∀ (i : Fin 8) (w : Fin 16), regAt (F.MBOX_DATA i w).addr ⟨.mbox, i, 0x40 + 4 * w⟩ = true := by
  decide +kernel

theorem regRow_mboxData : ∀ (i : Fin 8) (w : Fin 16),
    regRow ((F.MBOX_DATA i w).addr / 4 * 4) = some mboxDataRow := by
  decide +kernel

/-- A read of a register that is one field of 32 bits shows the word. -/
theorem regVal_mboxData (d : Device) (a : Nat) : d.regVal a mboxDataRow = (d.word a).toNat := by
  have hword : d.fld ⟨a, 0, 32⟩ = (d.word a).toNat := by
    rw [Device.fld, bits, Nat.shiftRight_zero]
    exact Nat.mod_eq_of_lt (d.word a).isLt
  simp [Device.regVal, mboxDataRow, hword]

theorem readReg_mboxData {d : Device} {ini : Ini} {i : Fin 8} {w : Nat} (hw : w < 16)
    (ha : d.admits ini (F.MBOX_DATA i w).addr false = true) :
    d.readReg ini (F.MBOX_DATA i w).addr = { d.mboxRead ini.num i w with
      rbytes := leBytes 4 (d.word (F.MBOX_DATA i w).addr).toNat, rdata := d.word (F.MBOX_DATA i w).addr } := by
  obtain ⟨r, hr, h⟩ := readReg_at d ini _ _ (regAt_mboxData i ⟨w, hw⟩) ha
  obtain rfl := Option.some.inj (hr.symm.trans (regRow_mboxData i ⟨w, hw⟩))
  have hread : ∀ off, d.regRead ini.num ⟨.mbox, i, 0x40 + 4 * w⟩ (F.MBOX_DATA i w).addr mboxDataRow off =
      ((d.word (F.MBOX_DATA i w).addr).toNat, d.mboxRead ini.num i w) := by
    intro off
    have h0 : 0x40 + 4 * w ≠ 0 := by omega
    have hidx : (0x40 + 4 * w - 0x40) / 4 = w := by omega
    simp only [Device.regRead, h0, if_false, Nat.le_add_right, if_true, regVal_mboxData, hidx]
  rw [h]
  simp only [hread, leNat_leBytes_word]

/-- The receiver's read of the word with the last byte takes the message. -/
theorem mboxRead_last (d : Device) (ini i : Nat) :
    d.mboxRead ini i ((d.fld (F.MBOX_STATUS_LEN i) - 1) / 4) =
      if d.fld (F.MB_MBOX_CFG_RCVR i) = ini ∧ d.flag (F.MBOX_STATUS_FULL i) = true then d.mboxDone i else d := by
  simp only [Device.mboxRead, Device.mboxRcvr, Device.mboxFull, and_true, eq_comm (a := ini)]

/-! ### The sender's timeout (R418) -/

theorem mboxExpire_late {d : Device} {i : Nat} (hfull : d.flag (F.MBOX_STATUS_FULL i) = true)
    (hat : nget d.host.fullAt i ≠ 0)
    (hlate : max 1 (d.fld F.MB_MBOX_TIMEOUT) ≤ d.since (nget d.host.fullAt i - 1)) : d.mboxExpire i = d.mboxTmo i :=
  if_pos ⟨hfull, hat, hlate⟩

/-- Settles O30: the accesses are served by the rules of the mailbox's registers, and a receiver that cannot hear times
out as a message that stands too long does. -/
theorem mailboxesComplete : Obligations.MailboxesComplete := by
  unfold Obligations.MailboxesComplete
  intro s i owner rcvr full late
  have hlate : ∀ d : Device, d.mboxTmo i = late d := fun d => by
    rw [Device.mboxTmo, bellTmo_eq]
    rfl
  refine ⟨?_, ?_, ?_, ?_, ?_⟩
  · intro ini tied d own aside answer ha
    refine (exec_mboxLockRead ini i tied s).trans
      ((next_after_congr s ((readReg_mboxLock ha).trans (answer_lockRead _ _ _))).trans ?_)
    split_ifs <;> rfl
  · intro ini ha
    exact (exec_mboxLockRelease ini i s).trans
      (next_after_congr s ((writeReg_mboxLock _ _ _ _ ha).trans (lockWrite_zero _ _ _ _)))
  · intro ini ha refused
    refine ⟨fun len => ?_, ?_⟩
    · refine (exec_mboxSend ini i len s).trans
        (next_after_congr s ((writeReg_mboxCtrl _ _ _ _ ha).trans ((mboxCtrl_send _ _ _ _ _).trans ?_)))
      rw [Device.mboxSend, bellFull_eq]
      simp only [hlate]
      rfl
    · refine (exec_mboxWithdraw ini i s).trans
        (next_after_congr s ((writeReg_mboxCtrl _ _ _ _ ha).trans ((mboxCtrl_withdraw _ _ _ _).trans ?_)))
      rw [Device.mboxWithdraw, bellFull_eq]
      rfl
  · intro ini w x hlen ha
    have hw : w < 16 := by omega
    refine (exec_mboxTake ini i s).trans (next_after_congr s ((readReg_mboxData hw ha).trans ?_))
    rw [mboxRead_last, Device.mboxDone, bellDone_eq]
    rfl
  · intro hfull hat hwait
    exact (exec_mboxTimeoutExpire i s).trans
      (next_after_congr s ((mboxExpire_late hfull hat hwait).trans (hlate s.dev)))

end Sys2Proof.Machine
end

section
/-! The steps of an Etch core: the opening, the events and fetches it takes, the update pass, what its source sends, its
flag lines (R72, R92, R95, R149). -/

namespace Sys2Proof.Machine

section
variable {d : Device} {n : Nat}

/-! ### Consumption (R72, R92, R113) -/

/-- The device with an event taken out of the buffer of a port, its entry given back (R72, R151). -/
def Device.takeEvent (d : Device) (n : Nat) (e : Evt) : Device :=
  ((d.modPort n (fun p => { p with buf := p.buf.erase e })).freeEntry n e.src 1).portFill n

/-- Whether an event on an axon is one for the reward of a core (R113). -/
def Device.isReward (d : Device) (n axon : Nat) : Bool :=
  d.flag (F.ETCH_REWARD_CFG_EN n) && decide (axon = d.fld (F.ETCH_REWARD_CFG_AXON n))

/-- What a consuming core makes of its next event: one whose entry cannot be read is recorded, another counted and
applied to the reward or to its row. -/
theorem eventConsume_next {e : Evt} (bufUe : Bool) (hcons : d.consuming n = true) (hnext : d.nextEvent n = some e) :
    d.eventConsume n bufUe =
      let t := d.takeEvent n e
      let c := t.bump (F.ETCH_EVENTS n)
      if bufUe then ((t.bufferUe (intEtch n) n 11).bump F.STIPPLE_BUF_UE).raiseBit F.STIPPLE_FAULT_BUF_UE 0x0309 n
      else if c.isReward n e.axon then
        c.modCore n (fun c => { c with rewSum := c.rewSum + sgn 8 e.payload, rewSeen := true })
      else c.applyRow n (c.stepNow n) e.axon e.payload := by
  rw [Device.eventConsume, if_pos hcons, hnext]
  rfl

/-- The overflow fetch at place i that returns: its row applied, its axon silenced where the row cannot be read. -/
theorem overflowDone_fetch {i : Nat} {f : Fetch} (hf : (d.core n).fetches[i]? = some f) :
    d.overflowDone n i =
      let c := d.modCore n (fun c => { c with fetches := c.fetches.eraseIdx i })
      let r := c.sparseRow n (c.stepNow n) f.wexp f.payload
        ((List.range f.len).map (fun j => c.ovfAddr (f.addr + 4 * j)))
      if r.2 then r.1.silence n f.axon else r.1 := by
  rw [Device.overflowDone, hf]

/-! ### The update pass and what the source sends (R72, R149, R155) -/

/-- The guard of the update pass: the step is all-in, and everything that arrived for it is consumed. -/
theorem updatePass_admitted (hon : d.isOn (domEtch n) = true) (hphase : (d.core n).phase = .opened)
    (hin : (d.port n).allIn = true) (hfetch : (d.core n).fetches = [])
    (hbuf : ∀ e ∈ (d.port n).buf, e.tag ≠ d.stepNow n % 16) :
    (d.isOn (domEtch n) && decide ((d.core n).phase = .opened) && (d.port n).allIn && (d.core n).fetches.isEmpty &&
      (d.port n).buf.all (fun e => decide (e.tag ≠ d.stepNow n % 16))) = true := by
  have hall := List.all_eq_true.2 fun e he => decide_eq_true (hbuf e he)
  rw [hon, hphase, hin, hfetch, hall]
  rfl

/-- A source that may offer the event at the head of its queue, and holds credit for it, sends it. -/
theorem eventSend_head {i step axon payload : Nat} {mc : Bool} {dests : List Nat} {rest : List OutItem}
    (hst : d.stState = 2 ∨ d.stState = 3) (hq : (d.source i).sendQ = .event step axon payload mc dests :: rest)
    (hcredit : d.hasCredit i (dests.filter d.etchBound) = true) (hoffer : d.mayOffer step = true) :
    d.eventSend i = d.sent i step axon payload mc dests rest := by
  have hready : (d.hasCredit i (dests.filter d.etchBound) && d.mayOffer step) = true := by rw [hcredit, hoffer]; rfl
  rw [Device.eventSend, if_pos hst, Device.sendEvent, Device.sendAt, hq]
  exact if_pos hready

/-- A flag line whose update pass is over falls once two ticks have passed (R95). -/
theorem flagLineRelease_due {pin : Nat} (hdone : (d.core n).flagDone.contains pin = true)
    (hwait : 2 ≤ d.since (nget (d.core n).flagAt pin)) :
    d.flagLineRelease n pin = (d.put (F.ETCH_FLAG_STATUS n)
      (maskOf ((bitsSet 4 (d.fld (F.ETCH_FLAG_STATUS n))).filter (· ≠ pin)))).modCore n
        (fun c => { c with flagDone := c.flagDone.filter (· ≠ pin) }) := by
  have hdue : ((d.core n).flagDone.contains pin && decide (2 ≤ d.since (nget (d.core n).flagAt pin))) = true := by
    rw [hdone, decide_eq_true hwait]
    rfl
  exact if_pos hdue

end

/-- Settles O1: each clause is the branch of its command's effect that the clause's conditions select. -/
theorem etchStepsComplete : Obligations.EtchStepsComplete := by
  unfold Obligations.EtchStepsComplete
  intro s n
  refine ⟨fun u hu hcan => ?_, fun e hcons hnext => ⟨?_, fun hrow => ?_, fun hrew => ?_⟩, fun i f hf => ?_,
    fun hon hphase hin hfetch hbuf => ?_, fun i step axon payload mc dests rest hi hst hq hcredit hoffer => ?_,
    fun pin hdone hwait => ?_⟩
  · refine (exec_etchStepOpen n s).trans (next_after_congr s ?_)
    simp only [Device.etchStepOpen, hu]
    exact if_pos hcan
  · exact (exec_eventConsume n true s).trans (next_after_congr s (eventConsume_next true hcons hnext))
  · exact (exec_eventConsume n false s).trans
      (next_after_congr s ((eventConsume_next false hcons hnext).trans (if_neg (Bool.eq_false_iff.1 hrow))))
  · exact (exec_eventConsume n false s).trans
      (next_after_congr s ((eventConsume_next false hcons hnext).trans (if_pos hrew)))
  · exact (exec_overflowRowFetchDone n i s).trans (next_after_congr s (overflowDone_fetch hf))
  · exact (exec_updatePass n s).trans (next_after_congr s (if_pos (updatePass_admitted hon hphase hin hfetch hbuf)))
  · exact (exec_eventSend i s).trans (next_after_congr s ((if_neg hi).trans (eventSend_head hst hq hcredit hoffer)))
  · exact (exec_flagLineRelease n pin s).trans (next_after_congr s (flagLineRelease_due hdone hwait))

end Sys2Proof.Machine
end

section
/-! Run control of an Etch core: what a write of one field of CTRL makes of the core (R98 to R100). -/

namespace Sys2Proof.Machine

section
variable (d : Device) (n : Nat)

/-- CTRL with RUN and PAUSE at values, FLAG_EN as it stands. -/
def Device.etchCtrl (r p : Nat) : Device :=
  ((d.put (F.ETCH_CTRL_RUN n) r).put (F.ETCH_CTRL_PAUSE n) p).put (F.ETCH_CTRL_FLAG_EN n)
    (d.fld (F.ETCH_CTRL_FLAG_EN n))

/-- The core follows RUN: it runs where RUN is 1, else it stops. -/
def Device.followRun (r : Nat) : Device := if r = 1 then d.etchRun n else d.etchStop n

/-- A write of CTRL that leaves FLAG_EN as it stands. -/
theorem etchCtrlWrite_keep {w : Word} (hflag : bits w.toNat 4 4 = d.fld (F.ETCH_CTRL_FLAG_EN n)) :
    d.etchCtrlWrite n w = (d.etchCtrl n (bits w.toNat 0 1) (bits w.toNat 1 1)).followRun n (bits w.toNat 0 1) := by
  simp only [Device.etchCtrlWrite, b2n_bit, hflag]
  simp only [bit_eq, decide_eq_true_eq]
  rfl

/-- A write of RUN alone. -/
theorem etchCtrlWrite_run {r : Nat} (hr : r < 2) :
    d.etchCtrlWrite n (setBits (d.word (F.ETCH_CTRL_RUN n).addr) 0 1 r) =
      (d.etchCtrl n r (d.fld (F.ETCH_CTRL_PAUSE n))).followRun n r := by
  have hrun : bits (setBits (d.word (F.ETCH_CTRL_RUN n).addr) 0 1 r).toNat 0 1 = r :=
    (bits_setBits_same _ 0 1 r (by decide)).trans (Nat.mod_eq_of_lt hr)
  have hpause : bits (setBits (d.word (F.ETCH_CTRL_RUN n).addr) 0 1 r).toNat 1 1 = d.fld (F.ETCH_CTRL_PAUSE n) :=
    bits_setBits_other _ 0 1 r 1 1 (by decide)
  have hflag : bits (setBits (d.word (F.ETCH_CTRL_RUN n).addr) 0 1 r).toNat 4 4 = d.fld (F.ETCH_CTRL_FLAG_EN n) :=
    bits_setBits_other _ 0 1 r 4 4 (by decide)
  rw [etchCtrlWrite_keep d n hflag, hrun, hpause]

/-- A write of PAUSE alone. -/
theorem etchCtrlWrite_pause {p : Nat} (hp : p < 2) :
    d.etchCtrlWrite n (setBits (d.word (F.ETCH_CTRL_PAUSE n).addr) 1 1 p) =
      (d.etchCtrl n (d.fld (F.ETCH_CTRL_RUN n)) p).followRun n (d.fld (F.ETCH_CTRL_RUN n)) := by
  have hpause : bits (setBits (d.word (F.ETCH_CTRL_PAUSE n).addr) 1 1 p).toNat 1 1 = p :=
    (bits_setBits_same _ 1 1 p (by decide)).trans (Nat.mod_eq_of_lt hp)
  have hrun : bits (setBits (d.word (F.ETCH_CTRL_PAUSE n).addr) 1 1 p).toNat 0 1 = d.fld (F.ETCH_CTRL_RUN n) :=
    bits_setBits_other _ 1 1 p 0 1 (by decide)
  have hflag : bits (setBits (d.word (F.ETCH_CTRL_PAUSE n).addr) 1 1 p).toNat 4 4 = d.fld (F.ETCH_CTRL_FLAG_EN n) :=
    bits_setBits_other _ 1 1 p 4 4 (by decide)
  rw [etchCtrlWrite_keep d n hflag, hrun, hpause]

/-- RUN is 0 or 1, so a core follows either the one or the other. -/
theorem etchCtrl_followRun (p : Nat) :
    (d.etchCtrl n (d.fld (F.ETCH_CTRL_RUN n)) p).followRun n (d.fld (F.ETCH_CTRL_RUN n)) =
      if d.fld (F.ETCH_CTRL_RUN n) = 1 then (d.etchCtrl n 1 p).etchRun n else (d.etchCtrl n 0 p).etchStop n := by
  by_cases hrun : d.fld (F.ETCH_CTRL_RUN n) = 1
  · rw [if_pos hrun, hrun]
    rfl
  · have hlt : d.fld (F.ETCH_CTRL_RUN n) < 2 := fld_lt d _
    have hzero : d.fld (F.ETCH_CTRL_RUN n) = 0 := by omega
    rw [if_neg hrun, hzero]
    rfl

end

/-- Settles O2: the write reaches CTRL, whose other fields keep their values, and the core follows RUN. -/
theorem etchRunControlCompletes : Obligations.EtchRunControlCompletes := by
  unfold Obligations.EtchRunControlCompletes
  intro s ini n ha ctrl runs stops run pause
  have hpause : ∀ p < 2, s.dev.writeFld ini (F.ETCH_CTRL_PAUSE n) p =
      if run = 1 then runs (ctrl 1 p) else stops (ctrl 0 p) := fun p hp =>
    (writeReg_etchCtrl _ _ _ _ ha).trans ((etchCtrlWrite_pause s.dev n hp).trans (etchCtrl_followRun s.dev n p))
  refine ⟨?_, ?_, ?_, ?_⟩
  · exact (exec_etchRun ini n s).trans
      (next_after_congr s ((writeReg_etchCtrl _ _ _ _ ha).trans (etchCtrlWrite_run s.dev n (by decide))))
  · exact (exec_etchStop ini n s).trans
      (next_after_congr s ((writeReg_etchCtrl _ _ _ _ ha).trans (etchCtrlWrite_run s.dev n (by decide))))
  · exact (exec_etchPause ini n s).trans (next_after_congr s (hpause 1 (by decide)))
  · exact (exec_etchResume ini n s).trans (next_after_congr s (hpause 0 (by decide)))

end Sys2Proof.Machine
end

section
/-! The Rack traffic of an Etch core: its requests, the responses to them, and the copy of spike counts that a completion
waits for (R78, R164, R196). -/

namespace Sys2Proof.Machine

section
variable {d : Device} {n : Nat} {u : FlitUnit}

/-- The first request that holds a credit goes out and takes it. -/
theorem rackRequestSend_first {r : RackReq} (hr : (d.core n).rackQ.find? (d.core n).maySend = some r) :
    d.rackRequestSend n = (d.inject n (mkRackReq r n)).modCore n (fun c => { c with
      rackQ := c.rackQ.erase r
      rackOut := c.rackOut ++ [(r, d.timebase)]
      rackCredit := c.rackCredit - 1
      prodHeld := if r.due then c.prodHeld else c.prodHeld + 1 }) := by
  simp only [Device.rackRequestSend, hr]

/-! ### Responses (R164) -/

/-- The kind of a response: 0 to a produce, 1 a record of a drain, 2 and above nothing due. -/
def respKind (u : FlitUnit) : Nat := bits (u.headD 0) 58 2

/-- The request of a core that a response answers: the oldest out of its kind and queue. -/
def EtchCore.answeredBy (c : EtchCore) (u : FlitUnit) : Option (RackReq × Nat) :=
  c.rackOut.find? (fun r => r.1.due == decide (respKind u ≠ 0) && r.1.queue = bits (u.headD 0) 30 22)

/-- A core whose request is answered: the request no longer out, its credit back. -/
def EtchCore.settle (c : EtchCore) (out : Option (RackReq × Nat)) (due : Bool) : EtchCore :=
  match out with
  | some r => ({ c with rackOut := c.rackOut.erase r } : EtchCore).credit due
  | none => c.credit due

/-- Whether a response tells that a spilled record was dropped. -/
def spillDropped (u : FlitUnit) (out : Option (RackReq × Nat)) : Bool :=
  match out with
  | some r => r.1.spill && bit (u.headD 0) 29
  | none => false

/-- The device with a response taken at a port and its request settled. -/
def Device.respTaken (d : Device) (n : Nat) (u : FlitUnit) : Device :=
  (d.takeArr n u).modCore n (fun c => c.settle ((d.core n).answeredBy u) (decide (respKind u ≠ 0)))

/-- A record of a drain whose payload check fails: a loss on the net and of the record; the drain asks for the next. -/
def Device.drainDamaged (d : Device) (n : Nat) : Device :=
  let d := d.linkLoss.spillLost n
  match (d.core n).draining with
  | some t => d.requestDue n t
  | none => d

/-- A core that is ON takes the response at its port: the answer to a produce may complete the step, a record goes to
the drain, and nothing due ends it. -/
theorem rackResponse_taken (harr : d.arrived n [7] = some u) (hon : d.isOn (domEtch n) = true) :
    d.rackResponse n =
      match respKind u with
      | 0 => (if spillDropped u ((d.core n).answeredBy u) then (d.respTaken n u).spillLost n
          else d.respTaken n u).tryComplete n
      | 1 =>
        if payChk (u.getD 1 0) (u.getD 2 0) = bits (u.headD 0) 8 16 then
          (d.respTaken n u).drainRecord n (u.getD 1 0) (u.getD 2 0)
        else (d.respTaken n u).drainDamaged n
      | _ => if ((d.core n).answeredBy u).isSome then (d.respTaken n u).endDrain n else d.respTaken n u := by
  simp only [Device.rackResponse, harr, hon, Bool.not_true, Bool.false_eq_true, if_false, ne_eq, ite_not]
  rfl

/-- The answer to a produce whose spill is not dropped may complete the step. -/
theorem rackResponse_produce {r : RackReq × Nat} (harr : d.arrived n [7] = some u) (hon : d.isOn (domEtch n) = true)
    (hkind : respKind u = 0) (hout : (d.core n).answeredBy u = some r)
    (hkept : (r.1.spill && bit (u.headD 0) 29) = false) : d.rackResponse n = (d.respTaken n u).tryComplete n := by
  have hdropped : spillDropped u ((d.core n).answeredBy u) = false := by
    rw [hout]
    exact hkept
  rw [rackResponse_taken harr hon, hkind, hdropped]
  rfl

/-- A record whose payload check holds goes to the drain. -/
theorem rackResponse_record (harr : d.arrived n [7] = some u) (hon : d.isOn (domEtch n) = true)
    (hkind : respKind u = 1) (hcheck : payChk (u.getD 1 0) (u.getD 2 0) = bits (u.headD 0) 8 16) :
    d.rackResponse n = (d.respTaken n u).drainRecord n (u.getD 1 0) (u.getD 2 0) := by
  rw [rackResponse_taken harr hon, hkind]
  exact if_pos hcheck

/-- The answer that nothing is due ends the drain. -/
theorem rackResponse_nothing (harr : d.arrived n [7] = some u) (hon : d.isOn (domEtch n) = true)
    (hkind : 2 ≤ respKind u) (hout : ((d.core n).answeredBy u).isSome = true) :
    d.rackResponse n = (d.respTaken n u).endDrain n := by
  obtain ⟨k, hk⟩ := Nat.exists_eq_add_of_le' hkind
  rw [rackResponse_taken harr hon, hk]
  exact if_pos hout

end

/-- Settles O8: a response settles its request before its kind decides what follows; the rest are single branches. -/
theorem etchRackTrafficCompletes : Obligations.EtchRackTrafficCompletes := by
  unfold Obligations.EtchRackTrafficCompletes
  intro s n
  refine ⟨fun r hr => ?_, ?_, fun hloss => ?_, fun ue hwait hroom => ?_⟩
  · exact (exec_rackRequestSend n s).trans (next_after_congr s (rackRequestSend_first hr))
  · intro u harr hon kind out d
    refine ⟨fun r hkind hout hkept => ?_, fun hkind hcheck => ?_, fun hkind hout => ?_⟩
    · exact (exec_rackResponseArrive n s).trans (next_after_congr s (rackResponse_produce harr hon hkind hout hkept))
    · exact (exec_rackResponseArrive n s).trans (next_after_congr s (rackResponse_record harr hon hkind hcheck))
    · exact (exec_rackResponseArrive n s).trans (next_after_congr s (rackResponse_nothing harr hon hkind hout))
  · exact (exec_rackResponseTimeout n s).trans (next_after_congr s (if_pos hloss))
  · exact (exec_scvSnapshot n ue s).trans (next_after_congr s ((if_pos hwait).trans (if_pos hroom)))

end Sys2Proof.Machine
end

section
/-! Fixing learned weights into plate memory: the request, the pages of a set, copy-first, the tombstone, the wear
bucket (R125 to R132). -/

namespace Sys2Proof.Machine

/-- The outcomes of verifies that a command is given do not bear on whether a snapshot is due. -/
@[simp] theorem fixDue_verifyFails (d : Device) (vf : List Bool) (n : Nat) :
    ({ d with verifyFails := vf } : Device).fixDue n = d.fixDue n := rfl

/-! ### Writes of FIX_CTRL (R126, R132) -/

section
variable {d : Device} {n : Nat}

/-- A served access of FIX_CTRL with operands of its own. -/
theorem viaPath_fixCtrl (d : Device) {ini : Ini} {n : Fin 64} (f : Nat → Device → Device)
    (ha : d.admits ini (F.ETCH_FIX_CTRL_REQ n).addr = true) :
    d.viaPath ini (F.ETCH_FIX_CTRL_REQ n).addr f = f (busOff (F.ETCH_FIX_CTRL_REQ n).addr) d :=
  viaPath_at d ini _ f _ (regAt_fixCtrl n) (by simp only [F.ETCH_FIX_CTRL_REQ]; omega) ha

/-- The word of a request asks for no erase. -/
theorem fixCtrlWrite_request (d : Device) (n : Nat) (next : Bool) :
    d.fixCtrlWrite n (BitVec.ofNat 32 (2 ^ 31 + b2n next <<< 30)) = d.fixRequest n next := by
  cases next <;> rfl

/-- The word of an erase makes no request. -/
theorem fixCtrlWrite_erase (d : Device) (n : Nat) : d.fixCtrlWrite n (BitVec.ofNat 32 (2 ^ 29)) = d.fixErase n := rfl

/-- The reads of the region table that a request makes (R126). -/
def Device.fixTableRead (d : Device) (n : Nat) : Device :=
  d.each (List.range 8) (fun d k => d.note (etchBase n + 0x12000 + 32 * k))

/-- How far the step of FIX_AT_STEP lies ahead of the core's (R127). -/
def Device.fixAhead (d : Device) (n : Nat) : Nat :=
  stepDiff (d.fld (F.ETCH_FIX_AT_STEP n)) (d.fld (F.ETCH_STEP n))

/-- A request that meets none of the five refusals is PENDING and takes its tokens; e is the device with the region
table read. With NEXT the step of FIX_AT_STEP is not looked at (log entry 120). -/
theorem fixRequest_accepted {e : Device} {next : Bool} (he : d.fixTableRead n = e)
    (hidle : e.fld (F.ETCH_FIX_STATUS_STATE n) = 0)
    (hpair : e.fld F.PAIR_STATUS_ROLE ≠ 2 ∨ e.fld F.PAIR_STATUS_STATE = 3)
    (hstep : next = true ∨ (0 < e.fixAhead n ∧ e.fixAhead n < 2 ^ 31))
    (hroom : dataPages (e.fixRegions n) + 2 ≤ 2040 - e.fld (F.ETCH_FIX_LOG_PAGES n))
    (htokens : dataPages (e.fixRegions n) + 2 ≤ e.fld (F.ETCH_WEAR_TOKENS n)) :
    d.fixRequest n next =
      ((e.takeTokens n (dataPages (e.fixRegions n) + 2)).put (F.ETCH_FIX_STATUS_STATE n) 1).modCore n
        (fun c => { c with fix := { next := next, atStep := e.fld (F.ETCH_FIX_AT_STEP n)
                                    size := dataPages (e.fixRegions n) + 2, regions := e.fixRegions n
                                    table := e.fixTable n } }) := by
  have hlead : ¬ (e.fld F.PAIR_STATUS_ROLE = 2 ∧ e.fld F.PAIR_STATUS_STATE ≠ 3) := fun ⟨hrole, hstate⟩ =>
    hpair.elim (absurd hrole) hstate
  have hlate : ¬ (¬ next = true ∧ (e.fixAhead n = 0 ∨ 2 ^ 31 ≤ e.fixAhead n)) := by
    rintro ⟨hnext, hbad⟩
    obtain ⟨hpos, hlt⟩ := hstep.resolve_left hnext
    omega
  subst he
  exact (if_neg (not_not.2 hidle)).trans ((if_neg hlead).trans ((if_neg hlate).trans
    ((if_neg (Nat.not_lt.2 hroom)).trans (if_neg (Nat.not_lt.2 htokens)))))

/-- An erase that is not refused writes a tombstone: a header page and a commit page. -/
theorem fixErase_tombstone (hidle : d.fld (F.ETCH_FIX_STATUS_STATE n) = 0)
    (hroom : d.fld (F.ETCH_FIX_LOG_PAGES n) ≤ 2038) (htokens : 2 ≤ d.fld (F.ETCH_WEAR_TOKENS n)) :
    d.fixErase n =
      let start := d.fld (F.ETCH_FIX_LOG_HEAD n)
      let sq := (d.fld (F.ETCH_FIX_SEQ n) + 1) % 2 ^ 32
      let h := headerPage sq (d.fld (F.ETCH_STEP n)) n 0 2 d.netHash []
      let r := (d.takeTokens n 2).plateWrite n start h
      let r2 := r.1.plateWrite n ((start + 1) % 2040) (commitPage sq 2 (crc64 h))
      if r.2 then if r2.2 then
        ((((r2.1.put (F.ETCH_FIX_SEQ n) sq).put (F.ETCH_FIX_STEP n) (d.fld (F.ETCH_STEP n))).put
          (F.ETCH_FIX_LOG_HEAD n) ((start + 2) % 2040)).put (F.ETCH_FIX_LOG_PAGES n) 2).put
          (F.ETCH_FIX_STATUS_ERASED n) 1
      else r2.1.fixAbandon n else r.1.fixAbandon n := by
  have hfits : ¬ 2040 - d.fld (F.ETCH_FIX_LOG_PAGES n) < 2 := by omega
  exact (if_neg (not_not.2 hidle)).trans ((if_neg hfits).trans (if_neg (Nat.not_lt.2 htokens)))

/-! ### The pages of a set (R127, R128) -/

theorem drainStaged_cons {p : Nat × List Byte} {rest : List (Nat × List Byte)}
    (hstaged : (d.core n).fix.staged = p :: rest) :
    d.drainStaged n =
      (d.modCore n (fun c => { c with fix := { c.fix with staged := rest } })).fixPut n p.1 p.2 := by
  rw [Device.drainStaged, hstaged]

section
variable {vf : List Bool} (hcopying : d.fld (F.ETCH_FIX_STATUS_STATE n) = 2) (hon : d.isOn (domEtch n) = true)
include hcopying hon

/-- A copy with a page staged writes the first of them. -/
theorem fixPageCopy_staged {p : Nat × List Byte} {rest : List (Nat × List Byte)}
    (hstaged : (d.core n).fix.staged = p :: rest) :
    d.fixPageCopy n vf = (({ d with verifyFails := vf } : Device).modCore n
      (fun c => { c with fix := { c.fix with staged := rest } })).fixPut n p.1 p.2 := by
  have hany : ¬ (d.core n).fix.staged.isEmpty = true := by simp [hstaged]
  exact (if_pos ⟨hcopying, hon⟩).trans ((if_neg hany).trans (drainStaged_cons hstaged))

/-- A copy with nothing staged writes the next page of the region stream. -/
theorem fixPageCopy_stream {i : Nat} (hstaged : (d.core n).fix.staged = [])
    (hi : ((List.range (dataPages (d.core n).fix.regions)).map (· + 1)).find?
      (fun i => !(d.core n).fix.copied.contains i) = some i) :
    d.fixPageCopy n vf = ({ d with verifyFails := vf } : Device).fixPut n i
      (({ d with verifyFails := vf } : Device).streamPage n (d.core n).fix.regions i) := by
  have hnone : (d.core n).fix.staged.isEmpty = true := by simp [hstaged]
  refine (if_pos ⟨hcopying, hon⟩).trans ((if_pos hnone).trans ?_)
  split
  next j hj =>
    obtain rfl := Option.some.inj (hj.symm.trans hi)
    rfl
  next hj => cases hj.symm.trans hi

end
end

/-! ### Writes of a synapse word (R66, R128) -/

/-- The registers of an Etch window lie in its first page, with the integrity part, and from offset 0x10000 (R66). -/
theorem regLoc_of_etch {a : Nat} (h : inRange a 0x0100000000 0x40000000 = true) :
    regLoc a =
      if inRange (a % 0x1000000) 0x800 0x800 then some (intLoc true ((a - 0x0100000000) / 0x1000000) (a % 0x1000000))
      else if decide (a % 0x1000000 < 0x800) || inRange (a % 0x1000000) 0x10000 0x10000 then
        some ⟨.etch, (a - 0x0100000000) / 0x1000000, a % 0x1000000⟩
      else none := by
  have hlo : 0x0100000000 ≤ a := by
    simp only [inRange, Bool.and_eq_true, decide_eq_true_eq] at h
    exact h.1
  have hbelow : ∀ lo len, lo + len ≤ 0x0100000000 → inRange a lo len = false := fun lo len hl =>
    inRange_eq_false (by omega)
  unfold regLoc hostBase
  iterate 9 rw [if_neg (by omega)]
  iterate 5 rw [hbelow _ _ (by omega)]
  rw [h]
  rfl

/-- An address of the synapse memory of core n, by the memory's place in the core's window (R66). -/
structure InSynapses (a n : Nat) : Prop where
  core : n < 64
  lo : etchBase n + 0x100000 ≤ a
  hi : a < etchBase n + 0x280000

namespace InSynapses

variable {a n : Nat} (h : InSynapses a n)
include h

/-- The synapse memories lie in the Etch windows. -/
theorem etch : 0x0100000000 ≤ a ∧ a < 0x0140000000 := by
  obtain ⟨hcore, hlo, hhi⟩ := h
  unfold etchBase at hlo hhi
  omega

theorem inRange_etch : inRange a 0x0100000000 0x40000000 = true := by
  obtain ⟨hlo, hhi⟩ := h.etch
  simp only [inRange, Bool.and_eq_true, decide_eq_true_eq]
  omega

theorem core_eq : (a - 0x0100000000) / 0x1000000 = n := by
  obtain ⟨-, hlo, hhi⟩ := h
  unfold etchBase at hlo hhi
  omega

theorem offset_eq : a % 0x1000000 = a - etchBase n := by
  obtain ⟨-, hlo, hhi⟩ := h
  unfold etchBase at hlo hhi ⊢
  omega

theorem inRange_offset : inRange (a % 0x1000000) 0x100000 0x180000 = true := by
  rw [h.offset_eq]
  obtain ⟨-, hlo, hhi⟩ := h
  simp only [inRange, Bool.and_eq_true, decide_eq_true_eq]
  omega

/-- The word of an address begins in the same synapse memory. -/
theorem aligned : InSynapses (a / 4 * 4) n := by
  obtain ⟨hcore, hlo, hhi⟩ := h
  unfold etchBase at hlo hhi
  exact ⟨hcore, by unfold etchBase; omega, by unfold etchBase; omega⟩

/-- No register lies in synapse memory. -/
theorem regLoc_eq : regLoc a = none := by
  have hoff := h.inRange_offset
  simp only [inRange, Bool.and_eq_true, decide_eq_true_eq] at hoff
  have hint : inRange (a % 0x1000000) 0x800 0x800 = false := inRange_eq_false (by omega)
  have hblk : inRange (a % 0x1000000) 0x10000 0x10000 = false := inRange_eq_false (by omega)
  have hpage : decide (a % 0x1000000 < 0x800) = false := decide_eq_false (by omega)
  rw [regLoc_of_etch h.inRange_etch, hint, hpage, hblk]
  rfl

theorem regRow_eq : regRow (a / 4 * 4) = none := by
  have hhi := h.etch.2
  have hmod : a / 4 * 4 % bankStride = a / 4 * 4 := Nat.mod_eq_of_lt (by unfold bankStride; omega)
  rw [regRow, hmod, h.aligned.regLoc_eq]

theorem laneOf_eq : laneOf a = none := by
  have hhi := h.etch.2
  have hout : inRange a 0x0200000000 0x20000000 = false := inRange_eq_false (by omega)
  simp [laneOf, hout]

theorem busAddr_eq (ini : Ini) : busAddr (iniAddr ini a) = a := by
  have hlo := h.etch.1
  have hhost : inRange a hostBase 0x10000 = false := inRange_eq_false (by unfold hostBase; omega)
  rw [iniAddr_out ini a (by omega), busAddr, hhost]
  rfl

/-- A 32-bit write of a synapse word that can be read is noted and stored, copy-first. -/
theorem memPut_eq {d : Device} (hue : d.ueAt a = false) (ini off : Nat) (v : Word) :
    d.memPut ini a off (leBytes 4 v.toNat) =
      (d.note a).synWrite n ((a - etchBase n - 0x100000) / 4) v.toNat := by
  have hv : leNat (leBytes 4 v.toNat) = v.toNat := by
    rw [leNat_leBytes]
    exact Nat.mod_eq_of_lt v.isLt
  simp only [Device.memPut, hue, Bool.false_and, Bool.false_eq_true, if_false]
  rw [if_pos ⟨h.inRange_etch, h.inRange_offset⟩, h.core_eq, h.offset_eq, hv]

end InSynapses

/-- A served write of a synapse word goes through the fix copy. -/
theorem writeReg_synapse {d : Device} {ini : Ini} {a n : Nat} (h : InSynapses a n) (h4 : a % 4 = 0)
    (ha : d.admitsMem ini a = true) (hue : d.ueAt a = false) (v : Word) :
    d.writeReg ini a v = (d.note a).synWrite n ((a - etchBase n - 0x100000) / 4) v.toNat :=
  (writeReg_mem d ini a v ha h4 h.laneOf_eq h.regRow_eq (h.busAddr_eq ini)).trans (h.memPut_eq hue _ _ v)

/-- Word off of an Etch window, where the synapse memory has its words. -/
theorem inSynapses_word {off : Nat} (n : Fin 64) (hlo : 0x40000 ≤ off) (hhi : off < 0xA0000) :
    InSynapses (etchBase n + 4 * off) n :=
  ⟨n.isLt, by omega, by omega⟩

/-- Settles O3: the writes of FIX_CTRL and of synapse memory are served by the path, and each of the rest is the branch
of its command's effect that the clause's conditions select. -/
theorem fixCommandsComplete : Obligations.FixCommandsComplete := by
  unfold Obligations.FixCommandsComplete
  intro s n
  refine ⟨fun ini next ha => ?_, fun vf hdue hon => ?_, fun vf hcopying hon => ?_, fun ini off v hlo hhi ha hue => ?_,
    fun vf hcommit hon => ?_, fun ini vf ha hidle hroom htokens => ?_, fun hon => ?_⟩
  · intro d hidle hpair hstep hroom htokens
    exact (exec_fixRequest ini n next s).trans (next_after_congr s ((writeReg_fixCtrl _ _ _ _ ha).trans
      ((fixCtrlWrite_request _ _ _).trans (fixRequest_accepted rfl hidle hpair hstep hroom htokens))))
  · have hadmit : (({ s.dev with verifyFails := vf } : Device).fixDue n && s.dev.isOn (domEtch n)) = true := by
      rw [fixDue_verifyFails, hdue, hon]
      rfl
    exact (exec_fixSnapshot n vf s).trans (next_after_congr s (if_pos hadmit))
  · intro d c
    refine ⟨fun p rest hstaged => ?_, fun i hstaged hi => ?_⟩
    · exact (exec_fixPageCopy n vf s).trans (next_after_congr s (fixPageCopy_staged hcopying hon hstaged))
    · exact (exec_fixPageCopy n vf s).trans (next_after_congr s (fixPageCopy_stream hcopying hon hstaged hi))
  · have hword : (etchBase n + 4 * off.toNat - etchBase n - 0x100000) / 4 = off.toNat - 0x40000 := by omega
    have h4 : (etchBase n + 4 * off.toNat) % 4 = 0 := by
      unfold etchBase
      omega
    refine (exec_fixCopyFirst ini n off v s).trans (next_after_congr s ?_)
    exact (writeReg_synapse (inSynapses_word n hlo hhi) h4 ha hue v).trans (by rw [hword])
  · exact (exec_fixCommit n vf s).trans (next_after_congr s (if_pos ⟨hcommit, hon⟩))
  · exact (exec_fixErase ini n vf s).trans (next_after_congr s ((viaPath_fixCtrl _ _ ha).trans
      ((fixCtrlWrite_erase _ n).trans
        (fixErase_tombstone (d := { s.dev with verifyFails := vf }) hidle hroom htokens))))
  · exact (exec_wearRefill n s).trans (next_after_congr s (if_pos hon))

end Sys2Proof.Machine
end

section
/-! Arrivals at a port of the Stipple net: events, closes, acknowledgements and OPENs (R150 to R155, R159, R165). -/

namespace Sys2Proof.Machine

section
variable {d : Device} {n : Nat} {u : FlitUnit}

/-! ### Events (R150, R153, R165) -/

/-- Whether a port's buffer holds an event of the same source, kind and sequence number: a duplicate (R150). -/
def SPort.holds (p : SPort) (e : Evt) : Bool :=
  p.buf.any (fun f => f.src = e.src && f.seq = e.seq && f.mc == e.mc)

/-- The entries that a source has taken of its partition of a port's buffer. -/
def SPort.taken (p : SPort) (src : Nat) : Nat := (p.buf.filter (fun f => f.src = src)).length

section
variable (harr : d.arrived n [1, 2] = some u) (hon : d.isOn domStipple = true) (hst : d.stState ≠ 0)
include harr hon hst

/-- An event of neither the step in progress nor the next is discarded and its entry freed (R153, R159). -/
theorem eventArrive_otherStep (ht : (evtOf u).tag ≠ d.tOf n % 16) (hnext : (evtOf u).tag ≠ (d.tOf n + 1) % 16) :
    d.eventArrive n = ((d.takeArr n u).tagError n).freeEntry n (evtOf u).src 1 := by
  simp only [Device.eventArrive, harr, hon, Bool.not_true, Bool.false_eq_true, if_false]
  exact (if_neg hst).trans (if_pos (.inl ⟨ht, hnext⟩))

/-- A new event of the step in progress or the next, from a source with room in its window, at a core that is ON: freed
where the core is IDLE (log entry 22), else buffered. -/
theorem eventArrive_accepted (ht : (evtOf u).tag = d.tOf n % 16 ∨ (evtOf u).tag = (d.tOf n + 1) % 16)
    (hdecl : (d.port n).declared = false)
    (hnew : (d.port n).holds (evtOf u) = false) (hroom : (d.port n).taken (evtOf u).src < d.win n (evtOf u).src)
    (hdom : d.domState (domEtch n) = 2) :
    d.eventArrive n =
      let c := (d.takeArr n u).countEvent n (evtOf u)
      if d.portIdle n then ((c.freeEntry n (evtOf u).src 1).bump (F.PORT_DISCARD n)).portCheck n
      else ((((c.modPort n (fun p => { p with buf := p.buf ++ [evtOf u] })).bump (F.PORT_EVENTS_IN n)).portFill
        n).portCheck n) := by
  have hstep : ¬ (((evtOf u).tag ≠ d.tOf n % 16 ∧ (evtOf u).tag ≠ (d.tOf n + 1) % 16) ∨
      ((d.port n).declared = true ∧ (evtOf u).tag = d.tOf n % 16)) := by
    rw [hdecl]
    rintro (⟨hother, hother'⟩ | ⟨hdeclared, -⟩)
    · exact ht.elim hother hother'
    · exact Bool.noConfusion hdeclared
  have hwake : ¬ (d.flag (F.ETCH_CTRL_RUN n) = true ∧ d.domState (domEtch n) ≠ 2 ∧ d.domState (domEtch n) ≠ 0) := by
    rintro ⟨-, hret, -⟩
    exact hret hdom
  have hoff : d.domState (domEtch n) ≠ 0 := by omega
  have hfits : ¬ ((d.port n).holds (evtOf u) ||
      decide (d.win n (evtOf u).src ≤ (d.port n).taken (evtOf u).src)) = true := by
    rw [hnew, decide_eq_false (Nat.not_le.2 hroom)]
    exact Bool.false_ne_true
  simp only [Device.eventArrive, harr, hon, Bool.not_true, Bool.false_eq_true, if_false]
  exact (if_neg hst).trans ((if_neg hstep).trans ((if_neg hwake).trans ((if_neg hfits).trans (if_neg hoff))))

end

/-! ### Closes and acknowledgements (R151, R154, R155) -/

/-- The source that a close names. -/
def closeSrc (u : FlitUnit) : Nat := bits (u.headD 0) 43 7

/-- The COUNT that a close gives. -/
def closeCount (u : FlitUnit) : Nat := bits (u.headD 0) 8 32

/-- A close from an expected source is taken for the step in progress, unless that is declared all-in, or for the
next. -/
theorem closeArrive_expected (harr : d.arrived n [4] = some u) (hon : d.isOn domStipple = true)
    (hexp : (d.takeArr n u).expects n (closeSrc u) = true) :
    d.closeArrive n =
      let c := d.takeArr n u
      if fTag (u.headD 0) = d.tOf n % 16 then
        if (d.port n).declared then c.tagError n
        else (c.modPort n (fun p => { p with
          cls0 := p.cls0.filter (fun e => e.1 ≠ closeSrc u) ++ [(closeSrc u, closeCount u)] })).portCheck n
      else if fTag (u.headD 0) = (d.tOf n + 1) % 16 then
        (c.modPort n (fun p => { p with
          cls1 := p.cls1.filter (fun e => e.1 ≠ closeSrc u) ++ [(closeSrc u, closeCount u)] })).portCheck n
      else c.tagError n := by
  have hkept : ¬ (!(d.takeArr n u).expects n (closeSrc u)) = true := by simp [hexp]
  simp only [Device.closeArrive, harr, hon, Bool.not_true, Bool.false_eq_true, if_false]
  exact if_neg hkept

theorem ackArrive_taken (harr : d.arrived n [5] = some u) (hon : d.isOn domStipple = true) :
    d.ackArrive n = (d.takeArr n u).modSource n (fun q =>
      { q with credit := nput q.credit (bits (u.headD 0) 43 6)
                 (nget q.credit (bits (u.headD 0) 43 6) + bits (u.headD 0) 36 7) }) := by
  simp only [Device.ackArrive, harr, hon, Bool.not_true, Bool.false_eq_true, if_false]

/-! ### OPENs (R154, R157, R165, R196) -/

/-- The step that an OPEN opens. -/
def openedStep (u : FlitUnit) : Nat := bits (u.headD 0) 8 32

/-- Whether OPEN(t) makes the port of a core give zeros for its spike counts: the core is IDLE, OFF or unbound, and the
counts of step t - 1 are due (R196). -/
def Device.zeroDue (d : Device) (n t : Nat) : Bool :=
  (!d.flag (F.ETCH_CTRL_RUN n) || decide (d.domState (domEtch n) = 0) || !d.etchBound n) &&
    d.scvDue n (stepDiff t 1) && decide (t ≠ d.fld F.STIPPLE_STEP_START)

/-- An OPEN at the port of a core where no zeros are due. -/
theorem openArrive_core (hn : n < 64) (harr : d.arrived n [9] = some u) (hon : d.isOn domStipple = true)
    (hdue : d.zeroDue n (openedStep u) = false) : d.openArrive n = d.openCore n (openedStep u) u := by
  have hstall : ¬ (d.zeroDue n (openedStep u) && decide (2 ≤ (d.core n).scvBuf.length)) = true := by simp [hdue]
  simp only [Device.openArrive, harr, hon, hn, Bool.not_true, Bool.false_eq_true, if_false, if_true]
  exact (if_neg hstall).trans (congrArg (fun e : Device => e.openCore n (openedStep u) u)
    (if_neg (Bool.eq_false_iff.1 hdue)))

/-- A running core that is ON takes the OPEN at its port. -/
theorem openCore_running {t : Nat} (hrun : d.flag (F.ETCH_CTRL_RUN n) = true) (hdom : d.domState (domEtch n) = 2) :
    d.openCore n t u = (d.takeArr n u).modPort n (fun p => { p with opened := some t }) := by
  have hlive : d.flag (F.ETCH_CTRL_RUN n) = true ∧ d.domState (domEtch n) ≠ 0 := ⟨hrun, by omega⟩
  exact (if_pos hlive).trans (if_pos hdom)

/-- The port answers for a core that does not run. -/
theorem openCore_stopped {t : Nat} (hrun : d.flag (F.ETCH_CTRL_RUN n) = false) :
    d.openCore n t u = (d.takeArr n u).proxyStep n t :=
  if_neg fun hlive => Bool.eq_false_iff.1 hrun hlive.1

/-- A running core gives its own counts. -/
theorem zeroDue_running {t : Nat} (hrun : d.flag (F.ETCH_CTRL_RUN n) = true) (hdom : d.domState (domEtch n) = 2)
    (hbound : d.etchBound n = true) : d.zeroDue n t = false := by
  simp [Device.zeroDue, hrun, hdom, hbound]

theorem zeroDue_notDue {t : Nat} (h : d.scvDue n (stepDiff t 1) = false ∨ t = d.fld F.STIPPLE_STEP_START) :
    d.zeroDue n t = false := by
  rcases h with h | h <;> simp [Device.zeroDue, h]

end

/-- Every core is the source of its own number. -/
theorem source_of_core (n : Fin 64) : (Fin.ofNat 105 n.val).val = n.val :=
  Nat.mod_eq_of_lt (n.isLt.trans (by decide))

/-- Settles O5: each clause is the branch that the port takes for what has arrived. -/
theorem stippleArrivalsComplete : Obligations.StippleArrivalsComplete := by
  unfold Obligations.StippleArrivalsComplete
  intro s n
  refine ⟨fun u harr hon hst => ⟨fun ht hnext => ?_,
      fun ht hdecl hnew hroom hdom => ⟨fun hidle => ?_, fun hidle => ?_⟩⟩,
    fun u harr hon hexp => ⟨fun ht hdecl => ?_, fun hnext ht => ?_⟩, fun i u harr hon => ?_,
    fun u harr hon hbound => ⟨fun hrun hdom => ?_, fun hrun hdue => ?_⟩⟩
  · exact (exec_eventArrive n s).trans (next_after_congr s (eventArrive_otherStep harr hon hst ht hnext))
  · exact (exec_eventArrive n s).trans (next_after_congr s
      ((eventArrive_accepted harr hon hst ht hdecl hnew hroom hdom).trans (if_neg (Bool.eq_false_iff.1 hidle))))
  · exact (exec_eventArrive n s).trans (next_after_congr s
      ((eventArrive_accepted harr hon hst ht hdecl hnew hroom hdom).trans (if_pos hidle)))
  · exact (exec_closeArrive n s).trans (next_after_congr s
      ((closeArrive_expected harr hon hexp).trans ((if_pos ht).trans (if_neg (Bool.eq_false_iff.1 hdecl)))))
  · exact (exec_closeArrive n s).trans (next_after_congr s
      ((closeArrive_expected harr hon hexp).trans ((if_neg ht).trans (if_pos hnext))))
  · exact (exec_ackArrive i s).trans (next_after_congr s (ackArrive_taken harr hon))
  · refine (exec_openArrive _ s).trans (next_after_congr s ?_)
    simp only [source_of_core]
    exact (openArrive_core n.isLt harr hon (zeroDue_running hrun hdom hbound)).trans (openCore_running hrun hdom)
  · refine (exec_openArrive _ s).trans (next_after_congr s ?_)
    simp only [source_of_core]
    exact (openArrive_core n.isLt harr hon (zeroDue_notDue hdue)).trans (openCore_stopped hrun)

end Sys2Proof.Machine
end

section
/-! The barrier of the Stipple net and its delay unit (R157 to R162). -/

namespace Sys2Proof.Machine

/-- With no sum at the sequencer there is none to take up. -/
theorem takeSum_none {d : Device} (harr : d.arrived 104 [8] = none) : d.takeSum = d := by
  rw [Device.takeSum, harr]

/-- The sequencer advances once the open step is complete and MIN_PERIOD has passed (R157). -/
theorem stepAdvance_complete {d : Device} (harr : d.arrived 104 [8] = none) (hon : d.isOn domStipple = true)
    (hst : d.stState = 2) (hcomplete : d.stepComplete = true)
    (hperiod : d.fld F.STIPPLE_MIN_PERIOD ≤ d.since d.seq.openAt) :
    d.stepAdvance =
      ((d.stepEnd.put F.STIPPLE_STEP ((d.openStep + 1) % 2 ^ 32)).each (List.range 64)
        (fun d n => if (d.core n).follows then d else d.modPort n SPort.shift)).broadcast := by
  have hready : (d.isOn domStipple && decide (d.stState = 2) && d.stepComplete &&
      decide (d.fld F.STIPPLE_MIN_PERIOD ≤ d.since d.seq.openAt)) = true := by
    rw [hon, decide_eq_true hst, hcomplete, decide_eq_true hperiod]
    rfl
  rw [Device.stepAdvance, takeSum_none harr]
  exact if_pos hready

/-- A following port that has every close, and has waited STEP_LIMIT ticks for its events, stalls (R159). -/
theorem stallTimeout_late {d : Device} {n t : Nat} (hcloses : d.missing n = []) (hsince : (d.port n).closesAt = some t)
    (hin : (d.port n).allIn = false) (hwait : d.unmatched n ≠ []) (hfollows : (d.core n).follows = true)
    (hlate : d.fld F.STIPPLE_STEP_LIMIT ≤ d.since t) (hfirst : d.flag (F.PORT_STATUS_STALLED n) = false) :
    d.stallTimeout n =
      let c := (d.bump F.STIPPLE_STALLS).raiseBit F.STIPPLE_FAULT_STALL 0x0305 n
      let c := (c.put (F.PORT_STATUS_STALLED n) 1).put (F.PORT_STATUS_WAIT_SRC n) ((d.unmatched n).headD 0)
      if c.flag F.STIPPLE_CTRL_STALL_ACTION then
        (c.modPort n (fun p => { p with allIn := true, declared := true })).put (F.PORT_STATUS_WAITING n) 0
      else c := by
  have hdue : ¬ ((d.port n).allIn || (d.unmatched n).isEmpty || !(d.core n).follows ||
      decide (d.since t < d.fld F.STIPPLE_STEP_LIMIT)) = true := by
    simp [hin, hwait, hfollows, hlate]
  simp only [Device.stallTimeout, hcloses, hsince, List.isEmpty_nil, if_true]
  refine (if_neg hdue).trans ?_
  simp only [hfirst, Bool.false_eq_true, if_false]

/-- The records of the delay unit's live queues that are due at step u, injected (R162). -/
def Device.delayDue (d : Device) (live : List Nat) (u : Nat) : Device :=
  d.each live (fun d i => Device.delayQueue ((d.desc (d.fld (F.STIPPLE_DELAY0_QUEUE i))).used + 1) d i u)

/-- The delay entries that are valid and delay. -/
def Device.delayLive (d : Device) : List Nat :=
  (List.range 256).filter (fun i =>
    d.flag (F.STIPPLE_DELAY0_VALID i) && decide (d.fld (F.STIPPLE_DELAY1 i) ≠ 0))

/-- On OPEN(t) the enabled delay unit injects what is due at t + 1 and closes that step (R162). -/
theorem delayInject_opened {d : Device} {t : Nat} {rest : List Nat} (hopen : d.seq.delayOpen = t :: rest)
    (hen : d.srcEn 104 = true) (hst : d.stState = 2) (hrack : d.fld F.RACK_STATUS_STATE = 2) :
    d.delayInject = ((d.modSeq (fun q => { q with delayOpen := rest })).delayDue d.delayLive
      ((t + 1) % 2 ^ 32)).queueOut 104 (.close ((t + 1) % 2 ^ 32)) := by
  have hidle : ¬ (!d.srcEn 104 || decide (d.stState ≠ 2)) = true := by simp [hen, hst]
  have hwait : ¬ (!d.delayLive.isEmpty && decide (d.fld F.RACK_STATUS_STATE ≠ 2)) = true := by simp [hrack]
  rw [Device.delayInject, hopen]
  exact (if_neg hidle).trans (if_neg hwait)

/-- Settles O6: the sequencer's advance, the port's stall and the delay unit's injection, each where its condition is
met. -/
theorem stippleBarrierCompletes : Obligations.StippleBarrierCompletes := by
  unfold Obligations.StippleBarrierCompletes
  intro s
  refine ⟨fun harr hon hst hcomplete hperiod => ?_, fun n t hcloses hsince hin hwait hfollows hlate hfirst => ?_,
    fun t rest hopen hen hst hrack => ?_⟩
  · exact (exec_stepAdvance s).trans (next_after_congr s (stepAdvance_complete harr hon hst hcomplete hperiod))
  · exact (exec_countStallTimeout n s).trans
      (next_after_congr s (stallTimeout_late hcloses hsince hin hwait hfollows hlate hfirst))
  · exact (exec_delayUnitInject s).trans (next_after_congr s (delayInject_opened hopen hen hst hrack))

end Sys2Proof.Machine
end

section
/-! Start and stop of the Stipple net (R148, R166, R167, R195). -/

namespace Sys2Proof.Machine

/-! ### Writes of STIPPLE.CTRL.EN -/

/-- STIPPLE.CTRL with its other field written as it stands, as a write of EN alone does. -/
def Device.keepStallAction (d : Device) : Device :=
  d.put F.STIPPLE_CTRL_STALL_ACTION (d.fld F.STIPPLE_CTRL_STALL_ACTION)

/-- A field of CTRL written leaves the net's state. -/
theorem stState_put_ctrl (d : Device) {f : Fld} (v : Nat) (h : f.addr = F.STIPPLE_CTRL_EN.addr) :
    (d.put f v).stState = d.stState :=
  fld_put_addr _ _ _ _ (by rw [h]; decide)

/-- A refusal shown in STATUS leaves the net's state. -/
theorem stState_put_cfgErr (d : Device) (v w : Nat) :
    ((d.put F.STIPPLE_STATUS_CFG_ERR v).put F.STIPPLE_STATUS_CFG_ERR_CORE w).stState = d.stState :=
  (fld_put_other _ _ _ _ (by decide)).trans (fld_put_other _ _ _ _ (by decide))

@[simp] theorem keepStallAction_stState (d : Device) : d.keepStallAction.stState = d.stState := stState_put_ctrl d _ rfl

/-- A served write of EN alone starts or stops the net. -/
theorem writeFld_stippleEn {d : Device} {ini : Ini} {v : Nat} (hv : v < 2)
    (ha : d.admits ini F.STIPPLE_CTRL_EN.addr = true) :
    d.writeFld ini F.STIPPLE_CTRL_EN v =
      if v = 1 then d.keepStallAction.stippleStart else d.keepStallAction.stippleStop := by
  have hen : bits (setBits (d.word F.STIPPLE_CTRL_EN.addr) 0 1 v).toNat 0 1 = v :=
    (bits_setBits_same _ 0 1 v (by decide)).trans (Nat.mod_eq_of_lt hv)
  have hstall : bits (setBits (d.word F.STIPPLE_CTRL_EN.addr) 0 1 v).toNat 1 1 = d.fld F.STIPPLE_CTRL_STALL_ACTION :=
    bits_setBits_other _ 0 1 v 1 1 (by decide)
  refine (writeReg_stippleCtrl d ini _ ha).trans ?_
  simp only [F.STIPPLE_CTRL_EN] at hen hstall ⊢
  simp only [bit_eq, hen, hstall, decide_eq_true_eq]
  rfl

/-! ### The start (R148, R166) -/

/-- The emitters, the Tracers and the readout of the Presses take STEP_START (R166). -/
def Device.unitsTakeStart (d : Device) : Device :=
  let d := (d.each (List.range 32) (fun e n =>
    let e := e.put (F.GRAVER_EMIT_STEP n) (d.fld F.STIPPLE_STEP_START)
    if !(e.tile n).emitOn && e.srcEn (72 + n) then e.queueOut (72 + n) (.close (d.fld F.STIPPLE_STEP_START)) else e))
  (d.each (List.range 8) (fun d n => d.tracerNetStart n)).each (List.range 4) (fun d k => d.pressNetStart k)

/-- EN = 1 on a net that is not STOPPED changes EN alone. -/
theorem stippleStart_live {d : Device} (hst : d.stState ≠ 0) : d.stippleStart = d.put F.STIPPLE_CTRL_EN 1 :=
  if_pos (by rwa [stState_put_ctrl d 1 rfl])

/-- EN = 1 on a STOPPED net starts it, and then the units where it runs. -/
theorem stippleStart_stopped {d e : Device} (hst : d.stState = 0)
    (he : (d.put F.STIPPLE_CTRL_EN 1).stippleStartCore = e) :
    d.stippleStart = if e.stState ≠ 2 then e else e.unitsTakeStart := by
  have hstopped : ¬ (d.put F.STIPPLE_CTRL_EN 1).stState ≠ 0 := by rw [stState_put_ctrl d 1 rfl, hst]; decide
  subst he
  exact if_neg hstopped

/-- The refusal of a start because the windows at core n sum to more than 4,096 (R148). -/
def Device.startRefusal (d : Device) (n : Nat) : Device :=
  (((d.put F.STIPPLE_CTRL_EN 0).put F.STIPPLE_STATUS_CFG_ERR 1).put F.STIPPLE_STATUS_CFG_ERR_CORE n).raise 0x0307
    wholeDevice

theorem stippleStartCore_overWindow {d : Device} {n : Nat} (hwin : d.overWindow = some n) :
    d.stippleStartCore = d.startRefusal n := by
  rw [Device.stippleStartCore, hwin]
  rfl

theorem startRefusal_stState (d : Device) (n : Nat) : (d.startRefusal n).stState = d.stState :=
  (stState_put_cfgErr _ _ _).trans (stState_put_ctrl d 0 rfl)

/-- A refused start ends at the refusal: the net stays STOPPED and no unit takes a step. -/
theorem stippleStart_refused {d : Device} {n : Nat} (hst : d.stState = 0)
    (hwin : (d.put F.STIPPLE_CTRL_EN 1).overWindow = some n) :
    d.stippleStart = (d.put F.STIPPLE_CTRL_EN 1).startRefusal n := by
  have hstopped : ((d.put F.STIPPLE_CTRL_EN 1).startRefusal n).stState ≠ 2 := by
    rw [startRefusal_stState, stState_put_ctrl d 1 rfl, hst]
    decide
  exact (stippleStart_stopped hst (stippleStartCore_overWindow hwin)).trans (if_pos hstopped)

/-! ### The stop (R167, R195) -/

/-- EN = 0 on a RUNNING net makes it STOPPING, and emitters discard the events they hold. -/
theorem stippleStop_running {d : Device} (hst : d.stState = 2) :
    d.stippleStop = ((d.put F.STIPPLE_CTRL_EN 0).put F.STIPPLE_STATUS_STATE 3).each (List.range 32)
      (fun d n => (d.emitDrop n).flushQ (72 + n)) :=
  if_pos ((stState_put_ctrl d 0 rfl).trans hst)

/-- A STOPPING net whose open step is complete is STOPPED, with nothing left in it. -/
theorem stippleStopped_complete {d : Device} (harr : d.arrived 104 [8] = none) (hst : d.stState = 3)
    (hcomplete : d.stepComplete = true) :
    d.stippleStopped = ((d.stepEnd.clearNet.modSeq (fun q => { q with delayOpen := [] })).put
      F.STIPPLE_STATUS_STATE 0).stippleVotes := by
  rw [Device.stippleStopped, takeSum_none harr]
  exact if_pos ⟨hst, hcomplete⟩

/-- Settles O7: the write of EN keeps STALL_ACTION and starts or stops the net, whose state decides what follows. What a
STOPPED net does is one equation; a refusal is its case in which the net has not come to run. -/
theorem stippleStartStopCompletes : Obligations.StippleStartStopCompletes := by
  unfold Obligations.StippleStartStopCompletes
  intro s ini kept
  refine ⟨fun ha => ?_, fun harr hst hcomplete => ?_⟩
  · have hstart := (exec_stippleStart ini s).trans (next_after_congr s (writeFld_stippleEn (by decide) ha))
    have hstop := (exec_stippleStop ini s).trans (next_after_congr s (writeFld_stippleEn (by decide) ha))
    have hkept (x : Nat) : kept.stState = x ↔ s.dev.stState = x := by rw [← keepStallAction_stState s.dev]; rfl
    refine ⟨fun hst => ?_, fun n hst hwin => ?_, fun hst _ => ?_, fun hst => ?_⟩
    · exact hstart.trans (next_after_congr s (stippleStart_live (mt (hkept 0).1 hst)))
    · exact hstart.trans (next_after_congr s (stippleStart_refused ((hkept 0).2 hst) hwin))
    · exact hstart.trans (next_after_congr s (stippleStart_stopped ((hkept 0).2 hst) rfl))
    · exact hstop.trans (next_after_congr s (stippleStop_running ((hkept 2).2 hst)))
  · exact (exec_stippleStopped s).trans (next_after_congr s (stippleStopped_complete harr hst hcomplete))

end Sys2Proof.Machine
end

section
/-! Tracers: what they make of units received, their encoders, their events and closes, placement and release (R167,
R273 to R287). -/

namespace Sys2Proof.Machine

section
variable {d : Device} {n : Nat}

/-! ### Units received (R273, R276) -/

/-- The unit of stream k that a Tracer has received: counted where the stream is disabled, a fault and a mark on its
frame where it is malformed, else entered. -/
def Device.acceptUnit (d : Device) (n k dt stamp : Nat) (b : List Byte) : Device :=
  if d.flag (F.TRACER_STREAM_CFG_EN n k) = false then d.bump (F.TRACER_DT_ERR n)
  else if unitMalformed dt b then
    (d.raiseBit (F.TRACER_TR_FAULT_MALFORMED n) 0x0611 n).markFrame n k 5
      [⟨5, 4 * n + k, d.fld (F.TRACER_STREAM_STEP n k),
        if (dt = 0x30 ∨ dt = 0x31) ∧ 16 ≤ b.length then leNat ((b.drop 4).take 4) else 0, 0x0611, 0, stamp⟩]
  else d.unitEnter n k dt stamp b

/-- The oldest unit received is accepted, once the frame ends, losses and cuts ahead of it are taken in. -/
theorem inputUnit_oldest {k vc dt stamp : Nat} {b : List Byte} {rest : List RxItem} (hon : d.isOn (domTracer n) = true)
    (hq : ((d.ingestHead n).tracer n).rxq = .unit k vc dt b stamp :: rest)
    (hon' : (d.ingestHead n).isOn (domTracer n) = true) :
    d.inputUnit n =
      (((d.ingestHead n).modTracer n (fun t => { t with rxq := rest })).acceptUnit n k dt stamp b).ingestHead n := by
  simp only [Device.inputUnit, hon, if_true, hq, hon', Bool.not_true, Bool.false_eq_true, if_false, Device.acceptUnit,
    Bool.not_eq_true']

/-! ### Encoders (R167, R286) -/

/-- The mark of an uncorrectable buffer word on the frame of a unit, where it has one (R283). -/
def TStream.markUe (x : TStream) (u : TUnit) : TStream :=
  match u.frame with
  | some i => x.modFrame i (fun f => { f with marks := f.marks ||| 32 })
  | none => x

/-- The encoder takes on the oldest unit it has yet to consume, as its buffer words read. -/
theorem encoderUnit_oldest {j : Nat} {u : TUnit} (ue : List Nat) (hon : d.isOn (domTracer n) = true)
    (htype : d.fld (F.TRACER_STREAM_ENC_CFG0_TYPE n j) ≠ 0) (hst : 2 ≤ d.stState)
    (hu : (d.stream n j).units.find? (fun u => !u.encoded) = some u) :
    d.encoderUnit n j ue =
      Device.encGo n j ((d.stream n j).units.findIdx (fun u => !u.encoded)) (u.seen ue) 4098
        (if ue.any (fun w => decide (32 * w < u.body.length)) then
          ((d.bufferUe (tracerBase n) n 0).raiseBit (F.TRACER_TR_FAULT_UE n) 0x0613 n).modStream n j (·.markUe u)
        else d) := by
  have hgo : ¬ (!d.isOn (domTracer n) || decide (d.fld (F.TRACER_STREAM_ENC_CFG0_TYPE n j) = 0) ||
      decide (d.stState < 2)) = true := by
    simp [hon, htype, Nat.not_lt.2 hst]
  rw [Device.encoderUnit, if_neg hgo, hu]
  rfl

/-! ### Events (R149, R287) -/

/-- The event that a source picks is one that its step and credit let go. -/
theorem sendPick_allowed {i k step axon payload : Nat} {mc : Bool} {dests : List Nat} (hk : d.sendPick i = some k)
    (hev : (d.source i).sendQ[k]? = some (.event step axon payload mc dests)) :
    (d.hasCredit i (dests.filter d.etchBound) && d.mayOffer step) = true := by
  obtain ⟨hlt, hpick, -⟩ := List.findIdx?_eq_some_iff_getElem.1 hk
  rw [List.getElem?_eq_getElem hlt] at hev
  rw [Option.some.inj hev] at hpick
  rw [Bool.and_comm]
  exact hpick

/-- A source that holds credit for the event at place k, and may offer it, sends it. -/
theorem sendAt_allowed {i k step axon payload : Nat} {mc : Bool} {dests : List Nat}
    (hev : (d.source i).sendQ[k]? = some (.event step axon payload mc dests))
    (hready : (d.hasCredit i (dests.filter d.etchBound) && d.mayOffer step) = true) :
    d.sendAt i k = d.sent i step axon payload mc dests ((d.source i).sendQ.eraseIdx k) := by
  rw [Device.sendAt, hev]
  exact if_pos hready

/-- A Tracer sends the event it picks, past others ahead of it in its queue (log entry 52), and counts it for its
stream. -/
theorem tracerSend_picked {k step axon payload : Nat} {mc : Bool} {dests : List Nat} (hst : 2 ≤ d.stState)
    (hk : d.sendPick (64 + n) = some k)
    (hev : (d.source (64 + n)).sendQ[k]? = some (.event step axon payload mc dests)) :
    d.tracerSend n =
      ((d.sent (64 + n) step axon payload mc dests ((d.source (64 + n)).sendQ.eraseIdx k)).modTracer n
        (fun t => { t with evq := t.evq.eraseIdx k })).bump (F.TRACER_STREAM_EVENTS n ((d.tracer n).evq.getD k 0)) := by
  rw [Device.tracerSend, if_neg (Nat.not_lt.2 hst), hk, ← sendAt_allowed hev (sendPick_allowed hk hev)]

/-! ### Closes (R278) -/

/-- Whether step t lies past step u. -/
def stepPast (t u : Nat) : Prop := t ≠ u ∧ stepDiff t u < 2 ^ 31

theorem decide_stepPast {t u : Nat} (h : stepPast t u) :
    (decide (t ≠ u) && decide (stepDiff t u < 2 ^ 31)) = true := by
  rw [decide_eq_true h.1, decide_eq_true h.2]
  rfl

/-- A Tracer closes its next step once every encoding stream has passed it and every event up to it is sent. -/
theorem tracerClose_passed (hst : 2 ≤ d.stState) (hen : d.srcEn (64 + n) = true) (henc : d.encoding n ≠ [])
    (hstreams : ∀ k ∈ d.encoding n, stepPast (d.fld (F.TRACER_STREAM_STEP n k)) (d.tracer n).closeNext ∧
      ∀ x ∈ (d.stream n k).units, x.encoded = true ∨ stepPast x.step (d.tracer n).closeNext)
    (hsent : ∀ step axon payload mc dests, .event step axon payload mc dests ∈ (d.source (64 + n)).sendQ →
      stepPast step (d.tracer n).closeNext)
    (hoffer : d.mayOffer (d.tracer n).closeNext = true) :
    d.tracerClose n =
      (d.modTracer n (fun t => { t with closeNext := ((d.tracer n).closeNext + 1) % 2 ^ 32 })).sendCloses (64 + n)
        (d.tracer n).closeNext := by
  refine if_pos ?_
  simp only [Bool.and_eq_true, List.all_eq_true]
  refine ⟨⟨⟨⟨⟨decide_eq_true hst, hen⟩, ?_⟩, fun k hk => ?_⟩, fun o ho => ?_⟩, hoffer⟩
  · simp [henc]
  · obtain ⟨hstep, hunits⟩ := hstreams k hk
    refine ⟨Bool.and_eq_true_iff.1 (decide_stepPast hstep), fun x hx => ?_⟩
    rcases hunits x hx with hdone | hpast
    · rw [hdone]
      rfl
    · rw [decide_stepPast hpast, Bool.or_true]
  · cases o with
    | event step axon payload mc dests => exact decide_stepPast (hsent step axon payload mc dests ho)
    | close | done => rfl

/-- A Tracer that the frame waits for, its placing streams ready, says so (R279). -/
theorem tracerReady_ready (hon : d.isOn (domTracer n) = true)
    (hmask : bit (d.fld F.HATCH_FRAME_CFG_TRACER_MASK) n = true)
    (hready : (d.placing n).all (d.streamReady n) = true) :
    d.tracerReady n = d.modHatch (fun h => { h with ready := h.ready ||| 1 <<< n }) := by
  refine if_pos ?_
  rw [hon, hmask, hready]
  rfl

/-! ### Placement (R283 to R285) -/

/-- A mark on the frame that a stream places. -/
def TStream.markCur (x : TStream) (m : Nat) : TStream :=
  match x.cur with
  | some i => x.modFrame i (fun f => { f with marks := f.marks ||| 1 <<< m })
  | none => x

/-- The bytes that a stream has for the placement token at offset o. -/
def TStream.tokenBytes (x : TStream) (o : Nat) : List Byte := (x.input.1.drop o).take 16

/-- The token of some bytes, filled with zeros, those that ue names reading as zero. -/
def tokenValue (b : List Byte) (ue : Nat) : Nat :=
  leNat ((b ++ List.replicate (16 - b.length) 0).mapIdx (fun i x => if bit ue i then 0 else x))

/-- A stream after placement has read a token at offset o off it: a short one marks the frame. -/
def TStream.readAt (x : TStream) (o : Nat) (short : Bool) : TStream :=
  { (if short then x.markCur 6 else x) with reads := (o, o + 16) :: x.reads }

/-- The bytes b read off a stream as the token at offset o; an uncorrectable buffer word is a fault. -/
def Device.tokenRead (d : Device) (n k o : Nat) (b : List Byte) (ue : Nat) : Device :=
  let c := d.modStream n k (fun x =>
    { (if b.length < 16 then x.markCur 6 else x) with reads := (o, o + 16) :: x.reads })
  if ue ≠ 0 then
    ((c.bufferUe (tracerBase n) n 0).raiseBit (F.TRACER_TR_FAULT_UE n) 0x0613 n).modStream n k (·.markCur 5)
  else c

/-- Placement takes a token for short exactly where it has fewer than 16 bytes for it. -/
theorem readAt_short (x : TStream) (o : Nat) (b : List Byte) :
    x.readAt o (decide (b.length < 16)) =
      { (if b.length < 16 then x.markCur 6 else x) with reads := (o, o + 16) :: x.reads } := by
  simp only [TStream.readAt, decide_eq_true_eq]

/-- The token of the entry at which the placement list stands offered, and the list moved on. -/
def Device.tokenOffer (d : Device) (n e pos v : Nat) : Device :=
  let last := decide (d.fld (F.TRACER_PD1 n e) ≤ pos)
  let fin := last && (d.flag (F.TRACER_PD0_LAST n e) || decide (63 ≤ e))
  (d.modTracer n (fun t => { t with
    plEntry := if last then e + 1 else e
    plPos := if last then 0 else t.plPos + 1 })).modHr (14 * n) (fun r => { r with offer := [v], edgeBusy := !fin })

/-- A free edge port in a frame offers the token of the list's entry once its bytes are there, or the frame's end is
known. -/
theorem placeToken_known {ue e k o : Nat} (hon : d.isOn (domTracer n) = true) (hbusy : (d.hr (14 * n)).edgeBusy = true)
    (hfree : (d.hr (14 * n)).offer = []) (hframe : d.fld F.HATCH_STATUS_FSTATE = 2) (he : (d.tracer n).plEntry = e)
    (hk : d.fld (F.TRACER_PD0_STREAM n e) = k)
    (ho : 16 * (d.fld (F.TRACER_PD0_OFFSET n e) + (d.tracer n).plPos) = o)
    (hknown : o + 16 ≤ (d.stream n k).input.1.length ∨ (d.stream n k).input.2 = true) :
    d.placeToken n ue = (d.tokenRead n k o ((d.stream n k).tokenBytes o) ue).tokenOffer n e
      (d.tracer n).plPos (tokenValue ((d.stream n k).tokenBytes o) ue) := by
  subst he hk ho
  have hgo : ¬ (!d.isOn (domTracer n) || !(d.hr (14 * n)).edgeBusy || !(d.hr (14 * n)).offer.isEmpty ||
      decide (d.fld F.HATCH_STATUS_FSTATE ≠ 2)) = true := by
    simp [hon, hbusy, hfree, hframe]
  simp only [Device.tokenRead, ← readAt_short]
  refine (if_neg hgo).trans (if_neg ?_)
  rintro ⟨hshort, hopen⟩
  exact hknown.elim (Nat.not_le.2 hshort) hopen

/-- The units of a stream of a Tracer that is ON that nothing needs are released (R281). -/
theorem unitRelease_on {j : Nat} (hon : d.isOn (domTracer n) = true) :
    d.unitRelease n j =
      (d.modStream n j (fun x => { x with units := x.units.filter (fun u => !d.releasable n j u) })).showFill n j :=
  if_pos hon

end

/-- Settles O17: each clause is what the Tracer makes of its oldest unit, its picked event, its next step or token. -/
theorem tracerCommandsComplete : Obligations.TracerCommandsComplete := by
  unfold Obligations.TracerCommandsComplete
  intro s n hon
  refine ⟨?_, fun j u ue htype hst hu => ?_, fun k step axon payload mc dests hst hk hev => ?_,
    fun hst hen henc hstreams hsent hoffer => ?_, fun hmask hready => ?_,
    fun ue hbusy hfree hframe hknown => ?_, fun j => ?_⟩
  · intro k vc dt b stamp rest d0 hq hon' d
    have hunit := (exec_inputUnitAccept n s).trans (next_after_congr s (inputUnit_oldest hon hq hon'))
    have haccept {x : Device} (h : d.acceptUnit n k dt stamp b = x) := next_after_congr s (congrArg (·.ingestHead n) h)
    refine ⟨fun hen => ?_, fun hen hbad => ?_, fun hen hbad => ?_⟩
    · exact hunit.trans (haccept (if_pos hen))
    · exact hunit.trans (haccept ((if_neg (Bool.ne_false_iff.2 hen)).trans (if_pos hbad)))
    · exact hunit.trans (haccept ((if_neg (Bool.ne_false_iff.2 hen)).trans (if_neg (Bool.eq_false_iff.1 hbad))))
  · exact (exec_encoderUnit n j ue s).trans (next_after_congr s (encoderUnit_oldest ue hon htype hst hu))
  · exact (exec_tracerEventSend n s).trans (next_after_congr s (tracerSend_picked hst hk hev))
  · exact (exec_tracerStepClose n s).trans
      (next_after_congr s (tracerClose_passed hst hen henc hstreams hsent hoffer))
  · exact (exec_tracerFrameReady n s).trans (next_after_congr s (tracerReady_ready hon hmask hready))
  · exact (exec_placementToken n ue s).trans
      (next_after_congr s (placeToken_known hon hbusy hfree hframe rfl rfl rfl hknown))
  · exact (exec_unitRelease n j s).trans (next_after_congr s (unitRelease_on hon))

end Sys2Proof.Machine
end

section
/-! An update of one unit of an array is known by what it makes of that unit as it stands. -/

namespace Sys2Proof.Machine

/-- Updates that agree on element i of an array change it alike. -/
theorem vmod_congr {α : Type} {k : Nat} {v : Vector α k} {i : Nat} {dflt : α} {f g : α → α}
    (h : f (vget v i dflt) = g (vget v i dflt)) : vmod v i f = vmod v i g := by
  by_cases hi : i < k
  · simp only [vget, vmod, hi, dif_pos] at h ⊢
    rw [h]
  · simp only [vmod, hi, dif_neg, not_false_eq_true]

theorem modTile_congr {d : Device} {n : Nat} {f g : Tile → Tile} (h : f (d.tile n) = g (d.tile n)) :
    d.modTile n f = d.modTile n g :=
  congrArg (fun v => ({ d with tiles := v } : Device)) (vmod_congr h)

theorem modHr_congr {d : Device} {s : Nat} {f g : HRouter → HRouter} (h : f (d.hr s) = g (d.hr s)) :
    d.modHr s f = d.modHr s g :=
  congrArg (fun v => ({ d with hrs := v } : Device)) (vmod_congr h)

end Sys2Proof.Machine
end

section
/-! The sequencer of a Graver tile: an instruction at which it stands is executed with what its word says (R174 to R180). -/

namespace Sys2Proof.Machine

section
variable {d : Device} {n op w : Nat}

/-- The sequencer at an instruction w of an opcode has read it, and does what that opcode does. -/
theorem seqStep_atInstr (h : d.atInstr n op w = true) (f : Device → Nat → Device) :
    d.seqStep n op f = f (d.note (d.progAddr n)) w := by
  simp only [Device.atInstr, Bool.and_eq_true, Bool.not_eq_true', decide_eq_true_eq] at h
  obtain ⟨⟨⟨⟨⟨⟨⟨hon, hstate⟩, hended⟩, hpc⟩, hue⟩, hword⟩, hgood⟩, hop⟩ := h
  have hruns : ¬ (!d.isOn (domGraver n) || decide (d.fld (F.GRAVER_STATUS_STATE n) ≠ 2) || (d.tile n).ended) = true := by
    simp [hon, hstate, hended]
  subst hword
  exact (if_neg hruns).trans ((if_neg (Nat.not_lt.2 hpc)).trans ((if_neg (Bool.eq_false_iff.1 hue)).trans
    ((if_neg (Bool.eq_false_iff.1 hgood)).trans (if_pos hop))))

/-- An instruction whose units have room is issued with the address generators as they stand (R177). -/
theorem issue_room (h : d.atInstr n op w = true) (hroom : ((d.note (d.progAddr n)).tile n).hasRoom w = true) :
    d.issue n op = ((d.note (d.progAddr n)).modTile n (fun t => { t with issued := t.issued ++
      [{ word := w, ag := t.agVals, gated := decide (0 < t.predLeft) && !t.pred }] })).advance n :=
  (seqStep_atInstr h _).trans (if_pos hroom)

/-- LOOP opens a loop over the instructions that follow it (R179). -/
theorem tileLoop_atInstr (h : d.atInstr n 1 w = true) :
    d.tileLoop n =
      let e := d.note (d.progAddr n)
      (e.modTile n (fun t => { t with
        loops := ⟨bits w 25 2, (e.tile n).pc + 1, (e.tile n).pc + bits w 27 15, bits w 42 16 + 1, 0⟩ :: t.loops
        pc := t.pc + 1, predLeft := t.predLeft - 1 })).showPc n :=
  (seqStep_atInstr h _).trans (congrArg (Device.showPc · n) (modTile_congr rfl))

/-- WAITL goes on once the landing counter has reached its count (R178). -/
theorem waitl_reached (h : d.atInstr n 6 w = true)
    (hlanded : bits w 38 17 ≤ (d.note (d.progAddr n)).fld (F.GRAVER_LC n (bits w 55 3))) :
    d.waitl n = (d.note (d.progAddr n)).advance n :=
  (seqStep_atInstr h _).trans (if_pos hlanded)

/-- The units that a SYNC names: arrays, drain, mover, emitter (R178). -/
def syncNamed (w : Nat) : List Nat :=
  (bitsSet 4 (bits w 54 4)) ++ (if bit w 53 then [4] else []) ++ (if bit w 52 then [5] else []) ++
    (if bit w 51 then [6] else [])

/-- SYNC goes on once the units that it names are idle (R178). -/
theorem syncUnits_idle (h : d.atInstr n 7 w = true)
    (hidle : ∀ u ∈ syncNamed w, (d.note (d.progAddr n)).unitIdle n u = true) :
    d.syncUnits n = (d.note (d.progAddr n)).advance n :=
  (seqStep_atInstr h _).trans (if_pos (List.all_eq_true.2 hidle))

end

/-- Settles O12: at its instruction the sequencer does what the opcode does, and each clause gives the opcode's own
condition. -/
theorem graverSequencerCompletes : Obligations.GraverSequencerCompletes := by
  unfold Obligations.GraverSequencerCompletes
  intro s n w clash ue d
  refine ⟨fun c hc hat hroom => ?_, fun hat => ?_, fun hat => ?_, fun hat hlanded => ?_, fun hat hidle => ?_,
    fun hat => ?_, ?_⟩
  · have hissue := next_after_congr s (issue_room hat hroom)
    simp only [List.mem_cons, List.not_mem_nil, or_false] at hc
    rcases hc with rfl | rfl | rfl | rfl | rfl
    · exact (exec_mma n .issue clash s).trans hissue
    · exact (exec_drain n .issue clash ue s).trans hissue
    · exact (exec_lds n .issue clash s).trans hissue
    · exact (exec_move n .issue clash s).trans hissue
    · exact (exec_emitClose n .issue s).trans hissue
  · exact (exec_tileEnd n s).trans (next_after_congr s (seqStep_atInstr hat _))
  · exact (exec_tileLoop n s).trans (next_after_congr s (tileLoop_atInstr hat))
  · exact (exec_waitl n s).trans (next_after_congr s (waitl_reached hat hlanded))
  · exact (exec_sync n s).trans (next_after_congr s (syncUnits_idle hat hidle))
  · exact (exec_setag n s).trans (next_after_congr s (seqStep_atInstr hat _))
  · intro e e1 hat r
    exact (exec_gate n clash s).trans
      (next_after_congr s (congrArg (·.modTile n (fun t => { t with clash := [] })) (seqStep_atInstr hat _)))

end Sys2Proof.Machine
end

section
/-! The units of a Graver tile: the first instruction of a unit that may execute, and the end of the tile's frame (R174,
R177 to R195). -/

namespace Sys2Proof.Machine

section
variable {d : Device} {n op k : Nat} {i : Issued}

/-- The k-th issued instruction i streams in the landed words it needs: with all of them there it leaves the queue and
executes, else it waits with what it has (R177, R236, log entry 38). -/
def Device.streamRun (d : Device) (n k : Nat) (i : Issued) (f : Device → Issued → Device) : Device :=
  let r := d.streamIn n i (d.landNeed n i)
  if (d.landNeed n i).all (fun x => decide (x.2 ≤ (vget r.1.got x.1 []).length)) then f (r.2.unqueue n k) r.1
  else r.2.modTile n (fun t => { t with issued := t.issued.set k r.1 })

/-- A unit takes up the first instruction that may execute. -/
theorem execute_ready (h : d.nextReady n op = some (k, i)) (f : Device → Issued → Device) :
    d.execute n op f = d.streamRun n k i f := by
  rw [Device.execute, h]
  rfl

/-- A DRAIN is told its place among the issued instructions. -/
theorem drainRun_ready {clash : List Clash} (parUe : Nat)
    (h : (d.modTile n (fun t => { t with clash := clash })).nextReady n 3 = some (k, i)) :
    d.drainRun n clash parUe =
      ((d.modTile n (fun t => { t with clash := clash })).streamRun n k i (fun d i => d.drainExec n k parUe i)).modTile n
        (fun t => { t with clash := [] }) := by
  rw [Device.drainRun, Device.withClash, h]
  exact congrArg (·.modTile n (fun t => { t with clash := [] })) (execute_ready h _)

/-- An instruction that streams nothing executes at once. -/
theorem streamRun_none (h : d.landNeed n i = []) (f : Device → Issued → Device) :
    d.streamRun n k i f = f (d.unqueue n k) i := by
  rw [Device.streamRun, h]
  rfl

/-- A tile in its frame whose program has ended, with nothing issued, completing or on its way out, closes the frame. -/
theorem tileFrameDone_ended (hframe : d.fld F.HATCH_STATUS_FSTATE = 2) (hon : d.isOn (domGraver n) = true)
    (hstate : d.fld (F.GRAVER_STATUS_STATE n) = 2) (hended : (d.tile n).ended = true) (hissued : (d.tile n).issued = [])
    (hcompleting : (d.tile n).completing = []) (hout : (d.tile n).hout = []) :
    d.tileFrameDone n =
      let e := d.put (F.GRAVER_FRAME n) ((d.fld (F.GRAVER_FRAME n) + 1) % 2 ^ 32)
      let e := if (d.tile n).bad then e.bump (F.GRAVER_FRAMES_BAD n) else e
      (e.put (F.GRAVER_STATUS_STATE n) 1).modTile n (fun x => { x with doneBad := some (d.tile n).bad }) := by
  refine if_pos ?_
  simp [hframe, hon, hstate, hended, hissued, hcompleting, hout]

end

/-- Settles O13: a unit takes up the instruction that may execute, and the rest are single branches. -/
theorem graverUnitsComplete : Obligations.GraverUnitsComplete := by
  unfold Obligations.GraverUnitsComplete
  intro s n clash e done run
  have hready {op k : Nat} {i : Issued} (h : e.nextReady n op = some (k, i)) (f : Device → Issued → Device) :
      done (e.execute n op f) = done (run k i f) := congrArg done (execute_ready h f)
  refine ⟨fun k i h => ?_, fun k i h => ?_, fun k i h => ?_, fun k i ue h => ?_, fun k i h hneed => ?_,
    fun k hon => ?_, fun hframe hon hstate hended hissued hcompleting hout => ?_,
    fun step axon payload mc dests rest hst hq hcredit hoffer => ?_⟩
  · exact (exec_mma n .execute clash s).trans (next_after_congr s (hready h _))
  · exact (exec_lds n .execute clash s).trans (next_after_congr s (hready h _))
  · exact (exec_move n .execute clash s).trans (next_after_congr s (hready h _))
  · exact (exec_drain n .execute clash ue s).trans (next_after_congr s (drainRun_ready ue.toNat h))
  · exact (exec_emitClose n .execute s).trans
      (next_after_congr s ((execute_ready h _).trans (streamRun_none hneed _)))
  · exact (exec_mmaComplete n k s).trans (next_after_congr s (if_pos hon))
  · exact (exec_tileFrameDone n s).trans
      (next_after_congr s (tileFrameDone_ended hframe hon hstate hended hissued hcompleting hout))
  · exact (exec_emitterEventSend n s).trans (next_after_congr s (eventSend_head hst hq hcredit hoffer))

end Sys2Proof.Machine
end

section
/-! The SET and CLEAR aliases of a scratchpad lane have addresses of their own (R193), which a window of the indirect port
that shows the host the lane need not hold (R427). -/

namespace Sys2Proof.Machine

/-- Tile 0 ON, bound and IDLE, its banks without an owner, and window 0 of the indirect port open for writes of the first
4 KiB of its scratchpad alone. -/
def laneWindow : Device :=
  ((((((({} : Device).setDom (domGraver 0) 2).put (F.TOPO_GRAVER_SITE_VALID 0) 1).put (F.HOST_IND_WIN0_VALID 0) 1).put
    (F.HOST_IND_WIN0_WR 0) 1).put (F.HOST_IND_WIN0_BASE_HI 0) 2).put (F.HOST_IND_WIN1_BASE_LO 0) 0x400).put
    (F.HOST_IND_WIN1_SIZE 0) 12

/-- The first byte of lane 0 of tile 0 in the state that a command answers. -/
def laneByte : Host.Outcome State Fault Refusal → Byte
  | .next t => t.dev.byte (graverBase 0 + 0x400000)
  | _ => 0

/-- The window holds no address of the SET window, so the host's write of it is refused. -/
theorem writeReg_alias_laneWindow (v : Word) :
    laneWindow.writeReg .host (graverBase 0 + 0x800000) v = laneWindow.accError iniHost 3 0x1008 := by
  have haddr : iniAddr .host (graverBase 0 + 0x800000) = graverBase 0 + 0x800000 := iniAddr_out _ _ (by decide)
  have hreach : laneWindow.reach iniHost (graverBase 0 + 0x800000) true = false := by decide +kernel
  rw [Device.writeReg, haddr]
  exact busWrite_unreached _ hreach

/-- Refutes O14: the host writes lane 0 of tile 0 through a window of the indirect port that ends below the SET window. The
lane meets every premise of the clause on SET and CLEAR, and the write at its SET address is refused instead of setting the bit. -/
theorem not_graverWritesComplete : ¬ Obligations.GraverWritesComplete := by
  unfold Obligations.GraverWritesComplete
  intro h
  obtain ⟨-, -, -, hlane⟩ := h ⟨laneWindow, []⟩ .host 0
  obtain ⟨-, hset, -⟩ := hlane 0 1 (by decide +kernel) (by decide +kernel) (by decide +kernel) (by decide +kernel)
    (by decide +kernel)
  have hrefused := (exec_setAliasWrite .host 0 0 1 ⟨laneWindow, []⟩).trans
    (next_after_congr _ (writeReg_alias_laneWindow 1))
  exact absurd (congrArg laneByte (hrefused.symm.trans hset)) (by decide +kernel)

end Sys2Proof.Machine
end

section
/-! The ends of the Hatch mesh: words that land in tiles and memory, and the memory ports that feed it (R234 to R239). -/

namespace Sys2Proof.Machine

/-! ### Landing (R235, R236) -/

/-- A landing at port p over: its halves gone, word k of descriptor desc counted. -/
def Device.landFin (d : Device) (s p desc k : Nat) : Device :=
  (d.modHr s (fun r => { r with
    pend := r.pend.filter (fun e => e.1 ≠ p)
    halves := r.halves.filter (fun e => e.1 ≠ desc)
    counts := nput r.counts desc (k + 1) })).progress

/-- The scratchpad word of the k-th landing of a descriptor: rows of ROW_LEN words, each STRIDE after the last. -/
def landAddr (w0 w1 w2 k : Nat) : Nat :=
  let rl := if bits w1 16 16 = 0 then 65536 else bits w1 16 16
  (bits w0 0 17 + k % rl + k / rl * bits w2 0 17) % 131072

/-- A word of descriptor desc, its high half hi just come, waits at port p of router s; no abort goes on, and the
descriptor can be read. -/
structure Device.Landing (d : Device) (s p desc hi : Nat) : Prop where
  pend : (d.hr s).pend.find? (fun e => e.1 = p) = some (p, desc, hi)
  aborting : d.aborting = false
  on : d.hrOn s = true
  err : ((d.hr s).ptr true p).err = false
  ue : d.ueAt (descWord s desc 0) = false

namespace Device.Landing

variable {d : Device} {s p desc hi : Nat}

/-- The checks before a landing pass. -/
theorem checks_pass (h : d.Landing s p desc hi) (a b c x : Device) :
    (if d.aborting then a else if !d.hrOn s || ((d.hr s).ptr true p).err then b
      else if d.ueAt (descWord s desc 0) then c else x) = x := by
  simp [h.aborting, h.on, h.err, h.ue]

/-- TARGET 5 takes the word up and keeps nothing. -/
theorem tokenLanding_discard (h : d.Landing s p desc hi) (clash : List Clash)
    (ht : bits (d.ld (descWord s desc 0) 4) 29 3 = 5) :
    d.tokenLanding s p clash = d.landFin s p desc (nget (d.hr s).counts desc) := by
  rw [Device.tokenLanding, h.pend]
  exact (h.checks_pass _ _ _ _).trans (if_pos ht)

/-- TARGET 0 to 4 at the tile of a local port: into the scratchpad, or into a landing FIFO with room. -/
theorem tokenLanding_tile (h : d.Landing s p desc hi) (clash : List Clash) {n : Nat}
    (ht : bits (d.ld (descWord s desc 0) 4) 29 3 ≤ 4) (hmem : atMem s p = false) (htile : d.servedTile s = some n)
    (hon : d.isOn (domGraver n) = true) :
    d.tokenLanding s p clash =
      let w (k : Nat) : Nat := d.ld (descWord s desc k) 4
      let word := (((d.hr s).halves.find? (fun e => e.1 = desc)).map (·.2)).getD 0 + hi <<< 128
      let k := nget (d.hr s).counts desc
      let a := landAddr (w 0) (w 1) (w 2) k
      let q := bits (w 0) 29 3 - 1
      let e := d.withClash n clash (fun d => d.spWrite n 0 a word)
      if bits (w 0) 29 3 = 0 then (if decide (d.bankOwner n a ≠ 0) then e else e.countLanding n (w 0)).landFin s p desc k
      else if 64 ≤ (vget (d.tile n).land q []).length then d
      else ((d.modTile n (fun t => { t with land := vmod t.land q (fun l => l ++ [word]) })).countLanding n (w 0)).landFin
        s p desc k := by
  have hkeep : bits (d.ld (descWord s desc 0) 4) 29 3 ≠ 5 := by omega
  have hlp : ¬ (bits (d.ld (descWord s desc 0) 4) 29 3 = 6 ∧ atMem s p = true) := by simp [hmem]
  have hbad : ¬ (bits (d.ld (descWord s desc 0) 4) 29 3 ≥ 6 ∨ atMem s p = true) := by
    rw [hmem]
    rintro (hge | hfalse)
    · omega
    · exact Bool.noConfusion hfalse
  have hready : ¬ (!d.isOn (domGraver n)) = true := by simp [hon]
  rw [Device.tokenLanding, h.pend, htile]
  exact (h.checks_pass _ _ _ _).trans ((if_neg hkeep).trans ((if_neg hlp).trans ((if_neg hbad).trans (if_neg hready))))

/-- TARGET 6 at a memory edge stores 32 bytes, but not into the Rack's table (R303). -/
theorem tokenLanding_memory (h : d.Landing s p desc hi) (clash : List Clash)
    (ht : bits (d.ld (descWord s desc 0) 4) 29 3 = 6) (hmem : atMem s p = true)
    (hin : inRegion (memCtl s) (d.ld (descWord s desc 3) 4 <<< 8 + 32 * nget (d.hr s).counts desc) = true)
    (hon : d.isOn (domMc (memCtl s)) = true) :
    d.tokenLanding s p clash =
      let k := nget (d.hr s).counts desc
      let a := d.ld (descWord s desc 3) 4 <<< 8 + 32 * k
      let word := (((d.hr s).halves.find? (fun e => e.1 = desc)).map (·.2)).getD 0 + hi <<< 128
      let x := d.storeLp 2 a (leBytes 32 word)
      (if d.inTable a then d else if x.2 then x.1 else x.1.modHr s (fun r => { r with bad := true })).landFin s p desc
        k := by
  have hkeep : bits (d.ld (descWord s desc 0) 4) 29 3 ≠ 5 := by omega
  have hregion : ¬ (!inRegion (memCtl s) (d.ld (descWord s desc 3) 4 <<< 8 + 32 * nget (d.hr s).counts desc)) = true := by
    simp [hin]
  have hready : ¬ (!d.isOn (domMc (memCtl s))) = true := by simp [hon]
  rw [Device.tokenLanding, h.pend]
  exact (h.checks_pass _ _ _ _).trans ((if_neg hkeep).trans ((if_pos ⟨ht, hmem⟩).trans ((if_neg hregion).trans
    ((if_neg hready).trans (apply_ite (Device.landFin · s p desc _) _ _ _).symm))))

end Device.Landing

/-! ### What reads of LPDDR4X leave at the routers -/

@[simp] theorem raiseBit_hrs (d : Device) (f : Fld) (code unit : Nat) : (d.raiseBit f code unit).hrs = d.hrs := by
  unfold Device.raiseBit
  split <;> simp

@[simp] theorem raiseFirst_hrs (d : Device) (f : Fld) (code unit : Nat) : (d.raiseFirst f code unit).hrs = d.hrs := by
  unfold Device.raiseFirst
  split <;> simp

@[simp] theorem corrPush_hrs (d : Device) (base a : Nat) : (d.corrPush base a).hrs = d.hrs := by
  simp only [Device.corrPush]
  split <;> simp

@[simp] theorem lpCe_hrs (d : Device) (a k : Nat) : (d.lpCe a k).hrs = d.hrs := by
  unfold Device.lpCe
  generalize lpPlace a = x
  split
  extract_lets e
  have he : e.hrs = d.hrs := (corrPush_hrs _ _ _).trans (bump_hrs _ _)
  split
  · split
    · rw [put_hrs, he]
    · exact he
  · split
    · rw [put_hrs, put_hrs, put_hrs, put_hrs, he]
    · rw [raiseFirst_hrs, put_hrs, bump_hrs, he]

@[simp] theorem lpUe_hrs (d : Device) (a : Nat) : (d.lpUe a).hrs = d.hrs := by
  unfold Device.lpUe Device.lpUeMark
  refine (raiseBit_hrs _ _ _ _).trans ?_
  generalize lpPlace a = x
  split
  extract_lets e
  have he : e.hrs = d.hrs := bump_hrs _ _
  split
  · exact he
  · rw [put_hrs, put_hrs, put_hrs, he]

/-- A read of an LPDDR4X page leaves its trace in the controller alone. -/
theorem note_lp_hrs (d : Device) {a : Nat} (h : lpBase ≤ a) : (d.note a).hrs = d.hrs := by
  unfold Device.note
  split
  · rfl
  · simp only [h, if_true]
    split
    · rfl
    · split
      · exact lpUe_hrs _ _
      · exact lpCe_hrs _ _ _

theorem noteRun_lp_hrs (d : Device) (first : Nat) {a : Nat} (h : lpBase ≤ a) : (d.noteRun first a).hrs = d.hrs := by
  unfold Device.noteRun
  split
  · exact note_lp_hrs d h
  · rfl

theorem each_noteRun_lp_hrs (d : Device) (first : Nat) (l : List Nat) (h : ∀ a ∈ l, lpBase ≤ a) :
    (d.each l (fun d a => d.noteRun first a)).hrs = d.hrs := by
  induction l generalizing d with
  | nil => rfl
  | cons a t ih =>
    obtain ⟨ha, ht⟩ := List.forall_mem_cons.1 h
    exact (ih (d.noteRun first a) ht).trans (noteRun_lp_hrs d first ha)

/-- What a memory port reads lies in LPDDR4X. -/
theorem lpBase_le_of_portMem {d : Device} {m a : Nat} (h : d.portMem m a = true) : lpBase ≤ a := by
  simp only [Device.portMem, inRegion, inRange, Bool.and_eq_true, decide_eq_true_eq] at h
  omega

/-! ### Memory edge ports (R239, R335) -/

theorem hr_congr {d e : Device} (h : d.hrs = e.hrs) (s : Nat) : d.hr s = e.hr s := by
  rw [Device.hr, h, Device.hr]

/-- What an update of a router keeps of it reads as before. -/
theorem hr_modHr_keep {α : Type} {f : HRouter → HRouter} {g : HRouter → α} (h : ∀ r, g (f r) = g r) (d : Device) (s : Nat) :
    g ((d.modHr s f).hr s) = g (d.hr s) := by
  by_cases hs : s < 112
  · simp [Device.hr, Device.modHr, vget, vmod, hs, h]
  · simp [Device.hr, vget, hs]

/-- The table error of a memory port that stops where it stands (R335). -/
def Device.portStops (d : Device) (s : Nat) (x : HPtr) : Device :=
  (d.modHr s (fun r => r.setPtr false (memPort s) { x with err := true })).raiseBit (F.HR_FAULT_TABLE s) 0x0202 s

theorem portStops_own (d : Device) (s : Nat) :
    (d.modHr s (fun r => r.setPtr false (memPort s) { r.ptr false (memPort s) with err := true })).raiseBit
      (F.HR_FAULT_TABLE s) 0x0202 s = d.portStops s ((d.hr s).ptr false (memPort s)) :=
  congrArg (Device.raiseBit · (F.HR_FAULT_TABLE s) 0x0202 s) (modHr_congr rfl)

/-- A port that stops moves nothing but its pointer. -/
theorem hr_portStops_keep {α : Type} {g : HRouter → α} (d : Device) (s : Nat) (x : HPtr)
    (h : ∀ r : HRouter, g (r.setPtr false (memPort s) { x with err := true }) = g r) :
    g ((d.portStops s x).hr s) = g (d.hr s) :=
  (congrArg g (hr_congr (raiseBit_hrs _ _ _ _) s)).trans (hr_modHr_keep h d s)

/-- The tokens of an entry offered at a memory port, its entry and BAD as given. -/
def Device.portOffer (d : Device) (s entry : Nat) (toks : List Nat) (bad : Bool) : Device :=
  (d.modHr s (fun r => { r with offer := toks, memEntry := entry, bad := bad })).progress

theorem portOffer_own (d : Device) (s : Nat) (toks : List Nat) (bad : Bool) :
    (d.modHr s (fun r => { r with offer := toks, memEntry := r.memEntry + 1, bad := r.bad || bad })).progress =
      d.portOffer s ((d.hr s).memEntry + 1) toks ((d.hr s).bad || bad) :=
  congrArg Device.progress (modHr_congr rfl)

/-- The addresses of the tokens of a source-list entry of words w0 and w1. -/
def entryAddrs (w0 w1 : Nat) : List Nat :=
  (List.range (bits w1 16 15 + 1)).map (fun k => bits w0 5 27 <<< 5 + bits w1 0 8 <<< 32 + 16 * k)

/-- The pages of an entry read for the memory port of router s; one that leaves the usable range stops the port (R335). -/
def Device.entryNoted (d : Device) (s w0 w1 : Nat) : Device :=
  d.each ((entryAddrs w0 w1).filter (d.portMem (memCtl s))) (fun d x =>
    d.noteRun (bits w0 5 27 <<< 5 + bits w1 0 8 <<< 32) x)
def Device.entryRead (d : Device) (s w0 w1 : Nat) : Device :=
  if (entryAddrs w0 w1).all (fun x => decide (lpBase ≤ x) && decide (x < lpEnd)) then d.entryNoted s w0 w1
  else (d.entryNoted s w0 w1).portStops s ((d.hr s).ptr false (memPort s))

theorem hr_entryNoted (d : Device) (s w0 w1 : Nat) : (d.entryNoted s w0 w1).hr s = d.hr s :=
  hr_congr (each_noteRun_lp_hrs d _ _ fun _ hx => lpBase_le_of_portMem (List.mem_filter.1 hx).2) s

theorem entryRead_own (d : Device) (s w0 w1 : Nat) :
    (if (entryAddrs w0 w1).all (fun x => decide (lpBase ≤ x) && decide (x < lpEnd)) then d.entryNoted s w0 w1
      else ((d.entryNoted s w0 w1).modHr s (fun r =>
        r.setPtr false (memPort s) { r.ptr false (memPort s) with err := true })).raiseBit (F.HR_FAULT_TABLE s) 0x0202 s) =
      d.entryRead s w0 w1 := by
  rw [portStops_own, hr_entryNoted]
  rfl

/-- Reading an entry moves nothing of the router but the pointer of a port that stops. -/
theorem hr_entryRead_keep {α : Type} {g : HRouter → α} (d : Device) (s w0 w1 : Nat)
    (h : ∀ (r : HRouter) x, g (r.setPtr false (memPort s) x) = g r) : g ((d.entryRead s w0 w1).hr s) = g (d.hr s) := by
  unfold Device.entryRead
  split
  · rw [hr_entryNoted]
  · rw [hr_portStops_keep _ s _ (fun r => h r _), hr_entryNoted]

/-- A memory port in its frame that has offered what it read, at a readable entry of its source list. -/
structure Device.Feeding (d : Device) (s : Nat) : Prop where
  site : isMemSite s = true
  frame : d.inFrame s = true
  busy : (d.hr s).edgeBusy = true
  offer : (d.hr s).offer = []
  err : ((d.hr s).ptr false (memPort s)).err = false
  entry : (d.hr s).memEntry < 256
  ue : d.ueAt (hrBase s + 0x31000 + 8 * (d.hr s).memEntry) = false

namespace Device.Feeding

variable {d : Device} {s : Nat}

/-- The checks before an entry is read pass. -/
theorem checks_pass (h : d.Feeding s) (a b c x : Device) :
    (if !isMemSite s || !d.inFrame s || !(d.hr s).edgeBusy || !(d.hr s).offer.isEmpty ||
        ((d.hr s).ptr false (memPort s)).err then a
      else if 256 ≤ (d.hr s).memEntry then b
      else if d.ueAt (hrBase s + 0x31000 + 8 * (d.hr s).memEntry) then c else x) = x := by
  simp [h.site, h.frame, h.busy, h.offer, h.err, h.entry, h.ue]

/-- An entry without VALID ends the source list. -/
theorem memPortRead_end (h : d.Feeding s)
    (hv : bit (d.ld (hrBase s + 0x31000 + 8 * (d.hr s).memEntry + 4) 4) 31 = false) :
    d.memPortRead s = d.modHr s (fun r => { r with edgeBusy := false }) :=
  (h.checks_pass _ _ _ _).trans (if_pos (by rw [hv]; rfl))

/-- A valid entry that reaches no other region offers its tokens, those outside the usable range as zero (log entry
124). -/
theorem memPortRead_entry (h : d.Feeding s) {w0 w1 : Nat}
    (h0 : d.ld (hrBase s + 0x31000 + 8 * (d.hr s).memEntry) 4 = w0)
    (h1 : d.ld (hrBase s + 0x31000 + 8 * (d.hr s).memEntry + 4) 4 = w1) (hv : bit w1 31 = true)
    (hin : ∀ x ∈ entryAddrs w0 w1, lpBase ≤ x → x < lpEnd → inRegion (memCtl s) x = true)
    (hon : d.isOn (domMc (memCtl s)) = true) :
    d.memPortRead s = (d.entryRead s w0 w1).portOffer s ((d.hr s).memEntry + 1)
      ((entryAddrs w0 w1).map (fun x => if d.portMem (memCtl s) x then d.ld x 16 else 0))
      ((d.hr s).bad || (entryAddrs w0 w1).any (fun x => d.portMem (memCtl s) x && d.ueAt x)) := by
  refine (h.checks_pass _ _ _ _).trans ((if_neg ?valid).trans ((if_neg ?reach).trans ((if_neg ?ready).trans ?_)))
  case valid => simp [h1, hv]
  case reach =>
    rw [h0, h1, List.any_eq_true]
    rintro ⟨x, hx, hout⟩
    simp only [Bool.and_eq_true, decide_eq_true_eq, Bool.not_eq_true'] at hout
    obtain ⟨⟨hlo, hhi⟩, hother⟩ := hout
    exact Bool.eq_false_iff.1 hother (hin x hx hlo hhi)
  case ready => simp [hon]
  rw [h0, h1]
  refine (congrArg (fun e : Device => (e.modHr s _).progress) (entryRead_own d s w0 w1)).trans ?_
  rw [portOffer_own, hr_entryRead_keep (g := HRouter.memEntry) _ _ _ _ fun _ _ => rfl,
    hr_entryRead_keep (g := HRouter.bad) _ _ _ _ fun _ _ => rfl]
  rfl

end Device.Feeding

/-- Settles O10: each TARGET lands by a case of its own, and a memory port at a valid entry stops only where the entry
leaves the usable range. -/
theorem hatchEndpointsComplete : Obligations.HatchEndpointsComplete := by
  unfold Obligations.HatchEndpointsComplete
  intro s r
  refine ⟨fun p desc hi clash hpend habort hon herr hue => ?_, fun hsite hframe hbusy hoffer herr hentry => ?_⟩
  · intro w lo word k target fin
    have hland : s.dev.Landing r p desc hi := ⟨hpend, habort, hon, herr, hue⟩
    have hexec {d : Device} (h : s.dev.tokenLanding r p clash = d) :
        exec (.tokenLanding r p clash) s = .next (s.after d) :=
      (exec_tokenLanding r p clash s).trans (next_after_congr s h)
    refine ⟨fun ht => ?_, fun n ht hmem htile hgraver => ?_, fun n hlo hhi hmem htile hgraver hroom => ?_,
      fun ht hmem hin hmc => ?_⟩
    · exact hexec (hland.tokenLanding_discard clash ht)
    · have htile := hland.tokenLanding_tile clash (ht.le.trans (Nat.zero_le 4)) hmem htile hgraver
      exact hexec (htile.trans ((if_pos ht).trans (congrArg fin (if_congr decide_eq_true_iff rfl rfl))))
    · have htile := hland.tokenLanding_tile clash hhi hmem htile hgraver
      exact hexec (htile.trans ((if_neg (Nat.one_le_iff_ne_zero.1 hlo)).trans (if_neg (Nat.not_le.2 hroom))))
    · exact hexec (hland.tokenLanding_memory clash ht hmem hin hmc)
  · intro a hue w0 w1 at_ m
    have hfeed : s.dev.Feeding r := ⟨hsite, hframe, hbusy, hoffer, herr, hentry, hue⟩
    refine ⟨fun hv => ?_, fun hv hin hmc => ?_⟩
    · exact (exec_memPortRead r s).trans (next_after_congr s (hfeed.memPortRead_end hv))
    · exact (exec_memPortRead r s).trans (next_after_congr s (hfeed.memPortRead_entry rfl rfl hv hin hmc))

end Sys2Proof.Machine
end

section
/-! Memory integrity: the Burnishers, corrections, and the commands of an integrity block's registers (R327 to R347). -/

namespace Sys2Proof.Machine

/-- A guard `!x` fails where x holds. -/
theorem not_bnot {x : Bool} (h : x = true) : ¬ (!x) = true := by simp [h]

/-! ### Where an integrity block has its registers (R346, R347) -/

/-- The place of offset off in the registers of a block. -/
def IntBlk.loc (b : IntBlk) (off : Nat) : Loc :=
  match b with
  | .etch n | .plate n => ⟨.int, n, off⟩
  | .graver n => ⟨.int, n, off⟩
  | .tracer n => ⟨.int, n, off⟩
  | .press k => ⟨.int, k, off⟩
  | .rack => ⟨.int, 0, off⟩
  | .scribe n => ⟨.int, n, off⟩
  | .mc m => ⟨.mc, m, off⟩

/-- Offsets of the registers of an integrity block, of which those of a plate memory are not (R346). -/
def OwnOff (off : Nat) : Prop := off < 0x100 ∨ 0x400 ≤ off ∧ off < 0x800

/-- Offset off of the integrity part of window n in the row of unit windows from lo on. -/
def intPage (lo n off : Nat) : Nat := lo + 0x1000000 * n + 0x800 + off

theorem inRange_eq_true {a lo len : Nat} (h : lo ≤ a ∧ a < lo + len) : inRange a lo len = true := by
  simp [inRange, h]

section
variable {lo n off : Nat} (hown : OwnOff off)
include hown

theorem intPage_bounds : lo + 0x1000000 * n ≤ intPage lo n off ∧ intPage lo n off < lo + 0x1000000 * n + 0x1000 := by
  unfold OwnOff at hown
  unfold intPage
  omega

theorem intLoc_intPage (etch : Bool) (hlo : lo % 0x1000000 = 0) :
    inRange (intPage lo n off % 0x1000000) 0x800 0x800 = true ∧
    intLoc etch ((intPage lo n off - lo) / 0x1000000) (intPage lo n off % 0x1000000) = ⟨.int, n, off⟩ := by
  unfold OwnOff at hown
  have hidx : (intPage lo n off - lo) / 0x1000000 = n := by unfold intPage; omega
  have hoff : intPage lo n off % 0x1000000 = 0x800 + off := by unfold intPage; omega
  have hplate : inRange (0x800 + off) 0x900 0x100 = false := inRange_eq_false (by omega)
  rw [hidx, hoff, intLoc, hplate, Bool.and_false, Nat.add_sub_cancel_left]
  exact ⟨inRange_eq_true (by omega), rfl⟩

theorem regLoc_intEtch (hn : n < 64) : regLoc (intPage 0x0100000000 n off) = some ⟨.int, n, off⟩ := by
  obtain ⟨hpart, hloc⟩ := intLoc_intPage (lo := 0x0100000000) (n := n) hown true rfl
  have hb := intPage_bounds (lo := 0x0100000000) (n := n) hown
  rw [regLoc_of_etch (inRange_eq_true (by omega)), hpart, hloc]
  rfl

theorem regLoc_intGraver (hn : n < 32) : regLoc (intPage 0x0200000000 n off) = some ⟨.int, n, off⟩ := by
  obtain ⟨hpart, hloc⟩ := intLoc_intPage (lo := 0x0200000000) (n := n) hown false rfl
  have hb := intPage_bounds (lo := 0x0200000000) (n := n) hown
  generalize intPage 0x0200000000 n off = a at *
  have hbelow : ∀ lo len, lo + len ≤ 0x0200000000 → inRange a lo len = false := fun lo len hl =>
    inRange_eq_false (by omega)
  unfold regLoc hostBase
  iterate 9 rw [if_neg (by omega)]
  iterate 6 rw [hbelow _ _ (by omega)]
  rw [inRange_eq_true (lo := 0x0200000000) (by omega)]
  exact (if_pos hpart).trans (congrArg some hloc)

theorem regLoc_intTracer (hn : n < 8) : regLoc (intPage 0x0300000000 n off) = some ⟨.int, n, off⟩ := by
  obtain ⟨hpart, hloc⟩ := intLoc_intPage (lo := 0x0300000000) (n := n) hown false rfl
  have hb := intPage_bounds (lo := 0x0300000000) (n := n) hown
  generalize intPage 0x0300000000 n off = a at *
  have hbelow : ∀ lo len, lo + len ≤ 0x0300000000 → inRange a lo len = false := fun lo len hl =>
    inRange_eq_false (by omega)
  unfold regLoc hostBase
  iterate 9 rw [if_neg (by omega)]
  iterate 7 rw [hbelow _ _ (by omega)]
  rw [inRange_eq_true (lo := 0x0300000000) (by omega)]
  exact (if_pos hpart).trans (congrArg some hloc)

theorem regLoc_intPress (hn : n < 4) : regLoc (intPage 0x0310000000 n off) = some ⟨.int, n, off⟩ := by
  obtain ⟨hpart, hloc⟩ := intLoc_intPage (lo := 0x0310000000) (n := n) hown false rfl
  have hb := intPage_bounds (lo := 0x0310000000) (n := n) hown
  generalize intPage 0x0310000000 n off = a at *
  have hbelow : ∀ lo len, lo + len ≤ 0x0310000000 → inRange a lo len = false := fun lo len hl =>
    inRange_eq_false (by omega)
  unfold regLoc hostBase
  iterate 9 rw [if_neg (by omega)]
  iterate 8 rw [hbelow _ _ (by omega)]
  rw [inRange_eq_true (lo := 0x0310000000) (by omega)]
  exact (if_pos hpart).trans (congrArg some hloc)

theorem regLoc_intRack : regLoc (intRack + off) = some ⟨.int, 0, off⟩ := by
  have hlt := hown
  unfold OwnOff at hlt
  have hin : 0x0320000000 ≤ intRack + off ∧ intRack + off < 0x0330000000 := by unfold intRack rackBase; omega
  have hoff : intRack + off - rackBase = 0x800 + off := by unfold intRack; omega
  generalize intRack + off = a at *
  have hbelow : ∀ lo len, lo + len ≤ 0x0320000000 → inRange a lo len = false := fun lo len hl =>
    inRange_eq_false (by omega)
  have hpart : inRange (a - rackBase) 0x800 0x800 = true := inRange_eq_true (by omega)
  have hloc : intLoc false 0 (a - rackBase) = ⟨.int, 0, off⟩ := by rw [hoff, intLoc, Nat.add_sub_cancel_left]; rfl
  unfold rackBase at hpart hloc
  unfold regLoc hostBase rackBase
  iterate 9 rw [if_neg (by omega)]
  iterate 9 rw [hbelow _ _ (by omega)]
  rw [inRange_eq_true (lo := 0x0320000000) (by omega)]
  simp only [Bool.false_eq_true, if_false, if_true, hpart, hloc]

theorem regLoc_intScribe (hn : n < 4) : regLoc (intScribe n + off) = some ⟨.int, n, off⟩ := by
  unfold OwnOff at hown
  have hb : 0x0358000000 ≤ intScribe n + off ∧ intScribe n + off < 0x0358004000 := by unfold intScribe; omega
  have hidx : (intScribe n + off - 0x0358000000) / 0x1000 = n := by unfold intScribe; omega
  have hoff : (intScribe n + off) % 0x1000 = off := by unfold intScribe; omega
  generalize intScribe n + off = a at *
  have hbelow : ∀ lo len, lo + len ≤ 0x0358000000 → inRange a lo len = false := fun lo len hl =>
    inRange_eq_false (by omega)
  unfold regLoc hostBase stippleBase rackBase
  iterate 9 rw [if_neg (by omega)]
  iterate 16 rw [hbelow _ _ (by omega)]
  rw [inRange_eq_true (lo := 0x0358000000) (by omega), hidx, hoff]
  rfl

theorem regLoc_mc (hn : n < 4) : regLoc (mcBase n + off) = some ⟨.mc, n, off⟩ := by
  unfold OwnOff at hown
  have hb : 0x0350000000 ≤ mcBase n + off ∧ mcBase n + off < 0x0354000000 := by unfold mcBase; omega
  have hidx : (mcBase n + off - 0x0350000000) / 0x1000000 = n := by unfold mcBase; omega
  have hoff : (mcBase n + off) % 0x1000000 = off := by unfold mcBase; omega
  generalize mcBase n + off = a at *
  have hbelow : ∀ lo len, lo + len ≤ 0x0350000000 → inRange a lo len = false := fun lo len hl =>
    inRange_eq_false (by omega)
  unfold regLoc hostBase stippleBase rackBase
  iterate 9 rw [if_neg (by omega)]
  iterate 15 rw [hbelow _ _ (by omega)]
  rw [inRange_eq_true (lo := 0x0350000000) (by omega), hidx, hoff]
  rfl

theorem regLoc_block (b : IntBlk) : regLoc (b.base + off) = some (b.loc off) := by
  cases b with
  | etch n | plate n => exact regLoc_intEtch hown n.isLt
  | graver n => exact regLoc_intGraver hown n.isLt
  | tracer n => exact regLoc_intTracer hown n.isLt
  | press k => exact regLoc_intPress hown k.isLt
  | rack => exact regLoc_intRack hown
  | scribe n => exact regLoc_intScribe hown n.isLt
  | mc m => exact regLoc_mc hown m.isLt

/-- Every block's registers belong to it, but that a plate memory's belong to its core. -/
theorem intBlkOf_loc (b : IntBlk) : intBlkOf (b.loc off) (b.base + off) = some b.block := by
  have hlt := hown
  unfold OwnOff at hlt
  cases b with
  | etch n | plate n =>
    have hn := n.isLt
    have hb := intPage_bounds (lo := 0x0100000000) (n := n) hown
    change intBlkOf ⟨.int, n, off⟩ (intPage 0x0100000000 n off) = some (.etch n)
    simp only [intBlkOf]
    rw [if_neg (by omega), if_pos (by omega), dif_pos hn]
  | graver n =>
    have hn := n.isLt
    have hb := intPage_bounds (lo := 0x0200000000) (n := n) hown
    change intBlkOf ⟨.int, n, off⟩ (intPage 0x0200000000 n off) = some (.graver n)
    simp only [intBlkOf]
    rw [if_neg (by omega), if_neg (by omega), if_pos (by omega), dif_pos hn]
  | tracer n =>
    have hn := n.isLt
    have hb := intPage_bounds (lo := 0x0300000000) (n := n) hown
    change intBlkOf ⟨.int, n, off⟩ (intPage 0x0300000000 n off) = some (.tracer n)
    simp only [intBlkOf]
    iterate 3 rw [if_neg (by omega)]
    rw [if_pos (by omega), dif_pos hn]
  | press k =>
    have hk := k.isLt
    have hb := intPage_bounds (lo := 0x0310000000) (n := k) hown
    change intBlkOf ⟨.int, k, off⟩ (intPage 0x0310000000 k off) = some (.press k)
    simp only [intBlkOf]
    iterate 4 rw [if_neg (by omega)]
    rw [if_pos (by omega), dif_pos hk]
  | rack =>
    have hb := intPage_bounds (lo := 0x0320000000) (n := 0) hown
    change intBlkOf ⟨.int, 0, off⟩ (intPage 0x0320000000 0 off) = some .rack
    simp only [intBlkOf]
    iterate 5 rw [if_neg (by omega)]
    exact if_pos (by omega)
  | scribe n =>
    have hn := n.isLt
    have hb : 0x0358000000 ≤ intScribe n + off := by unfold intScribe; omega
    change intBlkOf ⟨.int, n, off⟩ (intScribe n + off) = some (.scribe n)
    simp only [intBlkOf]
    iterate 6 rw [if_neg (by omega)]
    exact dif_pos hn
  | mc m => exact dif_pos m.isLt

/-- The registers of a block lie outside the lanes of the Graver tiles. -/
theorem laneOf_block (b : IntBlk) : laneOf (b.base + off) = none := by
  refine if_neg fun ⟨hin, hlane⟩ => ?_
  simp only [inRange, Bool.and_eq_true, decide_eq_true_eq] at hin
  have hlt := hown
  unfold OwnOff at hlt
  cases b with
  | graver n =>
    change 0x400000 ≤ (0x0200000000 + 0x1000000 * n.val + 0x800 + off) % 0x1000000 at hlane
    omega
  | etch n | plate n =>
    have hn := n.isLt
    change 0x0200000000 ≤ intEtch n + off ∧ _ at hin
    unfold intEtch etchBase at hin
    omega
  | tracer n =>
    change _ ∧ intTracer n + off < _ at hin
    unfold intTracer tracerBase at hin
    omega
  | press k =>
    change _ ∧ intPress k + off < _ at hin
    unfold intPress pressBase at hin
    omega
  | rack =>
    change _ ∧ intRack + off < _ at hin
    unfold intRack rackBase at hin
    omega
  | scribe n =>
    change _ ∧ intScribe n + off < _ at hin
    unfold intScribe at hin
    omega
  | mc m =>
    change _ ∧ mcBase m + off < _ at hin
    unfold mcBase at hin
    omega
end

/-- The blocks lie above the registers that the host finds in its window, at multiples of 4. -/
theorem IntBlk.base_bounds (b : IntBlk) : 0x0100000000 ≤ b.base ∧ b.base < 0x0360000000 ∧ b.base % 4 = 0 := by
  cases b with
  | etch n | plate n => change _ ≤ intEtch n ∧ intEtch n < _ ∧ intEtch n % 4 = 0; unfold intEtch etchBase; omega
  | graver n => change _ ≤ intGraver n ∧ intGraver n < _ ∧ intGraver n % 4 = 0; unfold intGraver graverBase; omega
  | tracer n => change _ ≤ intTracer n ∧ intTracer n < _ ∧ intTracer n % 4 = 0; unfold intTracer tracerBase; omega
  | press k => change _ ≤ intPress k ∧ intPress k < _ ∧ intPress k % 4 = 0; unfold intPress pressBase; omega
  | rack => decide
  | scribe n => change _ ≤ intScribe n ∧ intScribe n < _ ∧ intScribe n % 4 = 0; unfold intScribe; omega
  | mc m => change _ ≤ mcBase m ∧ mcBase m < _ ∧ mcBase m % 4 = 0; unfold mcBase; omega

/-- What a served write of a register of a block does. -/
theorem writeReg_block {d : Device} {ini : Ini} {b : IntBlk} {a off : Nat} (ha : a = b.base + off)
    (hown : OwnOff off) (h4 : off % 4 = 0) (hrow : (regRow a).isSome = true) (hadm : d.admits ini a = true) (w : Word) :
    ∃ r, d.writeReg ini a w = d.writeInt ini.num b.block (b.loc off) a r w (busOff (iniAddr ini a)) := by
  subst ha
  obtain ⟨hlo, -, hb4⟩ := b.base_bounds
  obtain ⟨r, hr⟩ := Option.isSome_iff_exists.mp hrow
  have ha4 : (b.base + off) % 4 = 0 := by omega
  have hhost : inRange (b.base + off) hostBase 0x10000 = false := inRange_eq_false (by unfold hostBase; omega)
  have hbus : busAddr (iniAddr ini (b.base + off)) = b.base + off := by
    rw [iniAddr_out ini _ (by omega), busAddr, hhost]
    rfl
  refine ⟨r, (writeReg_served d ini _ w _ r hadm (regLoc_block hown b) (regRow_word ha4 hr) ha4
    (laneOf_block hown b) hbus).trans ?_⟩
  have hblk := intBlkOf_loc hown b
  cases b <;> (simp only [Device.regWrite, IntBlk.loc] at hblk ⊢; rw [hblk])

theorem regRow_block {off : Nat} (hown : OwnOff off) (b : IntBlk) :
    regRow (b.base + off) = findRow (b.loc off).blk.rows off := by
  obtain ⟨-, hhi, -⟩ := b.base_bounds
  have hlt : b.base + off < bankStride := by
    unfold OwnOff at hown
    unfold bankStride
    omega
  rw [regRow, Nat.mod_eq_of_lt hlt, regLoc_block hown b]
  cases b <;> rfl

/-! ### REMAP (R340) -/

/-- A word with bit 31 set and its other bits as they stand. -/
theorem bits_orTop (v : Word) {len : Nat} (h : len ≤ 31) : bits (v ||| 0x80000000).toNat 0 len = bits v.toNat 0 len := by
  refine Nat.eq_of_testBit_eq fun i => ?_
  rw [testBit_bits, testBit_bits, BitVec.toNat_or, Nat.testBit_or]
  by_cases hi : i < len
  · have htop : (0x80000000 : Word).toNat.testBit (0 + i) = false := by
      rw [show (0x80000000 : Word).toNat = 2 ^ 31 from rfl, Nat.testBit_two_pow_of_ne (by omega)]
    rw [htop, Bool.or_false]
  · simp [hi]

theorem bit_orTop (v : Word) : bit (v ||| 0x80000000).toNat 31 = true := by
  rw [bit, BitVec.toNat_or, Nat.testBit_or]
  exact Bool.or_eq_true_iff.mpr (.inr (Nat.testBit_two_pow_self (n := 31)))

section
variable (d : Device) (ini off : Nat) {l : Loc} {a k e : Nat} {r : RegRow} {w : Word}

/-- A write of a REMAP entry of a controller. -/
theorem writeInt_mcRemap (m : Fin 4) (hoff : l.off = 0x400 + 128 * k + 4 * e) (hk : k < 4) (he : e < 32) :
    d.writeInt ini (.mc m) l a r w off = d.remapWrite ini (.mc m) k e w off := by
  have htable : inRange (0x400 + 128 * k + 4 * e) 0x400 0x200 = true := inRange_eq_true (by omega)
  have hentry : (0x400 + 128 * k + 4 * e - 0x400) / 128 = k ∧ (0x400 + 128 * k + 4 * e) % 128 / 4 = e := by omega
  simp only [Device.writeInt, hoff]
  iterate 3 rw [if_neg (by omega)]
  rw [htable, hentry.1, hentry.2]
  rfl

/-- A write of a REMAP entry of any other block. -/
theorem writeInt_remap {b : IntBlk} (hb : ∀ m, b ≠ .mc m) (hoff : l.off = 0x400 + 32 * k + 4 * e) (he : e < 8) :
    d.writeInt ini b l a r w off = d.remapWrite ini b k e w off := by
  have hentry : (0x400 + 32 * k + 4 * e - 0x400) / 32 = k ∧ (0x400 + 32 * k + 4 * e) % 32 / 4 = e := by omega
  have htable : d.writeInt ini b l a r w off =
      d.remapWrite ini b ((l.off - 0x400) / 32) (l.off % 32 / 4) w off := by
    cases b with
    | mc m => exact absurd rfl (hb m)
    | _ =>
      simp only [Device.writeInt]
      iterate 3 rw [if_neg (by omega)]
      exact if_pos (by omega)
  rw [htable, hoff, hentry.1, hentry.2]
end

/-- A write of a controller's REMAP entry with VALID = 1 (R340). -/
theorem remapWrite_mcValid (d : Device) (ini off k e : Nat) (m : Fin 4) (v : Word) :
    d.remapWrite ini (.mc m) k e (v ||| 0x80000000) off =
      if d.flag (F.MC_REMAP_VALID m k e) then
        (if (d.freeLp m k).isNone then d.remapLp m k 0 none else d.accError ini 4 off)
      else if bits v.toNat 0 20 < 983040 then d.remapLp m k (bits v.toNat 0 20) (some e)
      else d.accError ini 4 off := by
  simp only [Device.remapWrite, bit_orTop, bits_orTop v (len := 20) (by omega), Bool.true_and, if_true]

/-- A write of any other block's REMAP entry with VALID = 1 (R340). -/
theorem remapWrite_valid (d : Device) (ini off k e : Nat) {b : IntBlk} (hb : ∀ m, b ≠ .mc m) (v : Word) :
    d.remapWrite ini b k e (v ||| 0x80000000) off =
      if d.flag (F.INT_REMAP_VALID b.base k e) then
        (if (d.freeSram b k).isNone then d.remapSram b k 0 none else d.accError ini 4 off)
      else if bits v.toNat 0 13 < b.words k then d.remapSram b k (bits v.toNat 0 13) (some e)
      else d.accError ini 4 off := by
  cases b with
  | mc m => exact absurd rfl (hb m)
  | _ => simp only [Device.remapWrite, bit_orTop, bits_orTop v (len := 13) (by omega), Bool.true_and, if_true]

theorem IntBlk.block_ne_mc {b : IntBlk} (hb : ∀ m, b ≠ .mc m) (m : Fin 4) : b.block ≠ .mc m := by
  cases b with
  | mc n => exact absurd rfl (hb n)
  | _ => exact nofun

theorem IntBlk.block_base (b : IntBlk) : b.block.base = b.base := by
  cases b <;> rfl

theorem IntBlk.loc_off (b : IntBlk) (off : Nat) : (b.loc off).off = off := by
  cases b <;> rfl

theorem IntBlk.remapAddr_eq {b : IntBlk} (hb : ∀ m, b ≠ .mc m) (k e : Nat) :
    b.remapAddr k e = b.base + (0x400 + 32 * k + 4 * e) := by
  cases b with
  | mc m => exact absurd rfl (hb m)
  | _ =>
    change IntBlk.base _ + 0x400 + 32 * k + 4 * e = _
    omega

section
variable {d : Device} {ini : Ini} (v : Word)

/-- What a served write of a controller's REMAP entry with VALID = 1 does. -/
theorem writeReg_mcRemap {m k : Nat} (hm : m < 4) {e : Fin 32} (hk : k < 4)
    (hadm : d.admits ini ((IntBlk.mc ⟨m, hm⟩).remapAddr k e) = true)
    (hrow : (regRow ((IntBlk.mc ⟨m, hm⟩).remapAddr k e)).isSome = true) :
    d.writeReg ini ((IntBlk.mc ⟨m, hm⟩).remapAddr k e) (v ||| 0x80000000) =
      d.remapWrite ini.num (.mc ⟨m, hm⟩) k e (v ||| 0x80000000)
        (busOff (iniAddr ini ((IntBlk.mc ⟨m, hm⟩).remapAddr k e))) := by
  have he := e.isLt
  have haddr : (IntBlk.mc ⟨m, hm⟩).remapAddr k e = (IntBlk.mc ⟨m, hm⟩).base + (0x400 + 128 * k + 4 * e) := by
    change mcBase m + 0x400 + 128 * k + 4 * e = mcBase m + (0x400 + 128 * k + 4 * e)
    omega
  obtain ⟨r, h⟩ := writeReg_block haddr (.inr (by omega)) (by omega) hrow hadm (v ||| 0x80000000)
  exact h.trans (writeInt_mcRemap d ini.num _ ⟨m, hm⟩ (IntBlk.loc_off _ _) hk he)

/-- What a served write of any other block's REMAP entry with VALID = 1 does. -/
theorem writeReg_remap {b : IntBlk} (hb : ∀ m, b ≠ .mc m) {k e : Fin 32} (he : e.val < 8)
    (hadm : d.admits ini (b.remapAddr k e) = true) (hrow : (regRow (b.remapAddr k e)).isSome = true) :
    d.writeReg ini (b.remapAddr k e) (v ||| 0x80000000) =
      d.remapWrite ini.num b.block k e (v ||| 0x80000000) (busOff (iniAddr ini (b.remapAddr k e))) := by
  have hk := k.isLt
  obtain ⟨r, h⟩ := writeReg_block (IntBlk.remapAddr_eq hb k e) (.inr (by omega)) (by omega) hrow hadm
    (v ||| 0x80000000)
  exact h.trans (writeInt_remap d ini.num _ (IntBlk.block_ne_mc hb) (IntBlk.loc_off _ _) he)
end

/-! ### LOG_CLEAR, INVAL_CMD and RAW_CMD (R333, R339, R344) -/

/-- Offset 0x44 of a controller is LOG_CLEAR. -/
theorem mcLogClear_row : (findRow Blk.mc.rows 0x44).isSome = true := by decide +kernel

/-- Offset 0x1C of any other block is LOG_CLEAR. -/
theorem intLogClear_row : (findRow Blk.int.rows 0x1C).isSome = true := by decide +kernel

/-- The offset of LOG_CLEAR in the registers of a block. -/
def IntBlk.logClearOff (b : IntBlk) : Nat :=
  match b with
  | .mc _ => 0x44
  | _ => 0x1C

theorem IntBlk.logClearAddr_eq (b : IntBlk) : b.logClearAddr = b.base + b.logClearOff := by
  cases b with
  | mc m =>
    change 0x0350000044 + 0x1000000 * m.val = mcBase m + 0x44
    unfold mcBase
    omega
  | _ => rfl

theorem IntBlk.logClearOff_own (b : IntBlk) : OwnOff b.logClearOff ∧ b.logClearOff % 4 = 0 := by
  cases b with
  | mc m => exact ⟨.inl (show 0x44 < 0x100 by decide), show 0x44 % 4 = 0 from rfl⟩
  | _ => exact ⟨.inl (show 0x1C < 0x100 by decide), show 0x1C % 4 = 0 from rfl⟩

theorem regRow_logClear (b : IntBlk) : (regRow b.logClearAddr).isSome = true := by
  rw [b.logClearAddr_eq, regRow_block b.logClearOff_own.1]
  cases b with
  | mc m => exact mcLogClear_row
  | _ => exact intLogClear_row

theorem writeReg_logClear {d : Device} {ini : Ini} (b : IntBlk) (hadm : d.admits ini b.logClearAddr = true) :
    d.writeReg ini b.logClearAddr 1 = d.logClear b.block := by
  obtain ⟨hown, h4⟩ := b.logClearOff_own
  obtain ⟨r, h⟩ := writeReg_block b.logClearAddr_eq hown h4 (regRow_logClear b) hadm 1
  rw [h]
  cases b <;> rfl

/-- The GO bit of INVAL_CMD is at 0x18 of a controller. -/
theorem regAt_invalCmd : ∀ m : Fin 4, regAt (F.MC_INVAL_CMD_GO m).addr ⟨.mc, m, 0x18⟩ = true := by decide +kernel

theorem writeCmd_invalGo {d : Device} {ini : Ini} (m : Fin 4)
    (hadm : d.admits ini (F.MC_INVAL_CMD_GO m).addr = true) :
    d.writeCmd ini (F.MC_INVAL_CMD_GO m) 1 =
      d.invalGo ini.num m (busOff (iniAddr ini (F.MC_INVAL_CMD_GO m).addr)) := by
  obtain ⟨r, -, h⟩ := writeReg_at d ini _ (setBits 0 0 1 1) _ (regAt_invalCmd m) hadm
  refine h.trans ?_
  simp only [Device.regWrite, intBlkOf, m.isLt, dif_pos]
  rfl

/-- A command with operands of its own at RAW_CMD of a block. -/
theorem viaPath_rawCmd {d : Device} {ini : Ini} {b : IntBlk} (f : Device → Device)
    (hadm : d.admits ini b.rawCmdAddr = true) : d.viaPath ini b.rawCmdAddr (fun _ d => f d) = f d := by
  obtain ⟨hlo, -, -⟩ := b.base_bounds
  cases b with
  | mc m =>
    have haddr : (IntBlk.mc m).rawCmdAddr = (IntBlk.mc m).base + 0x604 := by
      change 0x0350000604 + 0x1000000 * m.val = mcBase m + 0x604
      unfold mcBase
      omega
    rw [haddr] at hadm ⊢
    exact viaPath_served d ini _ _ _ hadm (regLoc_block (.inr (by omega)) _) (iniAddr_out ini _ (by omega))
  | _ =>
    exact viaPath_served d ini _ _ _ hadm (regLoc_block (off := 0xC4) (.inl (by omega)) _)
      (iniAddr_out ini _ (Nat.le_trans (by omega) (Nat.le_add_right _ 0xC4)))

/-! ### The Burnishers (R338, R341) -/

/-- The corrected content of a word or page written back: its damage gone, and the hit counted in its log entry. -/
def Device.writeBack (d : Device) (b : IntBlk) (a : Nat) : Device :=
  let e : Device := { d with damage := mapDel a d.damage }
  match b with
  | .mc m => e.lpHit m.val (lpPlace a).2.1 (lpPlace a).2.2
  | _ => e.sramHit b (b.placeOf a)

section
variable {d : Device} {b : IntBlk}

theorem correction_correctable {a : Nat} {rest : List Nat} {x : Damage} (hcorr : d.corr b.base = a :: rest)
    (hon : d.isOn b.dom = true) (hx : d.damageAt a = some x) (hue : x.ue = false) :
    d.correction b =
      ({ d with corrQ := mapPut (fun _ => []) d.corrQ b.base rest } : Device).writeBack b a := by
  have hx' : ({ d with corrQ := mapPut (fun _ => []) d.corrQ b.base rest } : Device).damageAt a = some x := hx
  simp only [Device.correction, hcorr, hon, hx', hue, Bool.not_true, Bool.false_eq_true, if_false]
  cases b <;> rfl

theorem correction_left {a : Nat} {rest : List Nat} (hcorr : d.corr b.base = a :: rest) (hon : d.isOn b.dom = true)
    (hleft : d.damageAt a = none ∨ ∃ x, d.damageAt a = some x ∧ x.ue = true) :
    d.correction b = { d with corrQ := mapPut (fun _ => []) d.corrQ b.base rest } := by
  have hsame : ({ d with corrQ := mapPut (fun _ => []) d.corrQ b.base rest } : Device).damageAt a = d.damageAt a := rfl
  obtain hnone | ⟨x, hx, hue⟩ := hleft
  · simp only [Device.correction, hcorr, hon, hsame, hnone, Bool.not_true, Bool.false_eq_true, if_false]
  · simp only [Device.correction, hcorr, hon, hsame, hx, hue, Bool.not_true, Bool.false_eq_true, if_false, if_true]

/-- A Burnisher's next location where it is no plate page: a controller's page, or a word, whose read in a tile's
scratchpad may meet a conflict of the same word or be repeated (R190, R341). -/
def Device.scrubNext (d : Device) (b : IntBlk) (clash : Option Clash) (bitmap : Bool) : Device :=
  match b with
  | .mc m => d.scrubLp m bitmap
  | .graver n =>
    let a := (d.scanFrom b (8192 * d.fld (F.INT_SCRUB_POS_BANK b.base) +
      d.fld (F.INT_SCRUB_POS_WORD b.base))).getD 0
    match clash with
    | some c => d.busy n c
    | none => if (d.tile n).held.any (heldBy a (· = 7)) then d.modTile n (fun t => t.unhold a (· = 7))
      else d.scrubSram b
  | _ => d.scrubSram b

/-- The field that enables the Burnisher of a block that is no plate memory. -/
def IntBlk.scrubEn (b : IntBlk) : Fld :=
  match b with
  | .mc m => F.MC_CTRL_SCRUB_EN m
  | _ => F.INT_CTRL_SCRUB_EN b.base

section
variable (vf : List Bool) (clash : Option Clash) (bitmap : Bool) (hon : d.isOn b.dom = true)
include hon

theorem scrubRead_plate {n : Fin 64} (hb : b = .plate n) (hen : d.flag (F.PLATE_SCRUB_EN b.base) = true)
    (h2 : d.fld (F.ETCH_FIX_STATUS_STATE n) ≠ 2) (h3 : d.fld (F.ETCH_FIX_STATUS_STATE n) ≠ 3) :
    d.scrubRead b vf clash bitmap = ({ d with verifyFails := vf } : Device).scrubPlate n := by
  subst hb
  refine (if_neg (not_bnot hon)).trans (if_pos ?_)
  rw [show ({ d with verifyFails := vf } : Device).flag (F.PLATE_SCRUB_EN (IntBlk.plate n).base) = true from hen]
  simp only [Bool.true_and, Bool.and_eq_true, decide_eq_true_eq]
  exact ⟨h2, h3⟩

section
variable (hplate : ∀ n, b ≠ .plate n) (hen : d.flag b.scrubEn = true)
include hplate hen

theorem scrubRead_queue (hcorr : d.corr b.base ≠ []) :
    d.scrubRead b vf clash bitmap = ({ d with verifyFails := vf } : Device).correction b := by
  have hqueue : (!(d.corr b.base).isEmpty) = true := by
    rw [Bool.not_eq_true', List.isEmpty_eq_false_iff]
    exact hcorr
  cases b with
  | plate n => exact absurd rfl (hplate n)
  | _ => exact (if_neg (not_bnot hon)).trans ((if_neg (not_bnot hen)).trans (if_pos hqueue))

theorem scrubRead_next (hcorr : d.corr b.base = []) :
    d.scrubRead b vf clash bitmap = ({ d with verifyFails := vf } : Device).scrubNext b clash bitmap := by
  have hqueue : ¬ (!(d.corr b.base).isEmpty) = true := not_bnot (List.isEmpty_iff.mpr hcorr)
  cases b with
  | plate n => exact absurd rfl (hplate n)
  | _ => exact (if_neg (not_bnot hon)).trans ((if_neg (not_bnot hen)).trans (if_neg hqueue))
end
end
end

/-- Settles O23: the writes of REMAP, LOG_CLEAR, INVAL_CMD and RAW_CMD are served by the path at the place of their
block's register, and each of the rest is the branch of its command's effect that the clause's conditions select. -/
theorem integrityCommandsComplete : Obligations.IntegrityCommandsComplete := by
  unfold Obligations.IntegrityCommandsComplete
  intro s ini
  refine ⟨fun b vf clash bitmap hon => ?_, fun b a rest hcorr hon => ?_, fun b k e v hadm hrow => ?_,
    fun b hadm => ?_, fun m hadm => ?_, fun m base len hfind => ?_, fun b vf hini hadm => ?_, fun m rate hon => ?_⟩
  · have hread := exec_scrubRead b vf clash bitmap s
    refine ⟨fun n hb hen h2 h3 => ?_, fun hplate hen hcorr => ?_, fun hplate hen hcorr => ?_⟩
    · exact hread.trans (next_after_congr s (scrubRead_plate vf clash bitmap hon hb hen h2 h3))
    · exact hread.trans (next_after_congr s (scrubRead_queue vf clash bitmap hon hplate hen hcorr))
    · refine hread.trans (next_after_congr s ((scrubRead_next vf clash bitmap hon hplate hen hcorr).trans ?_))
      cases b <;> rfl
  · have hback := exec_correctionWriteback b s
    refine ⟨fun x hx hue => ?_, fun hleft => ?_⟩
    · refine hback.trans (next_after_congr s ((correction_correctable hcorr hon hx hue).trans ?_))
      cases b <;> rfl
    · exact hback.trans (next_after_congr s (correction_left hcorr hon hleft))
  · have hwrite := exec_remapWrite ini b k e v s
    refine ⟨fun m hb hk => ?_, fun hb he => ?_⟩
    · subst hb
      exact hwrite.trans (next_after_congr s ((writeReg_mcRemap v m.isLt hk hadm hrow).trans
        (remapWrite_mcValid _ _ _ _ _ m v)))
    · refine hwrite.trans (next_after_congr s ((writeReg_remap v hb he hadm hrow).trans ?_))
      rw [remapWrite_valid _ _ _ _ _ (IntBlk.block_ne_mc hb), IntBlk.block_base]
  · refine (exec_logClear ini b s).trans (next_after_congr s ((writeReg_logClear b hadm).trans ?_))
    cases b <;> rfl
  · exact (exec_invalGo ini m s).trans (next_after_congr s (writeCmd_invalGo m hadm))
  · have hdone := exec_invalDone m s
    simp only [Device.invalDone, hfind] at hdone
    exact hdone
  · intro pad raw
    have hraw (cmd : Nat) (vf : List Bool) :
        s.dev.viaPath ini b.rawCmdAddr (fun _ d => d.rawCmd ini.num b.block cmd vf) = raw cmd vf := by
      refine (viaPath_rawCmd (fun d => d.rawCmd ini.num b.block cmd vf) hadm).trans ((if_neg (not_bnot hini)).trans ?_)
      cases b <;> rfl
    exact ⟨(exec_rawRead ini b s).trans (next_after_congr s (hraw 1 [])),
      (exec_rawWrite ini b vf s).trans (next_after_congr s (hraw 2 vf)),
      (exec_rawGet ini b s).trans (next_after_congr s (hraw 3 [])),
      (exec_rawPut ini b s).trans (next_after_congr s (hraw 4 []))⟩
  · have hoff := not_bnot hon
    exact ⟨(exec_refreshRatePoll m rate true s).trans (next_after_congr s ((if_neg hoff).trans (if_pos rfl))),
      (exec_refreshRatePoll m rate false s).trans (next_after_congr s
        ((if_neg hoff).trans (if_neg Bool.false_ne_true)))⟩

end Sys2Proof.Machine
end

section
/-! The schedules of the Hatch mesh: pointers at table entries, transfers, and the report of a router (R228 to R233, R237,
R244). -/

namespace Sys2Proof.Machine

section
variable {d : Device} {r p w : Nat} {out : Bool}

/-! ### Table entries (R229 to R231) -/

/-- A schedule pointer of router r at x, its status registers with it. -/
def Device.movePtr (d : Device) (r : Nat) (out : Bool) (p : Nat) (x : HPtr) : Device :=
  (d.modHr r (fun q => q.setPtr out p x)).showHr r

/-- A pointer ready at an entry of its KIND does what that entry does. -/
theorem schedule_atEntry {kind : Nat} (h : d.atEntry r out p kind w = true) (hkind : kind ≠ 3)
    (f : Device → Nat → HPtr → Device) : d.schedule r out p kind f = f d w ((d.hr r).ptr out p) := by
  simp only [Device.atEntry, Bool.and_eq_true, Bool.not_eq_true', decide_eq_true_eq] at h
  obtain ⟨⟨⟨⟨⟨⟨⟨⟨hframe, hen⟩, hdone⟩, herr⟩, hrun⟩, hin⟩, hue⟩, hword⟩, hk⟩ := h
  have hready : ¬ (!d.inFrame r || !((d.hr r).ptr out p).en || ((d.hr r).ptr out p).done || ((d.hr r).ptr out p).err ||
      ((d.hr r).ptr out p).run) = true := by
    simp [hframe, hen, hdone, herr, hrun]
  subst hword
  exact (if_neg hready).trans ((if_neg (Nat.not_le.2 hin)).trans ((if_neg (Bool.eq_false_iff.1 hue)).trans
    ((if_neg (hk.trans_ne hkind)).trans (if_pos hk))))

theorem slotRun_atEntry (h : d.atEntry r true p 1 w = true) (hsel : bits w 27 3 ≤ 4) :
    d.slotRun r p = d.movePtr r true p { (d.hr r).ptr true p with
      run := true, left := bits w 18 9 + 1, sel := bits w 27 3, desc := bits w 12 6, chan := bits w 0 12 } :=
  (schedule_atEntry h (by decide) _).trans (if_neg (Nat.not_lt.2 hsel))

theorem fanRun_atEntry (h : d.atEntry r false p 1 w = true) (hsel : bits w 25 5 ≠ 0) :
    d.fanRun r p = d.movePtr r false p { (d.hr r).ptr false p with
      run := true, left := bits w 9 9 + 1, sel := bits w 25 5 } :=
  (schedule_atEntry h (by decide) _).trans (if_neg hsel)

theorem slotEnd_atEntry (h : d.atEntry r out p 0 w = true) :
    d.slotEnd r out p = d.movePtr r out p { (d.hr r).ptr out p with done := true } :=
  schedule_atEntry h (by decide) _

/-- A pointer after a LOOP entry w of the outer level: back BODY entries while counter 0 is below N, else past the entry,
the counter at 0. -/
def HPtr.loopOuter (x : HPtr) (w : Nat) : HPtr :=
  if x.c0 < bits w 14 15 then { x with entry := x.entry - bits w 0 11, c0 := x.c0 + 1 }
  else { x with entry := x.entry + 1, c0 := 0 }

/-- A LOOP of the outer level has no LOOP to look for in its body. -/
theorem slotLoop_outer (h : d.atEntry r out p 2 w = true) (hlevel : bit w 29 = false) (hbody : bits w 0 11 ≠ 0)
    (hstart : (d.startOf r out p (d.fld F.HATCH_STATUS_DRAFT)).2 + bits w 0 11 ≤ ((d.hr r).ptr out p).entry) :
    d.slotLoop r out p = d.movePtr r out p (((d.hr r).ptr out p).loopOuter w) := by
  refine (schedule_atEntry h (by decide) _).trans ((if_neg ?_).trans (congrArg (d.movePtr r out p) ?_))
  · simp [hlevel, hbody, hstart]
  · by_cases hmore : ((d.hr r).ptr out p).c0 < bits w 14 15 <;> simp [HPtr.loopOuter, hlevel, hmore]

/-! ### Transfers (R227, R232) -/

section
variable {o i : Nat} {t : HTok}

/-- A copy of token t, the head of input i, put on output o of router s and counted; the first copy of a token that fails
its check tells of it. -/
def Device.copyOut (d : Device) (s o i desc : Nat) (t : HTok) : Device :=
  let e := if (!t.ok || decide (t.kind ≠ 0)) && (vget (d.hr s).taken i []).isEmpty then d.badToken s else d
  (e.hSend s o (mkTok 0 t.data) desc).countToken s o

/-- Whether the outputs `took` are all that input i of a router offers its token to. -/
def HRouter.allTook (q : HRouter) (i : Nat) (took : List Nat) : Bool :=
  (List.range 5).all (fun p => !bit (q.ptr false i).sel p || took.contains p)

/-- Input i of router s when the outputs `took` have its head token: with all of them it goes on to the next. -/
def Device.releaseIn (d : Device) (s i : Nat) (took : List Nat) (all : Bool) : Device :=
  if all then
    d.modHr s (fun r => ({ r with
      inq := vmod r.inq i List.tail, taken := vmod r.taken i (fun _ => []) } : HRouter).setPtr false i
      (r.ptr false i).oneLess)
  else d.modHr s (fun r => { r with taken := vmod r.taken i (fun _ => took) })

theorem takeSched_offered (hi : ((d.hr r).ptr true o).sel = i) (ht : (d.hr r).offered o i = some t) :
    d.takeSched r o =
      ((((d.copyOut r o i ((d.hr r).ptr true o).desc t).modHr r
        (fun q => q.setPtr true o ((d.hr r).ptr true o).oneLess)).releaseIn r i (o :: vget (d.hr r).taken i [])
          ((d.hr r).allTook i (o :: vget (d.hr r).taken i []))).progress).showHr r := by
  subst hi
  simp only [Device.takeSched, ht]
  rfl

/-- An output in its RUN with an empty link takes a token in SCHED. -/
theorem tokenTake_run (hon : d.hrOn r = true) (hempty : d.hOutEmpty r o = true) (hmode : d.hatch.mode = 2)
    (hframe : d.inFrame r = true) (hrun : ((d.hr r).ptr true o).run = true) : d.tokenTake r o = d.takeSched r o := by
  simp [Device.tokenTake, hon, hempty, hmode, hframe, hrun]

end

/-! ### Reports (R242) -/

/-- A port that is not enabled or has come to its END. -/
def HPtr.Over (x : HPtr) : Prop := x.en = false ∨ x.done = true

theorem HPtr.over_iff (x : HPtr) : x.Over ↔ (!x.en || x.done) = true := by
  simp [HPtr.Over]

/-- A router whose ports, links and endpoints are done reports. -/
theorem routerDone_over (hframe : d.inFrame r = true) (hfirst : (d.hr r).reported = false)
    (hends : d.endpointsDone r = true)
    (hports : ∀ p < 5, ((d.hr r).ptr true p).Over ∧ ((d.hr r).ptr false p).Over ∧ d.hOutEmpty r p = true) :
    d.routerDone r = d.modHr r (fun q => { q with reported := true, bad := q.bad || d.endpointsBad r }) := by
  refine if_pos ?_
  simp only [hframe, hfirst, hends, Bool.not_false, Bool.and_true, Bool.true_and, List.all_eq_true, List.mem_range,
    Bool.and_eq_true]
  intro p hp
  obtain ⟨hout, hin, hlink⟩ := hports p hp
  exact ⟨⟨(HPtr.over_iff _).1 hout, (HPtr.over_iff _).1 hin⟩, hlink⟩

end

/-- Settles O9: a pointer ready at an entry does what the entry's KIND does, an output in its RUN takes what its input
offers, and a report is a single branch. -/
theorem hatchSchedulesComplete : Obligations.HatchSchedulesComplete := by
  unfold Obligations.HatchSchedulesComplete
  intro s r
  refine ⟨fun p w h hsel => ?_, fun p w h hsel => ?_, fun out p w h hlevel => ?_, fun out p w h => ?_,
    fun o t hon hempty hmode hframe => ?_, fun hframe hfirst hends hports => ?_⟩
  · exact (exec_slotRun r p s).trans (next_after_congr s (slotRun_atEntry h hsel))
  · exact (exec_fanRun r p s).trans (next_after_congr s (fanRun_atEntry h hsel))
  · intro x body hbody hstart
    exact (exec_slotLoop r out p s).trans (next_after_congr s (slotLoop_outer h hlevel hbody hstart))
  · exact (exec_slotEnd r out p s).trans (next_after_congr s (slotEnd_atEntry h))
  · intro x i hrun ht
    exact (exec_tokenTake r o s).trans
      (next_after_congr s ((tokenTake_run hon hempty hmode hframe hrun).trans (takeSched_offered rfl ht)))
  · exact (exec_routerDone r s).trans (next_after_congr s (routerDone_over hframe hfirst hends hports))

end Sys2Proof.Machine
end

section
/-! Frames of the Hatch mesh: their ends and aborts, the mode, and broadcast load (R241, R242, R247 to R253). -/

namespace Sys2Proof.Machine

section
variable {d : Device}

/-! ### Aborts (R247, R248) -/

/-- The sentinel, not suspended, aborts a frame without progress for STALL_LIMIT. -/
theorem sentinelExpire_stalled (cuts : List Cut) (hframe : d.fld F.HATCH_STATUS_FSTATE = 2) (hoff : d.sentinelOff = false)
    (hlimit : d.hatch.limit ≤ d.hatch.idle) :
    d.sentinelExpire cuts =
      ((d.raiseBit F.HATCH_FAULT_STALL 0x0210 wholeDevice).stallChans).meshAbort 0x0210 cuts :=
  if_pos ⟨hframe, Bool.eq_false_iff.1 hoff, hlimit⟩

/-- A served write of ABORT runs with the instructions that it cuts short. -/
theorem viaPath_hatchAbort {ini : Ini} (f : Nat → Device → Device)
    (hadm : d.admits ini F.HATCH_CTRL_ABORT.addr = true) :
    d.viaPath ini F.HATCH_CTRL_ABORT.addr f = f (busOff F.HATCH_CTRL_ABORT.addr) d :=
  viaPath_at d ini _ f _ regAt_hatchCtrl (by decide) hadm

/-- An abort that meets no uncorrectable memory of a router or tile has none to rewrite from the image copy (log
entry 92). -/
theorem abortComplete_correctable (habort : d.fld F.HATCH_STATUS_FSTATE = 3) (hhrs : ∀ r < 112, (d.hr r).ue = false)
    (htiles : ∀ n < 32, d.progUe n = false) :
    d.abortComplete = d.abortOut.tripBoundary.meshAbortEnd.modeEnter d.abortOut := by
  have hnohrs : (List.range 112).filter (fun s => (d.hr s).ue) = [] :=
    List.filter_eq_nil_iff.2 fun r hr => Bool.eq_false_iff.1 (hhrs r (List.mem_range.1 hr))
  have hnotiles : (List.range 32).filter d.progUe = [] :=
    List.filter_eq_nil_iff.2 fun n hn => Bool.eq_false_iff.1 (htiles n (List.mem_range.1 hn))
  refine (if_neg (not_not.2 habort)).trans ?_
  rw [hnohrs, hnotiles]
  rfl

/-! ### CTRL.MODE and LOAD_CTRL (R251, R253) -/

theorem hatchMode_of_bits {v : Word} {mode : Nat} (h : bits v.toNat 0 2 = mode) :
    d.hatchMode v =
      let e := d.put F.HATCH_CTRL_MODE mode
      if e.frameOn then e else e.modeApply := by
  subst h
  rfl

/-- A served write of MODE that finds ABORT clear asks for no abort. -/
theorem writeFld_hatchMode {ini : Ini} (mode : BitVec 2) (hadm : d.admits ini F.HATCH_CTRL_MODE.addr = true)
    (habort : d.fld F.HATCH_CTRL_ABORT = 0) :
    d.writeFld ini F.HATCH_CTRL_MODE mode.toNat =
      let e := d.put F.HATCH_CTRL_MODE mode.toNat
      (if e.frameOn then e else e.modeApply).modeEnter d := by
  have hmode : bits (setBits (d.word F.HATCH_CTRL_MODE.addr) 0 2 mode.toNat).toNat 0 2 = mode.toNat :=
    (bits_setBits_same _ 0 2 _ (by decide)).trans (Nat.mod_eq_of_lt mode.isLt)
  have hkept : bits (setBits (d.word F.HATCH_CTRL_MODE.addr) 0 2 mode.toNat).toNat 2 1 = 0 :=
    (bits_setBits_other _ 0 2 _ 2 1 (by decide)).trans habort
  have hnone : ¬ bit (setBits (d.word F.HATCH_CTRL_MODE.addr) 0 2 mode.toNat).toNat 2 = true := by
    rw [bit_eq, hkept]
    decide
  exact (writeReg_hatchCtrl d ini _ hadm).trans ((if_neg hnone).trans (congrArg (·.modeEnter d) (hatchMode_of_bits hmode)))

/-- A served write of LOAD_CTRL takes its window and clears every LOAD_MAP. -/
theorem writeCmd_loadCtrl {ini : Ini} (win : BitVec 16) (hadm : d.admits ini F.HATCH_LOAD_CTRL.addr = true) :
    d.writeCmd ini F.HATCH_LOAD_CTRL win.toNat =
      (d.put F.HATCH_LOAD_CTRL win.toNat).each (List.range 112) (fun d r => d.clearRegs (hrBase r + 0x400) 0x100) := by
  have hwin : bits (setBits 0 0 16 win.toNat).toNat 0 16 = win.toNat :=
    (bits_setBits_same _ 0 16 _ (by decide)).trans (Nat.mod_eq_of_lt win.isLt)
  exact (writeReg_hatchLoadCtrl d ini _ hadm).trans
    (congrArg (fun v => (d.put F.HATCH_LOAD_CTRL v).each (List.range 112) _) hwin)

/-! ### Broadcast load (R250, R251) -/

/-- The block of 258 tokens that a router has received, its two headers and its data. -/
def Device.rxBlock (d : Device) (r : Nat) : List HTok := (d.hr r).rx.take 258
def blockHead (blk : List HTok) (k : Nat) : Nat := (blk.getD k ⟨0, 0, 0⟩).data
def blockData (blk : List HTok) : List Byte := (blk.drop 2).flatMap (fun t => leBytes 16 t.data)

/-- The block taken off the receiver and written at an offset of the router's window. -/
def Device.blockTaken (d : Device) (r : Nat) : Device :=
  (d.modHr r (fun q => { q with rx := q.rx.drop 258 })).loadWords (hrBase r + bits (blockHead (d.rxBlock r) 1) 0 32)
    (blockData (d.rxBlock r))

/-- The checks of a block that do not depend on the window: its links, the kinds of its tokens, its CRC. -/
def blockGood (blk : List HTok) : Prop :=
  (blk.all HTok.ok && (blk.take 2).all (fun t => t.kind = 1) && (blk.drop 2).all (fun t => t.kind = 2)) = true ∧
  (crcBytesLsb 0xEDB88320 0xFFFFFFFF (blockData blk)) ^^^ 0xFFFFFFFF = bits (blockHead blk 1) 64 32

/-- A block has come whole to a router in LOAD, for a memory in the router's own window. -/
structure Device.Received (d : Device) (r : Nat) : Prop where
  on : d.hrOn r = true
  mode : d.hatch.mode = 1
  whole : 258 ≤ (d.hr r).rx.length
  own : bit (blockHead (d.rxBlock r) 1) 32 = true
  page : bits (blockHead (d.rxBlock r) 1) 0 32 % 4096 = 0
  fits : bits (blockHead (d.rxBlock r) 1) 0 32 + 4096 ≤ 0x40000
  mem : (memAt (hrBase r + bits (blockHead (d.rxBlock r) 1) 0 32)).isSome = true

/-- A block of the present window that passes its checks is marked in LOAD_MAP (log entry 45). -/
theorem loadBlock_good {r : Nat} (h : d.Received r) (hgood : blockGood (d.rxBlock r))
    (hwin : bits (blockHead (d.rxBlock r) 0) 112 16 = (d.blockTaken r).fld F.HATCH_LOAD_CTRL) :
    d.loadBlock r =
      let k := bits (blockHead (d.rxBlock r) 1) 53 11
      (d.blockTaken r).put (F.HR_LOAD_MAP r (k / 32))
        ((d.blockTaken r).fld (F.HR_LOAD_MAP r (k / 32)) ||| 1 <<< (k % 32)) := by
  obtain ⟨hlinks, hcrc⟩ := hgood
  have hgo : ¬ (!d.hrOn r || decide (d.hatch.mode ≠ 1) || decide ((d.hr r).rx.length < 258)) = true := by
    simp [h.on, h.mode, Nat.not_lt.2 h.whole]
  have hown : bit (((d.hr r).rx.take 258).getD 1 ⟨0, 0, 0⟩).data 32 = true := h.own
  have hplace : ¬ (bits (blockHead (d.rxBlock r) 1) 0 32 % 4096 ≠ 0 ∨
      0x40000 < bits (blockHead (d.rxBlock r) 1) 0 32 + 4096 ∨
      ((memAt (hrBase r + bits (blockHead (d.rxBlock r) 1) 0 32)).isNone = true ∧
        (regRow (hrBase r + bits (blockHead (d.rxBlock r) 1) 0 32)).isNone = true)) := by
    simp [h.page, h.fits, Option.isSome_iff_ne_none.1 h.mem]
  refine (if_neg hgo).trans ?_
  simp only [hown, if_true]
  refine (if_neg hplace).trans (if_pos ?_)
  simp only [Bool.and_eq_true, decide_eq_true_eq] at hlinks ⊢
  exact ⟨⟨hlinks, hcrc⟩, hwin⟩

end

/-- Settles O11: the start, the end and the aborts of a frame are single branches once the conditions of each clause are
known, the registers are served by the path, and a block is written at its place by its own checks. -/
theorem hatchFramesComplete : Obligations.HatchFramesComplete := by
  unfold Obligations.HatchFramesComplete
  intro s
  refine ⟨fun hstart => ?_, fun hframe hdone => ?_, fun cuts hframe hoff hlimit => ?_, fun ini cuts hadm hframe => ?_,
    fun habort hhrs htiles => ?_, fun habort hlate => ?_, fun ini mode hadm habort => ?_, fun ini win hadm => ?_,
    fun r hon hmode hlen => ?_⟩
  · exact (exec_hatchFrameStart s).trans (next_after_congr s (if_neg (not_bnot hstart)))
  · exact (exec_frameComplete s).trans (next_after_congr s (if_pos ⟨hframe, hdone⟩))
  · exact (exec_stallSentinelExpire cuts s).trans (next_after_congr s (sentinelExpire_stalled cuts hframe hoff hlimit))
  · exact (exec_hatchAbort ini cuts s).trans (next_after_congr s ((viaPath_hatchAbort _ hadm).trans (if_pos hframe)))
  · exact (exec_abortComplete s).trans (next_after_congr s (abortComplete_correctable habort hhrs htiles))
  · exact (exec_rewindTimeout s).trans (next_after_congr s (if_pos ⟨habort, hlate⟩))
  · exact (exec_hatchModeWrite ini mode s).trans (next_after_congr s (writeFld_hatchMode mode hadm habort))
  · exact (exec_loadWindowWrite ini win s).trans (next_after_congr s (writeCmd_loadCtrl win hadm))
  · intro blk h0 h1 off data hown hpage hfits hmem hlinks hcrc e hwin
    exact (exec_loadBlockReceive r s).trans
      (next_after_congr s (loadBlock_good ⟨hon, hmode, hlen, hown, hpage, hfits, hmem⟩ ⟨hlinks, hcrc⟩ hwin))

end Sys2Proof.Machine
end

section
/-! Presses: the tokens they take, and the packets of trailers, annotations, readout, heartbeat and repeat path (R243,
R248, R288 to R302, R455). -/

namespace Sys2Proof.Machine

section
variable {d : Device} {k : Nat}

/-! ### Tokens (R243, R248, R290) -/

/-- The router that faces Press k. -/
def pressEdge (k : Nat) : Nat := 14 * (2 * k + 1) + 13

/-- A token stands at the port of Press k, which is ON and has room for it, in SCHED. -/
structure Device.PressOffered (d : Device) (k : Nat) : Prop where
  waits : (vget (d.hr (pressEdge k)).out pEast {}).req ≠ (vget (d.hr (pressEdge k)).out pEast {}).ack
  on : d.isOn (domPress k) = true
  row : d.hrOn (pressEdge k) = true
  mode : d.hatch.mode = 2
  room : d.pressRoom k = true

/-- Device d once the token at the port of Press k is taken up and has entered the digest. -/
def Device.pressTaken (d : Device) (k : Nat) : Device :=
  (d.hAck (pressEdge k) pEast).digTok k (tokOf (vget (d.hr (pressEdge k)).out pEast {}).data).data

namespace Device.PressOffered

/-- The checks before a token is taken pass. -/
theorem checks_pass (h : d.PressOffered k) (a x : Device) :
    (if (vget (d.hr (pressEdge k)).out pEast {}).req = (vget (d.hr (pressEdge k)).out pEast {}).ack ∨
        ¬ d.isOn (domPress k) = true ∨ ¬ d.hrOn (pressEdge k) = true ∨ d.hatch.mode ≠ 2 ∨ ¬ d.pressRoom k = true
      then a else x) = x := by
  simp [h.waits, h.on, h.row, h.mode, h.room]

/-- The token is taken up and dropped in an abort (R248); else it enters the digest (R456), and is counted on a repeat
path, an error without a list. -/
theorem pressTake_aborting (h : d.PressOffered k) (habort : d.aborting = true) :
    d.pressTake k = d.hAck (pressEdge k) pEast :=
  (h.checks_pass _ _).trans (if_pos habort)

theorem pressTake_repeat (h : d.PressOffered k) (habort : d.aborting = false)
    (hrep : (d.pressTaken k).flag (F.PRESS_REPEAT_EN k) = true) :
    d.pressTake k = (d.pressTaken k).bump (F.PRESS_DISCARD_TOK k) :=
  (h.checks_pass _ _).trans ((if_neg (Bool.eq_false_iff.1 habort)).trans (if_pos hrep))

theorem pressTake_unlisted (h : d.PressOffered k) (habort : d.aborting = false)
    (hrep : (d.pressTaken k).flag (F.PRESS_REPEAT_EN k) = false) (hlist : ((d.pressTaken k).press k).odOn = false) :
    d.pressTake k = ((d.pressTaken k).bump (F.PRESS_DISCARD_TOK k)).odError k :=
  (h.checks_pass _ _).trans ((if_neg (Bool.eq_false_iff.1 habort)).trans ((if_neg (Bool.eq_false_iff.1 hrep)).trans
    (if_pos ((Bool.not_eq_true' _).mpr hlist))))

end Device.PressOffered

/-! ### Readout and heartbeat (R292, R294) -/

/-- The checks before a readout group is sent pass once its last step is over, the Rack RUNNING where a queue is bound
(log entry 52). -/
theorem readout_checks_pass {qs : List Nat} {u : Nat} (hen : d.flag (F.PRESS_RO_CFG_EN k) = true)
    (hrep : d.flag (F.PRESS_REPEAT_EN k) = false) (hpassed : stepDiff d.openStep u < 2 ^ 31)
    (hrack : qs = [] ∨ d.fld F.RACK_STATUS_STATE = 2) (a x : Device) :
    (if !d.flag (F.PRESS_RO_CFG_EN k) || d.flag (F.PRESS_REPEAT_EN k) || !decide (stepDiff d.openStep u < 2 ^ 31) ||
        (!qs.isEmpty && decide (d.fld F.RACK_STATUS_STATE ≠ 2)) then a else x) = x := by
  simp only [hen, hrep, hpassed]
  rcases hrack with hnone | hrun
  · simp [hnone]
  · simp [hrun]

/-- The checks before a heartbeat is sent pass once its period is over. -/
theorem heartbeat_checks_pass (hen : d.flag (F.PRESS_HB_CFG_EN k) = true) (hrep : d.flag (F.PRESS_REPEAT_EN k) = false)
    (hlate : 100 * max 10 (d.fld (F.PRESS_HB_CFG_PERIOD k)) ≤ d.since (d.press k).hbAt) (a x : Device) :
    (if !d.flag (F.PRESS_HB_CFG_EN k) || d.flag (F.PRESS_REPEAT_EN k) ||
        decide (d.since (d.press k).hbAt < 100 * max 10 (d.fld (F.PRESS_HB_CFG_PERIOD k))) then a else x) = x := by
  simp [hen, hrep, Nat.not_lt.2 hlate]

end

/-- Settles O18: a token offered takes the branch of its clause, a trailer and annotations that are due go out, and a
readout group and a heartbeat go out once their checks pass. -/
theorem pressCommandsComplete : Obligations.PressCommandsComplete := by
  unfold Obligations.PressCommandsComplete
  intro s k edge
  refine ⟨?_, fun t ht => ?_, fun t rest hdue => ?_, fun g hnext hen hrep => ?_, fun hen hrep hlate => ?_,
    fun bytes pkts hrep => ?_⟩
  · intro l hwaits hon hrow hmode hroom v d p
    have hoff : s.dev.PressOffered k := ⟨hwaits, hon, hrow, hmode, hroom⟩
    have htake := exec_pressTokenTake k s
    refine ⟨fun habort => ?_, fun habort hrep => ?_, fun habort hrep hlist => ?_, fun habort hrep hlist => ?_⟩
    · exact htake.trans (next_after_congr s (hoff.pressTake_aborting habort))
    · exact htake.trans (next_after_congr s (hoff.pressTake_repeat habort hrep))
    · exact htake.trans (next_after_congr s (hoff.pressTake_unlisted habort hrep hlist))
    · exact htake.trans (next_after_congr s ((hoff.checks_pass _ _).trans ((if_neg (Bool.eq_false_iff.1 habort)).trans
        ((if_neg (Bool.eq_false_iff.1 hrep)).trans (if_neg (not_bnot hlist))))))
  · have hsend := exec_frameTrailerSend k s
    simp only [Device.frameTrailer, ht] at hsend
    exact hsend
  · have hsend := exec_annotationSend k s
    simp only [Device.annotationSend, hdue] at hsend
    exact hsend
  · intro len g0 qs hrack hpassed
    have hsend := exec_readoutGroup k s
    simp only [Device.readoutGroup, hnext] at hsend
    exact hsend.trans (next_after_congr s (readout_checks_pass hen hrep hpassed hrack _ _))
  · exact (exec_heartbeatSend k s).trans (next_after_congr s (heartbeat_checks_pass hen hrep hlate _ _))
  · exact (exec_repeatBurst k bytes pkts s).trans (next_after_congr s (if_pos hrep))

end Sys2Proof.Machine
end

section
/-! Packets received on a CSI-2 port, long, short and lost with a PHY error (R257 to R267, R274). -/

namespace Sys2Proof.Machine

/-- The port that the model names by a Tracer's number. -/
theorem rxPort_ofNat (n : Fin 8) : CsiPort.rx (Fin.ofNat 8 n) = .rx n :=
  congrArg CsiPort.rx (Fin.ext (Nat.mod_eq_of_lt n.isLt))

section
variable {d : Device} {n : Fin 8}

/-- The device in the burst that delivers a packet to Tracer n, its header counted where it was corrected. -/
def Device.inPacket (d : Device) (n : Fin 8) (c : Bool) : Device := (d.inBurst (.rx n)).corrected n c

/-- A packet discarded with a code: its counter, its error, and the loss of an open frame of its channel (R265). -/
def Device.lostPacket (d : Device) (n : Fin 8) (count f : Fld) (code vc dt wc : Nat) : Device :=
  ((d.bump count).rxError n f code vc dt wc).lossOn n vc code

/-! ### Long packets (R260 to R265) -/

section
variable {k : LongPkt}

/-- A long packet whose payload and CRC have arrived whole. -/
def LongPkt.Whole (k : LongPkt) : Prop := 16 ≤ k.dt.val ∧ k.wc.val + 2 ≤ k.payload.length + k.crcBytes.val

theorem longPacket_shortType (hlive : d.rxLive n = true) (hdt : k.dt.val < 16) :
    d.longPacket n k = (d.inPacket n k.corrected).lostPacket n (F.TRACER_DT_ERR n) (F.TRACER_LINK_ERR_DT n) 0x0605
      (d.rxChannel n k.vc) k.dt k.wc := by
  unfold Device.longPacket
  rw [rxPort_ofNat]
  exact (if_neg (not_bnot hlive)).trans (if_pos hdt)

theorem longPacket_cutOff (hlive : d.rxLive n = true) (hdt : 16 ≤ k.dt.val)
    (hcut : k.payload.length + k.crcBytes.val < k.wc.val + 2) :
    d.longPacket n k = (d.inPacket n k.corrected).lostPacket n (F.TRACER_WC_ERR n) (F.TRACER_LINK_ERR_WC n) 0x0604
      (d.rxChannel n k.vc) k.dt k.wc := by
  unfold Device.longPacket
  rw [rxPort_ofNat]
  exact (if_neg (not_bnot hlive)).trans ((if_neg (Nat.not_lt.2 hdt)).trans (if_pos hcut))

theorem longPacket_badCrc (hlive : d.rxLive n = true) (hwhole : k.Whole) (hcrc : k.crcOk = false) :
    d.longPacket n k = (d.inPacket n k.corrected).lostPacket n (F.TRACER_CRC_ERR n) (F.TRACER_LINK_ERR_CRC n) 0x0603
      (d.rxChannel n k.vc) k.dt k.wc := by
  obtain ⟨hdt, hlen⟩ := hwhole
  unfold Device.longPacket
  rw [rxPort_ofNat]
  exact (if_neg (not_bnot hlive)).trans ((if_neg (Nat.not_lt.2 hdt)).trans ((if_neg (Nat.not_lt.2 hlen)).trans
    (if_pos ((Bool.not_eq_true' _).mpr hcrc))))

/-- A whole packet whose CRC matched comes to the check of its type. -/
theorem wholeChecks_pass (hlive : d.rxLive n = true) (hwhole : k.Whole) (hcrc : k.crcOk = true) (a b c e x : Device) :
    (if !d.rxLive n then a else if k.dt.val < 16 then b
      else if k.payload.length + k.crcBytes.val < k.wc.val + 2 then c else if !k.crcOk then e else x) = x := by
  obtain ⟨hdt, hlen⟩ := hwhole
  exact (if_neg (not_bnot hlive)).trans ((if_neg (Nat.not_lt.2 hdt)).trans ((if_neg (Nat.not_lt.2 hlen)).trans
    (if_neg (not_bnot hcrc))))

/-- The role of the channel on which a long packet comes. -/
def Device.roleOf (d : Device) (n : Fin 8) (k : LongPkt) : Nat :=
  (d.inPacket n k.corrected).rxRole n (d.rxChannel n k.vc)

theorem longPacket_notAdmitted (hlive : d.rxLive n = true) (hwhole : k.Whole) (hcrc : k.crcOk = true)
    (hrole : d.roleOf n k = 3 ∨ admits (d.roleOf n k) k.dt = false) :
    d.longPacket n k = (d.inPacket n k.corrected).lostPacket n (F.TRACER_DT_ERR n) (F.TRACER_LINK_ERR_DT n) 0x0605
      (d.rxChannel n k.vc) k.dt k.wc := by
  have hbad := (Bool.or_eq_true _ _).mpr (hrole.imp decide_eq_true (Bool.not_eq_true' _).mpr)
  unfold Device.longPacket
  rw [rxPort_ofNat]
  exact (wholeChecks_pass hlive hwhole hcrc _ _ _ _ _).trans (if_pos hbad)

/-- Tracer n takes a long packet: it is live, the packet whole and of a type that the role of its channel admits. -/
structure Device.Takes (d : Device) (n : Fin 8) (k : LongPkt) : Prop where
  live : d.rxLive n = true
  whole : k.Whole
  crc : k.crcOk = true
  mapped : d.roleOf n k ≠ 3
  admitted : Machine.admits (d.roleOf n k) k.dt = true

/-- The device once Tracer n has counted a long packet on an open frame and kept its header (R261). -/
def Device.countedLong (d : Device) (n : Fin 8) (k : LongPkt) : Device :=
  (((d.inPacket n k.corrected).bump (F.TRACER_LONG_PKTS n)).countBytes (.rx n) k.wc).lastHdr n (d.rxChannel n k.vc)
    k.dt k.wc

/-- A packet of an open frame handed on by the role of its channel: to ingest, but for embedded data (R260), as a packet
of the partner's, or as part of an image. -/
def Device.handOn (d : Device) (n : Fin 8) (role vc : Nat) (k : LongPkt) : Device :=
  match role with
  | 0 => if k.dt.val = 0x12 then d
    else d.ingest n (.unit (d.streamOf n vc) vc k.dt (k.payload.take k.wc) d.timebase)
  | 1 => { d with mirrorRx := d.mirrorRx ++ [(n.val, k.payload.take k.wc)] }
  | _ => { d with imageRx := d.imageRx ++ [(n.val, k.payload.take k.wc)] }

namespace Device.Takes

theorem role_admits (h : d.Takes n k) :
    ¬ (decide (d.roleOf n k = 3) || !Machine.admits (d.roleOf n k) k.dt) = true := by
  simp [h.mapped, h.admitted]

/-- Null and blanking packets go no further (R260). -/
theorem longPacket_blank (h : d.Takes n k) (hdt : k.dt.val ≤ 0x11) :
    d.longPacket n k = d.inPacket n k.corrected := by
  unfold Device.longPacket
  rw [rxPort_ofNat]
  exact (wholeChecks_pass h.live h.whole h.crc _ _ _ _ _).trans ((if_neg h.role_admits).trans (if_pos hdt))

theorem longPacket_outsideFrame (h : d.Takes n k) (hdt : 0x12 ≤ k.dt.val)
    (hclosed : (d.inPacket n k.corrected).frameOpen n (d.rxChannel n k.vc) = false) :
    d.longPacket n k = (d.inPacket n k.corrected).syncError n (d.rxChannel n k.vc) k.dt k.wc := by
  unfold Device.longPacket
  rw [rxPort_ofNat]
  exact (wholeChecks_pass h.live h.whole h.crc _ _ _ _ _).trans ((if_neg h.role_admits).trans
    ((if_neg (Nat.not_le.2 hdt)).trans (if_pos ((Bool.not_eq_true' _).mpr hclosed))))

/-- On an open frame it is counted and handed on; an image is taken in RECOVERY alone. -/
theorem longPacket_inFrame (h : d.Takes n k) (hdt : 0x12 ≤ k.dt.val)
    (hopen : (d.inPacket n k.corrected).frameOpen n (d.rxChannel n k.vc) = true) :
    d.longPacket n k = if d.roleOf n k = 2 ∧ (d.inPacket n k.corrected).boot ≠ 9
      then (d.inPacket n k.corrected).bump (F.TRACER_DT_ERR n)
      else (d.countedLong n k).handOn n (d.roleOf n k) (d.rxChannel n k.vc) k := by
  unfold Device.longPacket
  rw [rxPort_ofNat]
  exact (wholeChecks_pass h.live h.whole h.crc _ _ _ _ _).trans ((if_neg h.role_admits).trans
    ((if_neg (Nat.not_le.2 hdt)).trans (if_neg (not_bnot hopen))))

end Device.Takes
end

/-! ### Short packets (R264, R265) -/

section
variable {k : ShortPkt}

/-- What a live port makes of a short packet of type dt: discarded where its channel does not admit the type, else
counted and noted, then f. -/
def Device.gotShort (d : Device) (n : Fin 8) (dt : Nat) (k : ShortPkt) (f : Device → Device) : Device :=
  let vc := d.rxChannel n k.vc
  let e := d.inPacket n k.corrected
  if e.rxRole n vc = 3 ∨ Machine.admits (e.rxRole n vc) dt = false
  then e.lostPacket n (F.TRACER_DT_ERR n) (F.TRACER_LINK_ERR_DT n) 0x0605 vc dt k.num
  else f ((e.bump (F.TRACER_SHORT_PKTS n)).lastHdr n vc dt k.num)

section
variable (hlive : d.rxLive n = true)
include hlive

theorem shortPacket_live (dt : Nat) (f : Device → Nat → Nat → Device) :
    d.shortPacket n dt k f = d.gotShort n dt k (f · (d.rxChannel n k.vc) k.num) := by
  unfold Device.shortPacket
  rw [rxPort_ofNat]
  refine (if_neg (not_bnot hlive)).trans ?_
  simp only [Bool.or_eq_true, decide_eq_true_eq, Bool.not_eq_true']
  rfl

/-- Frame Start opens a frame, one still open first closed as incomplete. -/
theorem frameStartPkt_live :
    d.frameStartPkt n k = d.gotShort n 0 k fun e =>
      let vc := d.rxChannel n k.vc
      let e := if e.frameOpen n vc then (e.syncError n vc 0 k.num).closeFrame n vc false else e
      (e.put (F.TRACER_FRAME_OPEN n) (e.fld (F.TRACER_FRAME_OPEN n) ||| 1 <<< vc)).modCsi (.rx n)
        (fun l => { l with frameNum := nput l.frameNum vc k.num }) := by
  unfold Device.frameStartPkt
  rw [rxPort_ofNat]
  exact shortPacket_live hlive 0 _

/-- Frame End closes the open frame, complete where its number is that of the Frame Start or either is zero. -/
theorem frameEndPkt_live :
    d.frameEndPkt n k = d.gotShort n 1 k fun e =>
      let vc := d.rxChannel n k.vc
      let e := e.bump (F.TRACER_FRAMES n)
      let first := nget (e.csi (.rx n)).frameNum vc
      if e.frameOpen n vc = false then e.syncError n vc 1 k.num
      else if k.num.val = first ∨ k.num.val = 0 ∨ first = 0 then e.closeFrame n vc true
      else (e.syncError n vc 1 k.num).closeFrame n vc false := by
  refine (shortPacket_live hlive 1 _).trans (congrArg (d.gotShort n 1 k) (funext fun e => ?_))
  by_cases hopen : (e.bump (F.TRACER_FRAMES n)).frameOpen n (d.rxChannel n k.vc) = true
  · exact (if_pos hopen).trans (if_neg (Bool.not_eq_false _ ▸ hopen)).symm
  · exact (if_neg hopen).trans (if_pos (Bool.eq_false_iff.2 hopen)).symm

/-- A line marker opens or closes a line of an open frame, or is out of sequence. -/
theorem lineMarker_live (isEnd : Bool) :
    d.lineMarker n isEnd k = d.gotShort n (2 + b2n isEnd) k fun e =>
      let vc := d.rxChannel n k.vc
      if e.frameOpen n vc = true ∧ (e.csi (.rx n)).lines.contains vc = isEnd then e.modCsi (.rx n) (fun l =>
        { l with lines := if isEnd then l.lines.filter (· ≠ vc) else vc :: l.lines })
      else e.syncError n vc (2 + b2n isEnd) k.num := by
  have htype : (if isEnd then 3 else 2) = 2 + b2n isEnd := by cases isEnd <;> rfl
  unfold Device.lineMarker
  rw [rxPort_ofNat, htype]
  refine (shortPacket_live hlive _ _).trans (congrArg (d.gotShort n _ k) (funext fun e => ?_))
  have hstop : (!e.frameOpen n (d.rxChannel n k.vc) ||
      (isEnd != (e.csi (.rx n)).lines.contains (d.rxChannel n k.vc))) = true ↔
      ¬ (e.frameOpen n (d.rxChannel n k.vc) = true ∧ (e.csi (.rx n)).lines.contains (d.rxChannel n k.vc) = isEnd) := by
    rw [Bool.or_eq_true, Bool.not_eq_true', bne_iff_ne, not_and_or, Bool.not_eq_true, ne_comm]
  exact (if_congr hstop rfl rfl).trans (ite_not _ _ _)

end
end
end

theorem phyBurstError_live {d : Device} {n : Fin 8} (header : Bool) (hlive : d.rxLive n = true) :
    d.phyBurstError n header =
      let code := if header then 0x0602 else 0x0601
      (((((d.bump (if header then F.TRACER_HDR_ERR n else F.TRACER_PHY_ERR n)).rxError n
        (if header then F.TRACER_LINK_ERR_HDR n else F.TRACER_LINK_ERR_PHY n) code 0 0 0).inBurst (.rx n)).modCsi
          (.rx n) (fun l => { l with dropRest := true })).lossAll n code) := by
  unfold Device.phyBurstError
  rw [rxPort_ofNat]
  refine (if_neg (not_bnot hlive)).trans ?_
  cases header <;> rfl

/-- Settles O15: each clause is the branch that the port's checks take. -/
theorem csiReceptionCompletes : Obligations.CsiReceptionCompletes := by
  unfold Obligations.CsiReceptionCompletes
  intro s n hlive p
  refine ⟨fun k => ?_, fun k => ?_, fun header => ?_⟩
  · intro vc dt wc d lost whole taken e
    have hlong := exec_longPacketReceive n k s
    have takes : taken → s.dev.Takes n k := fun ⟨hwhole, hcrc, hmap, hadm⟩ => ⟨hlive, hwhole, hcrc, hmap, hadm⟩
    refine ⟨fun hdt => ?_, fun hdt hcut => ?_, fun hwhole hcrc => ?_, fun hwhole hcrc hrole => ?_,
      fun ht hdt => ?_, fun ht hdt hclosed => ?_, fun ht hdt hopen => ?_⟩
    · exact hlong.trans (next_after_congr s (longPacket_shortType hlive hdt))
    · exact hlong.trans (next_after_congr s (longPacket_cutOff hlive hdt hcut))
    · exact hlong.trans (next_after_congr s (longPacket_badCrc hlive hwhole hcrc))
    · exact hlong.trans (next_after_congr s (longPacket_notAdmitted hlive hwhole hcrc hrole))
    · exact hlong.trans (next_after_congr s ((takes ht).longPacket_blank hdt))
    · exact hlong.trans (next_after_congr s ((takes ht).longPacket_outsideFrame hdt hclosed))
    · have hframe := (takes ht).longPacket_inFrame hdt hopen
      refine ⟨fun hrole => ?_, fun hrole => ?_, fun hrole => ?_⟩ <;>
        rw [show s.dev.roleOf n k = _ from hrole] at hframe
      · exact hlong.trans (next_after_congr s (hframe.trans (if_neg fun h => absurd h.1 (by decide))))
      · exact hlong.trans (next_after_congr s (hframe.trans (if_neg fun h => absurd h.1 (by decide))))
      · refine hlong.trans (next_after_congr s (hframe.trans ?_))
        by_cases hboot : d.boot = 9
        · exact (if_neg fun h => h.2 hboot).trans (if_pos hboot).symm
        · exact (if_pos ⟨rfl, hboot⟩).trans (if_neg hboot).symm
  · intro vc num d got wrong
    refine ⟨?_, ?_, fun isEnd => ?_, fun dt => ?_⟩
    · exact (exec_frameStartPacket n k s).trans (next_after_congr s ((if_pos hlive).trans
        (congrArg (Device.resyncCut · n vc num) (frameStartPkt_live hlive))))
    · exact (exec_frameEndPacket n k s).trans (next_after_congr s (frameEndPkt_live hlive))
    · exact (exec_lineMarkerPacket n isEnd k s).trans (next_after_congr s (lineMarker_live hlive isEnd))
    · exact (exec_genericShortPacket n dt k s).trans (next_after_congr s (shortPacket_live hlive _ _))
  · exact (exec_phyBurstError n header s).trans (next_after_congr s (phyBurstError_live header hlive))

end Sys2Proof.Machine
end

section
/-! The links of the CSI-2 ports: enabled and disabled, the stop state, wake, deskew, the packets of a Press and the
votes of quiet ports (R258, R259, R262, R267 to R271, R299, R352, R360). -/

namespace Sys2Proof.Machine

/-- The port that the model names by a Press's number. -/
theorem txPort_ofNat (k : Fin 4) : CsiPort.tx (Fin.ofNat 4 k) = .tx k :=
  congrArg CsiPort.tx (Fin.ext (Nat.mod_eq_of_lt k.isLt))

/-! ### LINK_CTRL (R258, R269) -/

/-- The place of LINK_CTRL of a port. -/
def CsiPort.loc : CsiPort → Loc
  | .rx n => ⟨.tracer, n, 0⟩
  | .tx k => ⟨.press, k, 0⟩

theorem regAt_linkCtrl (p : CsiPort) : regAt p.base p.loc = true := by
  cases p with
  | rx n => revert n; decide +kernel
  | tx k => revert k; decide +kernel

theorem writeReg_linkCtrl (d : Device) (ini : Ini) (p : CsiPort) (w : Word) (hadm : d.admits ini p.base = true) :
    d.writeReg ini p.base w = d.linkCtrlWrite ini.num p w (busOff (iniAddr ini p.base)) := by
  obtain ⟨r, -, h⟩ := writeReg_at d ini _ w _ (regAt_linkCtrl p) hadm
  rw [h]
  cases p with
  | rx n => exact dif_pos n.isLt
  | tx k => exact dif_pos k.isLt

/-- EN lies outside the fields of LINK_CTRL that a port keeps while it is enabled. -/
theorem setBits_en_and_ctrlMask (w : Word) (p : CsiPort) (v : Nat) :
    (setBits w 31 1 v).toNat &&& p.ctrlMask = w.toNat &&& p.ctrlMask := by
  have hmask : p.ctrlMask.testBit 31 = false := by
    unfold CsiPort.ctrlMask
    cases p.isTx <;> decide
  refine Nat.eq_of_testBit_eq fun i => ?_
  rw [Nat.testBit_and, Nat.testBit_and, BitVec.testBit_toNat, BitVec.testBit_toNat, getLsbD_setBits]
  by_cases hi : i = 31
  · rw [hi, hmask, Bool.and_false, Bool.and_false]
  · rw [if_neg (by omega)]

theorem bit_setBits_en (w : Word) {v : Nat} (hv : v < 2) : bit (setBits w 31 1 v).toNat 31 = decide (v = 1) := by
  rw [bit_eq, bits_setBits_same _ _ _ _ (by decide), Nat.mod_eq_of_lt (by omega)]

section
variable {d : Device} {ini : Ini} {p : CsiPort}

/-- LINK_CTRL as a port that is off takes a write of EN: its other fields as they stand, EN as it was. -/
def Device.ctrlKept (d : Device) (p : CsiPort) (v : Nat) : Device :=
  (d.putWord p.base (BitVec.ofNat 32 (((setBits (d.word p.base) 31 1 v).toNat &&& p.ctrlMask) +
    bits (d.word p.base).toNat 31 1 <<< 31))).showStop p

/-- A write of EN at a port that is enabled: EN = 1 withdraws a waiting disable, EN = 0 waits for the end of a burst. -/
theorem linkCtrlWrite_enabled (hon : d.flag p.enabled = true) (num v off : Nat) :
    d.linkCtrlWrite num p (setBits (d.word p.base) 31 1 v) off =
      if bit (setBits (d.word p.base) 31 1 v).toNat 31
      then (d.put p.en 1).modCsi p (fun l => { l with pendDis := none })
      else
        let e := d.put p.en 0
        if e.flag p.hs then e.modCsi p (fun l => { l with pendDis := some e.timebase }) else e.csiOff p := by
  simp only [Device.linkCtrlWrite, setBits_en_and_ctrlMask, hon, ne_eq, not_true_eq_false, decide_false, if_true,
    Bool.false_eq_true, if_false]

/-- A write of EN at a port that is off: EN = 1 is checked and waits for the stop state, EN = 0 withdraws it. -/
theorem linkCtrlWrite_off (hoff : d.flag p.enabled = false) (num v off : Nat) :
    d.linkCtrlWrite num p (setBits (d.word p.base) 31 1 v) off =
      let e := d.ctrlKept p v
      if bit (setBits (d.word p.base) 31 1 v).toNat 31 then
        if e.csiRefused p then ((e.put p.en 0).put p.cfgErr 1).raiseBit p.errCfg 0x0607 p.unit
        else ((e.put p.en 1).put p.cfgErr 0).modCsi p (fun l => { l with pendEn := true, pendDis := none })
      else (e.put p.en 0).modCsi p (fun l => { l with pendEn := false }) := by
  simp only [Device.linkCtrlWrite, hoff, Bool.false_eq_true, if_false]
  rfl

theorem writeFld_linkEn (v : Nat) (hadm : d.admits ini p.en.addr = true) :
    d.writeFld ini p.en v = d.linkCtrlWrite ini.num p (setBits (d.word p.base) 31 1 v) (busOff (iniAddr ini p.base)) :=
  writeReg_linkCtrl d ini p _ hadm

end

/-! ### The stop state (R269) -/

section
variable {d : Device}

/-- A port whose lanes are in the stop state, its burst over. -/
def Device.stopped (d : Device) (p : CsiPort) : Device :=
  ((d.put p.hs 0).put p.stop (2 ^ (d.fld p.width + 1) - 1)).modCsi p
    (fun l => { l with dropRest := false, burstAt := d.timebase })

/-- A waiting enable taken into force: a Press fixes its rate, and starts with a deskew sequence in D-PHY at 1,500 Mbps
and above (R259). -/
def Device.linkUp (d : Device) (p : CsiPort) : Device :=
  let on := (d.put p.enabled 1).modCsi p (fun l => { l with pendEn := false, deskewAt := d.timebase })
  match p with
  | .rx _ => on
  | .tx k =>
    let e := on.put p.rateActual (on.fld p.rate / 10 * 10)
    if e.flag p.cphy = false ∧ 1500 ≤ e.fld p.rate then e.modPress k (fun x => { x with deskews := x.deskews + 1 })
    else e

theorem lp11_eq (p : CsiPort) :
    d.lp11 p =
      let e := d.stopped p
      if (e.csi p).pendDis.isSome then e.csiOff p
      else if (e.csi p).pendEn && e.isOn p.dom then e.linkUp p
      else e := by
  cases p with
  | rx n => simp only [Device.lp11, Bool.and_eq_true]; rfl
  | tx k => simp only [Device.lp11, Bool.and_eq_true, Bool.not_eq_true', decide_eq_true_eq]; rfl

/-- A port takes the stop state but for a Press that has packets to send in its burst (R262). -/
theorem stopState_lp11 {p : CsiPort} (hidle : ∀ k, p = .tx k →
    (d.flag p.enabled = false ∨ d.flag p.hs = false ∨ (d.press k).txq = [])) : d.stopState p = d.lp11 p := by
  cases p with
  | rx n => rfl
  | tx k =>
    have hpass : ¬ (d.flag (CsiPort.tx k).enabled && d.flag (CsiPort.tx k).hs && !(d.press k).txq.isEmpty) = true := by
      rcases hidle k rfl with h | h | h <;> simp [h]
    exact if_neg hpass

/-- The device with a packet partly received on a port discarded and counted (R269). -/
def Device.partLost (d : Device) (p : CsiPort) (part : Option PartPkt) : Device :=
  match p, part with
  | .rx n, some k =>
    let vc := d.rxChannel n k.vc.val
    ((d.bump (F.TRACER_WC_ERR n)).rxError n (F.TRACER_LINK_ERR_WC n) 0x0604 vc k.dt k.wc).lossOn n vc 0x0604
  | _, _ => d

/-- A disable that has waited 10,000 ticks. -/
theorem linkDisableTimeout_late {p : CsiPort} {t : Nat} (part : Option PartPkt) (hwait : (d.csi p).pendDis = some t)
    (hlate : 10000 ≤ d.since t) : d.linkDisableTimeout p part = (d.partLost p part).csiOff p := by
  simp only [Device.linkDisableTimeout, hwait, if_neg (Nat.not_lt.2 hlate)]
  rfl

/-! ### Wake and deskew (R259, R265, R267) -/

theorem setDom_timebase (d : Device) (i v : Nat) : (d.setDom i v).timebase = d.timebase := by
  unfold Device.setDom
  split <;> rfl

theorem settle_timebase (d : Device) (i : Nat) : (d.settle i).timebase = d.timebase := by
  unfold Device.settle
  cases (d.dom i).phase with
  | steady => simp only [apply_ite Device.timebase, modDom_timebase, ite_self]
  | hold t from_ => simp only [apply_ite Device.timebase, modDom_timebase, ite_self]
  | quiesce t from_ forced => simp only [apply_ite Device.timebase, modDom_timebase, setDom_timebase, ite_self]
  | _ => rfl

theorem setVote_timebase (d : Device) (c i v : Nat) : (d.setVote c i v).timebase = d.timebase := by
  unfold Device.setVote
  split
  · rfl
  · exact settle_timebase _ i

theorem laneWake_asleep {n : Fin 8} (hoff : d.isOn (domTracer n) = false) :
    d.laneWake n =
      let e := ((d.modPower (fun q => { q with gated := false })).setVote (8 + n) (domTracer n) 2).bump
        (F.TRACER_WAKE_LOST n)
      let e := e.modTracer n (fun t => { t with link := { t.link with burstAt := e.timebase } })
      if mapGet (fun _ => false) e.spent (F.TRACER_WAKE_LOST n).addr then e
      else (e.put (F.TRACER_LINK_ERR_WAKE n) 1).raiseFirst (F.TRACER_WAKE_LOST n) 0x0608 n := by
  refine (if_neg (Bool.eq_false_iff.1 hoff)).trans ?_
  simp only [bump_timebase, setVote_timebase]

/-- What Tracer n makes of a deskew sequence: it is enabled and ON, in D-PHY at 1,500 Mbps and above. -/
theorem deskewReceive_due {n : Fin 8} (hen : d.flag (CsiPort.rx n).enabled = true) (hon : d.isOn (domTracer n) = true)
    (hdphy : d.flag (CsiPort.rx n).cphy = false) (hrate : 1500 ≤ d.fld (CsiPort.rx n).rate) (ok : Bool) :
    d.deskewReceive n ok =
      if ok then (d.put (CsiPort.rx n).deskewed 1).modCsi (.rx n) (fun l => { l with trained := true })
      else ((((d.put (CsiPort.rx n).deskewed 0).bump (F.TRACER_PHY_ERR n)).rxError n (F.TRACER_LINK_ERR_PHY n)
        0x0601 0 0 0).modCsi (.rx n) (fun l => { l with dropRest := true })).lossAll n 0x0601 := by
  unfold Device.deskewReceive
  rw [rxPort_ofNat]
  exact if_pos (by simp [hen, hon, hdphy, hrate])

/-- Press k sends a deskew sequence once its period is over. -/
theorem periodicDeskew_due {k : Fin 4} (hen : d.flag (CsiPort.tx k).enabled = true) (hon : d.isOn (domPress k) = true)
    (hdphy : d.flag (CsiPort.tx k).cphy = false) (hrate : 1500 ≤ d.fld (CsiPort.tx k).rate)
    (hus : d.fld (F.PRESS_LINK_TIMING_DESKEW_PERIOD k) ≠ 0)
    (hlate : 100 * d.fld (F.PRESS_LINK_TIMING_DESKEW_PERIOD k) ≤ d.since (d.csi (.tx k)).deskewAt) :
    d.periodicDeskew k = (d.modCsi (.tx k) (fun l => { l with deskewAt := d.timebase })).modPress k
      (fun x => { x with deskews := x.deskews + 1 }) := by
  unfold Device.periodicDeskew
  rw [txPort_ofNat]
  exact if_pos (by simp [hen, hon, hdphy, hrate, hus, hlate])

/-! ### Packets of a Press (R262, R299) -/

/-- Press k with its oldest packet taken off its queue in a burst. -/
def Device.txTaken (d : Device) (k : Fin 4) (rest : List TxPkt) : Device :=
  (d.inBurst (.tx k)).modPress k (fun q => { q with txq := rest, quietAt := d.timebase })

/-- A short packet sent on channel vc: counted, a Frame End also as a frame, with its header. -/
def Device.sentShort (d : Device) (k : Fin 4) (vc : Nat) (x : TxPkt) : Device :=
  let e := d.bump (F.PRESS_SHORT_PKTS k)
  let e := e.modPress k (fun q => { q with sent := wireHeader (e.flag (CsiPort.tx k).cphy) vc x.dt x.num })
  if x.dt = 1 then e.bump (F.PRESS_FRAMES k) else e

/-- A long packet sent on channel vc with its header and its CRC, as zeros where a word of the buffer is uncorrectable
(R299). -/
def Device.sentLong (d : Device) (k : Fin 4) (vc : Nat) (x : TxPkt) (ue : Bool) : Device :=
  let zero := ue && !x.body.isEmpty
  let body := if zero then List.replicate x.body.length 0 else x.body
  let e := if zero then
      ((d.bufferUe (pressBase k) k 0).raiseBit (F.PRESS_PR_FAULT_UE k) 0x0616 k).modPress k
        (fun q => { q with bad := true })
    else d
  ((e.bump (F.PRESS_LONG_PKTS k)).countBytes (.tx k) body.length).modPress k (fun q => { q with
    sent := wireHeader (e.flag (CsiPort.tx k).cphy) vc x.dt body.length ++ body ++ csiCrc body })

/-- Counting short packets leaves the PHY mode. -/
theorem cphy_bump_shortPkts (d : Device) (k : Fin 4) :
    (d.bump (F.PRESS_SHORT_PKTS k)).flag (CsiPort.tx k).cphy = d.flag (CsiPort.tx k).cphy := by
  have haddr : (CsiPort.tx k).cphy.addr ≠ (F.PRESS_SHORT_PKTS k).addr := by
    change 0x0310000000 + 0x1000000 * k.val ≠ 0x0310000024 + 0x1000000 * k.val
    omega
  exact congrArg (· != 0) (fld_put_addr d _ _ _ haddr)

/-- A Press that is enabled and ON and has no repeat path sends its oldest packet, and ends its burst with the last. -/
theorem packetTransmit_head {k : Fin 4} {x : TxPkt} {rest : List TxPkt} (ue : Bool)
    (hen : d.flag (CsiPort.tx k).enabled = true) (hon : d.isOn (domPress k) = true) (hq : (d.press k).txq = x :: rest)
    (hrep : d.flag (F.PRESS_REPEAT_EN k) = false) :
    d.packetTransmit k ue =
      let e := d.txTaken k rest
      let vc := if e.flag (CsiPort.tx k).vcx then x.vc else x.vc % 4
      let e := if x.dt < 16 then e.sentShort k vc x else e.sentLong k vc x ue
      if rest.isEmpty then e.lp11 (.tx k) else e := by
  have hgo : ¬ (!d.flag (CsiPort.tx k).enabled || !d.isOn (domPress k) || d.flag (F.PRESS_REPEAT_EN k)) = true := by
    simp [hen, hon, hrep]
  unfold Device.packetTransmit
  rw [txPort_ofNat]
  simp only [hq, if_neg hgo, Device.sentShort, cphy_bump_shortPkts]
  rfl

/-! ### Votes of quiet ports (R352) -/

theorem arrHold_rx {n : Fin 8} (hhs : d.flag (F.TRACER_LINK_STATUS_HS n) = false)
    (hlive : d.stState = 0 ∨ d.srcEn (64 + n) = false) (hrxq : (d.tracer n).rxq = []) (hevq : (d.tracer n).evq = [])
    (hunits : ∀ k < 4, (d.stream n k).units = []) (hlate : d.fld F.PWR_ARR_HOLD ≤ d.since (d.tracer n).link.burstAt) :
    d.arrHold (.rx n) = d.setVote (8 + n) (domTracer n) 0 := by
  have hnone : (List.range 4).any (fun k => !(d.stream n k).units.isEmpty) = false :=
    List.any_eq_false.2 fun k hk => by simp [hunits k (List.mem_range.1 hk)]
  have hstill : (decide (d.stState ≠ 0) && d.srcEn (64 + n)) = false := by
    rcases hlive with h | h <;> simp [h]
  refine if_neg ?_
  simp only [hhs, hstill, hrxq, hevq, hnone, Nat.not_lt.2 hlate]
  decide

theorem arrHold_tx {k : Fin 4} (htxq : (d.press k).txq = []) (htrailer : (d.press k).trailer = none)
    (hann : (d.press k).annDue = []) (hstatus : d.fld (F.PRESS_PR_STATUS k) = 0)
    (hlate : d.fld F.PWR_ARR_HOLD ≤ d.since (d.press k).quietAt) :
    d.arrHold (.tx k) = d.setVote (16 + k) (domPress k) 0 := by
  refine if_neg ?_
  simp only [htxq, htrailer, hann, hstatus, Nat.not_lt.2 hlate]
  decide

end

/-- Settles O16: a write of LINK_CTRL is served by the path, and each of the rest is the branch that its conditions
select. -/
theorem csiLinksComplete : Obligations.CsiLinksComplete := by
  unfold Obligations.CsiLinksComplete
  intro s ini p
  refine ⟨fun hadm => ?_, fun hidle => ?_, fun t part hwait hlate => ?_, fun n hoff => ?_,
    fun n hen hon hdphy hrate => ?_, fun k hen hon => ⟨fun hdphy hrate hus hlate => ?_, fun x rest ue hq hrep => ?_⟩,
    fun n hhs hlive hrxq hevq hunits hlate => ?_, fun k htxq htrailer hann hstatus hlate => ?_⟩
  · have henable := (exec_linkEnable ini p s).trans (next_after_congr s (writeFld_linkEn 1 hadm))
    have hdisable := (exec_linkDisable ini p s).trans (next_after_congr s (writeFld_linkEn 0 hadm))
    have hone : bit (setBits (s.dev.word p.base) 31 1 1).toNat 31 = true := bit_setBits_en _ (by decide)
    have hzero : ¬ bit (setBits (s.dev.word p.base) 31 1 0).toNat 31 = true :=
      Bool.eq_false_iff.1 (bit_setBits_en _ (by decide))
    refine ⟨fun hon => ⟨?_, ?_⟩, fun hoff => ⟨?_, ?_⟩⟩
    · exact henable.trans (next_after_congr s ((linkCtrlWrite_enabled hon _ _ _).trans (if_pos hone)))
    · exact hdisable.trans (next_after_congr s ((linkCtrlWrite_enabled hon _ _ _).trans (if_neg hzero)))
    · exact henable.trans (next_after_congr s ((linkCtrlWrite_off hoff _ _ _).trans (if_pos hone)))
    · exact hdisable.trans (next_after_congr s ((linkCtrlWrite_off hoff _ _ _).trans (if_neg hzero)))
  · refine (exec_lp11StopState p s).trans (next_after_congr s ((stopState_lp11 hidle).trans ((lp11_eq p).trans ?_)))
    cases p <;> rfl
  · exact (exec_linkDisableTimeout p part s).trans (next_after_congr s (linkDisableTimeout_late part hwait hlate))
  · exact (exec_laneActivityWake n s).trans (next_after_congr s (laneWake_asleep hoff))
  · exact ⟨(exec_deskewReceive n true s).trans (next_after_congr s (deskewReceive_due hen hon hdphy hrate true)),
      (exec_deskewReceive n false s).trans (next_after_congr s (deskewReceive_due hen hon hdphy hrate false))⟩
  · exact (exec_periodicDeskew k s).trans (next_after_congr s (periodicDeskew_due hen hon hdphy hrate hus hlate))
  · exact (exec_packetTransmit k ue s).trans (next_after_congr s (packetTransmit_head ue hen hon hq hrep))
  · exact (exec_arrHoldExpire (.rx n) s).trans
      (next_after_congr s (arrHold_rx hhs hlive hrxq hevq hunits hlate))
  · exact (exec_arrHoldExpire (.tx k) s).trans (next_after_congr s (arrHold_tx htxq htrailer hann hstatus hlate))

end Sys2Proof.Machine
end

section
/-! Queue commands of DQ_CMD: what a write of it makes of the queue of DQ_SEL at a RUNNING Rack (R305, R306, R313, R314,
R322). -/

namespace Sys2Proof.Machine

/-- A command written to DQ_CMD answers what the command makes of the device. -/
theorem next_dqCmd {s : State} {ini : Ini} {w : Word} {e : Device} (ha : s.dev.admits ini 0x0320000104 = true)
    (h : s.dev.dqCmdWrite ini.num (bits w.toNat 0 4) = e) :
    (Host.Outcome.next (s.after (s.dev.writeReg ini 0x0320000104 w)) : Host.Outcome State Fault Refusal) =
      .next (s.after e) :=
  next_after_congr s ((writeReg_rackDq s.dev ini w ha).trans h)

theorem Ini.num_ne_zero (ini : Ini) : ini.num ≠ 0 := by
  cases ini <;> simp [Ini.num]

/-- A queue is in use while its descriptor is valid and not frozen. -/
theorem desc_inUse (e : Desc) : (e.valid && !e.frozen) = true ↔ e.valid = true ∧ e.frozen = false := by
  rw [Bool.and_eq_true, Bool.not_eq_true']

section
variable {d : Device} {i : Nat} (hrun : d.fld F.RACK_STATUS_STATE = 2)
include hrun

/-- A queue command at a RUNNING Rack acts on the queue of DQ_SEL. -/
theorem dq_running (f : Device → Nat → Device) : d.dq i f = f d (d.fld (F.RACK_DQ_SEL i)) :=
  if_neg (not_not.2 hrun)

theorem dqRead_running :
    d.dqRead i =
      let f := d.fetchDesc (d.fld (F.RACK_DQ_SEL i))
      ((((f.1.put (F.RACK_DQ_DATA 0 i) f.2.w0).put (F.RACK_DQ_DATA 1 i) f.2.w1).put (F.RACK_DQ_DATA 2 i) f.2.w2).put
        (F.RACK_DQ_DATA 3 i) f.2.w3).dqResult i 0 :=
  dq_running hrun _

theorem dqInit_running :
    d.dqInit i =
      let q := d.fld (F.RACK_DQ_SEL i)
      let f := d.fetchDesc q
      let x : Desc := ⟨f.1.fld (F.RACK_DQ_DATA 0 i), f.1.fld (F.RACK_DQ_DATA 1 i), f.1.fld (F.RACK_DQ_DATA 2 i),
        f.1.fld (F.RACK_DQ_DATA 3 i)⟩
      if f.2.valid = true ∧ f.2.frozen = false then f.1.dqResult i 1
      else if f.1.descOk x = true then
        (((f.1.setDesc q (x.setW1 29 1 0)).dropResvs q).modRack (fun k =>
          { k with seqs := nput k.seqs q 0, peeks := k.peeks.filter (fun p => p.2 ≠ q) })).dqResult i 0
      else f.1.dqResult i 2 :=
  (dq_running hrun _).trans (if_congr (desc_inUse _) rfl rfl)

theorem dqDisable_running :
    d.dqDisable i =
      let q := d.fld (F.RACK_DQ_SEL i)
      let f := d.fetchDesc q
      (((f.1.setDesc q (f.2.setW1 31 1 0)).frozenWaits q).dropResvs q).dqResult i 0 :=
  dq_running hrun _

theorem dqClaim_running (lo : Nat) :
    d.dqClaim lo i =
      let q := d.fld (F.RACK_DQ_SEL i)
      let f := d.fetchDesc q
      if bits f.2.w1 lo 7 = 0 ∧ f.1.declared i = false then (f.1.setDesc q (f.2.setW1 lo 7 i)).dqResult i 0
      else f.1.dqResult i 3 :=
  (dq_running hrun _).trans (if_congr (and_congr_right' (Bool.not_eq_true _).to_iff) rfl rfl)

/-- An initiator with a number gives up the claim that it holds. -/
theorem dqRelease_running (lo : Nat) (hi : i ≠ 0) :
    d.dqRelease lo i =
      let q := d.fld (F.RACK_DQ_SEL i)
      let f := d.fetchDesc q
      if bits f.2.w1 lo 7 = i then (f.1.setDesc q (f.2.setW1 lo 7 0)).dqResult i 0 else f.1.dqResult i 3 :=
  (dq_running hrun _).trans (if_congr (and_iff_left hi) rfl rfl)

/-- Hardground alone revokes a claim. -/
theorem dqRevoke_running (producer : Bool) :
    d.dqRevoke producer i =
      let q := d.fld (F.RACK_DQ_SEL i)
      let f := d.fetchDesc q
      if i = iniHg then (if producer then f.1.revokeP q else f.1.revokeC q).dqResult i 0 else d.dqResult i 4 := by
  by_cases hi : i = iniHg
  · exact (if_neg (not_not.2 hi)).trans ((dq_running hrun _).trans (if_pos hi).symm)
  · exact (if_pos hi).trans (if_neg hi).symm

theorem dqFlushOne_running : d.dqFlushOne i = (d.flushQueue (d.fld (F.RACK_DQ_SEL i))).dqResult i 0 :=
  dq_running hrun _

end

/-- Settles O20: each code of DQ_CMD is served as its command at a RUNNING Rack. -/
theorem rackDescriptorCommandsComplete : Obligations.RackDescriptorCommandsComplete := by
  unfold Obligations.RackDescriptorCommandsComplete
  intro s ini ha hrun i q d e
  have hi : i ≠ 0 := ini.num_ne_zero
  refine ⟨?_, ?_, ?_, ?_, ?_, ?_, ?_, ?_, ?_, ?_⟩
  · exact (exec_dqRead ini s).trans (next_dqCmd ha (dqRead_running hrun))
  · exact (exec_dqInit ini s).trans (next_dqCmd ha (dqInit_running hrun))
  · exact (exec_dqDisable ini s).trans (next_dqCmd ha (dqDisable_running hrun))
  · exact (exec_claimP ini s).trans (next_dqCmd ha (dqClaim_running hrun 17))
  · exact (exec_claimC ini s).trans (next_dqCmd ha (dqClaim_running hrun 10))
  · exact (exec_releaseP ini s).trans (next_dqCmd ha (dqRelease_running hrun 17 hi))
  · exact (exec_releaseC ini s).trans (next_dqCmd ha (dqRelease_running hrun 10 hi))
  · exact (exec_revokeP ini s).trans (next_dqCmd ha (dqRevoke_running hrun true))
  · exact (exec_revokeC ini s).trans (next_dqCmd ha (dqRevoke_running hrun false))
  · exact (exec_flushOne ini s).trans (next_dqCmd ha (dqFlushOne_running hrun))

end Sys2Proof.Machine
end

section
/-! Software commands of SW_CMD: reservations, and the record at the head of a queue, at a RUNNING Rack (R308, R311,
R313, R318 to R320). -/

namespace Sys2Proof.Machine

/-- A command written to SW_CMD answers what the command makes of the device. -/
theorem next_swCmd {s : State} {ini : Ini} {w : Word} {e : Device} (ha : s.dev.admits ini 0x0320000120 = true)
    (h : s.dev.swCmdWrite ini.num (bits w.toNat 0 3) = e) :
    (Host.Outcome.next (s.after (s.dev.writeReg ini 0x0320000120 w)) : Host.Outcome State Fault Refusal) =
      .next (s.after e) :=
  next_after_congr s ((writeReg_rackSw s.dev ini w ha).trans h)

/-- A command at the head of a queue: refused for another's claim, EMPTY where there is nothing to take, an error at a
damaged record, and else what it makes of the DATA record there. -/
def Device.atHead (d : Device) (q i : Nat) (onData : Device → (pos h0 h1 : Nat) → Device) : Device :=
  match d.consumeCheck q i with
  | (d, some .refused) => d.swErr i 3
  | (d, some _) => d.put (F.RACK_SW_STATUS_EMPTY i) 1
  | (d, none) =>
    match d.headRec q with
    | (d, .empty) => d.put (F.RACK_SW_STATUS_EMPTY i) 1
    | (d, .bad _) => d.swErr i 1
    | (d, .data pos h0 h1) => onData d pos h0 h1

theorem atHead_eq (d : Device) (q i : Nat) (onData : Device → (pos h0 h1 : Nat) → Device) :
    d.atHead q i onData =
      let c := d.consumeCheck q i
      let h := c.1.headRec q
      if c.2.isSome then (if c.2 = some .refused then c.1.swErr i 3 else c.1.put (F.RACK_SW_STATUS_EMPTY i) 1)
      else match h.2 with
        | .empty => h.1.put (F.RACK_SW_STATUS_EMPTY i) 1
        | .bad _ => h.1.swErr i 1
        | .data pos h0 h1 => onData h.1 pos h0 h1 := by
  unfold Device.atHead
  rcases d.consumeCheck q i with ⟨c, _ | t⟩
  · simp only [Option.isSome_none, Bool.false_eq_true, if_false]
    cases c.headRec q with
    | mk g h => cases h <;> rfl
  · cases t <;> rfl

/-- PEEK of a DATA record: its header and the address of its payload, and the record counts as peeked. -/
def Device.peekRec (q i : Nat) (d : Device) (pos h0 h1 : Nat) : Device :=
  (((d.put (F.RACK_SW_HDR0 i) h0).put (F.RACK_SW_HDR1 i) h1).put64 (F.RACK_SW_ADDR_LO i) (F.RACK_SW_ADDR_HI i)
    ((d.desc q).addr pos + 8)).modRack (fun k => { k with peeks := k.peeks.filter (fun p => p ≠ (i, q)) ++ [(i, q)] })

/-- RELEASE of a DATA record: HEAD passes it, and it no longer counts as peeked. -/
def Device.releaseRec (q i : Nat) (d : Device) (pos h0 _h1 : Nat) : Device :=
  ((d.setDesc q ((d.desc q).setHead ((pos + recSize (bits h0 0 17) / 8) % 2 ^ 28))).bump F.RACK_RECORDS_OUT).modRack
    (fun k => { k with peeks := k.peeks.filter (fun p => p ≠ (i, q)) })

/-- A RESERVE that its queue does not refuse: held behind another's open reservation, FULL where a produce waits, or
resolved. -/
def Device.openReserve (d : Device) (q i len : Nat) : Device :=
  if d.holds i q then d.swErr i 1
  else if d.rack.resvs.any (fun r => r.queue = q) then
    (d.modRack (fun k => { k with waits := k.waits ++ [⟨q, i, len, [], true⟩] })).put (F.RACK_SW_STATUS_BUSY i) 1
  else if d.rack.waits.any (fun w => w.queue = q) then d.reserveFull q i
  else d.reserveNow q i len

/-- RESERVE at a RUNNING Rack: the checks of the length and of the descriptor, and then the reservation. -/
def Device.checkedReserve (d : Device) (q i len : Nat) : Device :=
  let f := d.fetchDesc q
  match if 65536 < len then none else some (f.2.refuses i len) with
  | none => f.1.swErr i 2
  | some (some (g, code, reason)) => ((f.1.rackFault g code q).bump F.RACK_REJECTS).swErr i reason
  | some none => f.1.openReserve q i len

section
variable {d : Device} {q i len : Nat}

theorem checkedReserve_long (hlong : 65536 < len) : d.checkedReserve q i len = (d.fetchDesc q).1.swErr i 2 := by
  simp only [Device.checkedReserve, hlong, if_true]

theorem checkedReserve_refused {g : Fld} {code reason : Nat} (hlen : len ≤ 65536)
    (href : (d.fetchDesc q).2.refuses i len = some (g, code, reason)) :
    d.checkedReserve q i len = (((d.fetchDesc q).1.rackFault g code q).bump F.RACK_REJECTS).swErr i reason := by
  simp only [Device.checkedReserve, Nat.not_lt.2 hlen, if_false, href]

theorem checkedReserve_open (hlen : len ≤ 65536) (href : (d.fetchDesc q).2.refuses i len = none) :
    d.checkedReserve q i len = (d.fetchDesc q).1.openReserve q i len := by
  simp only [Device.checkedReserve, Nat.not_lt.2 hlen, if_false, href]

end

/-- The end of a reservation r as a record or as PAD, as its initiator learns it. -/
def Device.endResv (d : Device) (i : Nat) (r : Resv) (commit : Bool) : Device :=
  if (d.resvClose r commit).2 || !commit then (d.resvClose r commit).1
  else ((d.resvClose r commit).1.bump F.RACK_REJECTS).swErr i 1

theorem resvEnd_held {d : Device} {q i : Nat} {r : Resv} (commit : Bool)
    (hr : d.rack.resvs.find? (fun r => r.queue = q && r.ini = i) = some r) :
    d.resvEnd i q commit = d.endResv i r commit := by
  simp only [Device.resvEnd, Device.endResv, hr]

theorem resvEnd_none {d : Device} {q i : Nat} (commit : Bool)
    (hr : d.rack.resvs.find? (fun r => r.queue = q && r.ini = i) = none) : d.resvEnd i q commit = d.swErr i 1 := by
  simp only [Device.resvEnd, hr]

section
variable {d e : Device} {i q : Nat} (hsel : d.fld (F.RACK_DQ_SEL i) = q) (hstart : d.swStart i q = e)
  (hrun : e.fld F.RACK_STATUS_STATE = 2)
include hsel hstart hrun

/-- A software command at a RUNNING Rack acts on the queue of DQ_SEL, after the status of its start. -/
theorem sw_running (f : Device → Nat → Device) : d.sw i f = f e q := by
  subst hsel hstart
  exact if_neg (not_not.2 hrun)

/-! ### Reservations (R308, R319) -/

theorem swCommit_running : d.swCommit i = e.resvEnd i q true := sw_running hsel hstart hrun _

theorem swAbort_running : d.swAbort i = e.resvEnd i q false := sw_running hsel hstart hrun _

theorem swReserve_running (hstate : d.fld F.RACK_STATUS_STATE = 2) :
    d.swReserve i = e.checkedReserve q i (d.fld (F.RACK_SW_LEN i)) :=
  (if_neg (not_not.2 hstate)).trans (sw_running hsel hstart hrun _)

/-! ### The head of a queue (R311, R313, R320) -/

theorem swPeek_running : d.swPeek i = e.atHead q i (Device.peekRec q i) := sw_running hsel hstart hrun _

/-- RELEASE without a peeked record. -/
theorem swRelease_unpeeked (hpeek : e.rack.peeks.contains (i, q) = false) : d.swRelease i = e.swErr i 1 :=
  (sw_running hsel hstart hrun _).trans (if_neg (Bool.eq_false_iff.1 hpeek))

theorem swRelease_peeked (hpeek : e.rack.peeks.contains (i, q) = true) :
    d.swRelease i = e.atHead q i (Device.releaseRec q i) := by
  refine (sw_running hsel hstart hrun _).trans ((if_pos hpeek).trans ?_)
  unfold Device.atHead
  rcases e.consumeCheck q i with ⟨c, _ | t⟩
  · dsimp only
    cases c.headRec q with
    | mk g h => cases h <;> rfl
  · cases t <;> rfl

end

/-- Settles O21: each code of SW_CMD is served as its command, after the status of its start; what the two commands at
the head of a queue share is one lemma's. -/
theorem rackSoftwareCommandsComplete : Obligations.RackSoftwareCommandsComplete := by
  unfold Obligations.RackSoftwareCommandsComplete
  intro s ini ha hstate i q d hrun
  have hreserve := (exec_reserve ini s).trans (next_swCmd ha (swReserve_running rfl rfl hrun hstate))
  refine ⟨⟨fun hlong => ?_, fun hlen g code reason href => ?_, fun hlen href => ?_⟩, ?_, ?_, fun hpeek => ?_,
    fun hpeek => ?_⟩
  · exact hreserve.trans (next_after_congr s (checkedReserve_long hlong))
  · exact hreserve.trans (next_after_congr s (checkedReserve_refused hlen href))
  · exact hreserve.trans (next_after_congr s (checkedReserve_open hlen href))
  · intro c hc
    have hend : exec c.2 s = .next (s.after (d.resvEnd i q c.1)) := by
      simp only [List.mem_cons, List.not_mem_nil, or_false] at hc
      rcases hc with rfl | rfl
      · exact (exec_commit ini s).trans (next_swCmd ha (swCommit_running rfl rfl hrun))
      · exact (exec_swAbort ini s).trans (next_swCmd ha (swAbort_running rfl rfl hrun))
    exact ⟨fun hr => hend.trans (next_after_congr s (resvEnd_none c.1 hr)),
      fun r hr => hend.trans (next_after_congr s (resvEnd_held c.1 hr))⟩
  · exact (exec_peek ini s).trans (next_swCmd ha ((swPeek_running rfl rfl hrun).trans (atHead_eq d q i _)))
  · exact (exec_swRelease ini s).trans (next_swCmd ha (swRelease_unpeeked rfl rfl hrun hpeek))
  · exact (exec_swRelease ini s).trans (next_swCmd ha ((swRelease_peeked rfl rfl hrun hpeek).trans (atHead_eq d q i _)))

end Sys2Proof.Machine
end

section
/-! The Rack as a whole: start, stop and flush (R306, R307, R321 to R323), and its endpoints in a frame (R309, R316,
R317). -/

namespace Sys2Proof.Machine

/-! ### Start, stop and flush (R306, R322, R323) -/

section
variable {d : Device} {ini : Ini}

/-- A served write of EN alone starts or stops the Rack. -/
theorem writeFld_rackEn {v : Nat} (hv : v < 2) (ha : d.admits ini F.RACK_CTRL_EN.addr = true)
    (hflush : d.fld F.RACK_CTRL_FLUSH = 0) :
    d.writeFld ini F.RACK_CTRL_EN v = if v = 1 then d.rackStart else d.rackStop := by
  have hen : bits (setBits (d.word F.RACK_CTRL_EN.addr) 0 1 v).toNat 0 1 = v :=
    (bits_setBits_same _ 0 1 v (by decide)).trans (Nat.mod_eq_of_lt hv)
  have hkept : bits (setBits (d.word F.RACK_CTRL_EN.addr) 0 1 v).toNat 1 1 = 0 :=
    (bits_setBits_other _ 0 1 v 1 1 (by decide)).trans hflush
  refine (writeReg_rackCtrl d ini _ ha).trans ?_
  simp only [F.RACK_CTRL_EN] at hen hkept ⊢
  simp only [Device.rackCtrlWrite, bit_eq, hen, hkept, decide_eq_true_eq, zero_ne_one, if_false]

/-- A served write of FLUSH writes the cache back, and starts or stops the Rack as EN stands. -/
theorem writeFld_rackFlush (ha : d.admits ini F.RACK_CTRL_FLUSH.addr = true) :
    d.writeFld ini F.RACK_CTRL_FLUSH 1 =
      if d.fld F.RACK_CTRL_EN = 1 then d.rackFlush.rackStart else d.rackFlush.rackStop := by
  have hflush : bits (setBits (d.word F.RACK_CTRL_FLUSH.addr) 1 1 1).toNat 1 1 = 1 :=
    bits_setBits_same _ 1 1 1 (by decide)
  have hkept : bits (setBits (d.word F.RACK_CTRL_FLUSH.addr) 1 1 1).toNat 0 1 = d.fld F.RACK_CTRL_EN :=
    bits_setBits_other _ 1 1 1 0 1 (by decide)
  refine (writeReg_rackCtrl d ini _ ha).trans ?_
  simp only [F.RACK_CTRL_FLUSH] at hflush hkept ⊢
  simp only [Device.rackCtrlWrite, bit_eq, hflush, hkept, decide_eq_true_eq, if_true]

/-- EN written leaves the Rack's state. -/
theorem rackState_put_en (d : Device) (v : Nat) :
    (d.put F.RACK_CTRL_EN v).fld F.RACK_STATUS_STATE = d.fld F.RACK_STATUS_STATE :=
  fld_put_addr _ _ _ _ (by decide)

/-- EN = 1 on a STOPPED Rack: refused for its table's place, or started, with the table cleared the first time. -/
theorem rackStart_stopped (hst : d.fld F.RACK_STATUS_STATE = 0) :
    d.rackStart =
      let on := d.put F.RACK_CTRL_EN 1
      let e := on.put F.RACK_STATUS_STATE 1
      if on.descBase < lpBase ∨ lpEnd < on.descBase + 0x4000000 then
        (on.put F.RACK_CTRL_EN 0).rackFault F.RACK_FAULT_INVALID 0x0183 0
      else if d.rack.started then e
      else (e.clearMem e.descBase 0x4000000).modRack (fun k => { k with started := true }) :=
  if_neg (not_not.2 ((rackState_put_en d 1).trans hst))

/-- EN = 1 on a Rack that is not STOPPED changes EN alone. -/
theorem rackStart_live (hst : d.fld F.RACK_STATUS_STATE ≠ 0) : d.rackStart = d.put F.RACK_CTRL_EN 1 :=
  if_pos (by rwa [rackState_put_en])

theorem rackStop_stopped (hst : d.fld F.RACK_STATUS_STATE = 0) : d.rackStop = d.put F.RACK_CTRL_EN 0 :=
  if_pos ((rackState_put_en d 0).trans hst)

theorem rackStop_live (hst : d.fld F.RACK_STATUS_STATE ≠ 0) :
    d.rackStop = (d.put F.RACK_CTRL_EN 0).put F.RACK_STATUS_STATE 3 :=
  if_neg (by rwa [rackState_put_en])

theorem rackRunning_starting (hst : d.fld F.RACK_STATUS_STATE = 1) : d.rackRunning = d.put F.RACK_STATUS_STATE 2 :=
  if_pos hst

theorem rackStopped_stopping (hst : d.fld F.RACK_STATUS_STATE = 3) :
    d.rackStopped =
      ((d.rackFlush.modRack (fun k => { k with cache := [] })).rackDirty).put F.RACK_STATUS_STATE 0 :=
  if_pos hst

end

/-! ### The endpoints in a frame (R309, R316, R317) -/

section
variable {d : Device}

/-- RH_IN produces the tokens of its entry as one record. -/
theorem rhInRecord_ready (hon : d.isOn domRack = true) (hactive : d.rack.rhIn.active = true)
    (htoks : (d.rhEntry false d.rack.rhIn.entry).tokens ≤ d.rack.rhIn.toks.length) (hheld : d.rhHeld = false) :
    d.rhInRecord =
      let x := d.rack.rhIn
      let e := d.rhEntry false x.entry
      (d.produce e.queue iniRack (16 * e.tokens) ((x.toks.take e.tokens).flatMap (leBytes 16))).1.rhNext false false
        { x with toks := x.toks.drop e.tokens } :=
  if_neg (by simp [hon, hactive, hheld, htoks])

/-- The Rack's Hatch port with tokens to offer. -/
def Device.rhGive (d : Device) (toks : List Nat) : Device := (d.modHr 104 (fun r => { r with offer := toks })).progress

/-- A payload consumed for an entry of RH_OUT, offered as its tokens: cut to them, which is a fault, or filled with
zeros. -/
def Device.rhGivePayload (d : Device) (e : RhEntry) (p : List Byte) : Device :=
  let d := if 16 * e.tokens < p.length then (d.bump F.RACK_TRUNC).rackFault F.RACK_FAULT_ENDPOINT 0x0187 e.queue else d
  let p := (p ++ List.replicate (16 * e.tokens - p.length) 0).take (16 * e.tokens)
  d.rhGive ((List.range e.tokens).map (fun k => leNat ((p.drop (16 * k)).take 16)))

/-- RH_OUT offers the record that it consumes, or zeros for the rest of the entry from a queue that supplies nothing; at
an empty queue or a Rack that is stopped it waits. -/
theorem rhOutRecord_ready (hon : d.isOn domRack = true) (hactive : d.rack.rhOut.active = true)
    (hoffer : (d.hr 104).offer = []) :
    d.rhOutRecord =
      let x := d.rack.rhOut
      let e := d.rhEntry true x.entry
      let r := d.consume e.queue iniRack
      match r.2 with
      | .stopped => r.1
      | .empty => r.1
      | .got _ _ p => (r.1.rhGivePayload e p).rhNext true false x
      | _ =>
        (r.1.rhGive (List.replicate ((e.records - x.recs) * e.tokens) 0)).rhNext true true { x with bad := true } := by
  refine (if_neg (by simp [hon, hactive, hoffer])).trans ?_
  dsimp only
  rcases d.consume (d.rhEntry true d.rack.rhOut.entry).queue iniRack with ⟨f, _ | _ | _ | _ | _ | ⟨h0, h1, p⟩⟩
  case got => simp only [decide_eq_true_eq]; rfl
  all_goals rfl

end

/-- Settles O22: a write of CTRL is served as its start, stop or flush, which the Rack's state decides; a completion and
an endpoint's record are the branch that their conditions select. -/
theorem rackControlCompletes : Obligations.RackControlCompletes := by
  unfold Obligations.RackControlCompletes
  intro s ini
  refine ⟨?_, fun ha => ?_, fun hst => ?_, fun hst => ?_, ?_, ?_⟩
  · intro ha hflush on off
    have hstart := (exec_rackStart ini s).trans (next_after_congr s (writeFld_rackEn (by decide) ha hflush))
    have hstop := (exec_rackStop ini s).trans (next_after_congr s (writeFld_rackEn (by decide) ha hflush))
    refine ⟨fun hst => ⟨?_, ?_⟩, fun hst => ⟨?_, ?_⟩⟩
    · exact hstart.trans (next_after_congr s (rackStart_stopped hst))
    · exact hstop.trans (next_after_congr s (rackStop_stopped hst))
    · exact hstart.trans (next_after_congr s (rackStart_live hst))
    · exact hstop.trans (next_after_congr s (rackStop_live hst))
  · exact (exec_rackFlush ini s).trans (next_after_congr s (writeFld_rackFlush ha))
  · exact (exec_rackRunning s).trans (next_after_congr s (rackRunning_starting hst))
  · exact (exec_rackStopped s).trans (next_after_congr s (rackStopped_stopping hst))
  · intro x e hon hactive htoks hheld
    exact (exec_rhInRecord s).trans (next_after_congr s (rhInRecord_ready hon hactive htoks hheld))
  · intro x e r give hon hactive hoffer
    exact (exec_rhOutRecord s).trans (next_after_congr s (rhOutRecord_ready hon hactive hoffer))

end Sys2Proof.Machine
end

section
/-! Power domains and voltage bands: votes, wakes, lowerings, and band changes (R351 to R361). -/

namespace Sys2Proof.Machine

/-! ### Votes (R351, R353) -/

theorem regAt_vote : ∀ (c : Fin 32) (w : Fin 8),
    regAt (F.PWR_VOTE c w).addr ⟨.pwr, 0, 0x1000 + 32 * c + 4 * w⟩ = true := by
  decide +kernel

/-- A served write of a vote word is the write of that word of its client. -/
theorem writeReg_vote {d : Device} {ini : Ini} {c : Fin 32} {w : Fin 8} (v : Word)
    (hadm : d.admits ini (F.PWR_VOTE c w).addr = true) :
    d.writeReg ini (F.PWR_VOTE c w).addr v =
      d.voteWrite ini.num c w v (busOff (iniAddr ini (F.PWR_VOTE c w).addr)) := by
  obtain ⟨r, -, h⟩ := writeReg_at d ini _ v _ (regAt_vote c w) hadm
  have hw := w.isLt
  have hoff : 0x1000 ≤ 0x1000 + 32 * c.val + 4 * w.val := by omega
  have hclient : (0x1000 + 32 * c.val + 4 * w.val - 0x1000) / 32 = c := by omega
  have hword : (0x1000 + 32 * c.val + 4 * w.val) % 32 / 4 = w := by omega
  rw [h]
  simp only [Device.regWrite, Device.writeAon, if_pos hoff, hclient, hword]

/-- No command comes from JTAG. -/
theorem Ini.num_ne_iniJtag (ini : Ini) : ini.num ≠ iniJtag := by
  cases ini <;> simp [Ini.num, iniJtag]; omega

/-- The owner of client 0 is the host, that of clients 1 to 4 the Scribe one below. -/
theorem owns_client_iff (ini : Ini) {c : Nat} (hc : c ≤ 4) :
    (ini.num = (if c = 0 then iniHost else c + 1) ∨ ini.num = iniJtag) ↔
      (c = 0 ∧ ini = .host) ∨ ∃ n : Fin 4, c = n + 1 ∧ ini = .scribe n := by
  rw [or_iff_left ini.num_ne_iniJtag]
  by_cases h0 : c = 0
  · cases ini with
    | hg => simp [Ini.num, iniHost, h0]
    | host => simp [Ini.num, iniHost, h0]
    | scribe n => simp [Ini.num, iniHost, h0]; omega
  · cases ini with
    | hg => simp [Ini.num, h0]
    | host => simp [Ini.num, h0]; omega
    | scribe n => simp [Ini.num, h0]; omega

theorem Ini.num_eq_iniHg_iff (ini : Ini) : ini.num = iniHg ↔ ini = .hg := by
  cases ini <;> simp [Ini.num, iniHg]; omega

/-- A vote word takes the value of its client's owner, Hardground's without a hold; fields of hardware clients and of
reserved ones stand. -/
theorem voteWrite_eq (d : Device) (ini : Ini) (c w : Nat) (v : Word) (off : Nat) :
    d.voteWrite ini.num c w v off =
      let put := d.putWord (F.PWR_VOTE c w).addr (if w = 7 then v &&& 0x3FFFFFFF else v)
      let doms := (List.range 16).map (· + 16 * w)
      if c ≤ 4 then
        (if (c = 0 ∧ ini = .host) ∨ (∃ n : Fin 4, c = n + 1 ∧ ini = .scribe n)
          then put.each doms (fun d i => d.settle i) else d.accError ini.num 4 off)
      else if c = 31 then
        (if ini = .hg then put.each doms (fun d i => d.settleNow i) else d.accError ini.num 4 off)
      else d := by
  unfold Device.voteWrite
  by_cases hc : c ≤ 4
  · simp only [if_pos hc, owns_client_iff ini hc]
  · simp only [if_neg hc, Ini.num_eq_iniHg_iff]

/-! ### Waking (R357 to R359) -/

section
variable {d : Device} {i : Nat}

/-- A domain begins its wake, or waits for room. -/
def Device.wakeOrWait (d : Device) (i : Nat) (fromOff : Bool) : Device :=
  let d := d.setDom i 3
  if d.mayWake i fromOff = true then
    let d := if wakeClass i fromOff = 0 then d.modPower (fun p => { p with
      wakeStarts := p.wakeStarts.filter (fun t => decide (d.since t < 2000)) ++ [d.timebase] }) else d
    d.modDom i (fun x => { x with phase := .wake 1 d.timebase fromOff })
  else d.modDom i (fun x => { x with phase := .pending fromOff })

/-- A domain that waits for room goes on with its wake whatever its votes. -/
theorem domainRaise_pending {o : Bool} (hboot : 2 ≤ d.boot) (hphase : (d.dom i).phase = .pending o) :
    d.domainRaise i = d.wakeOrWait i o := by
  unfold Device.domainRaise
  simp only [hphase]
  exact if_neg (by simp; omega)

/-- A domain in OFF or RET that is voted ON rises, from rest or from its hold. -/
theorem domainRaise_low (hboot : 2 ≤ d.boot) (hres : d.resolved i = 2) (hlow : d.domState i < 2)
    (hphase : (d.dom i).phase = .steady ∨ ∃ t since, (d.dom i).phase = .hold t since) :
    d.domainRaise i = d.wakeOrWait i (decide (d.domState i = 0)) := by
  have hgo : ¬ (decide (d.boot ≤ 1) || (decide (d.resolved i ≠ 2) && !false)) = true := by
    simp [hres]
    omega
  unfold Device.domainRaise
  rcases hphase with hphase | ⟨t, since, hphase⟩ <;> simp only [hphase]
  · exact (if_neg hgo).trans (if_pos hlow)
  · exact (if_neg hgo).trans (if_pos hlow)

/-- A step before the fourth leads to the next; the third of a domain that was OFF clears the valid bits of its
memories and trains a controller's channels. -/
def Device.nextWakeStep (d : Device) (i k : Nat) (fromOff : Bool) : Device :=
  let d := if k = 3 ∧ fromOff = true then d.clearValid i else d
  let d := if k = 3 ∧ fromOff = true ∧ 119 ≤ i ∧ i < 123 then d.put (F.MC_STATUS_TRAINED (i - 119)) 1 else d
  d.modDom i (fun x => { x with phase := .wake (k + 1) d.timebase fromOff })

/-- The fourth step makes the domain ON. -/
def Device.wakeEnd (d : Device) (i : Nat) : Device :=
  let d := (((d.setDom i 2).bump F.PWR_WAKES).modDom i (fun x => { x with phase := .steady })).settleNow i
  if 65 ≤ i ∧ i < 97 then d.tileWake (i - 65)
  else if 115 ≤ i ∧ i < 119 then d.pressStop (i - 115)
  else d

theorem wakeStep_waking {k t : Nat} {o : Bool} (hphase : (d.dom i).phase = .wake k t o) :
    d.wakeStep i =
      if k = 1 ∧ d.flag F.CONTRACT_STATUS_TRANSITION = true then d
      else if k < 4 then d.nextWakeStep i k o
      else d.wakeEnd i := by
  unfold Device.wakeStep
  simp only [hphase]
  rfl

theorem wakeTimeout_waking {k t : Nat} {o : Bool} (hphase : (d.dom i).phase = .wake k t o) :
    d.wakeTimeout i =
      ((d.modDom i (fun x => { x with ignored := true })).enterLow i 0).raiseBit F.PWR_FAULT_WAKE 0x0709
        wholeDevice := by
  unfold Device.wakeTimeout
  simp only [hphase]

/-! ### Lowering (R354 to R356) -/

/-- A hold that is over, or that an override does not keep: RET goes low at once, ON quiesces. -/
theorem holdExpire_over {t since : Nat} (hphase : (d.dom i).phase = .hold t since)
    (hover : d.fld F.PWR_CTRL_HOLD ≤ d.since since ∨ d.overridden i = true) :
    d.holdExpire i =
      if d.domState i = 1 then d.enterLow i t
      else (d.setDom i 3).modDom i (fun x => { x with phase := .quiesce t d.timebase (d.overridden i) }) := by
  unfold Device.holdExpire
  simp only [hphase]
  exact if_neg fun h => hover.elim (Nat.not_le.2 h.1) h.2

theorem isolate_quiescent {t since : Nat} {forced : Bool} (hphase : (d.dom i).phase = .quiesce t since forced)
    (hquiet : d.quiescent i = true) (hempty : d.boundaryEmpty i = true) :
    d.isolate i = (d.enterLow i t).settleNow i := by
  unfold Device.isolate
  simp only [hphase]
  exact if_pos (by simp [hquiet, hempty])

/-- A drain past its limit is taken back. -/
theorem drainExpire_late {t since : Nat} (hphase : (d.dom i).phase = .quiesce t since false)
    (hlate : d.fld F.PWR_DRAIN_LIMIT ≤ d.since since) :
    d.drainExpire i =
      (((d.setDom i 2).bump F.PWR_DRAIN_FAIL).raiseBit F.PWR_FAULT_DRAIN 0x0702 wholeDevice).modDom i
        (fun x => { x with phase := .hold t d.timebase }) := by
  unfold Device.drainExpire
  simp only [hphase]
  exact if_neg (Nat.not_lt.2 hlate)

/-- A forced lowering is completed after 1,000 ticks, with what still crosses the boundary discarded. -/
theorem forcedTimeout_late {t since : Nat} (hphase : (d.dom i).phase = .quiesce t since true)
    (hlate : 1000 ≤ d.since since) :
    d.forcedTimeout i =
      if d.quiescent i = true ∧ d.boundaryEmpty i = true then (d.enterLow i t).settleNow i
      else ((d.discardBoundary i).enterLow i t).raiseBit F.PWR_FAULT_FORCED_DISCARD 0x070A wholeDevice := by
  unfold Device.forcedTimeout
  simp only [hphase, Bool.and_eq_true]
  exact if_neg (Nat.not_lt.2 hlate)

end

/-! ### The address wake and band changes (R360, R361) -/

section
variable {d : Device}

theorem addressWake_asleep (hoff : d.isOn (domScribe 0) = false) (hda : d.host.i3c.da.isSome = true) :
    d.addressWake = (d.modPower (fun p => { p with gated := false })).setVote 0 (domScribe 0) 2 :=
  if_neg (by simp [hoff, Option.isSome_iff_ne_none.1 hda])

/-- The band that the part goes to at the next boundary: the one asked for, or the lowest while forced. -/
def Device.bandTarget (d : Device) : Nat := if d.flag F.HG_STATUS_FORCED then 0 else d.fld F.PWR_BAND_REQ

theorem bandStart_boundary (hbound : d.atBoundary = true) (hstill : d.flag F.CONTRACT_STATUS_TRANSITION = false)
    (hnew : d.bandTarget ≠ d.fld F.CONTRACT_STATUS_VB) :
    d.bandStart = (d.put F.CONTRACT_STATUS_VB_TARGET d.bandTarget).put F.CONTRACT_STATUS_TRANSITION 1 :=
  if_pos (by simpa [Device.bandTarget, hbound, hstill] using hnew)

end

/-- Settles O24: a write of a vote word is served by the path; each other command is the branch that the domain's phase
and the conditions select. -/
theorem powerDomainsComplete : Obligations.PowerDomainsComplete := by
  unfold Obligations.PowerDomainsComplete
  intro s
  refine ⟨fun ini c w v hadm => ?_, fun i o hboot hcase => ?_, fun i k t o hphase => ⟨?_, ?_⟩,
    fun i t since hphase hover => ?_, fun i t since forced hphase => ⟨fun hquiet hempty => ?_, fun hforced hlate => ?_,
      fun hforced hlate => ?_⟩, fun hoff hda => ?_, fun hbound hstill hnew => ?_, fun hchange => ?_⟩
  · exact (exec_voteWrite ini c w v s).trans
      (next_after_congr s ((writeReg_vote v hadm).trans (voteWrite_eq s.dev ini c w v _)))
  · refine (exec_domainRaise i s).trans (next_after_congr s ?_)
    rcases hcase with hphase | ⟨hres, hlow, ho, hphase⟩
    · exact domainRaise_pending hboot hphase
    · exact (domainRaise_low hboot hres hlow hphase).trans (congrArg _ ho.symm)
  · exact (exec_wakeStepReady i s).trans (next_after_congr s (wakeStep_waking hphase))
  · exact (exec_wakeStepTimeout i s).trans (next_after_congr s (wakeTimeout_waking hphase))
  · exact (exec_lowerHoldExpire i s).trans (next_after_congr s (holdExpire_over hphase hover))
  · exact (exec_domainIsolate i s).trans (next_after_congr s (isolate_quiescent hphase hquiet hempty))
  · subst hforced
    exact (exec_drainLimitExpire i s).trans (next_after_congr s (drainExpire_late hphase hlate))
  · subst hforced
    exact (exec_forcedLowerTimeout i s).trans (next_after_congr s (forcedTimeout_late hphase hlate))
  · exact (exec_i3cAddressWake s).trans (next_after_congr s (addressWake_asleep hoff hda))
  · exact (exec_bandChangeStart s).trans (next_after_congr s (bandStart_boundary hbound hstill hnew))
  · exact (exec_bandChangeEnd s).trans (next_after_congr s (if_pos hchange))

end Sys2Proof.Machine
end

section
/-! Sensors, the power policy, and Hardground: its causes, its limits, its shutdown and its registers (R362 to
R370). -/

namespace Sys2Proof.Machine

/-! ### The power policy (R366) -/

section
variable {d : Device}

/-- Nothing keeps the policy from its point: a boundary, SCRIBE[1] that runs, no LEAD that chooses in its stead, and a
ladder. -/
theorem policyChecks_pass (hbound : d.atBoundary = true) (hrun : (vget d.scribes 1 {}).running = true)
    (hon : d.isOn (domScribe 1) = true) (hown : d.fld F.PAIR_STATUS_ROLE ≠ 2 ∨ d.fld F.PAIR_STATUS_STATE ≠ 3)
    (hpoints : d.power.policy.points ≠ []) :
    ¬ (!d.atBoundary || !(vget d.scribes 1 {}).running || !d.isOn (domScribe 1) ||
      (decide (d.fld F.PAIR_STATUS_ROLE = 2) && decide (d.fld F.PAIR_STATUS_STATE = 3)) ||
      decide (d.power.policy.points.length = 0)) = true := by
  have hmate : ¬ (d.fld F.PAIR_STATUS_ROLE = 2 ∧ d.fld F.PAIR_STATUS_STATE = 3) := fun h => hown.elim (· h.1) (· h.2)
  simpa [hbound, hrun, hon, hpoints] using hmate

/-! ### Causes (R367) -/

/-- A check outside reset whose condition holds takes its effect. -/
theorem outsideReset_pos {c : Bool} {e : Device} (hout : d.inReset = false) (hc : c = true) :
    (if (!d.inReset && c) = true then e else d) = e :=
  if_pos (by simp [hout, hc])

theorem mcHotCause_hot {m : Fin 4} (hout : d.inReset = false) (hon : d.isOn (domMc m) = true)
    (hhot : d.flag (F.MC_STATUS_HOT m) = true) :
    d.mcHotCause = (d.setTrip F.HG_STATUS_MC_HOT).raiseBit F.HG_FAULT_TRIP 0x0704 wholeDevice :=
  outsideReset_pos hout (List.any_eq_true.2 ⟨m, List.mem_range.2 m.isLt, by simp [hon, hhot]⟩)

theorem sensorCause_failed (hfailed : d.power.failedTs ≠ []) : d.sensorCause = d.setTrip F.HG_STATUS_SENSOR :=
  if_neg (by simpa using hfailed)

/-- The limit of a trip takes force 100,000 ticks later, while a cause of it stands. -/
theorem tripLimitTimer_late {t : Nat} (htrip : d.power.tripAt = some t) (hlate : 100000 ≤ d.since t)
    (hcause : d.flag F.HG_STATUS_TRIP = true ∨ d.flag F.HG_STATUS_MC_HOT = true ∨ d.flag F.HG_STATUS_SENSOR = true) :
    d.tripLimitTimer =
      (d.modPower (fun p => { p with tripLimit := true, tripAt := none })).put F.HG_STATUS_LIMITING 1 := by
  unfold Device.tripLimitTimer
  simp only [htrip]
  exact if_pos (by simpa [hlate, or_assoc] using hcause)

theorem watchdogExpire_late (hwatch : d.power.wdOn = true) (hnew : d.flag F.HG_STATUS_WATCHDOG = false)
    (hms : d.fld F.HG_CFG_WD_MS ≠ 0) (hlate : 100000 * d.fld F.HG_CFG_WD_MS ≤ d.since d.power.wdSince) :
    d.watchdogExpire = (d.setCause F.HG_STATUS_WATCHDOG).raiseBit F.HG_FAULT_WATCHDOG 0x0706 wholeDevice :=
  if_pos (by simp [hwatch, hnew, hms, hlate])

/-! ### Causes that clear (R367) -/

/-- The limit of a trip ends with the last of its causes. -/
def Device.endTrip (d : Device) : Device :=
  if d.flag F.HG_STATUS_TRIP = true ∨ d.flag F.HG_STATUS_MC_HOT = true ∨ d.flag F.HG_STATUS_SENSOR = true then d
  else d.tripBoundary

/-- The end of CAUSE_CLEAR. -/
theorem endTrip_eq (d : Device) :
    (if (d.flag F.HG_STATUS_TRIP || d.flag F.HG_STATUS_MC_HOT || d.flag F.HG_STATUS_SENSOR) = true then d
      else d.tripBoundary) = d.endTrip := by
  simp only [Device.endTrip, Bool.or_eq_true, or_assoc]

theorem causeClear_cap {t : Nat} (hbelow : d.power.capBelow = some t) (hlate : 100000 ≤ d.since t) :
    d.causeClear 0 = (d.put F.HG_STATUS_CAP 0).endTrip := by
  rw [← endTrip_eq]
  simp only [Device.causeClear, hbelow, if_pos hlate]

theorem causeClear_trip (hvalid : d.flag F.PWR_TS_MAX_VALID = true) (hcool : d.hotAt 105 = false) :
    d.causeClear 1 = (d.put F.HG_STATUS_TRIP 0).endTrip := by
  have hpassed : (d.flag F.PWR_TS_MAX_VALID && !d.hotAt 105) = true := by simp [hvalid, hcool]
  rw [← endTrip_eq]
  simp only [Device.causeClear, if_pos hpassed]

theorem causeClear_mcHot (hcool : ∀ m : Fin 4, d.flag (F.MC_STATUS_HOT m) = false) :
    d.causeClear 3 = (d.put F.HG_STATUS_MC_HOT 0).endTrip := by
  have hnone : (List.range 4).any (fun m => d.flag (F.MC_STATUS_HOT m)) = false :=
    List.any_eq_false.2 fun m hm => by simp [hcool ⟨m, List.mem_range.1 hm⟩]
  rw [← endTrip_eq]
  simp only [Device.causeClear, if_neg (Bool.eq_false_iff.1 hnone)]

theorem causeClear_sensor (hsound : d.power.failedTs = []) :
    d.causeClear 4 = (d.put F.HG_STATUS_SENSOR 0).endTrip := by
  have hpassed : d.power.failedTs.isEmpty = true := List.isEmpty_iff.2 hsound
  rw [← endTrip_eq]
  simp only [Device.causeClear, if_pos hpassed]

/-! ### Hardground's registers (R367, R369) -/

theorem isScribe_num_iff (ini : Ini) : isScribe ini.num = true ↔ ∃ n, ini = .scribe n := by
  cases ini with
  | hg => simp [isScribe, Ini.num]
  | host => simp [isScribe, Ini.num]
  | scribe n =>
    have hn : 2 + n.val ≤ 5 := by omega
    simp [isScribe, Ini.num, hn]

variable {ini : Ini}

theorem regAt_hgKick : regAt F.HG_KICK.addr ⟨.hg, 0, 8⟩ = true := by decide +kernel

/-- A served write of KICK is the kick. -/
theorem writeCmd_hgKick (hadm : d.admits ini F.HG_KICK.addr = true) :
    d.writeCmd ini F.HG_KICK 1 = d.hgKick ini.num (busOff (iniAddr ini F.HG_KICK.addr)) := by
  obtain ⟨r, -, h⟩ := writeReg_at d ini _ (setBits 0 F.HG_KICK.lo F.HG_KICK.len 1) _ regAt_hgKick hadm
  exact h

theorem regAt_hgRelease : regAt F.HG_RELEASE.addr ⟨.hg, 0, 0xC⟩ = true := by decide +kernel

/-- A served write of RELEASE is the release. -/
theorem writeCmd_hgRelease (hadm : d.admits ini F.HG_RELEASE.addr = true) :
    d.writeCmd ini F.HG_RELEASE 1 = d.hgRelease ini.num 1 (busOff (iniAddr ini F.HG_RELEASE.addr)) := by
  obtain ⟨r, -, h⟩ := writeReg_at d ini _ (setBits 0 F.HG_RELEASE.lo F.HG_RELEASE.len 1) _ regAt_hgRelease hadm
  exact h

theorem hgKick_eq (d : Device) (ini : Ini) (off : Nat) :
    d.hgKick ini.num off =
      if ∃ n, ini = .scribe n then (d.modPower (fun p => { p with wdSince := d.timebase })).put F.HG_STATUS_WATCHDOG 0
      else d.accError ini.num 4 off :=
  if_congr (isScribe_num_iff ini) rfl rfl

theorem hgRelease_eq (d : Device) (ini : Ini) (off : Nat) :
    d.hgRelease ini.num 1 off =
      if ∃ n, ini = .scribe n then
        (if bits (d.word F.HG_STATUS_CAP.addr).toNat 0 5 = 0 then
          (d.put F.HG_STATUS_FORCED 0).put F.HATCH_NEXT_DRAFT_FORCED 0
        else d)
      else d.accError ini.num 4 off := by
  have hset : bit (1 : Word).toNat 0 = true := by decide
  by_cases hscribe : ∃ n, ini = .scribe n
  · simp only [Device.hgRelease, (isScribe_num_iff ini).2 hscribe, if_pos hscribe, hset, true_and, Bool.not_true,
      Bool.false_eq_true, if_false]
  · have hother : isScribe ini.num = false := Bool.eq_false_iff.2 fun h => hscribe ((isScribe_num_iff ini).1 h)
    simp only [Device.hgRelease, hother, if_neg hscribe, Bool.not_false, if_true]

theorem hgCfg_eq (d : Device) (ini : Ini) (off : Nat) (v : Word) :
    d.hgCfg ini.num off v =
      if ∃ n, ini = .scribe n then (d.putWord F.HG_CFG_CAP.addr v).modPower (fun p => { p with wdSince := d.timebase })
      else d.accError ini.num 4 off :=
  if_congr (isScribe_num_iff ini) rfl rfl

end

/-- Settles O25: a sample has its effect whatever the state; the policy and Hardground's checks are the branch that
their conditions select; a write of Hardground's registers is served by the path and decided by its initiator. -/
theorem powerSafetyCompletes : Obligations.PowerSafetyCompletes := by
  unfold Obligations.PowerSafetyCompletes
  intro s
  refine ⟨fun i x => exec_sensorSample i (some x) s, fun i => exec_sensorSample i none s,
    fun r mw => exec_railSample r mw s, ?_, fun hout => ⟨fun hcap => ?_, fun hwarn => ?_, fun htrip => ?_,
      fun m hon hhot => ?_, fun hlimiting => ?_, fun hhot => ?_⟩, fun hfailed => ?_, fun t htrip hlate hcause => ?_,
    fun hwatch hnew hms hlate => ?_,
    ⟨fun t hbelow hlate => ?_, fun hvalid hcool => ?_, fun hcool => ?_, fun hsound => ?_⟩,
    fun ini => ⟨fun hadm => ?_, fun hadm => ?_, fun v hadm => ?_⟩⟩
  · intro d p k0 n lead draft band ok used want up down moved k hbound hrun hon hown hpoints
    exact (exec_powerPolicyStep s).trans
      (next_after_congr s (if_neg (policyChecks_pass hbound hrun hon hown hpoints)))
  · exact (exec_capExceeded s).trans (next_after_congr s (outsideReset_pos hout (decide_eq_true hcap)))
  · exact (exec_thermalWarn s).trans (next_after_congr s (outsideReset_pos hout hwarn))
  · exact (exec_thermalTrip s).trans (next_after_congr s (outsideReset_pos hout htrip))
  · exact (exec_mcHotCause s).trans (next_after_congr s (mcHotCause_hot hout hon hhot))
  · exact (exec_regulatorFloorTimeout s).trans (next_after_congr s (outsideReset_pos hout hlimiting))
  · exact (exec_thermalShutdown s).trans (next_after_congr s (outsideReset_pos hout hhot))
  · exact (exec_sensorCause s).trans (next_after_congr s (sensorCause_failed hfailed))
  · exact (exec_tripLimitTimer s).trans (next_after_congr s (tripLimitTimer_late htrip hlate hcause))
  · exact (exec_watchdogExpire s).trans (next_after_congr s (watchdogExpire_late hwatch hnew hms hlate))
  · exact (exec_causeClear 0 s).trans (next_after_congr s (causeClear_cap hbelow hlate))
  · exact (exec_causeClear 1 s).trans (next_after_congr s (causeClear_trip hvalid hcool))
  · exact (exec_causeClear 3 s).trans (next_after_congr s (causeClear_mcHot hcool))
  · exact (exec_causeClear 4 s).trans (next_after_congr s (causeClear_sensor hsound))
  · exact (exec_hgKick ini s).trans (next_after_congr s ((writeCmd_hgKick hadm).trans (hgKick_eq _ _ _)))
  · exact (exec_hgRelease ini s).trans (next_after_congr s ((writeCmd_hgRelease hadm).trans (hgRelease_eq _ _ _)))
  · exact (exec_hgCfgWrite ini v s).trans (next_after_congr s ((writeReg_hgCfg _ _ v hadm).trans (hgCfg_eq _ _ _ v)))

end Sys2Proof.Machine
end

section
/-! Reset and the boot states: the reset pins, FUSE to READY, the time limit and REBOOT (R375, R387 to R397, R401,
R526). -/

namespace Sys2Proof.Machine

section
variable {d : Device}

/-! ### Reset (R370, R387) -/

/-- A release that no shutdown holds: none came before, or every sensor has cooled. -/
theorem releaseHeld_eq_false (h : d.flag F.HG_STATUS_SHUTDOWN = false ∨
    (d.flag F.PWR_TS_MAX_VALID = true ∧ d.hotAt 100 = false)) : d.releaseHeld = false := by
  rcases h with h | ⟨hvalid, hcool⟩
  · simp [Device.releaseHeld, h]
  · simp [Device.releaseHeld, hvalid, hcool]

theorem resetRelease_free (cut : List (Fin 4)) (hreset : d.bootc.por = true ∨ d.bootc.rst = true)
    (hfree : d.flag F.HG_STATUS_SHUTDOWN = false ∨ (d.flag F.PWR_TS_MAX_VALID = true ∧ d.hotAt 100 = false)) :
    d.resetRelease cut = (d.cuts cut).releaseNow :=
  if_pos (by simpa [releaseHeld_eq_false hfree] using hreset)

/-! ### FUSE, ROM and VERIFY (R376, R387, R388) -/

/-- FUSE with a majority: what the fuses say is shown and kept, and ROM begins. -/
def Device.fused (d : Device) : Device :=
  let f := d.fuses
  let d := d.each (List.range 8) (fun d r => d.put (F.TOPO_SITE_STATUS_FUSE_DIS r) (f.siteDis.getD r 0))
  let d := (d.put F.TOPO_ID_GRADE f.grade).modBoot (fun b =>
    { b with pairRole := f.pairRole % 4, inst := f.inst % 16, latched := true, fuseMap := f.map })
  let d := d.put F.PAIR_STATUS_ROLE (if f.pairRole % 4 = 3 then 0 else f.pairRole % 4)
  (d.modI3c (fun x => { x with hj := true })).keyCheck.put F.BOOT_STATUS_STATE 2

theorem bootFuse_inFuse (hboot : d.boot = 1) :
    d.bootFuse = if d.fuses.majority = false then d.toFault 0x0807 else d.fused :=
  (if_neg (not_not.2 hboot)).trans (if_congr (Bool.not_eq_true' _).to_iff rfl rfl)

/-- The flash as ROM finds it, in its slowest mode. -/
def Device.flashShown (d : Device) : Device :=
  let f := d.flash
  ((((d.put F.BOOT_XSPI_CS0_LOG2 f.cs0.log2).put F.BOOT_XSPI_CS1_LOG2 f.cs1.log2).put
    F.BOOT_XSPI_CS1_PRESENT (b2n (decide (f.cs1.log2 ≠ 0)))).put F.BOOT_XSPI_MHZ 25).put F.BOOT_XSPI_MODE_8D 0

theorem bootRom_inRom (selfOk flashOk : Bool) (hboot : d.boot = 2) (hon : d.isOn (domScribe 0) = true) :
    d.bootRom selfOk flashOk =
      if selfOk = false then d.toFault 0x0807
      else if d.flash.cs0.log2 = 0 ∨ flashOk = false then d.flashShown.recover 0x0801
      else if d.flashShown.flag F.BOOT_CTRL_RECOVERY_HOLD = true then d.flashShown.recover 0x080F
      else ((d.flashShown.release 0).modBoot (fun b => { b with header := d.flash.linBytes 0 4096 })).put
        F.BOOT_STATUS_STATE 3 := by
  refine (if_neg fun h => h.elim (· hboot) (· hon)).trans (if_congr (Bool.not_eq_true' _).to_iff rfl ?_)
  exact if_congr (or_congr_right (Bool.not_eq_true' _).to_iff) rfl rfl

/-- A header that is trusted: its length and the mode that it asks for are shown. -/
def Device.headerTrusted (d : Device) : Device :=
  ((d.modBoot (fun b => { b with trusted := true })).put F.BOOT_IMAGE_LEN (imageLen d.bootc.header)).xspiMode

/-- The firmware section of the image. -/
def Device.firmware (d : Device) : List Byte :=
  d.headerTrusted.flash.linBytes (sectAt d.bootc.header 0).off (sectAt d.bootc.header 0).len

/-- VERIFY stops at the first check that fails, of the header and then of the firmware. -/
theorem bootVerify_inVerify (readOk : Bool) (hboot : d.boot = 3) :
    d.bootVerify readOk =
      let h := d.bootc.header
      let pub := (h.drop 0x40).take 133
      let e := d.headerTrusted
      let fw := d.firmware
      if headerOk d.flash h = false then d.recover 0x0802
      else if d.sec.store.activeHash ≠ some (padTo 64 (sha512 pub)) then d.recover 0x0803
      else if ecdsaVerify pub (h.take 0xE00) ((h.drop 0xE00).take 132) = false then d.recover 0x0804
      else if readOk = false then e.recover 0x0801
      else if hashOk h 0 fw = false then e.recover 0x0806
      else if vendorOk fw = false ∨ 458752 - 512 < fieldOf fw 4 4 ∨ (sectAt h 0).len < 512 + fieldOf fw 4 4 then
        e.recover 0x0805
      else (((e.modBoot (fun b => { b with fw := fw })).put F.BOOT_FW_VERSION (fieldOf fw 0 4)).loadFw 0).put
        F.BOOT_STATUS_STATE 4 := by
  have hfits : ∀ (ok : Bool) (p q : Prop) [Decidable p] [Decidable q],
      (!ok || decide p || decide q) = true ↔ ok = false ∨ p ∨ q := by simp [or_assoc]
  refine (if_neg (not_not.2 hboot)).trans (if_congr (Bool.not_eq_true' _).to_iff rfl (if_congr Iff.rfl rfl ?_))
  refine if_congr (Bool.not_eq_true' _).to_iff rfl (if_congr (Bool.not_eq_true' _).to_iff rfl ?_)
  exact if_congr (Bool.not_eq_true' _).to_iff rfl (if_congr (hfits _ _ _) rfl rfl)

/-! ### BIST (R389 to R392) -/

/-- What BIST records of its verdicts, before the boot looks at what it may go on without: the controllers trained, the
sites that failed with their codes, the Tracers and Presses held OFF. -/
def Device.bistRecorded (d : Device) (v : Verdict) : Device :=
  let d := d.each (List.range 4) (fun d m =>
    if m ∈ v.mcs.map Fin.val then d else (d.bootOn (domMc m)).put (F.MC_STATUS_TRAINED m) 1)
  let retired (x : Nat) : Bool := bit (d.fld (F.HG_RETIRE (x / 14))) (x % 14)
  let d := d.each ((List.range 112).filter (fun x =>
      decide (x ∈ v.sites.map Fin.val) || decide (x ∈ v.routers.map Fin.val) || retired x)) (fun d x =>
    let f := F.TOPO_SITE_STATUS_BIST_FAIL (x / 14)
    let d := d.put f (d.fld f ||| 2 ^ (x % 14))
    let d := if retired x = true then d.raise 0x0715 x else d
    if bit (d.fld (F.TOPO_SITE_STATUS_FUSE_DIS (x / 14))) (x % 14) = true then d else d.raise 0x0808 x)
  let d := d.each v.tracers (fun d n => d.holdOff (domTracer n))
  d.each v.presses (fun d k => d.holdOff (domPress k))

/-- The rows bound. -/
def Device.rowsBound (d : Device) : Device := (d.each (List.range 8) (fun d r => d.bindRow r)).showReloc

/-- A row short of a kind of unit that the part may not be short of. -/
abbrev Device.shortRow (d : Device) : Prop := ∃ etch, d.permits etch = false ∧ ∃ r : Fin 8, d.fullRow etch r = false

theorem shortRow_iff (d : Device) :
    ((!d.permits true && (List.range 8).any (fun r => !d.fullRow true r)) ||
      (!d.permits false && (List.range 8).any (fun r => !d.fullRow false r))) = true ↔ d.shortRow := by
  have hrow : ∀ etch,
      (List.range 8).any (fun r => !d.fullRow etch r) = true ↔ ∃ r : Fin 8, d.fullRow etch r = false := by
    intro etch
    simp [Fin.exists_iff]
  simp only [Bool.or_eq_true, Bool.and_eq_true, Bool.not_eq_true', hrow, Device.shortRow, Bool.exists_bool, or_comm]

/-- A unit that no boot goes on without. -/
theorem unitLost_iff (v : Verdict) : (!v.mcs.isEmpty || !v.scribes.isEmpty || v.rack || v.stipple) = true ↔
    v.mcs ≠ [] ∨ v.scribes ≠ [] ∨ v.rack = true ∨ v.stipple = true := by
  simp [or_assoc]

theorem bootBist_inBist (v : Verdict) (hboot : d.boot = 4) :
    d.bootBist v =
      if v.mcs ≠ [] ∨ v.scribes ≠ [] ∨ v.rack = true ∨ v.stipple = true then (d.bistRecorded v).recover 0x080B
      else if v.routers ≠ [] then (d.bistRecorded v).recover 0x080A
      else if (d.bistRecorded v).rowsBound.shortRow then (d.bistRecorded v).rowsBound.recover 0x080A
      else (d.bistRecorded v).rowsBound.put F.BOOT_STATUS_STATE 5 := by
  refine (if_neg (not_not.2 hboot)).trans ?_
  simp only [List.contains_eq_mem, decide_eq_true_eq]
  exact if_congr (unitLost_iff v) rfl (if_congr (by simp) rfl (if_congr (shortRow_iff _) rfl rfl))

/-! ### WAVES, LOAD and READY (R393 to R397) -/

/-- What a boot that LOAD gives up shows: the section and the record that failed, where its code is one of theirs, and
RECOVERY, its code raised unless a restore has raised it. -/
def LoadFail.recovered (x : LoadFail) : Device :=
  let d := if x.code = 0x0806 ∨ x.code = 0x0813 then
      (x.dev.put F.BOOT_ERR_INFO_SECTION x.sect).put F.BOOT_ERR_INFO_RECORD x.rcd
    else x.dev
  if x.code = 0x0414 then d.toRecovery x.code else d.recover x.code

theorem bootLoad_inLoad (e : LoadEnv) (hboot : d.boot = 6) (hopen : d.bootc.loaded = false) :
    d.bootLoad e = match d.loadAll e with
      | .ok d => d
      | .error x => x.recovered :=
  if_neg fun h => h.elim (· hboot) (Bool.eq_false_iff.1 hopen)

theorem bootReady_loaded (hboot : d.boot = 6) (hloaded : d.bootc.loaded = true) :
    d.bootReady =
      let d := ((d.put F.BOOT_STATUS_STATE 7).put F.BOOT_READY_TIME (d.since d.bootc.releasedAt)).lateNow
      let d := d.modPower (fun p => { p with wdOn := true, wdSince := d.timebase })
      let d := d.each (List.range 4) (fun d n => d.modScribe n (fun k => { k with kickAt := d.timebase }))
      (d.ring iniHost (bellSw 25)).showAlive :=
  if_neg fun h => h.elim (· hboot) (· hloaded)

/-- A boot past its limit records it once. -/
theorem lateNow_eq (d : Device) :
    d.lateNow = if 200000000 < d.since d.bootc.releasedAt ∧ d.bootc.late = false then
      (d.modBoot (fun b => { b with late := true })).raise 0x0812 wholeDevice else d :=
  if_congr (by simp [Device.bootLate]) rfl rfl

theorem bootTimeLimit_booting (hlo : 1 ≤ d.boot) (hhi : d.boot ≤ 6) : d.bootTimeLimit = d.lateNow :=
  if_pos ⟨hlo, hhi⟩

/-! ### REBOOT (R401) -/

theorem regAt_bootCtrl : regAt F.BOOT_CTRL_REBOOT.addr ⟨.boot, 0, 4⟩ = true := by decide +kernel

/-- A served write of REBOOT leaves RECOVERY_HOLD, and asks for a restart in RECOVERY alone. -/
theorem writeFld_reboot {ini : Ini} (hadm : d.admits ini F.BOOT_CTRL_REBOOT.addr = true) :
    d.writeFld ini F.BOOT_CTRL_REBOOT 1 =
      let e := d.put F.BOOT_CTRL_RECOVERY_HOLD (d.fld F.BOOT_CTRL_RECOVERY_HOLD)
      if d.boot = 9 then e.modBoot (fun b => { b with reboot := true })
      else e.accError ini.num 4 (busOff (iniAddr ini F.BOOT_CTRL_REBOOT.addr)) := by
  have hset : bits (setBits (d.word F.BOOT_CTRL_REBOOT.addr) 1 1 1).toNat 1 1 = 1 :=
    bits_setBits_same _ 1 1 1 (by decide)
  have hkept : bits (setBits (d.word F.BOOT_CTRL_REBOOT.addr) 1 1 1).toNat 0 1 = d.fld F.BOOT_CTRL_RECOVERY_HOLD :=
    bits_setBits_other _ 1 1 1 0 1 (by decide)
  obtain ⟨r, -, h⟩ := writeReg_at d ini _ (setBits (d.word F.BOOT_CTRL_REBOOT.addr) 1 1 1) _ regAt_bootCtrl hadm
  have hboot : ∀ v, (d.put F.BOOT_CTRL_RECOVERY_HOLD v).boot = d.boot := fun v => fld_put_addr d _ _ v (by decide)
  refine h.trans ?_
  simp only [Device.regWrite, Device.writeAon, if_true, bit_eq, hset, hkept, hboot, decide_true]

end

/-- Settles O26: each state of the boot is the branch that its checks select, in their order. -/
theorem bootCompletes : Obligations.BootCompletes := by
  unfold Obligations.BootCompletes
  intro s
  refine ⟨⟨exec_porAssert s, exec_aonBrownout s⟩, fun cut => exec_resetAssert cut s, fun cut hreset hfree => ?_,
    fun hboot => ?_, fun selfOk flashOk hboot hon => ?_, fun readOk hboot => ?_, fun v hboot => ?_, fun hboot => ?_,
    fun e hboot hopen => ?_, fun hboot hloaded => ?_, fun hlo hhi => ?_, fun ini hadm => ?_⟩
  · exact (exec_resetRelease cut s).trans (next_after_congr s (resetRelease_free cut hreset hfree))
  · exact (exec_bootFuse s).trans (next_after_congr s (bootFuse_inFuse hboot))
  · exact (exec_bootRom selfOk flashOk s).trans (next_after_congr s (bootRom_inRom selfOk flashOk hboot hon))
  · exact (exec_bootVerify readOk s).trans (next_after_congr s (bootVerify_inVerify readOk hboot))
  · exact (exec_bootBist v s).trans (next_after_congr s (bootBist_inBist v hboot))
  · exact (exec_bootWaves s).trans (next_after_congr s (if_neg (not_not.2 hboot)))
  · exact (exec_bootLoad e s).trans (next_after_congr s (bootLoad_inLoad e hboot hopen))
  · exact (exec_bootReady s).trans (next_after_congr s (bootReady_loaded hboot hloaded))
  · exact (exec_bootTimeLimit s).trans (next_after_congr s ((bootTimeLimit_booting hlo hhi).trans (lateNow_eq _)))
  · exact (exec_reboot ini s).trans (next_after_congr s (writeFld_reboot hadm))

end Sys2Proof.Machine
end

section
/-! The queue of commands: a run serves them all, in order, each by its own effect. -/

namespace Sys2Proof.Machine

/-- Each command has one effect on the device, whatever else waits. -/
theorem exec_eq_run (c : Instr) : ∃ f : Device → Device, ∀ s : State, exec c s = .next (s.run f) := by
  cases c <;> exact ⟨_, fun _ => rfl⟩

/-- What a command leaves of a device. -/
def Device.obey (d : Device) (c : Instr) : Device :=
  match exec c { dev := d, pending := [] } with
  | .next u => u.dev
  | _ => d

/-- A command leaves the same device whatever else waits, and the rest of the queue. -/
theorem exec_eq_obey (c : Instr) (s : State) : exec c s = .next { s with dev := s.dev.obey c } := by
  obtain ⟨f, hf⟩ := exec_eq_run c
  have hobey : s.dev.obey c = s.dev.commit (f s.dev) := by rw [Device.obey, hf]; rfl
  rw [hf, hobey]
  rfl

/-- A run of as many steps as commands wait, from any device. -/
theorem run_queue (cs : List Instr) (d : Device) :
    core.run cs.length { dev := d, pending := cs } = .next { dev := cs.foldl Device.obey d, pending := [] } := by
  induction cs generalizing d with
  | nil => rfl
  | cons c cs ih =>
    have hstep : core.step { dev := d, pending := c :: cs } = .next { dev := d.obey c, pending := cs } :=
      exec_eq_obey c _
    simp only [List.length_cons, Host.Core.run, hstep]
    exact ih _

/-- A run keeps states settled, since each step does. -/
theorem run_settled (n : Nat) {s t : State} (hs : s.settled = true) (ht : core.run n s = .next t) :
    t.settled = true := by
  induction n generalizing s with
  | zero =>
    obtain rfl := Host.Outcome.next.inj ht
    exact hs
  | succ n ih =>
    rcases step_eq_next s with ⟨-, h⟩ | ⟨c, rest, d, -, h⟩ <;>
      · have hstep : core.step s = _ := h
        simp only [Host.Core.run, hstep] at ht
        exact ih (stepKeepsStatesSettled s _ hs h) ht

/-- Settles O53: by induction on the queue; a command leaves the queue's rest. -/
theorem queueIsServedInOrder : Obligations.QueueIsServedInOrder := by
  unfold Obligations.QueueIsServedInOrder
  intro s
  have hrun := run_queue s.pending s.dev
  exact ⟨_, hrun, rfl, rfl, fun hs => run_settled _ hs hrun⟩

/-- Settles O46. -/
theorem stepRunsTheFrontCommand : Obligations.StepRunsTheFrontCommand := by
  unfold Obligations.StepRunsTheFrontCommand
  intro s c
  rfl

/-- Settles O47: an empty queue selects the idle branch of a step. -/
theorem emptyQueueIdles : Obligations.EmptyQueueIdles := by
  unfold Obligations.EmptyQueueIdles
  intro s hempty
  simp only [step, hempty]

/-- Settles O49. -/
theorem noWordSpellsACommand : Obligations.NoWordSpellsACommand := by
  unfold Obligations.NoWordSpellsACommand
  exact fun _ _ => rfl

end Sys2Proof.Machine
end

section
/-! What an effect leaves alone, and the end of a command: it tidies a calm device, and delivers a raised code (R491,
R497 to R502). -/

namespace Sys2Proof.Machine

/-! ### Effects that touch registers of one range -/

/-- An effect that changes no byte of memory, of the registers only those of a range, and nothing that the end of a
command looks at. -/
structure TouchesOnly (lo len : Nat) (d e : Device) : Prop where
  word : ∀ a, inRange a lo len = false → e.word a = d.word a
  mem : e.mem = d.mem
  timebase : e.timebase = d.timebase
  raising : e.raising = d.raising
  scribeUe : e.scribeUe = d.scribeUe
  replies : e.host.replies = d.host.replies
  bootc : e.bootc = d.bootc
  pair : e.pair = d.pair

namespace TouchesOnly

variable {lo len : Nat} {d e g : Device}

theorem refl (d : Device) : TouchesOnly lo len d d := ⟨fun _ _ => rfl, rfl, rfl, rfl, rfl, rfl, rfl, rfl⟩

theorem trans (h : TouchesOnly lo len d e) (k : TouchesOnly lo len e g) : TouchesOnly lo len d g where
  word a ha := (k.word a ha).trans (h.word a ha)
  mem := k.mem.trans h.mem
  timebase := k.timebase.trans h.timebase
  raising := k.raising.trans h.raising
  scribeUe := k.scribeUe.trans h.scribeUe
  replies := k.replies.trans h.replies
  bootc := k.bootc.trans h.bootc
  pair := k.pair.trans h.pair

/-- An effect on what is no register, no memory and no concern of a command's end touches no register. -/
theorem of_regs (hregs : e.regs = d.regs) (hmem : e.mem = d.mem) (htime : e.timebase = d.timebase)
    (hraise : e.raising = d.raising) (hue : e.scribeUe = d.scribeUe) (hreplies : e.host.replies = d.host.replies)
    (hboot : e.bootc = d.bootc) (hpair : e.pair = d.pair) : TouchesOnly lo len d e :=
  ⟨fun a _ => word_congr hregs a, hmem, htime, hraise, hue, hreplies, hboot, hpair⟩

theorem putWord (h : TouchesOnly lo len d e) {a : Nat} (w : Word) (ha : inRange a lo len = true) :
    TouchesOnly lo len d (e.putWord a w) := by
  refine h.trans ⟨fun b hb => ?_, rfl, rfl, rfl, rfl, rfl, rfl, rfl⟩
  have hne : b ≠ a := fun hab => by simp [hab, ha] at hb
  simp [word_putWord, hne]

theorem put (h : TouchesOnly lo len d e) {f : Fld} (v : Nat) (hf : inRange f.addr lo len = true) :
    TouchesOnly lo len d (e.put f v) := h.putWord _ hf

theorem bump (h : TouchesOnly lo len d e) {f : Fld} (hf : inRange f.addr lo len = true) :
    TouchesOnly lo len d (e.bump f) := h.put _ hf

theorem ite {c : Prop} [Decidable c] (h : TouchesOnly lo len d e) (k : TouchesOnly lo len d g) :
    TouchesOnly lo len d (if c then e else g) := by split <;> assumption

theorem each {α : Type} {l : List α} {f : Device → α → Device}
    (h : TouchesOnly lo len d e) (hf : ∀ x ∈ l, ∀ e : Device, TouchesOnly lo len e (f e x)) :
    TouchesOnly lo len d (e.each l f) := by
  induction l generalizing e with
  | nil => exact h
  | cons x t ih =>
    exact ih (h.trans (hf x (by simp) e)) (fun y hy => hf y (List.mem_cons_of_mem _ hy))

theorem fld (h : TouchesOnly lo len d e) {f : Fld} (hf : inRange f.addr lo len = false) : e.fld f = d.fld f := by
  simp only [Device.fld, h.word _ hf]

theorem flag (h : TouchesOnly lo len d e) {f : Fld} (hf : inRange f.addr lo len = false) : e.flag f = d.flag f := by
  simp only [Device.flag, h.fld hf]

/-- The registers that make a device calm lie below those of the timers. -/
theorem calm (h : TouchesOnly lo len d e) (hlo : 0x0010300000 ≤ lo) (hd : d.calm = true) : e.calm = true := by
  have hf : ∀ f : Fld, f.addr < 0x0010300000 → e.fld f = d.fld f := fun f hlt => h.fld (inRange_eq_false (by omega))
  have hstate : ∀ n, e.fld (scribeStateFld n) = d.fld (scribeStateFld n) := fun n => hf _ (by
    simp only [scribeStateFld, F.HG_SCRIBE_STATE_S0]; omega)
  have hrole : e.pairRole = d.pairRole := hf _ (by decide)
  have hshown : e.flag F.PAIR_STATUS_ALIVE = d.flag F.PAIR_STATUS_ALIVE :=
    congrArg (· != 0) (hf F.PAIR_STATUS_ALIVE (by decide))
  have halive : e.aliveNow = d.aliveNow := by
    unfold Device.aliveNow Device.boot Device.flag Device.since Device.hbTimeout
    rw [hrole, h.pair, h.timebase, hf F.BOOT_STATUS_STATE (by decide), hf F.PAIR_CFG_EN (by decide),
      hf F.PAIR_TIMING_HB_TIMEOUT (by decide)]
  simpa only [Device.calm, h.raising, h.scribeUe, h.replies, h.bootc, hstate, hrole, hshown, halive] using hd

end TouchesOnly

/-! ### The end of a calm command -/

/-- A calm device has no mark of a command. -/
theorem calm_marks {d : Device} (h : d.calm = true) : d.raising = [] ∧ d.scribeUe = [] := by
  simp only [Device.calm, Bool.and_eq_true, List.isEmpty_iff] at h
  obtain ⟨⟨⟨⟨⟨⟨⟨hraise, hue⟩, -⟩, -⟩, -⟩, -⟩, -⟩, -⟩ := h
  exact ⟨hraise, hue⟩

/-- Settles O54: a calm device is only tidied, and a tidied map reads as the map. -/
theorem calmEndLeavesTheEffect : Obligations.CalmEndLeavesTheEffect := by
  unfold Obligations.CalmEndLeavesTheEffect
  intro s d h
  obtain ⟨hraise, hue⟩ := calm_marks h
  rw [after_calm s h]
  refine ⟨rfl, tidy_word d, tidy_byte d, fun a => mapGet_norm _ _ a, ?_⟩
  simp only [Device.tidy, hraise, hue]

/-! ### A code delivered (R491, R497 to R502) -/

/-- The end of a command that raised one code and leaves the device calm but for it. -/
theorem commit_raised (old : Device) {d : Device} (c : Nat × Nat) (h : d.calm = true) :
    old.commit { d with raising := [c] } = (({ d with raising := [c] } : Device).collectOne c).restarts.tidy := by
  simp only [Device.calm, Bool.and_eq_true, List.isEmpty_iff, List.all_eq_true, decide_eq_true_eq,
    Bool.not_eq_true', beq_iff_eq] at h
  obtain ⟨⟨⟨⟨⟨⟨⟨-, hue⟩, hreplies⟩, hstates⟩, hrole⟩, halive⟩, -⟩, -⟩ := h
  generalize he : ({ d with raising := [c] } : Device) = e
  have hfaults : e.scribeFaults = e := by subst he; simp [Device.scribeFaults, hue, Device.each, List.eraseDups]
  have hup : e.scribeUp = e := each_id _ _ _ fun n hn => if_neg fun hc => hstates n hn (by subst he; exact hc.1)
  have hreply : e.replyOut = e := by subst he; simp [Device.replyOut, hreplies]
  have hshown : e.showAlive = e := if_pos (by subst he; exact halive)
  have hpair : e.pairWatch old = e := by
    have hnone : e.pairRole = 0 := by subst he; exact hrole
    simp [Device.pairWatch, hshown, hnone]
  have hcodes : e.collectAll = e.collectOne c := by subst he; rfl
  simp only [Device.commit, hfaults, hup, hreply, hpair, hcodes]

/-- A doorbell touches the doorbells alone. -/
theorem TouchesOnly.ring {lo len : Nat} {d e : Device} (h : TouchesOnly lo len d e) (r mask : Nat)
    (hr : ∀ a, bellAddr r = some a → inRange a lo len = true) : TouchesOnly lo len d (e.ring r mask) := by
  unfold Device.ring
  split
  · exact h
  · rename_i a ha
    have hput : TouchesOnly lo len d (e.putWord a (e.word a ||| BitVec.ofNat 32 mask)) := h.putWord _ (hr a ha)
    exact .ite (hput.trans (.of_regs rfl rfl rfl rfl rfl rfl rfl rfl)) hput

/-- The registers of the Proof log, doorbells and mailboxes. -/
abbrev LogOrBells (d e : Device) : Prop := TouchesOnly 0x0010400000 0x200000 d e

theorem logOrBells_modProof (d : Device) (f : Proof → Proof) : LogOrBells d (d.modProof f) :=
  .of_regs rfl rfl rfl rfl rfl rfl rfl rfl

theorem logOrBells_stage (d : Device) (r : Rec) : LogOrBells d (d.stage r) := by
  unfold Device.stage
  refine .ite ((TouchesOnly.refl d).bump (by decide) |>.trans (logOrBells_modProof _ _)) ?_
  have hnum : LogOrBells d (if d.flag F.PL_STATUS_SYNCED then d.numbered r else (r, d)).2 := by
    rw [apply_ite Prod.snd]
    exact .ite ((TouchesOnly.refl d).put _ (by decide)) (.refl d)
  exact (hnum.trans (logOrBells_modProof _ _)).put _ (by decide)

/-- The admission of a code touches the Proof log alone. -/
theorem logOrBells_admitCode (d : Device) (code unit : Nat) : LogOrBells d (d.admitCode code unit) := by
  unfold Device.admitCode
  refine .ite (.refl d) (.ite ?_ ?_)
  · exact .ite ((logOrBells_modProof _ _).trans (logOrBells_stage _ _))
      ((logOrBells_modProof _ _).trans (logOrBells_modProof _ _))
  · exact ((TouchesOnly.refl d).bump (by decide)).trans (logOrBells_modProof _ _)

/-- What the collector does to a device before the code is offered to the Proof log. -/
def Device.shown (d : Device) (code unit : Nat) : Device :=
  let d := if sev code = .record then d else d.history code unit
  if sev code = .fatal then d.enterFault else d

theorem logOrBells_collectOne (d : Device) (code unit : Nat) :
    LogOrBells (d.shown code unit) (d.collectOne (code, unit)) :=
  have hadmit : LogOrBells (d.shown code unit) (d.collect code unit) := logOrBells_admitCode _ _ _
  .ite (hadmit.ring _ _ (by decide)) hadmit

/-! ### The history of codes (R498) -/

/-- The entries of FR.HIST from the (n-1)-th on, each moved down by one. -/
def Device.shiftHist (d : Device) (n : Nat) : Device :=
  (List.range n).reverse.foldl (fun d i => d.putWord (F.HG_FR_HIST_CODE (i + 1)).addr
    (d.word (F.HG_FR_HIST_CODE i).addr)) d

theorem histAddr_inj {i j : Nat} : (F.HG_FR_HIST_CODE i).addr = (F.HG_FR_HIST_CODE j).addr ↔ i = j := by
  simp only [F.HG_FR_HIST_CODE]
  omega

theorem shiftHist_succ (d : Device) (n : Nat) : d.shiftHist (n + 1) =
    (d.putWord (F.HG_FR_HIST_CODE (n + 1)).addr (d.word (F.HG_FR_HIST_CODE n).addr)).shiftHist n := by
  simp [Device.shiftHist, List.range_succ]

/-- A register that no entry moves into reads as before. -/
theorem word_shiftHist_other (d : Device) (n a : Nat) (h : ∀ i < n, a ≠ (F.HG_FR_HIST_CODE (i + 1)).addr) :
    (d.shiftHist n).word a = d.word a := by
  induction n generalizing d with
  | zero => rfl
  | succ n ih =>
    rw [shiftHist_succ, ih _ fun i hi => h i (by omega), word_putWord, if_neg (h n (by omega))]

/-- Each entry moves into the next. -/
theorem word_shiftHist (d : Device) (n i : Nat) (h : i < n) :
    (d.shiftHist n).word (F.HG_FR_HIST_CODE (i + 1)).addr = d.word (F.HG_FR_HIST_CODE i).addr := by
  induction n generalizing d with
  | zero => omega
  | succ n ih =>
    rw [shiftHist_succ]
    by_cases hi : i = n
    · subst hi
      rw [word_shiftHist_other _ _ _ fun j hj hij => by have := histAddr_inj.1 hij; omega, word_putWord, if_pos rfl]
    · rw [ih _ (by omega), word_putWord, if_neg fun hin => by have := histAddr_inj.1 hin; omega]

/-- The entry of a code in the history. -/
def histEntry (code unit : Nat) : Word := BitVec.ofNat 32 (2 ^ 31 + (unit % 256) <<< 16 + code)

theorem history_eq (d : Device) (code unit : Nat) : d.history code unit =
    (((d.shiftHist 23).putWord (F.HG_FR_HIST_CODE 0).addr (histEntry code unit)).putWord F.HG_FR_NEWEST_CODE.addr
      (histEntry code unit)).bump F.HG_FR_RAISED := rfl

theorem shiftHist_bootc (d : Device) (n : Nat) : (d.shiftHist n).bootc = d.bootc := by
  induction n generalizing d with
  | zero => rfl
  | succ n ih => rw [shiftHist_succ, ih, putWord_bootc]

theorem history_bootc (d : Device) (code unit : Nat) : (d.history code unit).bootc = d.bootc := by
  rw [history_eq, bump_bootc, putWord_bootc, putWord_bootc, shiftHist_bootc]

theorem histEntry_toNat {code unit : Nat} (hcode : code < 2 ^ 16) :
    (histEntry code unit).toNat = 2 ^ 31 + (unit % 256) * 2 ^ 16 + code := by
  simp only [histEntry, BitVec.toNat_ofNat, Nat.shiftLeft_eq]
  exact Nat.mod_eq_of_lt (by omega)

/-- An entry holds its code and its mark. -/
theorem bits_histEntry {code unit : Nat} (hcode : code < 2 ^ 16) : bits (histEntry code unit).toNat 0 16 = code := by
  rw [histEntry_toNat hcode]
  simp only [bits, Nat.shiftRight_zero]
  omega

theorem testBit_histEntry {code unit : Nat} (hcode : code < 2 ^ 16) : (histEntry code unit).toNat.testBit 31 = true := by
  rw [histEntry_toNat hcode, Nat.testBit_eq_decide_div_mod_eq]
  exact decide_eq_true (by omega)

theorem shown_bootc (d : Device) (code unit : Nat) : (d.shown code unit).bootc = d.bootc := by
  unfold Device.shown
  have hfault : ∀ e : Device, (if sev code = .fatal then e.enterFault else e).bootc = e.bootc := fun e => by
    split <;> rfl
  rw [hfault]
  split
  · rfl
  · exact history_bootc d code unit

/-- A code taken to FAULT or not: the registers other than the boot's status read as before. -/
theorem word_shown (d : Device) (code unit a : Nat) (ha : a ≠ F.BOOT_STATUS_STATE.addr) :
    (d.shown code unit).word a = (if sev code = .record then d else d.history code unit).word a := by
  have hfault : ∀ e : Device, (if sev code = .fatal then e.enterFault else e).word a = e.word a := fun e => by
    split
    · exact word_put_other e F.BOOT_STATUS_STATE 10 a ha
    · rfl
  exact hfault _

/-- A FATAL code takes the part to FAULT. -/
theorem boot_shown (d : Device) (code unit : Nat) (h : sev code = .fatal) : (d.shown code unit).boot = 10 := by
  simp only [Device.shown, if_pos h]
  exact fld_put_same _ F.BOOT_STATUS_STATE 10 (by decide)

/-- What the registers below those of the timers read as after a command that raised one code. -/
theorem word_after_raised (s : State) {d : Device} (code unit a : Nat) (h : d.calm = true) (ha : a < 0x0010300000) :
    (s.after { d with raising := [(code, unit)] }).dev.word a =
      (({ d with raising := [(code, unit)] } : Device).shown code unit).word a := by
  have hcollect := logOrBells_collectOne { d with raising := [(code, unit)] } code unit
  have hquiet : (({ d with raising := [(code, unit)] } : Device).collectOne (code, unit)).restarts =
      ({ d with raising := [(code, unit)] } : Device).collectOne (code, unit) := by
    refine if_neg ?_
    rw [hcollect.bootc, shown_bootc]
    simp only [Device.calm, Bool.and_eq_true, Bool.not_eq_true'] at h
    obtain ⟨⟨-, hrestart⟩, hreboot⟩ := h
    simp [hrestart, hreboot]
  rw [State.after, commit_raised _ _ h, hquiet, tidy_word, hcollect.word _ (inRange_eq_false (by omega))]

/-- What the history's registers read as after a code of another severity than RECORD. -/
theorem word_history (d : Device) (code unit a : Nat) (ha : a ≠ F.HG_FR_RAISED.addr) :
    (d.history code unit).word a =
      if a = F.HG_FR_NEWEST_CODE.addr ∨ a = (F.HG_FR_HIST_CODE 0).addr then histEntry code unit
      else (d.shiftHist 23).word a := by
  rw [history_eq, Device.bump, Device.bumpBy, word_put_other _ _ _ _ ha, word_putWord, word_putWord]
  by_cases hnew : a = F.HG_FR_NEWEST_CODE.addr <;> simp [hnew]

theorem raised_history (d : Device) (code unit : Nat) (h : d.fld F.HG_FR_RAISED < 2 ^ 32 - 1) :
    (d.history code unit).fld F.HG_FR_RAISED = d.fld F.HG_FR_RAISED + 1 := by
  have hkept : (((d.shiftHist 23).putWord (F.HG_FR_HIST_CODE 0).addr (histEntry code unit)).putWord
      F.HG_FR_NEWEST_CODE.addr (histEntry code unit)).fld F.HG_FR_RAISED = d.fld F.HG_FR_RAISED := by
    have hshift : (d.shiftHist 23).word F.HG_FR_RAISED.addr = d.word F.HG_FR_RAISED.addr :=
      word_shiftHist_other _ _ _ fun i _ => by simp only [F.HG_FR_RAISED, F.HG_FR_HIST_CODE]; omega
    simp [Device.fld, word_putWord, F.HG_FR_RAISED, F.HG_FR_HIST_CODE, F.HG_FR_NEWEST_CODE] at hshift ⊢
    rw [hshift]
  rw [history_eq, Device.bump, Device.bumpBy, fld_put_same _ _ _ (by decide), hkept]
  simp only [F.HG_FR_RAISED] at h ⊢
  omega

/-- Settles O55: the end of the command collects its one code; the history shifts, FAULT is entered by a FATAL code, and
the admission to the Proof log and the doorbells lie elsewhere. -/
theorem raisedCodeIsCollected : Obligations.RaisedCodeIsCollected := by
  unfold Obligations.RaisedCodeIsCollected
  intro s d code unit hcalm hcode _ hraised t
  set e : Device := { d with raising := [(code, unit)] }
  have hword : ∀ a < 0x0010300000, t.word a = (e.shown code unit).word a := fun a ha =>
    word_after_raised s code unit a hcalm ha
  refine ⟨fun hsev => ?_, fun hsev i hi => ?_, fun hfatal => ?_⟩
  · have hshown : ∀ a < 0x0010300000, a ≠ F.BOOT_STATUS_STATE.addr → t.word a = (e.history code unit).word a :=
      fun a ha hb => by rw [hword a ha, word_shown _ _ _ _ hb, if_neg hsev]
    have hnew : t.word F.HG_FR_NEWEST_CODE.addr = histEntry code unit := by
      rw [hshown _ (by decide) (by decide), word_history _ _ _ _ (by decide), if_pos (.inl rfl)]
    have hfirst : t.word (F.HG_FR_HIST_CODE 0).addr = histEntry code unit := by
      rw [hshown _ (by decide) (by decide), word_history _ _ _ _ (by decide), if_pos (.inr rfl)]
    refine ⟨?_, ?_, ?_, fun i hi => ?_, ?_⟩
    · exact (congrArg (fun w : Word => bits w.toNat 0 16) hnew).trans (bits_histEntry hcode)
    · rw [hnew, testBit_histEntry hcode]
    · exact (congrArg (fun w : Word => bits w.toNat 0 16) hfirst).trans (bits_histEntry hcode)
    · have hplace : (F.HG_FR_HIST_CODE (i + 1)).addr < 0x0010300000 ∧
          (F.HG_FR_HIST_CODE (i + 1)).addr ≠ F.BOOT_STATUS_STATE.addr ∧
          (F.HG_FR_HIST_CODE (i + 1)).addr ≠ F.HG_FR_RAISED.addr ∧
          ¬ ((F.HG_FR_HIST_CODE (i + 1)).addr = F.HG_FR_NEWEST_CODE.addr ∨
            (F.HG_FR_HIST_CODE (i + 1)).addr = (F.HG_FR_HIST_CODE 0).addr) := by
        simp only [F.HG_FR_HIST_CODE, F.BOOT_STATUS_STATE, F.HG_FR_RAISED, F.HG_FR_NEWEST_CODE]
        omega
      obtain ⟨hlow, hboot, hcount, hnew⟩ := hplace
      rw [hshown _ hlow hboot, word_history _ _ _ _ hcount, if_neg hnew, word_shiftHist _ _ _ hi]
      rfl
    · exact (congrArg (fun w : Word => bits w.toNat 0 32) (hshown F.HG_FR_RAISED.addr (by decide) (by decide))).trans
        (raised_history e code unit hraised)
  · have hplace : (F.HG_FR_HIST_CODE i).addr < 0x0010300000 ∧
        (F.HG_FR_HIST_CODE i).addr ≠ F.BOOT_STATUS_STATE.addr := by
      simp only [F.HG_FR_HIST_CODE, F.BOOT_STATUS_STATE]
      omega
    rw [hword _ hplace.1, word_shown _ _ _ _ hplace.2, if_pos hsev]
    rfl
  · exact (congrArg (fun w : Word => bits w.toNat 28 4) (hword F.BOOT_STATUS_STATE.addr (by decide))).trans
      (boot_shown e code unit hfatal)

end Sys2Proof.Machine
end

section
/-! What R516 refuses to the host: raw access, and the registers of Hardground. -/

namespace Sys2Proof.Machine

section
variable {d : Device}

/-- A register of Hardground is at one address for every initiator, which the host does not reach. -/
theorem reach_host_hg {a : Nat} (hlo : 0x0010100000 ≤ a) (hhi : a < 0x0010101000) (wr : Bool) :
    iniAddr .host a = a ∧ d.reach iniHost a wr = false ∧ busOff a = 0x1008 := by
  have hwin : inRange a hostBase 0x10000 = false := inRange_eq_false (by unfold hostBase; omega)
  have haddr : iniAddr .host a = a := by
    have h1 : inRange a 0x0010500200 0x600 = false := inRange_eq_false (by omega)
    have h2 : inRange a 0x0010400000 0x1000 = false := inRange_eq_false (by omega)
    have h3 : inRange a 0x0010001000 0x20 = false := inRange_eq_false (by omega)
    have h4 : a ≠ 0x0010200800 ∧ a ≠ 0x0010200804 := by omega
    simp [iniAddr, h1, h2, h3, h4]
  exact ⟨haddr, reach_host_outside_window hwin (indOpen_below_units d wr hwin (by omega)), busOff_outside_window hwin⟩

/-- A write of a register of Hardground by the host is discarded. -/
theorem writeReg_host_hg {a : Nat} (w : Word) (hlo : 0x0010100000 ≤ a) (hhi : a < 0x0010101000) :
    d.writeReg .host a w = d.accError iniHost 3 0x1008 := by
  obtain ⟨haddr, hreach, hoff⟩ := reach_host_hg (d := d) hlo hhi true
  rw [Device.writeReg, haddr, show Ini.host.num = iniHost from rfl, busWrite_unreached _ hreach, hoff]

/-- An access that takes operands of its own is an access error or has its effect. -/
theorem viaPath_cases (d : Device) (ini : Ini) (a : Nat) (f : Nat → Device → Device) :
    (∃ k, d.viaPath ini a f = d.accError ini.num k (busOff a)) ∨ d.viaPath ini a f = f (busOff a) d := by
  unfold Device.viaPath
  split
  · exact .inl ⟨3, rfl⟩
  · split
    · exact .inl ⟨4, rfl⟩
    · split
      · split
        · exact .inl ⟨1, rfl⟩
        · exact .inr rfl
      · exact .inl ⟨1, rfl⟩

/-- RAW_CMD of a block lies outside the host window. -/
theorem busOff_rawCmdAddr (b : IntBlk) : busOff b.rawCmdAddr = 0x1008 := by
  obtain ⟨hlo, -, -⟩ := b.base_bounds
  have hbeyond : hostBase + 0x10000 ≤ b.rawCmdAddr := by
    cases b with
    | mc m =>
      change hostBase + 0x10000 ≤ 0x0350000604 + 0x1000000 * m.val
      unfold hostBase
      omega
    | _ => exact Nat.le_trans (by unfold hostBase; omega) (Nat.le_add_right _ 0xC4)
  exact busOff_outside_window (inRange_eq_false (.inr hbeyond))

/-- A raw command of the host ends in an access error or in an error of the block. -/
theorem rawCmd_host (s : State) (b : IntBlk) (cmd : Nat) (vf : List Bool) {t : State}
    (h : (.next (s.after (s.dev.viaPath .host b.rawCmdAddr fun _ d => d.rawCmd iniHost b.block cmd vf)) :
      Host.Outcome State Fault Refusal) = .next t) :
    ∃ k, t = s.after (s.dev.accError iniHost k 0x1008) ∨
      ∃ vf', t = s.after (({ s.dev with verifyFails := vf' } : Device).rawResult b.block false) := by
  obtain rfl := Host.Outcome.next.inj h
  rcases viaPath_cases s.dev .host b.rawCmdAddr fun _ d => d.rawCmd iniHost b.block cmd vf with ⟨k, hk⟩ | hraw
  · exact ⟨k, .inl (by rw [hk, busOff_rawCmdAddr]; rfl)⟩
  · exact ⟨0, .inr ⟨vf, congrArg s.after (hraw.trans rfl)⟩⟩

end

/-- Settles O44: the host reaches no register of Hardground, and a raw command ends in an error for any initiator but
the Scribes and JTAG. -/
theorem hostInjectsNoFaults : Obligations.HostInjectsNoFaults := by
  unfold Obligations.HostInjectsNoFaults
  intro s
  refine ⟨fun c tied => ?_, ?_, fun r bytes tied => ?_, fun b vf t h => ?_⟩
  · obtain ⟨haddr, hreach, -⟩ := reach_host_hg (d := s.dev) (a := F.HG_DECLARE.addr) (by decide) (by decide) true
    refine (exec_hgDeclare .host c tied s).trans (next_after_congr s ?_)
    have htie : s.dev.tie tied Ini.host.num (iniAddr .host F.HG_DECLARE.addr) true = s.dev :=
      tie_unreached tied (by rw [haddr]; exact hreach)
    exact (congrArg (Device.writeCmd .host F.HG_DECLARE c) htie).trans (writeReg_host_hg _ (by decide) (by decide))
  · exact (exec_partRestart .host s).trans (next_after_congr s (writeReg_host_hg _ (by decide) (by decide)))
  · have haddr : (BitVec.ofNat 40 (F.HG_RETIRE r).addr).toNat = (F.HG_RETIRE r).addr := by decide +revert
    have hr : 0x0010100000 ≤ (F.HG_RETIRE r).addr ∧ (F.HG_RETIRE r).addr < 0x0010101000 := by
      simp only [F.HG_RETIRE]
      omega
    obtain ⟨-, hreach, hoff⟩ := reach_host_hg (d := s.dev) hr.1 hr.2 true
    have hwrite := exec_write_unreached (ini := .host) (a := BitVec.ofNat 40 (F.HG_RETIRE r).addr) bytes tied
      (by rw [haddr]; exact hreach)
    rw [haddr, hoff] at hwrite
    exact hwrite
  · rcases h with h | h | h | h
    · exact rawCmd_host s b 1 [] h
    · exact rawCmd_host s b 2 vf h
    · exact rawCmd_host s b 3 [] h
    · exact rawCmd_host s b 4 [] h

end Sys2Proof.Machine
end

section
/-! The I3C target: common command codes, private transfers, and its own requests (R407 to R413, R422). -/

namespace Sys2Proof.Machine

/-! ### Common command codes (R407, R408, R412) -/

section
variable {d : Device}

/-- A broadcast code has its effect; a direct one at a target with a dynamic address, once its clocks run. -/
theorem ccc_eq (d : Device) (direct : Bool) (f : Device → Device) :
    d.ccc direct f = if direct = false then f d else if d.host.i3c.da.isSome = true then d.clocked f else d.nack := by
  cases direct <;> rfl

theorem unsupported_eq (d : Device) (direct : Bool) :
    d.unsupported direct = if direct = true then d.ccc true Device.nack else d := by
  cases direct <;> rfl

/-- The answer of ENTDAA is the same whether or not the arbitration is won. -/
theorem entdaa_eq (d : Device) (a : BitVec 7) (won : Bool) :
    d.entdaa a won = if d.host.i3c.da.isSome = true then d.nack
      else (if won = true then d.assign a else d).ack (beBytes 6 d.pid ++ [0x26, 0x00]) := by
  cases won <;> rfl

/-- A target reset pattern restarts the part where RSTACT asked for it and POR does not hold it. -/
theorem resetPattern_eq (d : Device) :
    d.resetPattern = if d.host.i3c.rstAct = 0 ∨ d.bootc.por = true then d
      else if d.resetNow.releaseHeld = true then d.resetNow else d.resetNow.releaseNow := by
  by_cases hact : d.host.i3c.rstAct = 0
  · exact (if_pos hact).trans (if_pos (.inl hact)).symm
  · exact (if_neg hact).trans (if_congr (by simp [hact]) rfl rfl)

end

/-- Settles O28: a code is served as its address and the clocks let it; each code has then the effect that its meaning
writes out. -/
theorem i3cCodesComplete : Obligations.I3cCodesComplete := by
  unfold Obligations.I3cCodesComplete
  intro s held served code
  have hcode : ∀ direct f, s.dev.ccc direct f = code direct f := ccc_eq s.dev
  refine ⟨fun direct => ⟨fun ev => ⟨?_, ?_⟩, ?_, fun v => ⟨?_, ?_⟩, fun b => ?_, ?_, ?_⟩, exec_rstdaa s, exec_enthdr0 s,
    exec_i3cProtocolError s, fun a => ⟨?_, ?_, fun won => ?_⟩, ?_, ?_, ?_, ⟨?_, ?_, ?_, ?_⟩, exec_getstatus s, ?_⟩
  · exact (exec_enec direct ev s).trans (next_after_congr s (hcode direct _))
  · exact (exec_disec direct ev s).trans (next_after_congr s (hcode direct _))
  · exact (exec_entas direct s).trans (next_after_congr s (hcode direct _))
  · exact (exec_setmwl direct v s).trans (next_after_congr s (hcode direct _))
  · exact (exec_setmrl direct v s).trans (next_after_congr s (hcode direct _))
  · exact (exec_rstact direct (some b) s).trans (next_after_congr s (hcode direct _))
  · exact (exec_rstact direct none s).trans (next_after_congr s (hcode true _))
  · refine (exec_unsupportedCcc direct s).trans (next_after_congr s ((unsupported_eq s.dev direct).trans ?_))
    rw [hcode]
  · exact (exec_setnewda a s).trans (next_after_congr s (hcode true _))
  · exact exec_setdasa a s
  · exact (exec_entdaa a won s).trans (next_after_congr s (entdaa_eq s.dev a won))
  · exact (exec_getmwl s).trans (next_after_congr s (hcode true _))
  · exact (exec_getmrl s).trans (next_after_congr s (hcode true _))
  · exact (exec_getmxds s).trans (next_after_congr s (hcode true _))
  · exact exec_getpid s
  · exact exec_getbcr s
  · exact exec_getdcr s
  · exact exec_getcaps s
  · exact (exec_targetResetPattern s).trans (next_after_congr s (resetPattern_eq s.dev))

/-! ### Private transfers and requests (R409 to R413, R422) -/

section
variable {d : Device}

/-- A write at the dynamic address sets the offset of its first two bytes and writes words from there on. -/
theorem privWrite_offset (d : Device) (a b : Byte) (t : List Byte) :
    d.privWrite (a :: b :: t) =
      let o := a.toNat + 256 * b.toNat
      let e : Device := (d.modI3c (fun x => { x with offset := o })).ack []
      if o % 4 = 0 then privWords t e else e.accError iniHost 0 o := by
  have ho : leNat [a, b] = a.toNat + 256 * b.toNat := by simp [leNat]
  unfold Device.privWrite
  simp only [ho, ne_eq, ite_not]

theorem privReadBytes_eq (d : Device) (n : Nat) :
    d.privReadBytes n =
      let o := d.host.i3c.offset
      if o % 4 = 0 then
        let r := privRead (ceilDiv n 4) d
        (if n % 4 = 0 then r.2 else r.2.accError iniHost 0 (min 0xFFFC (r.2.host.i3c.offset - 4))).ack (r.1.take n)
      else (d.accError iniHost 0 o).ack (List.replicate n 0) := by
  simp only [Device.privReadBytes, ne_eq, ite_not]

/-- What a target without a dynamic address does not answer. -/
theorem privateAt_eq (d : Device) (ddr : Option Byte) (code : Byte) (f : Device → Device) :
    d.privateAt ddr code f =
      if d.host.i3c.da.isSome = false then d.nack
      else match ddr with
        | none => (d.modI3c (fun x => { x with hdr := false })).clocked f
        | some c => if d.host.i3c.hdr = true then d.clocked (if c = code then f else Device.nack) else d.nack := by
  unfold Device.privateAt
  cases hda : d.host.i3c.da with
  | none => rfl
  | some x =>
    cases ddr with
    | none => rfl
    | some c => by_cases hc : c = code <;> simp [hc]

/-- A Hot-Join that is due is requested until it is acknowledged. -/
theorem hotJoin_due (acked : Bool) (hj : d.host.i3c.hj = true) (hen : d.host.i3c.enHj = true)
    (hda : d.host.i3c.da.isSome = false) (hlatched : d.bootc.latched = true)
    (hdue : ∀ t, d.host.i3c.hjAt = some t → 100000 ≤ d.since t) :
    d.hotJoin acked =
      d.modI3c (fun y => { y with hj := !acked, hjAt := some d.timebase, acked := acked, reply := [] }) := by
  refine if_pos ?_
  cases hat : d.host.i3c.hjAt with
  | none => simp_all
  | some t => simp_all [hdue t hat]

theorem ibiRequest_pending (acked : Bool) (hibi : d.host.i3c.ibi = true) (hen : d.host.i3c.enInt = true)
    (hda : d.host.i3c.da.isSome = true) (hbells : d.pendingBells ≠ 0) :
    d.ibiRequest acked =
      d.modI3c (fun x => { x with ibi := !acked, acked := acked, reply := [BitVec.ofNat 8 d.bellSummary] }) :=
  (if_pos ⟨hibi, hen, hda⟩).trans (if_neg hbells)

end

/-- Settles O29: a transfer is served as its address, its mode and the clocks let it; the words that it moves are those
of the model's transfers. -/
theorem i3cTransfersComplete : Obligations.I3cTransfersComplete := by
  unfold Obligations.I3cTransfersComplete
  intro s held served put get at_
  have hput : ∀ l d, Device.privWrite l d = put l d := by
    intro l d
    match l with
    | [] | [_] => rfl
    | a :: b :: t => exact privWrite_offset d a b t
  have hget : ∀ n d, Device.privReadBytes n d = get n d := fun n d => privReadBytes_eq d n
  have hat : ∀ ddr code f, s.dev.privateAt ddr code f = at_ ddr code f := privateAt_eq s.dev
  refine ⟨fun ddr l => ?_, fun ddr len => ?_, fun wr rd => ?_, fun acked hj hen hda hlatched hdue => ?_,
    fun acked hibi hen hda hbells => ?_⟩
  · rw [exec_privateWrite, ← funext (hput l), ← hat]
    rfl
  · rw [exec_privateRead, ← funext (hget len), ← hat]
    rfl
  · have hbody : (fun d : Device =>
          let d := if wr.isEmpty then d else d.privWrite wr
          if rd.val = 0 then d else d.privReadBytes rd) =
        fun d => let d : Device := if wr = [] then d else put wr d; if rd.val = 0 then d else get rd d := by
      funext d
      have hwr : (if wr.isEmpty = true then d else d.privWrite wr) = if wr = [] then d else put wr d := by
        rw [← hput]
        exact if_congr List.isEmpty_iff rfl rfl
      simp only [hwr, hget]
    exact (exec_i2cTransfer wr rd s).trans (next_after_congr s (if_congr Iff.rfl rfl
      (congrArg (fun f => Device.clocked f (s.dev.modI3c (fun x => { x with hj := false }))) hbody)))
  · exact (exec_hotJoinRequest acked s).trans (next_after_congr s (hotJoin_due acked hj hen hda hlatched hdue))
  · exact (exec_ibiRequest acked s).trans (next_after_congr s (ibiRequest_pending acked hibi hen hda hbells))

end Sys2Proof.Machine
end

section
/-! Commands of the I3C target and of the TAP that touch their own logic alone (R407, R408, R413, R422, R442). -/

namespace Sys2Proof.Machine

/-- An effect that touches no register and no memory. -/
abbrev Untouched (d e : Device) : Prop := TouchesOnly 0x0010300000 0 d e

section
variable {d e : Device}

theorem untouched_modI3c (h : Untouched d e) (f : I3c → I3c) : Untouched d (e.modI3c f) :=
  h.trans (.of_regs rfl rfl rfl rfl rfl rfl rfl rfl)

theorem untouched_modJtag (h : Untouched d e) (f : Jtag → Jtag) : Untouched d (e.modJtag f) :=
  h.trans (.of_regs rfl rfl rfl rfl rfl rfl rfl rfl)

theorem untouched_request (h : Untouched d e) (r : TokenReq) : Untouched d (e.request r) :=
  h.trans (.of_regs rfl rfl rfl rfl rfl rfl rfl rfl)

theorem untouched_ack (h : Untouched d e) (l : List Byte) : Untouched d (e.ack l) := untouched_modI3c h _

theorem untouched_nack (d : Device) : Untouched d d.nack := untouched_modI3c (.refl d) _

theorem untouched_jtagIr (d : Device) (ir : Nat) (out : List Bool) : Untouched d (d.jtagIr ir out) :=
  untouched_modJtag (.refl d) _

/-- With the clocks running a code has its effect or is not acknowledged. -/
theorem untouched_clocked {f : Device → Device} (hclk : d.power.gated = false) (hf : Untouched d (f d)) :
    Untouched d (d.clocked f) := by
  rw [Device.clocked, if_neg (Bool.eq_false_iff.1 hclk)]
  exact hf

theorem untouched_ccc {f : Device → Device} (direct : Bool) (hclk : d.power.gated = false) (hf : Untouched d (f d)) :
    Untouched d (d.ccc direct f) :=
  .ite (.ite (untouched_clocked hclk hf) (untouched_nack d)) hf

theorem untouched_cccGet (d : Device) (bytes : Device → List Byte) : Untouched d (d.cccGet bytes) :=
  .ite (untouched_ack (.refl d) _) (untouched_nack d)

/-- A code that sets something of the target, where its value is in range. -/
theorem untouched_setOr {c : Prop} [Decidable c] (f : I3c → I3c) :
    Untouched d (if c then (d.modI3c f).ack [] else d.nack) :=
  .ite (untouched_ack (untouched_modI3c (.refl d) f) []) (untouched_nack d)

theorem untouched_assign (d : Device) (a : BitVec 7) : Untouched d (d.assign a) := untouched_modI3c (.refl d) _

theorem untouched_entdaa (d : Device) (a : BitVec 7) (won : Bool) : Untouched d (d.entdaa a won) :=
  .ite (untouched_nack d) (.ite (untouched_ack (untouched_assign d a) _) (untouched_ack (.refl d) _))

theorem untouched_hotJoin (d : Device) (acked : Bool) : Untouched d (d.hotJoin acked) :=
  .ite (untouched_modI3c (.refl d) _) (.refl d)

theorem untouched_ibiRequest (d : Device) (acked : Bool) : Untouched d (d.ibiRequest acked) :=
  .ite (.ite (untouched_modI3c (.refl d) _) (untouched_modI3c (.refl d) _)) (.refl d)

theorem untouched_rstact (direct : Bool) (b : Option Byte) (hclk : d.power.gated = false) :
    Untouched d (d.rstact direct b) := by
  cases b with
  | none => exact untouched_ccc true hclk (untouched_ack (.refl d) _)
  | some b => exact untouched_ccc direct hclk (untouched_setOr _)

theorem untouched_unsupported (direct : Bool) (hclk : d.power.gated = false) : Untouched d (d.unsupported direct) :=
  .ite (.ite (untouched_clocked hclk (untouched_nack d)) (untouched_nack d)) (.refl d)

end

/-- A command whose effect touches no register and no memory of a calm device leaves them as they were. -/
theorem rest_of_untouched {s : State} {e : Device} (hcalm : s.dev.calm = true) (h : Untouched s.dev e) :
    (∀ a, (s.after e).dev.word a = s.dev.word a) ∧ (∀ a, (s.after e).dev.byte a = s.dev.byte a) ∧
      (s.after e).pending = s.pending := by
  have hafter := after_calm s (h.calm (le_refl _) hcalm)
  refine ⟨fun a => ?_, fun a => ?_, ?_⟩
  · rw [hafter, tidy_word, h.word a (inRange_eq_false (by omega))]
  · rw [hafter, tidy_byte, byte_congr h.mem]
  · rw [hafter]

/-- Settles O59: each of these commands changes the target's or the TAP's own state. -/
theorem targetAndTapLeaveTheRest : Obligations.TargetAndTapLeaveTheRest := by
  unfold Obligations.TargetAndTapLeaveTheRest
  intro s t c hcalm hclk hc hexec
  have hrest : ∀ e, exec c s = .next (s.after e) → Untouched s.dev e →
      (∀ a, t.dev.word a = s.dev.word a) ∧ (∀ a, t.dev.byte a = s.dev.byte a) ∧ t.pending = s.pending := by
    intro e he hun
    obtain rfl := Host.Outcome.next.inj (he.symm.trans hexec)
    exact rest_of_untouched hcalm hun
  have hself : Untouched s.dev s.dev := .refl _
  simp only [List.mem_cons, List.not_mem_nil, or_false] at hc
  rcases hc with (rfl | rfl | rfl | rfl | rfl | rfl | rfl | rfl | rfl | rfl | rfl | rfl | rfl | rfl | rfl | rfl | rfl |
    rfl | rfl | rfl) | ⟨direct, x, rfl | rfl⟩ | ⟨direct, v, rfl | rfl⟩ | ⟨direct, b, rfl⟩ | ⟨a, rfl | rfl⟩ |
    ⟨a, won, rfl⟩ | ⟨pins, load, rfl | rfl⟩ | ⟨x, rfl⟩ | ⟨acked, rfl | rfl⟩
  · exact hrest _ (exec_entas true s) (untouched_ccc true hclk (untouched_ack hself _))
  · exact hrest _ (exec_entas false s) (untouched_ccc false hclk (untouched_ack hself _))
  · exact hrest _ (exec_rstdaa s) (untouched_ack (untouched_modI3c hself _) _)
  · exact hrest _ (exec_enthdr0 s) (untouched_ack (untouched_modI3c hself _) _)
  · exact hrest _ (exec_getmwl s) (untouched_ccc true hclk (untouched_ack hself _))
  · exact hrest _ (exec_getmrl s) (untouched_ccc true hclk (untouched_ack hself _))
  · exact hrest _ (exec_getpid s) (untouched_cccGet _ _)
  · exact hrest _ (exec_getbcr s) (untouched_cccGet _ _)
  · exact hrest _ (exec_getdcr s) (untouched_cccGet _ _)
  · exact hrest _ (exec_getstatus s) (.ite (untouched_modI3c (untouched_ack hself _) _) (untouched_nack _))
  · exact hrest _ (exec_getmxds s) (untouched_ccc true hclk (untouched_ack hself _))
  · exact hrest _ (exec_getcaps s) (untouched_cccGet _ _)
  · exact hrest _ (exec_unsupportedCcc true s) (untouched_unsupported true hclk)
  · exact hrest _ (exec_unsupportedCcc false s) (untouched_unsupported false hclk)
  · exact hrest _ (exec_bypass s) (untouched_jtagIr _ _ _)
  · exact hrest _ (exec_idcode s) (untouched_jtagIr _ _ _)
  · exact hrest _ (exec_clamp s) (untouched_modJtag (untouched_jtagIr _ _ _) _)
  · exact hrest _ (exec_highz s) (untouched_jtagIr _ _ _)
  · exact hrest _ (exec_jtagStatus s) (untouched_jtagIr _ _ _)
  · exact hrest _ (exec_testLogicReset s) (untouched_modJtag hself _)
  · exact hrest _ (exec_enec direct x s) (untouched_ccc direct hclk (untouched_ack (untouched_modI3c hself _) _))
  · exact hrest _ (exec_disec direct x s) (untouched_ccc direct hclk (untouched_ack (untouched_modI3c hself _) _))
  · exact hrest _ (exec_setmwl direct v s) (untouched_ccc direct hclk (untouched_setOr _))
  · exact hrest _ (exec_setmrl direct v s) (untouched_ccc direct hclk (untouched_setOr _))
  · exact hrest _ (exec_rstact direct b s) (untouched_rstact direct b hclk)
  · exact hrest _ (exec_setdasa a s)
      (.ite (untouched_nack _) (untouched_clocked hclk (untouched_ack (untouched_assign _ a) _)))
  · exact hrest _ (exec_setnewda a s) (untouched_ccc true hclk (untouched_ack (untouched_assign _ a) _))
  · exact hrest _ (exec_entdaa a won s) (untouched_entdaa _ a won)
  · exact hrest _ (exec_samplePreload pins load s) (untouched_modJtag (untouched_jtagIr _ _ _) _)
  · exact hrest _ (exec_extest pins load s) (untouched_modJtag (untouched_jtagIr _ _ _) _)
  · exact hrest _ (exec_token x s) (untouched_request (untouched_jtagIr _ _ _) _)
  · exact hrest _ (exec_hotJoinRequest acked s) (untouched_hotJoin _ acked)
  · exact hrest _ (exec_ibiRequest acked s) (untouched_ibiRequest _ acked)

end Sys2Proof.Machine
end

section
/-! The timer unit: what its operations leave alone, count ticks (R470), and gates (R474). -/

namespace Sys2Proof.Machine

/-- What no effect of a repetition changes, the repetition does not change. -/
theorem each_eq {α β : Type} (g : Device → β) {l : List α} {f : Device → α → Device} (d : Device)
    (h : ∀ x ∈ l, ∀ e : Device, g (f e x) = g e) : g (d.each l f) = g d := by
  induction l generalizing d with
  | nil => rfl
  | cons x t ih => exact (ih (f d x) fun y hy => h y (List.mem_cons_of_mem _ hy)).trans (h x (by simp) d)

/-! ### Pins and wraps (R479) -/

@[simp] theorem fld_modTch (d : Device) (i : Nat) (f : TimerCh → TimerCh) (x : Fld) :
    (d.modTch i f).fld x = d.fld x := rfl
@[simp] theorem fld_modTout (d : Device) (j : Nat) (f : TrigOut → TrigOut) (x : Fld) :
    (d.modTout j f).fld x = d.fld x := rfl

section
variable {d : Device}

theorem fld_setOut {f : Fld} (hf : f.addr ≠ F.TMR_TRIG_STATUS_OUT.addr) (j : Nat) (v : Bool) :
    (d.setOut j v).fld f = d.fld f := fld_put_addr _ _ _ _ hf

/-- The pins as they now stand are TRIG_STATUS alone. -/
theorem fld_showOuts {f : Fld} (hf : f.addr ≠ F.TMR_TRIG_STATUS_OUT.addr) : d.showOuts.fld f = d.fld f := by
  refine each_eq (·.fld f) d fun j _ e => ?_
  dsimp only
  split
  · rfl
  · split
    · exact fld_setOut hf _ _
    · exact fld_setOut hf _ _
    · rfl

theorem showOuts_timers (d : Device) : d.showOuts.timers = d.timers := by
  refine each_eq (·.timers) d fun j _ e => ?_
  dsimp only
  split
  · rfl
  · split
    · exact put_timers _ _ _
    · exact put_timers _ _ _
    · rfl

/-- A wrap sets WRAP, counts in WRAPS, and drives pins. -/
theorem fld_wrap {i : Nat} {f : Fld} (hout : f.addr ≠ F.TMR_TRIG_STATUS_OUT.addr)
    (hwraps : f.addr ≠ (F.TIMER_WRAPS i).addr) :
    (d.wrap i).fld f = (d.put (F.TIMER_STATUS_WRAP i) 1).fld f := by
  have hpins : (d.wrap i).fld f = ((d.put (F.TIMER_STATUS_WRAP i) 1).bump (F.TIMER_WRAPS i)).fld f := by
    refine each_eq (·.fld f) _ fun j _ e => ?_
    split
    · rfl
    · split
      · rw [fld_modTout, fld_setOut hout]
      · exact fld_setOut hout _ _
      · rfl
  exact hpins.trans (fld_put_addr _ _ _ _ hwraps)

/-! ### Counts of 32 and 64 bits (R472) -/

theorem linkedLow_put {f : Fld} (d : Device) (i v : Nat)
    (hf : f.addr ≠ (F.TIMER_CTRL_LINK i).addr ∨ f.lo + f.len ≤ 29 ∨ 30 ≤ f.lo) :
    (d.put f v).linkedLow i = d.linkedLow i := by
  have hlink : (d.put f v).fld (F.TIMER_CTRL_LINK i) = d.fld (F.TIMER_CTRL_LINK i) :=
    fld_put_other _ _ _ _ (hf.imp Ne.symm id)
  simp only [Device.linkedLow, Device.flag, hlink]

/-- A count is set whole, in both halves of a linked pair. -/
theorem countOf_setCount (d : Device) (i v : Nat) (hv : v < if d.linkedLow i = true then 2 ^ 64 else 2 ^ 32) :
    (d.setCount i v).countOf i = v := by
  have hlink : ∀ (e : Device) (k w : Nat), (e.put (F.TIMER_COUNT k) w).linkedLow i = e.linkedLow i := fun e k w =>
    linkedLow_put e i w (.inl (by simp only [F.TIMER_COUNT, F.TIMER_CTRL_LINK]; omega))
  have hlow : ∀ e : Device, (e.put (F.TIMER_COUNT i) v).fld (F.TIMER_COUNT i) = v % 2 ^ 32 := fun e =>
    fld_put_same e _ v (le_refl 32)
  cases hpair : d.linkedLow i with
  | false =>
    rw [hpair, if_neg Bool.false_ne_true] at hv
    simp only [Device.setCount, Device.countOf, hlink, hpair, Bool.false_eq_true, if_false, hlow]
    omega
  | true =>
    rw [hpair, if_pos rfl] at hv
    have hhigh : ∀ e : Device, (e.put (F.TIMER_COUNT (i + 1)) (v >>> 32)).fld (F.TIMER_COUNT (i + 1)) =
        (v >>> 32) % 2 ^ 32 := fun e => fld_put_same e _ _ (le_refl 32)
    have hkept : ∀ e : Device, (e.put (F.TIMER_COUNT (i + 1)) (v >>> 32)).fld (F.TIMER_COUNT i) =
        e.fld (F.TIMER_COUNT i) := fun e => fld_put_addr e _ _ _ (by simp only [F.TIMER_COUNT]; omega)
    simp only [Device.setCount, Device.countOf, hlink, hpair, if_true, hlow, hhigh, hkept]
    rw [Nat.shiftRight_eq_div_pow, Nat.shiftLeft_eq]
    omega

theorem halves_lt (d : Device) (i : Nat) (f g : Fld) (hf : f.len = 32) (hg : g.len = 32) :
    d.fld f + (if d.linkedLow i = true then d.fld g <<< 32 else 0) <
      if d.linkedLow i = true then 2 ^ 64 else 2 ^ 32 := by
  have hlo := fld_lt d f
  have hhi := fld_lt d g
  rw [hf] at hlo
  rw [hg] at hhi
  split
  · rw [Nat.shiftLeft_eq]
    omega
  · omega

theorem countOf_lt (d : Device) (i : Nat) : d.countOf i < if d.linkedLow i = true then 2 ^ 64 else 2 ^ 32 :=
  halves_lt d i _ _ rfl rfl

theorem periodOf_lt (d : Device) (i : Nat) : d.periodOf i < if d.linkedLow i = true then 2 ^ 64 else 2 ^ 32 :=
  halves_lt d i _ _ rfl rfl

/-- The next count is 0, 1, or next to a count that stays within PERIOD. -/
theorem countNext_lt {updown down : Bool} {p c b : Nat} (hb : 2 ≤ b) (hp : p < b) (hc : c < b) :
    (countNext updown down p c).1 < b := by
  unfold countNext
  split_ifs <;> omega

theorem countOf_congr {d e : Device} {i : Nat} (hlink : e.fld (F.TIMER_CTRL_LINK i) = d.fld (F.TIMER_CTRL_LINK i))
    (hcount : ∀ k, e.fld (F.TIMER_COUNT k) = d.fld (F.TIMER_COUNT k)) : e.countOf i = d.countOf i := by
  unfold Device.countOf Device.linkedLow Device.flag
  rw [hlink, hcount, hcount]

/-! ### The count tick (R470) -/

/-- A channel with its prescaler period taken off and its count and direction moved. -/
def Device.moved (d : Device) (i : Nat) (count : Nat) (down : Bool) : Device :=
  let e := (d.modTch i (fun t => { t with pres := t.pres - (d.fld (F.TIMER_CTRL_PRESCALE i) + 1) })).setCount i count
  if d.linkedLow i then e else e.put (F.TIMER_CTRL_DIR i) (b2n down)

/-- A channel after a count tick whose update is r: the count, the direction, and whether WRAP and PERIOD_SHORT are
set. -/
def Device.ticked (d : Device) (i : Nat) (r : Nat × Bool × Bool × Bool) : Device :=
  let e := d.moved i r.1 r.2.1
  let e := if r.2.2.2 then e.put (F.TIMER_STATUS_PERIOD_SHORT i) 1 else e
  (if r.2.2.1 then e.wrap i else e).showOuts

/-- The update that R470 gives a channel or a linked pair. -/
def Device.nextCount (d : Device) (i : Nat) : Nat × Bool × Bool × Bool :=
  countNext (!d.linkedLow i && d.flag (F.TIMER_CTRL_MODE i)) (d.flag (F.TIMER_CTRL_DIR i)) (d.periodOf i) (d.countOf i)

theorem countTick_due {i : Nat} (hcount : d.counting i = true)
    (hpres : d.fld (F.TIMER_CTRL_PRESCALE i) + 1 ≤ (d.tch i).pres) : d.countTick i = d.ticked i (d.nextCount i) :=
  if_neg (by simpa [hcount] using hpres)

theorem countTick_idle {i : Nat} (h : d.counting i = false) : d.countTick i = d :=
  if_pos (by simp [h])

theorem fld_ticked {i : Nat} {r : Nat × Bool × Bool × Bool} {f : Fld} (hout : f.addr ≠ F.TMR_TRIG_STATUS_OUT.addr)
    (hwraps : f.addr ≠ (F.TIMER_WRAPS i).addr) (hstatus : f.addr ≠ (F.TIMER_STATUS_WRAP i).addr) :
    (d.ticked i r).fld f = (d.moved i r.1 r.2.1).fld f := by
  have hshort : (if r.2.2.2 then (d.moved i r.1 r.2.1).put (F.TIMER_STATUS_PERIOD_SHORT i) 1
      else d.moved i r.1 r.2.1).fld f = (d.moved i r.1 r.2.1).fld f := by
    split
    · exact fld_put_addr _ _ _ _ hstatus
    · rfl
  rw [Device.ticked, fld_showOuts hout]
  split
  · rw [fld_wrap hout hwraps, fld_put_addr _ _ _ _ hstatus, hshort]
  · exact hshort

theorem fld_moved {i c : Nat} {down : Bool} {f : Fld} (hctrl : f.addr ≠ (F.TIMER_CTRL_DIR i).addr)
    (hcount : ∀ k, f.addr ≠ (F.TIMER_COUNT k).addr) : (d.moved i c down).fld f = d.fld f := by
  have hset : ∀ e : Device, (e.setCount i c).fld f = e.fld f := by
    intro e
    unfold Device.setCount
    dsimp only
    split
    · rw [fld_put_addr _ _ _ _ (hcount _), fld_put_addr _ _ _ _ (hcount _)]
    · exact fld_put_addr _ _ _ _ (hcount _)
  unfold Device.moved
  dsimp only
  split
  · rw [hset, fld_modTch]
  · rw [fld_put_addr _ _ _ _ hctrl, hset, fld_modTch]

theorem countOf_moved {i c : Nat} (down : Bool) (hc : c < if d.linkedLow i = true then 2 ^ 64 else 2 ^ 32) :
    (d.moved i c down).countOf i = c := by
  have hset : ∀ f, ((d.modTch i f).setCount i c).countOf i = c := fun f => countOf_setCount (d.modTch i f) i c hc
  have hctrl : ∀ k, (F.TIMER_COUNT k).addr ≠ (F.TIMER_CTRL_DIR i).addr := fun k => by
    simp only [F.TIMER_COUNT, F.TIMER_CTRL_DIR]
    omega
  unfold Device.moved
  dsimp only
  split
  · exact hset _
  · rw [countOf_congr (fld_put_other _ _ _ _ (.inr (.inl (le_refl 29)))) fun k => fld_put_addr _ _ _ _ (hctrl k)]
    exact hset _

/-- Up counting: of a channel in that mode, and of a linked pair. -/
theorem nextCount_up {i : Nat} (hup : d.fld (F.TIMER_CTRL_MODE i) = 0 ∨ d.linkedLow i = true) :
    d.nextCount i = if d.periodOf i ≤ d.countOf i then
        (0, d.flag (F.TIMER_CTRL_DIR i), true, decide (d.periodOf i < d.countOf i))
      else (d.countOf i + 1, d.flag (F.TIMER_CTRL_DIR i), false, false) := by
  have hmode : (!d.linkedLow i && d.flag (F.TIMER_CTRL_MODE i)) = false := by
    rcases hup with h | h <;> simp [h, Device.flag]
  rw [Device.nextCount, hmode]
  rfl

theorem mode_updown {i : Nat} (hup : ¬ (d.fld (F.TIMER_CTRL_MODE i) = 0 ∨ d.linkedLow i = true)) :
    (!d.linkedLow i && d.flag (F.TIMER_CTRL_MODE i)) = true := by
  simpa [Device.flag, and_comm] using hup

theorem nextCount_zero {i : Nat} (hup : ¬ (d.fld (F.TIMER_CTRL_MODE i) = 0 ∨ d.linkedLow i = true))
    (hzero : d.periodOf i = 0) : d.nextCount i = (0, d.flag (F.TIMER_CTRL_DIR i), true, false) := by
  rw [Device.nextCount, mode_updown hup, hzero]
  rfl

theorem nextCount_rising {i : Nat} (hup : ¬ (d.fld (F.TIMER_CTRL_MODE i) = 0 ∨ d.linkedLow i = true))
    (hperiod : d.periodOf i ≠ 0) (hdir : d.fld (F.TIMER_CTRL_DIR i) ≠ 1) :
    d.nextCount i = if d.periodOf i ≤ d.countOf i then
        (d.countOf i - 1, true, false, decide (d.periodOf i < d.countOf i))
      else (d.countOf i + 1, false, false, false) := by
  have hrise : d.flag (F.TIMER_CTRL_DIR i) = false := Bool.eq_false_iff.2 fun h => hdir ((flag_iff d _ rfl).1 h)
  rw [Device.nextCount, mode_updown hup, hrise]
  exact if_neg hperiod

theorem nextCount_falling {i : Nat} (hup : ¬ (d.fld (F.TIMER_CTRL_MODE i) = 0 ∨ d.linkedLow i = true))
    (hperiod : d.periodOf i ≠ 0) (hdir : d.fld (F.TIMER_CTRL_DIR i) = 1) :
    d.nextCount i = if d.countOf i = 0 then (1, false, true, false) else (d.countOf i - 1, true, false, false) := by
  rw [Device.nextCount, mode_updown hup, (flag_iff d (F.TIMER_CTRL_DIR i) rfl).2 hdir]
  exact if_neg hperiod

theorem countOf_ticked {i : Nat} {r : Nat × Bool × Bool × Bool}
    (hc : r.1 < if d.linkedLow i = true then 2 ^ 64 else 2 ^ 32) : (d.ticked i r).countOf i = r.1 := by
  refine (countOf_congr (fld_ticked ?_ ?_ ?_) fun k => fld_ticked ?_ ?_ ?_).trans (countOf_moved _ hc)
  all_goals
    simp only [F.TIMER_CTRL_LINK, F.TIMER_COUNT, F.TMR_TRIG_STATUS_OUT, F.TIMER_WRAPS, F.TIMER_STATUS_WRAP]
    omega

theorem dir_ticked {i : Nat} {r : Nat × Bool × Bool × Bool} (hpair : d.linkedLow i = false) :
    (d.ticked i r).fld (F.TIMER_CTRL_DIR i) = b2n r.2.1 := by
  have hfld : (d.ticked i r).fld (F.TIMER_CTRL_DIR i) = (d.moved i r.1 r.2.1).fld (F.TIMER_CTRL_DIR i) := by
    apply fld_ticked <;>
      simp only [F.TIMER_CTRL_DIR, F.TMR_TRIG_STATUS_OUT, F.TIMER_WRAPS, F.TIMER_STATUS_WRAP] <;> omega
  rw [hfld, Device.moved, if_neg (Bool.eq_false_iff.1 hpair), fld_put_same _ _ _ (show 28 + 1 ≤ 32 by decide)]
  cases r.2.1 <;> rfl

/-- A status bit that a count tick may set, before it does. -/
theorem status_moved (i c : Nat) (down : Bool) (f : Fld) (hf : f.addr = (F.TIMER_STATUS_WRAP i).addr) :
    (d.moved i c down).fld f = d.fld f := by
  apply fld_moved
  · simp only [hf, F.TIMER_STATUS_WRAP, F.TIMER_CTRL_DIR]
    omega
  · intro k
    simp only [hf, F.TIMER_STATUS_WRAP, F.TIMER_COUNT]
    omega

theorem wrap_ticked (d : Device) (i : Nat) (r : Nat × Bool × Bool × Bool) :
    (d.ticked i r).fld (F.TIMER_STATUS_WRAP i) = if r.2.2.1 = true then 1 else d.fld (F.TIMER_STATUS_WRAP i) := by
  have hout : (F.TIMER_STATUS_WRAP i).addr ≠ F.TMR_TRIG_STATUS_OUT.addr := by
    simp only [F.TIMER_STATUS_WRAP, F.TMR_TRIG_STATUS_OUT]
    omega
  have hwraps : (F.TIMER_STATUS_WRAP i).addr ≠ (F.TIMER_WRAPS i).addr := by
    simp only [F.TIMER_STATUS_WRAP, F.TIMER_WRAPS]
    omega
  have hbefore : (if r.2.2.2 then (d.moved i r.1 r.2.1).put (F.TIMER_STATUS_PERIOD_SHORT i) 1
      else d.moved i r.1 r.2.1).fld (F.TIMER_STATUS_WRAP i) = d.fld (F.TIMER_STATUS_WRAP i) := by
    rw [← status_moved (d := d) i r.1 r.2.1 _ rfl]
    split
    · exact fld_put_other _ _ _ _ (.inr (.inr (show 0 + 1 ≤ 2 by decide)))
    · rfl
  rw [Device.ticked, fld_showOuts hout]
  split
  · rw [fld_wrap hout hwraps, fld_put_same _ _ _ (show 0 + 1 ≤ 32 by decide)]
    rfl
  · exact hbefore

theorem short_ticked (d : Device) (i : Nat) (r : Nat × Bool × Bool × Bool) :
    (d.ticked i r).fld (F.TIMER_STATUS_PERIOD_SHORT i) =
      if r.2.2.2 = true then 1 else d.fld (F.TIMER_STATUS_PERIOD_SHORT i) := by
  have hout : (F.TIMER_STATUS_PERIOD_SHORT i).addr ≠ F.TMR_TRIG_STATUS_OUT.addr := by
    simp only [F.TIMER_STATUS_PERIOD_SHORT, F.TMR_TRIG_STATUS_OUT]
    omega
  have hwraps : (F.TIMER_STATUS_PERIOD_SHORT i).addr ≠ (F.TIMER_WRAPS i).addr := by
    simp only [F.TIMER_STATUS_PERIOD_SHORT, F.TIMER_WRAPS]
    omega
  have hset : (if r.2.2.2 then (d.moved i r.1 r.2.1).put (F.TIMER_STATUS_PERIOD_SHORT i) 1
      else d.moved i r.1 r.2.1).fld (F.TIMER_STATUS_PERIOD_SHORT i) =
        if r.2.2.2 = true then 1 else d.fld (F.TIMER_STATUS_PERIOD_SHORT i) := by
    rw [← status_moved (d := d) i r.1 r.2.1 (F.TIMER_STATUS_PERIOD_SHORT i) rfl]
    split
    · exact fld_put_same _ _ _ (show 2 + 1 ≤ 32 by decide)
    · rfl
  rw [Device.ticked, fld_showOuts hout, ← hset]
  split
  · exact (fld_wrap hout hwraps).trans (fld_put_other _ _ _ _ (.inr (.inl (show 0 + 1 ≤ 2 by decide))))
  · rfl

end

/-- Settles O58: the count, the direction and the status after a count tick are those of R470's update. -/
theorem countTicksFollowTheTable : Obligations.CountTicksFollowTheTable := by
  unfold Obligations.CountTicksFollowTheTable
  intro s i hcounting hpres c p up down
  have hexec := (exec_timerCountTick i s).trans (next_after_congr s (countTick_due hcounting hpres))
  have hlt : (s.dev.nextCount i).1 < if s.dev.linkedLow i = true then 2 ^ 64 else 2 ^ 32 :=
    countNext_lt (by split <;> decide) (periodOf_lt s.dev i) (countOf_lt s.dev i)
  have hcount := countOf_ticked hlt
  have hwrap := wrap_ticked s.dev i (s.dev.nextCount i)
  have hshort := short_ticked s.dev i (s.dev.nextCount i)
  have hdir : ¬ up → (s.dev.ticked i (s.dev.nextCount i)).fld (F.TIMER_CTRL_DIR i) = b2n (s.dev.nextCount i).2.1 :=
    fun hup => dir_ticked (Bool.eq_false_iff.2 fun h => hup (.inr h))
  refine ⟨_, hexec, ?_⟩
  rw [hcount, hwrap, hshort]
  generalize (s.dev.ticked i (s.dev.nextCount i)).fld (F.TIMER_CTRL_DIR i) = dir at hdir ⊢
  by_cases hup : up
  · rw [nextCount_up hup]
    by_cases hle : p ≤ c
    · rw [if_pos hle]
      simp [hup, c, p]
      omega
    · rw [if_neg hle]
      simp [hup, c, p]
      omega
  · have hset := hdir hup
    by_cases hzero : p = 0
    · rw [nextCount_zero hup hzero]
      simp [hup, hzero]
    by_cases hd : down
    · rw [nextCount_falling hup hzero hd] at hset ⊢
      by_cases hc : c = 0
      · rw [if_pos hc] at hset ⊢
        simp [hset, hup, hd, hc, hzero, b2n]
      · rw [if_neg hc] at hset ⊢
        simp [hset, hup, hd, hc, hzero, b2n, c]
    · rw [nextCount_rising hup hzero hd] at hset ⊢
      by_cases hle : p ≤ c
      · rw [if_pos hle] at hset ⊢
        simp [hset, hup, hd, hzero, hle, b2n, c, p]
        omega
      · rw [if_neg hle] at hset ⊢
        simp [hset, hup, hd, hzero, hle, b2n, c, p]
        omega

end Sys2Proof.Machine
end

section
/-! Gates, TIMEBASE, and the timer unit's registers (R467 to R479). -/

namespace Sys2Proof.Machine

/-- What holds of a device and survives each effect of a repetition holds after it. -/
theorem each_invariant {α : Type} (P : Device → Prop) {l : List α} {f : Device → α → Device} (d : Device) (hd : P d)
    (h : ∀ x ∈ l, ∀ e : Device, P e → P (f e x)) : P (d.each l f) := by
  induction l generalizing d with
  | nil => exact hd
  | cons x t ih => exact ih (f d x) (h x (by simp) d hd) fun y hy => h y (List.mem_cons_of_mem _ hy)

/-- A change of one element of an array leaves the others. -/
theorem vget_vmod_other {α : Type} {n : Nat} {v : Vector α n} {i j : Nat} {f : α → α} {dflt : α} (h : j ≠ i) :
    vget (vmod v i f) j dflt = vget v j dflt := by
  unfold vget vmod
  by_cases hj : j < n
  · rw [dif_pos hj, dif_pos hj]
    split
    · exact Vector.getElem_set_ne _ hj h.symm
    · rfl
  · rw [dif_neg hj, dif_neg hj]

section
variable {d : Device}

/-! ### The registers of the timer unit -/

/-- The registers of the timers. -/
abbrev TimersOnly (d e : Device) : Prop := TouchesOnly 0x0010300000 0x1000 d e

theorem inTimers {a : Nat} (h : 0x0010300000 ≤ a ∧ a < 0x0010301000) : inRange a 0x0010300000 0x1000 = true := by
  simpa [inRange] using h

theorem timersOnly_modTch {e : Device} (h : TimersOnly d e) (i : Nat) (f : TimerCh → TimerCh) :
    TimersOnly d (e.modTch i f) := h.trans (.of_regs rfl rfl rfl rfl rfl rfl rfl rfl)

theorem timersOnly_modTout {e : Device} (h : TimersOnly d e) (j : Nat) (f : TrigOut → TrigOut) :
    TimersOnly d (e.modTout j f) := h.trans (.of_regs rfl rfl rfl rfl rfl rfl rfl rfl)

theorem timersOnly_setOut {e : Device} (h : TimersOnly d e) (j : Nat) (v : Bool) : TimersOnly d (e.setOut j v) :=
  h.put _ (inTimers (by simp only [F.TMR_TRIG_STATUS_OUT]; omega))

theorem timersOnly_showOuts {e : Device} (h : TimersOnly d e) : TimersOnly d e.showOuts := by
  refine h.each fun j _ e => ?_
  dsimp only
  split
  · exact .refl e
  · split
    · exact timersOnly_setOut (.refl e) _ _
    · exact timersOnly_setOut (.refl e) _ _
    · exact .refl e

theorem timersOnly_wrap {e : Device} (h : TimersOnly d e) {i : Nat} (hi : i < 8) : TimersOnly d (e.wrap i) := by
  refine ((h.put _ (inTimers ?_)).bump (inTimers ?_)).each fun j _ e => ?_
  · simp only [F.TIMER_STATUS_WRAP]; omega
  · simp only [F.TIMER_WRAPS]; omega
  split
  · exact .refl e
  · split
    · exact timersOnly_modTout (timersOnly_setOut (.refl e) _ _) _ _
    · exact timersOnly_setOut (.refl e) _ _
    · exact .refl e

theorem timersOnly_setCount {e : Device} (h : TimersOnly d e) {i : Nat} (hi : i < 8) (v : Nat) :
    TimersOnly d (e.setCount i v) := by
  have hlow : TimersOnly d (e.put (F.TIMER_COUNT i) v) := h.put _ (inTimers (by simp only [F.TIMER_COUNT]; omega))
  exact .ite (hlow.put _ (inTimers (by simp only [F.TIMER_COUNT]; omega))) hlow

theorem timersOnly_ticked (d : Device) {i : Nat} (hi : i < 8) (r : Nat × Bool × Bool × Bool) :
    TimersOnly d (d.ticked i r) := by
  have hmoved : TimersOnly d (d.moved i r.1 r.2.1) := by
    have hset := timersOnly_setCount (timersOnly_modTch (.refl d) i
      (fun t => { t with pres := t.pres - (d.fld (F.TIMER_CTRL_PRESCALE i) + 1) })) hi r.1
    exact .ite hset (hset.put _ (inTimers (by simp only [F.TIMER_CTRL_DIR]; omega)))
  have hshort : TimersOnly d (if r.2.2.2 then (d.moved i r.1 r.2.1).put (F.TIMER_STATUS_PERIOD_SHORT i) 1
      else d.moved i r.1 r.2.1) :=
    .ite (hmoved.put _ (inTimers (by simp only [F.TIMER_STATUS_PERIOD_SHORT]; omega))) hmoved
  exact timersOnly_showOuts (.ite (timersOnly_wrap hshort hi) hshort)

theorem timersOnly_countTick (d : Device) {i : Nat} (hi : i < 8) : TimersOnly d (d.countTick i) :=
  .ite (.refl d) (timersOnly_ticked d hi (d.nextCount i))

/-! ### TIMEBASE (R467) -/

theorem timersOnly_countWrites (d : Device) : TimersOnly d d.countWrites := by
  refine (TouchesOnly.refl d).each fun i hi e => ?_
  have hi8 : i < 8 := List.mem_range.1 hi
  split
  · exact .refl e
  · rename_i v _
    have hlo : (if e.linkedHigh i = true then i - 1 else i) < 8 := by split <;> omega
    exact (timersOnly_modTch (timersOnly_modTch (.ite (timersOnly_setCount (.refl e) hlo _) (.refl e)) _ _) _ _).put _
      (inTimers (by simp only [F.TIMER_COUNT]; omega))

theorem timersOnly_watchSources (d : Device) (n : Nat) : TimersOnly d (d.watchSources n) :=
  .of_regs rfl rfl rfl rfl rfl rfl rfl rfl

theorem timersOnly_timerTicks (d : Device) (n trig : Nat) : TimersOnly d (d.timerTicks n trig) := by
  have hwatched : TimersOnly d ((d.countWrites.put F.TMR_TRIG_STATUS_IN trig).watchSources n) :=
    ((timersOnly_countWrites d).put _ (by decide)).trans (timersOnly_watchSources _ n)
  exact timersOnly_showOuts (hwatched.each fun i _ e => .ite (timersOnly_modTch (.refl e) _ _) (.refl e))

/-- What follows the timers in a tick leaves them, TIMEBASE and memory. -/
structure PastTimers (d e : Device) : Prop where
  timers : e.timers = d.timers
  timebase : e.timebase = d.timebase
  mem : e.mem = d.mem
  word : ∀ a, inRange a 0x0010300000 0x1000 = true → e.word a = d.word a

theorem PastTimers.trans {d e g : Device} (h : PastTimers d e) (k : PastTimers e g) : PastTimers d g where
  timers := k.timers.trans h.timers
  timebase := k.timebase.trans h.timebase
  mem := k.mem.trans h.mem
  word a ha := (k.word a ha).trans (h.word a ha)

theorem PastTimers.ite {c : Prop} [Decidable c] {d e g : Device} (h : PastTimers d e) (k : PastTimers d g) :
    PastTimers d (if c then e else g) := by split <;> assumption

theorem PastTimers.refl (d : Device) : PastTimers d d := ⟨rfl, rfl, rfl, fun _ _ => rfl⟩

/-- A register elsewhere written. -/
theorem pastTimers_put (d : Device) {f : Fld} (v : Nat) (hf : inRange f.addr 0x0010300000 0x1000 = false) :
    PastTimers d (d.put f v) :=
  ⟨rfl, rfl, rfl, fun a ha => word_put_other d f v a fun h => by simp [h, hf] at ha⟩

/-- What counts ticks after the timers and the policy's samples: the time of a limit, the wait of producers, the stall
sentinel. -/
def Device.limitTicks (n : Nat) (d : Device) : Device :=
  if d.flag F.HG_STATUS_LIMITING then
    let c := unitCount d.power.limitRest n
    (d.bumpBy F.HG_LIMIT_TIME c.1).modPower (fun p => { p with limitRest := c.2 })
  else d
def Device.waitTicks (n : Nat) (d : Device) : Device :=
  if !d.blockWaits then d
  else
    let c := unitCount d.rack.blockRest n
    (d.bumpBy F.RACK_BLOCK_WAIT c.1).modRack (fun r => { r with blockRest := c.2 })
def Device.idleTicks (n : Nat) (d : Device) : Device :=
  if d.fld F.HATCH_STATUS_FSTATE = 2 ∧ ¬ d.sentinelOff then d.modHatch (fun h => { h with idle := h.idle + n }) else d

/-- The device whose TIMEBASE has advanced by n ticks. -/
def Device.later (d : Device) (n : Nat) : Device := { d with timebase := (d.timebase + n) % 2 ^ 64 }

theorem tick_eq (d : Device) (n trig : Nat) : d.tick n trig =
    (((((d.later n).timerTicks n trig).countSeconds.policySamples n).limitTicks n).waitTicks n).idleTicks n := rfl

theorem pastTimers_countSeconds (d : Device) : PastTimers d d.countSeconds :=
  .ite (.refl d) ((pastTimers_put d _ (by decide)).trans ⟨rfl, rfl, rfl, fun _ _ => rfl⟩)

theorem pastTimers_policySamples (d : Device) (n : Nat) : PastTimers d (d.policySamples n) :=
  each_invariant (PastTimers d) d (.refl d) fun _ _ _ he => he.trans ⟨rfl, rfl, rfl, fun _ _ => rfl⟩

theorem pastTimers_limitTicks (d : Device) (n : Nat) : PastTimers d (d.limitTicks n) :=
  .ite ((pastTimers_put d _ (by decide)).trans ⟨rfl, rfl, rfl, fun _ _ => rfl⟩) (.refl d)

theorem pastTimers_waitTicks (d : Device) (n : Nat) : PastTimers d (d.waitTicks n) :=
  .ite (.refl d) ((pastTimers_put d _ (by decide)).trans ⟨rfl, rfl, rfl, fun _ _ => rfl⟩)

theorem pastTimers_idleTicks (d : Device) (n : Nat) : PastTimers d (d.idleTicks n) :=
  .ite ⟨rfl, rfl, rfl, fun _ _ => rfl⟩ (.refl d)

theorem pastTimers_tick (d : Device) (n trig : Nat) : PastTimers ((d.later n).timerTicks n trig) (d.tick n trig) := by
  rw [tick_eq]
  exact (pastTimers_countSeconds _).trans ((pastTimers_policySamples _ n).trans ((pastTimers_limitTicks _ n).trans
    ((pastTimers_waitTicks _ n).trans (pastTimers_idleTicks _ n))))

/-! ### Gates (R474) -/

/-- A gate looks at registers alone. -/
theorem gateOn_congr {e : Device} (h : e.regs = d.regs) (i : Nat) : e.gateOn i = d.gateOn i := by
  simp only [Device.gateOn, Device.sourceLevel, Device.flag, fld_congr h]

/-- With no COUNT write waiting, none is done. -/
theorem countWrites_none (h : ∀ k : Fin 8, (d.tch k).wr = none) : d.countWrites = d :=
  each_id d _ _ fun i hi => by
    have hwr : (d.tch i).wr = none := h ⟨i, List.mem_range.1 hi⟩
    simp only [hwr]

theorem tch_modTch_other {i j : Nat} (f : TimerCh → TimerCh) (h : j ≠ i) : (d.modTch i f).tch j = d.tch j :=
  vget_vmod_other h

/-- The prescaler of a counting channel moved on by what n gives it. -/
def Device.prescaled (n : Nat → Nat) (d : Device) (i : Nat) : Device :=
  if d.counting i then d.modTch i (fun t => { t with pres := t.pres + n i }) else d

theorem timerTicks_eq (d : Device) (n trig : Nat) : ∃ k : Nat → Nat, d.timerTicks n trig =
    (((d.countWrites.put F.TMR_TRIG_STATUS_IN trig).watchSources n).each (List.range 8)
      (Device.prescaled k)).showOuts := ⟨_, rfl⟩

/-- A channel whose gate is not active keeps its prescaler, and no prescaler changes a register. -/
theorem prescaled_gated {i : Nat} (hgate : d.gateOn i = false) (k : Nat → Nat) (l : List Nat) :
    (d.each l (Device.prescaled k)).regs = d.regs ∧ (d.each l (Device.prescaled k)).tch i = d.tch i := by
  refine each_invariant (fun e => e.regs = d.regs ∧ e.tch i = d.tch i) d ⟨rfl, rfl⟩ fun j _ e ⟨hregs, htch⟩ => ?_
  unfold Device.prescaled
  split
  · rename_i hcounts
    have hne : i ≠ j := by
      rintro rfl
      simp [Device.counting, gateOn_congr hregs i, hgate] at hcounts
    exact ⟨hregs, (tch_modTch_other _ hne).trans htch⟩
  · exact ⟨hregs, htch⟩

/-- A tick of the timer unit leaves a channel whose gate is not active: its prescaler and its count. -/
theorem timerTicks_gated {i : Nat} (n trig : Nat) (hwr : ∀ k : Fin 8, (d.tch k).wr = none)
    (hgate : (d.put F.TMR_TRIG_STATUS_IN trig).gateOn i = false) :
    ((d.timerTicks n trig).tch i).pres = (d.tch i).pres ∧
      (d.timerTicks n trig).fld (F.TIMER_COUNT i) = d.fld (F.TIMER_COUNT i) := by
  have hcount : (F.TIMER_COUNT i).addr ≠ F.TMR_TRIG_STATUS_OUT.addr := by
    simp only [F.TIMER_COUNT, F.TMR_TRIG_STATUS_OUT]
    omega
  obtain ⟨k, hk⟩ := timerTicks_eq d n trig
  obtain ⟨hregs, htch⟩ := prescaled_gated (d := (d.put F.TMR_TRIG_STATUS_IN trig).watchSources n) hgate k (List.range 8)
  rw [hk, countWrites_none hwr, fld_showOuts hcount, Device.tch, showOuts_timers]
  exact ⟨congrArg TimerCh.pres htch, (fld_congr hregs _).trans (fld_put_addr _ _ _ _ hcount)⟩

end

/-- Settles O57: an inactive gate keeps its channel from counting, at a count tick and at ticks of TIMEBASE. -/
theorem gatesStopAndLetCount : Obligations.GatesStopAndLetCount := by
  unfold Obligations.GatesStopAndLetCount
  intro s i
  refine ⟨fun hoff => ?_, fun hon => ?_, fun hgate => ?_, fun n trig hwr hgate => ?_⟩
  · simp [Device.gateOn, Device.flag, hoff]
  · have hen : s.dev.flag (F.TIMER_CTRL_GATE_EN i) = true := (flag_iff _ _ rfl).2 hon
    have hpol : s.dev.flag (F.TIMER_CTRL_GATE_POL i) = !decide (s.dev.fld (F.TIMER_CTRL_GATE_POL i) = 0) := by
      simp [Device.flag, bne, beq_eq_decide]
    simp [Device.gateOn, hen, hpol]
  · exact (exec_timerCountTick i s).trans (next_after_congr s (countTick_idle (by simp [Device.counting, hgate])))
  · have hpast := pastTimers_tick s.dev n.toNat trig.toNat
    obtain ⟨hpres, hcount⟩ := timerTicks_gated (d := s.dev.later n.toNat) n.toNat trig.toNat hwr hgate
    refine ⟨s.dev.tick n.toNat trig.toNat, exec_timebaseTick n trig s, ?_, ?_⟩
    · exact (congrArg (fun t => (vget t.ch i {}).pres) hpast.timers).trans hpres
    · refine Eq.trans ?_ hcount
      unfold Device.fld
      rw [hpast.word _ (inTimers (by simp only [F.TIMER_COUNT]; omega))]

end Sys2Proof.Machine
end

section
/-! The timer unit's registers and its own events (R467 to R479), and what both leave alone. -/

namespace Sys2Proof.Machine

/-! ### Where the registers lie -/

theorem regAt_tbLo : regAt F.TMR_TB_LO.addr ⟨.tmr, 0, 0⟩ = true := by decide +kernel
theorem regAt_tbHi : regAt F.TMR_TB_HI.addr ⟨.tmr, 0, 4⟩ = true := by decide +kernel
theorem regAt_timerPeriod : ∀ i : Fin 8, regAt (F.TIMER_PERIOD i).addr ⟨.timer, i, 8⟩ = true := by decide +kernel
theorem regAt_timerRise : ∀ i : Fin 8, regAt (F.TIMER_CAP_RISE i).addr ⟨.timer, i, 0x14⟩ = true := by decide +kernel
theorem regAt_timerFall : ∀ i : Fin 8, regAt (F.TIMER_CAP_FALL i).addr ⟨.timer, i, 0x18⟩ = true := by decide +kernel
theorem regAt_capqVal : ∀ i : Fin 8, regAt (F.TIMER_CAPQ_VAL i).addr ⟨.timer, i, 0x20⟩ = true := by decide +kernel
theorem regRow_timerPeriod : ∀ i : Fin 8, regRow ((F.TIMER_PERIOD i).addr / 4 * 4) =
    some ⟨8, 4, 1, 4, 1, false, [⟨0, 32, .rw, 4294967295, false⟩]⟩ := by decide +kernel

section
variable {d : Device} {ini : Ini}

/-! ### Reads -/

/-- A register that is one field reads as its word. -/
theorem fld_whole {f : Fld} (hlo : f.lo = 0) (hlen : f.len = 32) : d.fld f = (d.word f.addr).toNat := by
  simpa [Device.fld, hlo, hlen, bits] using (d.word f.addr).isLt

/-- The device after a read that answers x and leaves the device x.2. -/
def answer (x : Nat × Device) : Device :=
  { x.2 with rbytes := leBytes 4 x.1, rdata := BitVec.ofNat 32 (leNat (leBytes 4 x.1)) }

theorem readReg_tbLo (ha : d.admits ini F.TMR_TB_LO.addr false = true) :
    d.readReg ini F.TMR_TB_LO.addr = answer (d.tbLo ini.num) := by
  obtain ⟨r, -, h⟩ := readReg_at d ini _ _ regAt_tbLo ha
  exact h.trans rfl

theorem readReg_tbHi (ha : d.admits ini F.TMR_TB_HI.addr false = true) :
    d.readReg ini F.TMR_TB_HI.addr = answer (d.tbHi ini.num) := by
  obtain ⟨r, -, h⟩ := readReg_at d ini _ _ regAt_tbHi ha
  exact h.trans rfl

theorem readReg_timerCount {i : Fin 8} (ha : d.admits ini (F.TIMER_COUNT i).addr false = true) :
    d.readReg ini (F.TIMER_COUNT i).addr = answer (d.pairRead ini.num i F.TIMER_COUNT) := by
  obtain ⟨r, -, h⟩ := readReg_at d ini _ _ (regAt_timerCount i) ha
  exact h.trans rfl

theorem readReg_timerRise {i : Fin 8} (ha : d.admits ini (F.TIMER_CAP_RISE i).addr false = true) :
    d.readReg ini (F.TIMER_CAP_RISE i).addr = answer (d.pairRead ini.num i F.TIMER_CAP_RISE) := by
  obtain ⟨r, -, h⟩ := readReg_at d ini _ _ (regAt_timerRise i) ha
  exact h.trans rfl

theorem readReg_timerFall {i : Fin 8} (ha : d.admits ini (F.TIMER_CAP_FALL i).addr false = true) :
    d.readReg ini (F.TIMER_CAP_FALL i).addr = answer (d.pairRead ini.num i F.TIMER_CAP_FALL) := by
  obtain ⟨r, -, h⟩ := readReg_at d ini _ _ (regAt_timerFall i) ha
  exact h.trans rfl

theorem readReg_capqVal {i : Fin 8} (ha : d.admits ini (F.TIMER_CAPQ_VAL i).addr false = true) :
    d.readReg ini (F.TIMER_CAPQ_VAL i).addr = answer (d.capqRead i) := by
  obtain ⟨r, -, h⟩ := readReg_at d ini _ _ (regAt_capqVal i) ha
  exact h.trans rfl

/-- A read of the low half of a linked pair latches its high half (R473). -/
theorem answer_pairRead {i : Nat} {f : Nat → Fld} (hlo : (f i).lo = 0) (hlen : (f i).len = 32)
    (hpair : d.linkedLow i = true) : answer (d.pairRead ini.num i f) =
      { d.latchHi ini.num (f (i + 1)).addr (d.fld (f (i + 1))) with
        rbytes := leBytes 4 (d.fld (f i)), rdata := d.word (f i).addr } := by
  rw [Device.pairRead, if_pos hpair, answer, fld_whole hlo hlen, leNat_leBytes_word]

theorem takeHi_none {a live : Nat} (h : mapGet (fun _ => none) d.hiLatch (latchKey ini.num a) = none) :
    d.takeHi ini.num a live = (live, d) := by
  unfold Device.takeHi
  rw [h]

theorem takeHi_some {a live v : Nat} (h : mapGet (fun _ => none) d.hiLatch (latchKey ini.num a) = some v) :
    d.takeHi ini.num a live =
      (v, { d with hiLatch := mapPut (fun _ => none) d.hiLatch (latchKey ini.num a) none }) := by
  unfold Device.takeHi
  rw [h]

/-! ### The end of a pulse (R479) -/

theorem pulseEnd_over {j t : Nat} (hpulse : (d.tout j).pulseAt = some t)
    (hover : d.fld (F.TMR_OUT_CFG_PW j) < d.since t) :
    d.pulseEnd j = if (d.modTout j (fun o => { o with pulseAt := none })).fld (F.TMR_OUT_CFG_MODE j) = 1 then
        (d.modTout j (fun o => { o with pulseAt := none })).setOut j false
      else d.modTout j (fun o => { o with pulseAt := none }) := by
  unfold Device.pulseEnd
  rw [hpulse]
  exact if_neg (by omega)

/-! ### Writes -/

theorem writeReg_timerPeriod {i : Fin 8} (v : Word) (ha : d.admits ini (F.TIMER_PERIOD i).addr = true) :
    d.writeReg ini (F.TIMER_PERIOD i).addr v = (d.put (F.TIMER_PERIOD i) v.toNat).showOuts := by
  obtain ⟨r, hr, h⟩ := writeReg_at d ini _ v _ (regAt_timerPeriod i) ha
  obtain rfl := Option.some.inj (hr.symm.trans (regRow_timerPeriod i))
  have hall : bits v.toNat 0 32 = v.toNat := by simpa [bits] using v.isLt
  have hset : d.regSet (F.TIMER_PERIOD i).addr ⟨8, 4, 1, 4, 1, false, [⟨0, 32, .rw, 4294967295, false⟩]⟩ v =
      d.put (F.TIMER_PERIOD i) v.toNat := congrArg (d.put (F.TIMER_PERIOD i)) hall
  exact h.trans (congrArg Device.showOuts hset)

theorem writeCmd_gstart (mask : BitVec 8) (ha : d.admits ini F.TMR_GSTART.addr = true) :
    d.writeCmd ini F.TMR_GSTART mask.toNat = d.gstart mask.toNat := by
  have hmask : bits (setBits 0 0 8 mask.toNat).toNat 0 8 = mask.toNat :=
    (bits_setBits_same 0 0 8 _ (by decide)).trans (Nat.mod_eq_of_lt mask.isLt)
  exact (writeReg_gstart d ini _ ha).trans (congrArg d.gstart hmask)

end

/-- The registers of a channel whose reads latch the high half of a pair. -/
def pairFld : Fin 3 → Nat → Fld
  | 0 => F.TIMER_COUNT
  | 1 => F.TIMER_CAP_RISE
  | 2 => F.TIMER_CAP_FALL

theorem readReg_pairFld {d : Device} {ini : Ini} (i : Fin 8) (k : Fin 3)
    (ha : d.admits ini (pairFld k i).addr false = true) :
    d.readReg ini (pairFld k i).addr = answer (d.pairRead ini.num i (pairFld k)) := by
  match k with
  | 0 => exact readReg_timerCount ha
  | 1 => exact readReg_timerRise ha
  | 2 => exact readReg_timerFall ha

theorem pairFld_whole (k : Fin 3) (i : Nat) : (pairFld k i).lo = 0 ∧ (pairFld k i).len = 32 := by
  match k with
  | 0 => exact ⟨rfl, rfl⟩
  | 1 => exact ⟨rfl, rfl⟩
  | 2 => exact ⟨rfl, rfl⟩

theorem linkedLowRead_latches (s : State) (ini : Ini) (i : Fin 8) (k : Fin 3)
    (ha : s.dev.admits ini (pairFld k i).addr false = true) (hpair : s.dev.linkedLow i = true) :
    exec (.linkedLowRead ini i k) s = .next (s.after
      { s.dev.latchHi ini.num (pairFld k (i + 1)).addr (s.dev.fld (pairFld k (i + 1))) with
        rbytes := leBytes 4 (s.dev.fld (pairFld k i)), rdata := s.dev.word (pairFld k i).addr }) := by
  have hfld : (match k.val with | 0 => F.TIMER_COUNT i | 1 => F.TIMER_CAP_RISE i | _ => F.TIMER_CAP_FALL i) =
      pairFld k i := by
    match k with
    | 0 => rfl
    | 1 => rfl
    | 2 => rfl
  obtain ⟨hlo, hlen⟩ := pairFld_whole k i
  refine (exec_linkedLowRead ini i k s).trans (next_after_congr s ?_)
  exact (congrArg (fun f : Fld => s.dev.readReg ini f.addr) hfld).trans
    ((readReg_pairFld i k ha).trans (answer_pairRead hlo hlen hpair))

/-- Settles O37: each event and each access of the timer unit has the effect that its own chapter gives it. -/
theorem timersComplete : Obligations.TimersComplete := by
  unfold Obligations.TimersComplete
  intro s
  refine ⟨fun n trig => ?_, fun ini ha => ?_, fun ini ha => ⟨fun hnone => ?_, fun v _ hsome => ?_⟩,
    fun i hcounting hpres => ?_, fun ini i v ha => ?_, fun ini i v ha => ?_, fun ini i k => ?_, fun ini mask ha => ?_,
    fun i rise hacc => ?_, fun ini i ha => ?_, fun j t hpulse hover => ?_⟩
  · have hpast := pastTimers_tick s.dev n.toNat trig.toNat
    have hticks := timersOnly_timerTicks (s.dev.later n.toNat) n.toNat trig.toNat
    exact ⟨_, exec_timebaseTick n trig s, hpast.timebase.trans hticks.timebase, hpast.mem.trans hticks.mem⟩
  · refine (exec_tbLoRead ini s).trans (next_after_congr s ((readReg_tbLo ha).trans ?_))
    have hlow : BitVec.ofNat 32 (s.dev.timebase % 2 ^ 32) = BitVec.ofNat 32 s.dev.timebase :=
      BitVec.eq_of_toNat_eq (by simp)
    rw [answer, ofNat_leNat_leBytes, Device.tbLo, hlow]
  · refine (exec_tbHiRead ini s).trans (next_after_congr s ((readReg_tbHi ha).trans ?_))
    rw [answer, ofNat_leNat_leBytes, Device.tbHi, takeHi_none hnone]
  · refine (exec_tbHiRead ini s).trans (next_after_congr s ((readReg_tbHi ha).trans ?_))
    rw [answer, ofNat_leNat_leBytes, Device.tbHi, takeHi_some hsome]
    rfl
  · exact (exec_timerCountTick i s).trans (next_after_congr s (countTick_due hcounting hpres))
  · exact (exec_timerCountWrite ini i v s).trans (next_after_congr s (writeReg_timerCount s.dev ini i v ha))
  · exact (exec_timerPeriodWrite ini i v s).trans (next_after_congr s (writeReg_timerPeriod v ha))
  · match k with
    | 0 => exact linkedLowRead_latches s ini i 0
    | 1 => exact linkedLowRead_latches s ini i 1
    | 2 => exact linkedLowRead_latches s ini i 2
  · exact (exec_gstart ini mask s).trans (next_after_congr s (writeCmd_gstart mask ha))
  · exact (exec_captureEdge i rise s).trans (next_after_congr s (if_neg (by simp [hacc])))
  · refine (exec_capqValRead ini i s).trans (next_after_congr s ((readReg_capqVal ha).trans (congrArg answer ?_)))
    unfold Device.capqRead
    split
    · rfl
    · cases (s.dev.tch i).capq with
      | nil => rfl
      | cons e rest =>
        dsimp only
        split <;> rfl
  · exact (exec_trigPulseEnd j s).trans (next_after_congr s (pulseEnd_over hpulse hover))

end Sys2Proof.Machine
end

section
/-! The frame of the timer commands (R467 to R479). -/

namespace Sys2Proof.Machine

section
variable {d e : Device}

/-! ### What each operation touches -/

/-- An entry pushed onto the capture queue of a channel, and its fill shown. -/
def Device.capAdd (d : Device) (rise : Bool) (k v : Nat) : Device :=
  let e := d.modTch k (fun t => { t with capq := t.capq ++ [⟨v, rise, d.timebase % 2 ^ 24⟩] })
  e.put (F.TIMER_CAPQ_FILL k) (e.tch k).capq.length

theorem capPush_eq (d : Device) (i c : Nat) (rise : Bool) : d.capPush i c rise =
    if 16 ≤ (d.tch i).capq.length then (d.bump (F.TIMER_CAPQ_LOST i)).put (F.TIMER_STATUS_CAPQ_OVF i) 1
    else
      let e := d.capAdd rise i (c % 2 ^ 32)
      if e.linkedLow i then e.capAdd rise (i + 1) (c >>> 32) else e := rfl

theorem timersOnly_capAdd (h : TimersOnly d e) (rise : Bool) {k : Nat} (hk : k ≤ 8) (v : Nat) :
    TimersOnly d (e.capAdd rise k v) :=
  (timersOnly_modTch h k _).put _ (inTimers (by simp only [F.TIMER_CAPQ_FILL]; omega))

theorem timersOnly_capPush (h : TimersOnly d e) {i : Nat} (hi : i < 8) (c : Nat) (rise : Bool) :
    TimersOnly d (e.capPush i c rise) := by
  have hlow := timersOnly_capAdd h rise (k := i) (by omega) (c % 2 ^ 32)
  have hhigh := timersOnly_capAdd hlow rise (k := i + 1) (by omega) (c >>> 32)
  rw [capPush_eq]
  refine .ite ((h.bump (inTimers ?_)).put _ (inTimers ?_)) (.ite hhigh hlow)
  · simp only [F.TIMER_CAPQ_LOST]; omega
  · simp only [F.TIMER_STATUS_CAPQ_OVF]; omega

/-- The register that an edge captures a count in. -/
theorem inTimers_capture (rise : Bool) {k : Nat} (hk : k ≤ 8) :
    inRange (if rise then F.TIMER_CAP_RISE k else F.TIMER_CAP_FALL k).addr 0x0010300000 0x1000 = true := by
  cases rise <;> exact inTimers (by simp only [F.TIMER_CAP_RISE, F.TIMER_CAP_FALL]; simp; omega)

/-- What an accepted edge captures where CAP_EN is set: the count in its register, CAP set, and an entry where
QEDGE asks for one. -/
def Device.captured (d : Device) (i : Nat) (rise : Bool) : Device :=
  let c := d.countOf i
  let f (k : Nat) : Fld := if rise then F.TIMER_CAP_RISE k else F.TIMER_CAP_FALL k
  let e := (d.put (f i) c).put (F.TIMER_STATUS_CAP i) 1
  let e := if e.linkedLow i then e.put (f (i + 1)) (c >>> 32) else e
  if bit (e.fld (F.TIMER_CAP_CFG_QEDGE i)) (if rise then 0 else 1) then e.capPush i c rise else e

theorem captureEdge_eq (d : Device) (i : Nat) (rise : Bool) : d.captureEdge i rise =
    if !d.accepts i rise then d
    else
      let d := d.modTch i (fun t => { t with accepted := rise })
      if !d.flag (F.TIMER_CAP_CFG_CAP_EN i) || d.linkedHigh i then d
      else if rise && (d.captured i rise).flag (F.TIMER_CAP_CFG_RST_RISE i) then
        ((((d.captured i rise).setCount i 0).put (F.TIMER_CTRL_DIR i) 0).modTch i
          (fun t => { t with pres := 0 })).showOuts
      else d.captured i rise := rfl

theorem timersOnly_captured (h : TimersOnly d e) {i : Nat} (hi : i < 8) (rise : Bool) :
    TimersOnly d (e.captured i rise) := by
  have hcap : ∀ c, TimersOnly d ((e.put (if rise then F.TIMER_CAP_RISE i else F.TIMER_CAP_FALL i) c).put
      (F.TIMER_STATUS_CAP i) 1) := fun c => (h.put c (inTimers_capture rise (by omega))).put 1
        (inTimers (by simp only [F.TIMER_STATUS_CAP]; omega))
  refine .ite (timersOnly_capPush ?_ hi _ _) ?_
  all_goals exact .ite ((hcap _).put _ (inTimers_capture rise (by omega))) (hcap _)

theorem timersOnly_captureEdge (d : Device) {i : Nat} (hi : i < 8) (rise : Bool) :
    TimersOnly d (d.captureEdge i rise) := by
  have hacc : TimersOnly d (d.modTch i (fun t => { t with accepted := rise })) := timersOnly_modTch (.refl d) _ _
  have hcap := timersOnly_captured hacc hi rise
  rw [captureEdge_eq]
  refine .ite (.refl d) (.ite hacc (.ite (timersOnly_showOuts (timersOnly_modTch ?_ _ _)) hcap))
  exact (timersOnly_setCount hcap hi 0).put _ (inTimers (by simp only [F.TIMER_CTRL_DIR]; omega))

theorem timersOnly_pulseEnd (d : Device) (j : Nat) : TimersOnly d (d.pulseEnd j) := by
  unfold Device.pulseEnd
  split
  · have hended : ∀ f, TimersOnly d (d.modTout j f) := timersOnly_modTout (.refl d) j
    exact .ite (.refl d) (.ite (timersOnly_setOut (hended _) _ _) (hended _))
  · exact .refl d

theorem timersOnly_countWrite (d : Device) {i : Nat} (hi : i < 8) (v : Word) : TimersOnly d (d.countWrite i v) :=
  .ite (timersOnly_modTch (.refl d) _ _)
    (timersOnly_showOuts ((TouchesOnly.refl d).put _ (inTimers (by simp only [F.TIMER_COUNT]; omega))))

theorem timersOnly_periodWrite (d : Device) {i : Nat} (hi : i < 8) (v : Nat) :
    TimersOnly d (d.put (F.TIMER_PERIOD i) v).showOuts :=
  timersOnly_showOuts ((TouchesOnly.refl d).put _ (inTimers (by simp only [F.TIMER_PERIOD]; omega)))

theorem timersOnly_gstart (d : Device) (mask : Nat) : TimersOnly d (d.gstart mask) :=
  (TouchesOnly.refl d).each fun i hi e => timersOnly_modTch ((TouchesOnly.refl e).put _ (inTimers (by
    have hlt : i < 8 := List.mem_range.1 (List.mem_of_mem_filter hi)
    simp only [F.TIMER_CTRL_EN]
    omega))) _ _

theorem timersOnly_answer {x : Nat × Device} (h : TimersOnly d x.2) : TimersOnly d (answer x) :=
  h.trans (.of_regs rfl rfl rfl rfl rfl rfl rfl rfl)

theorem timersOnly_latchHi (d : Device) (ini a v : Nat) : TimersOnly d (d.latchHi ini a v) :=
  .of_regs rfl rfl rfl rfl rfl rfl rfl rfl

theorem timersOnly_takeHi (d : Device) (ini a live : Nat) : TimersOnly d (d.takeHi ini a live).2 := by
  unfold Device.takeHi
  split
  · exact .of_regs rfl rfl rfl rfl rfl rfl rfl rfl
  · exact .refl d

theorem timersOnly_capqRead (d : Device) {i : Nat} (hi : i < 8) : TimersOnly d (d.capqRead i).2 := by
  have hinfo : inRange (F.TIMER_CAPQ_INFO_VALID i).addr 0x0010300000 0x1000 = true :=
    inTimers (by simp only [F.TIMER_CAPQ_INFO_VALID]; omega)
  have hfill : ∀ k ≤ 8, inRange (F.TIMER_CAPQ_FILL k).addr 0x0010300000 0x1000 = true := fun k hk =>
    inTimers (by simp only [F.TIMER_CAPQ_FILL]; omega)
  unfold Device.capqRead
  split
  · exact .refl d
  · split
    · exact (TouchesOnly.refl d).put _ hinfo
    · rename_i e rest _
      have htaken := ((((timersOnly_modTch (.refl d) i (fun t => { t with capq := rest })).put rest.length
        (hfill i (by omega))).put 1 hinfo).put (f := F.TIMER_CAPQ_INFO_EDGE i) (b2n e.rise) hinfo).put
          (f := F.TIMER_CAPQ_INFO_TB i) e.tb hinfo
      dsimp only
      split
      · exact (timersOnly_modTch htaken _ _).put _ (hfill _ (by omega))
      · exact htaken

/-! ### What an initiator that reaches the timers reaches there -/

/-- An initiator whose write of TB_LO is served is served at every register of the timers. -/
theorem admits_timers {ini : Ini} {a : Nat} {p : Loc} (h : d.admits ini F.TMR_TB_LO.addr = true)
    (hp : regAt a p = true) (hblk : p.blk = .tmr ∨ p.blk = .timer) (ha : 0x0010300000 ≤ a ∧ a < 0x0010301000)
    (wr : Bool) : d.admits ini a wr = true := by
  have hplace : regLoc a = some p := by
    simp only [regAt, Bool.and_eq_true, beq_iff_eq] at hp
    exact hp.1.1.1.1.1
  have hunit : ∀ b, 0x0010300000 ≤ b ∧ b < 0x0010301000 → d.served b domAon = (d.domState domAon == 2) := fun b hb => by
    have h1 : inRange b 0x0100000000 0x40000000 = false := inRange_eq_false (by omega)
    have h2 : inRange b 0x0200000000 0x20000000 = false := inRange_eq_false (by omega)
    have h3 : inRange b 0x0400000000 0x4000000 = false := inRange_eq_false (by omega)
    simp [Device.served, h1, h2, h3]
  have hdom : p.dom a = domAon := by rcases hblk with hb | hb <;> simp [Loc.dom, hb]
  have hfirst : regLoc F.TMR_TB_LO.addr = some ⟨.tmr, 0, 0⟩ := by decide +kernel
  simp only [Device.admits, hplace, hfirst, hdom, Bool.and_eq_true] at h ⊢
  obtain ⟨⟨hreach, hopen⟩, hserved⟩ := h
  refine ⟨⟨?_, hopen⟩, (hunit a ha).trans ((hunit F.TMR_TB_LO.addr (by decide)).symm.trans hserved)⟩
  cases ini with
  | host =>
    have hwin : inRange F.TMR_TB_LO.addr hostBase 0x10000 = false := by decide
    rw [show iniAddr .host F.TMR_TB_LO.addr = F.TMR_TB_LO.addr by decide, show Ini.host.num = iniHost from rfl,
      reach_host_outside_window hwin (indOpen_below_units d true hwin (by decide))] at hreach
    cases hreach
  | hg =>
    have h4 : inRange a (scribeBase 0) 0x400000 = false := inRange_eq_false (by simp only [scribeBase]; omega)
    have h5 : 0x0010000000 ≤ a := by omega
    simp [Device.reach, iniAddr, Ini.num, iniHg, h4, h5]
  | scribe n =>
    have hnum : isScribeOrJtag (2 + n.val) = true := by simp [isScribeOrJtag]; omega
    simp [Device.reach, Ini.num, hnum]

end

/-- A calm device that a command's effect leaves but for the timers is left so by the command. -/
theorem rest_of_timersOnly {s : State} {e : Device} (hcalm : s.dev.calm = true) (h : TimersOnly s.dev e) :
    (∀ a, (s.after e).dev.byte a = s.dev.byte a) ∧ (s.after e).dev.timebase = s.dev.timebase ∧
      (s.after e).pending = s.pending ∧
      ∀ a, inRange a 0x0010300000 0x1000 = false → (s.after e).dev.word a = s.dev.word a := by
  have hafter := after_calm s (h.calm (le_refl _) hcalm)
  refine ⟨fun a => ?_, ?_, ?_, fun a ha => ?_⟩
  · rw [hafter, tidy_byte, byte_congr h.mem]
  · rw [hafter]
    exact h.timebase
  · rw [hafter]
  · rw [hafter, tidy_word, h.word a ha]

/-- Settles O60: each of these commands changes registers of the timers and hidden state of theirs alone. -/
theorem timersLeaveTheRest : Obligations.TimersLeaveTheRest := by
  unfold Obligations.TimersLeaveTheRest
  intro s t c hcalm hc hexec
  have hrest : ∀ {e : Device}, exec c s = .next (s.after e) → TimersOnly s.dev e → _ := fun he h =>
    (Host.Outcome.next.inj (hexec.symm.trans he)) ▸ rest_of_timersOnly hcalm h
  rcases hc with ⟨i, rfl⟩ | ⟨i, rise, rfl⟩ | ⟨j, rfl⟩ | ⟨ini, hadm, hc⟩
  · exact hrest (exec_timerCountTick i s) (timersOnly_countTick s.dev i.isLt)
  · exact hrest (exec_captureEdge i rise s) (timersOnly_captureEdge s.dev i.isLt rise)
  · exact hrest (exec_trigPulseEnd j s) (timersOnly_pulseEnd s.dev j)
  · have hserved := fun {a : Nat} {p : Loc} => admits_timers (a := a) (p := p) hadm
    rcases hc with ⟨i, v, rfl⟩ | ⟨i, v, rfl⟩ | ⟨m, rfl⟩ | rfl | rfl | ⟨i, rfl⟩
    · have ha := hserved (regAt_timerCount i) (.inr rfl) (by simp only [F.TIMER_COUNT]; omega) true
      exact hrest ((exec_timerCountWrite ini i v s).trans (next_after_congr s (writeReg_timerCount s.dev ini i v ha)))
        (timersOnly_countWrite s.dev i.isLt v)
    · have ha := hserved (regAt_timerPeriod i) (.inr rfl) (by simp only [F.TIMER_PERIOD]; omega) true
      exact hrest ((exec_timerPeriodWrite ini i v s).trans (next_after_congr s (writeReg_timerPeriod v ha)))
        (timersOnly_periodWrite s.dev i.isLt v.toNat)
    · have ha := hserved regAt_gstart (.inl rfl) (by decide) true
      exact hrest ((exec_gstart ini m s).trans (next_after_congr s (writeCmd_gstart m ha)))
        (timersOnly_gstart s.dev m.toNat)
    · have ha := hserved regAt_tbLo (.inl rfl) (by decide) false
      exact hrest ((exec_tbLoRead ini s).trans (next_after_congr s (readReg_tbLo ha)))
        (timersOnly_answer (timersOnly_latchHi s.dev ini.num _ _))
    · have ha := hserved regAt_tbHi (.inl rfl) (by decide) false
      exact hrest ((exec_tbHiRead ini s).trans (next_after_congr s (readReg_tbHi ha)))
        (timersOnly_answer (timersOnly_takeHi s.dev ini.num _ _))
    · have ha := hserved (regAt_capqVal i) (.inr rfl) (by simp only [F.TIMER_CAPQ_VAL]; omega) false
      exact hrest ((exec_capqValRead ini i s).trans (next_after_congr s (readReg_capqVal ha)))
        (timersOnly_answer (timersOnly_capqRead s.dev i.isLt))

end Sys2Proof.Machine
end

section
/-! Declarations, Scribe watchdogs and restarts (R504 to R512). -/

namespace Sys2Proof.Machine

section
variable {d : Device}

theorem isScribe_scribe (n : Fin 4) : isScribe (2 + n) = true := by simp [isScribe]; omega
theorem isScribeOrJtag_scribe (n : Fin 4) : isScribeOrJtag (2 + n) = true := by simp [isScribeOrJtag]; omega

/-! ### Register writes of one field (R504, R510, R512) -/

theorem writeCmd_hgDeclare {ini : Ini} (c : Fin 128) (ha : d.admits ini F.HG_DECLARE.addr = true) :
    ∃ (w : Word) (off : Nat), bits w.toNat 0 7 = c ∧ d.writeCmd ini F.HG_DECLARE c = d.hgDeclare ini.num w off :=
  ⟨_, _, (bits_setBits_same 0 0 7 c (by decide)).trans (Nat.mod_eq_of_lt c.isLt), writeReg_hgDeclare d ini _ ha⟩

theorem writeCmd_hgScribeKick {ini : Ini} (mask : BitVec 4) (ha : d.admits ini F.HG_SCRIBE_KICK.addr = true) :
    ∃ (w : Word) (off : Nat), bits w.toNat 0 4 = mask.toNat ∧
      d.writeCmd ini F.HG_SCRIBE_KICK mask.toNat = d.scribeKick ini.num w off :=
  ⟨_, _, (bits_setBits_same 0 0 4 _ (by decide)).trans (Nat.mod_eq_of_lt mask.isLt), writeReg_hgScribeKick d ini _ ha⟩

theorem writeCmd_hgCmd {ini : Ini} (ha : d.admits ini F.HG_CMD.addr = true) :
    ∃ (w : Word) (off : Nat), bits w.toNat 0 2 = 1 ∧ d.writeCmd ini F.HG_CMD 1 = d.hgCmd ini.num w off :=
  ⟨_, _, by decide, writeReg_hgCmd d ini _ ha⟩

/-! ### The effects -/

theorem hgDeclare_party {ini c off : Nat} {w : Word} (hini : isScribeOrJtag ini = true) (hw : bits w.toNat 0 7 = c)
    (hc : 2 ≤ c) (hother : c ≠ ini) : d.hgDeclare ini w off = d.declare c := by
  unfold Device.hgDeclare
  rw [hw]
  exact if_pos ⟨hini, hc, hother⟩

/-- A Scribe's kick of its own bit alone. -/
theorem scribeKick_own {n : Fin 4} {w : Word} {off : Nat} (hw : bits w.toNat 0 4 = 2 ^ n.val) :
    d.scribeKick (2 + n) w off =
      let d := d.modScribe n (fun s => { s with kickAt := d.timebase })
      if d.fld (scribeStateFld n) = 2 then
        let d := (d.put (scribeStateFld n) 0).modScribe n (fun s => { s with restartAt := none })
        ((d.override (domScribe n) 0).raise 0x0713 n).undeclare (2 + n)
      else d := by
  have hown : 1 <<< n.val = 2 ^ n.val := Nat.one_shiftLeft _
  have hpos : (2 ^ n.val : Nat) ≠ 0 := by positivity
  simp only [Device.scribeKick, isScribe_scribe, Nat.add_sub_cancel_left, hw, hown, Nat.and_self, Bool.not_true,
    Bool.false_eq_true, if_false, ne_eq, not_true, hpos]

/-! A write of memory takes no time. -/

theorem setBytes_timebase (d : Device) (a : Nat) (l : List Byte) : (d.setBytes a l).timebase = d.timebase := by
  induction l generalizing d a with
  | nil => rfl
  | cons b l ih => exact ih _ _

theorem st_timebase (d : Device) (a : Nat) (l : List Byte) : (d.st a l).timebase = d.timebase := by
  unfold Device.st
  split
  · rfl
  · exact setBytes_timebase d a l

theorem stAll_timebase (n : Nat) (d : Device) (a : Nat) (l : List Byte) : (d.stAll n a l).timebase = d.timebase := by
  induction n generalizing d a l with
  | zero => rfl
  | succ n ih =>
    unfold Device.stAll
    split
    · rfl
    · exact (ih _ _ _).trans (st_timebase _ _ _)

theorem loadFw_timebase (d : Device) (n : Nat) : (d.loadFw n).timebase = d.timebase := stAll_timebase _ _ _ _

theorem release_timebase (d : Device) (n : Nat) : (d.release n).timebase = d.timebase := rfl

/-- A declared Scribe whose domain is ON again: released with its firmware, or failed. -/
theorem scribeRestart_on {n : Nat} (hstate : d.fld (scribeStateFld n) = 1) (hon : d.isOn (domScribe n) = true)
    (hvote : d.vote 31 (domScribe n) = 2) (hfirst : n = 0 ∨ (d.scribe 0).running = true) :
    d.scribeRestart n =
      if hashOk d.bootc.header 0 d.fwCopy = true ∧ (n = 0 → vendorOk d.fwCopy = true) then
        let e := (((d.modBoot (fun b => { b with fw := d.fwCopy })).loadFw n).put (scribeStateFld n) 2).release n
        e.modScribe n (fun s => { s with restartAt := some e.timebase })
      else d.restartFails n := by
  have hready : ¬ (d.fld (scribeStateFld n) ≠ 1 ∨ ¬ d.isOn (domScribe n) = true ∨ d.vote 31 (domScribe n) ≠ 2 ∨
      (n ≠ 0 ∧ ¬ (d.scribe 0).running = true)) := by
    rintro (h | h | h | ⟨h, h'⟩)
    · exact h hstate
    · exact h hon
    · exact h hvote
    · exact hfirst.elim h h'
  have htime : ((((d.modBoot (fun b => { b with fw := d.fwCopy })).loadFw n).put (scribeStateFld n) 2).release
      n).timebase = d.timebase := by rw [release_timebase, put_timebase, loadFw_timebase]; rfl
  rw [Device.scribeRestart, if_neg hready]
  dsimp only
  rw [htime]
  refine if_congr ?_ rfl rfl
  by_cases hn : n = 0 <;> simp [hn]

theorem restartTimeout_late {n t : Nat} (ht : (d.scribe n).restartAt = some t) (hstate : d.fld (scribeStateFld n) = 2)
    (hms : d.fld F.HG_SCRIBE_WD ≠ 0) (hlate : 200000 * d.fld F.HG_SCRIBE_WD < d.since t) :
    d.restartTimeout n = d.restartFails n := by
  unfold Device.restartTimeout
  rw [ht]
  exact if_pos ⟨hstate, hms, hlate⟩

end

/-- Settles O39: each event of recovery, in the state it waits for, has the effect that R504 to R512 give it. -/
theorem recoveryCompletes : Obligations.RecoveryCompletes := by
  unfold Obligations.RecoveryCompletes
  intro s
  refine ⟨fun n c tied => ?_, fun c hsweep => ?_, fun n => ⟨?_, ⟨?_, ?_⟩, ?_, ?_⟩⟩
  · intro d ha hc hother
    obtain ⟨w, off, hw, hwrite⟩ := writeCmd_hgDeclare c ha
    exact (exec_hgDeclare (.scribe n) c tied s).trans (next_after_congr s
      (hwrite.trans (hgDeclare_party (isScribeOrJtag_scribe n) hw hc hother)))
  · exact (exec_declareSweepDone c s).trans (next_after_congr s (if_pos hsweep))
  · intro hon hms hstate hrun hhalt hlate
    exact (exec_scribeWdExpire n s).trans (next_after_congr s
      (if_pos ⟨hon, hms, hstate, hrun, Bool.eq_false_iff.1 hhalt, hlate⟩))
  · intro hstate hon hvote hfirst
    exact (exec_scribeRestart n s).trans (next_after_congr s (scribeRestart_on hstate hon hvote hfirst))
  · intro t ht hstate hms hlate
    exact (exec_scribeRestartTimeout n s).trans (next_after_congr s (restartTimeout_late ht hstate hms hlate))
  · intro mask ha hmask
    obtain ⟨w, off, hw, hwrite⟩ := writeCmd_hgScribeKick mask ha
    have hkick := hwrite.trans (scribeKick_own (hw.trans hmask))
    exact ⟨fun hstate => (exec_scribeKick _ mask s).trans (next_after_congr s (hkick.trans (if_neg hstate))),
      fun hstate => (exec_scribeKick _ mask s).trans (next_after_congr s (hkick.trans (if_pos hstate)))⟩
  · intro ha
    obtain ⟨w, off, hw, hwrite⟩ := writeCmd_hgCmd ha
    exact (exec_partRestart _ s).trans (next_after_congr s (hwrite.trans (if_pos ⟨isScribeOrJtag_scribe n, hw⟩)))

end Sys2Proof.Machine
end

section
/-! The Proof log: records staged and committed, clearing, and the buckets (R484 to R495). -/

namespace Sys2Proof.Machine

section
variable {d : Device}

theorem recordStage_cons {x : PendRec} {rest : List PendRec} (h : d.proof.pend = x :: rest) :
    d.recordStage = (d.modProof (fun p => { p with pend := rest })).stage { x.base with
      snaps := (x.addrs.map d.peek).map (fun v => v.getD 0)
      snapErr := ((List.range (x.addrs.map d.peek).length).filter
        (fun i => ((x.addrs.map d.peek).getD i none).isNone)).foldl (fun e i => e + 2 ^ i) 0 } := by
  unfold Device.recordStage
  rw [h]
  simp only [Nat.one_shiftLeft]

/-- The page that holds a record's slot. -/
def slotPageAddr (r : Rec) : Nat := plateBase (slotCore r.seq) + 512 * slotPage r.seq

/-- The records of a page other than the one a record's slot belongs to. -/
def Device.othersLost (d : Device) (r : Rec) : Nat :=
  let a := slotPageAddr r
  ((List.range 8).filter (fun k => decide (64 * k ≠ slotByte r.seq) &&
    decide (leNat ((List.range 4).map (fun i => (d.note a).byte (a + 64 * k + i))) ≠ 0))).length

/-- The page of a record's slot read: an uncorrectable one loses its other records. -/
def Device.slotRead (d : Device) (r : Rec) : Device :=
  let a := slotPageAddr r
  if d.ueAt a then
    (((d.note a).bumpBy F.PL_LOST (d.othersLost r)).raise 0x0114 (slotCore r.seq)).modProof
      (fun p => { p with lostSince := p.lostSince + d.othersLost r })
  else d.note a

/-- The record merged into its page, or lost where the page has no spare. -/
def Device.slotWrite (d : Device) (r : Rec) (old : List Byte) : Device :=
  let x := d.plateWrite (slotCore r.seq) (slotPage r.seq)
    (old.take (slotByte r.seq) ++ r.bytes ++ old.drop (slotByte r.seq + 64))
  if x.2 then x.1 else (x.1.raiseBit (F.INT_FAULT_PLATE_FULL (intEtch (slotCore r.seq))) 0x0112 (slotCore r.seq)).loseRec

theorem recordCommit_cons (vf : List Bool) {r : Rec} {rest : List Rec} (h : d.proof.staged = r :: rest)
    (hsync : d.flag F.PL_STATUS_SYNCED = true) :
    let e : Device := { d with verifyFails := vf }
    d.recordCommit vf =
      if (d.dom (domEtch (slotCore r.seq))).ignored = true ∧ d.domState (domEtch (slotCore r.seq)) = 0 then
        e.loseRec.popStaged
      else if d.isOn (domEtch (slotCore r.seq)) = false then e
      else ((e.slotRead r).slotWrite r
        (if e.ueAt (slotPageAddr r) then List.replicate 512 0
          else (e.slotRead r).rdBytes (slotPageAddr r) 512)).popStaged := by
  intro e
  have hstaged : e.proof.staged = r :: rest := h
  have hnot : (!e.flag F.PL_STATUS_SYNCED) ≠ true := by
    rw [show e.flag F.PL_STATUS_SYNCED = true from hsync]
    decide
  unfold Device.recordCommit
  dsimp only
  rw [show ({ d with verifyFails := vf } : Device) = e from rfl, hstaged]
  dsimp only
  rw [if_neg hnot]
  refine if_congr (by simp [e]; rfl) rfl (if_congr (by simp [e]; rfl) rfl ?_)
  unfold Device.slotRead slotPageAddr
  dsimp only
  cases e.ueAt (plateBase (slotCore r.seq) + 512 * slotPage r.seq) with
  | false => rfl
  | true => rfl

theorem clearPage_clearing (vf : List Bool) (hclear : d.flag F.PL_STATUS_CLEARING = true) :
    let g := d.proof.clearNext
    let e : Device := { d with verifyFails := vf }
    let z : Device := if e.proof.absent.contains (g / 8) then e else e.zeroPage (g / 8) (2040 + g % 8) (e.fld F.PL_FLOOR)
    let z := z.modProof (fun p => { p with clearNext := g + 1 })
    d.clearPage vf =
      if e.proof.absent.contains (g / 8) = false ∧ e.isOn (domEtch (g / 8)) = false then e
      else if 511 ≤ g then z.put F.PL_STATUS_CLEARING 0 else z := by
  intro g e z₀ z
  have hnot : (!e.flag F.PL_STATUS_CLEARING) ≠ true := by
    rw [show e.flag F.PL_STATUS_CLEARING = true from hclear]
    decide
  refine (if_neg hnot).trans (if_congr ?_ rfl rfl)
  rw [Bool.and_eq_true, Bool.not_eq_true', Bool.not_eq_true']

end

/-- Settles O38: what each event of the Proof log does to its buffer, its pages and its buckets. -/
theorem proofLogCompletes : Obligations.ProofLogCompletes := by
  unfold Obligations.ProofLogCompletes
  intro s
  refine ⟨fun x rest hpend => ?_, fun vf r rest hstaged hsync => ?_, fun hsync hdue => ?_, fun vf hclear => ?_, ?_⟩
  · exact (exec_recordStage s).trans (next_after_congr s (recordStage_cons hpend))
  · intro n a d ue lost d₁ old x
    have hread : d.slotRead r = d₁ := rfl
    have hwrite : d₁.slotWrite r old =
        if x.2 then x.1 else (x.1.raiseBit (F.INT_FAULT_PLATE_FULL (intEtch n)) 0x0112 n).loseRec := rfl
    rw [← hwrite]
    exact (exec_recordCommit vf s).trans (next_after_congr s (recordCommit_cons vf hstaged hsync))
  · exact (exec_timeRecord s).trans (next_after_congr s (if_pos (by simp [hsync, hdue])))
  · exact (exec_clearPageZero vf s).trans (next_after_congr s (clearPage_clearing vf hclear))
  · exact exec_bucketRefill s

end Sys2Proof.Machine
end

section
/-! Attestation reports and authorisation tokens (R432 to R445). -/

namespace Sys2Proof.Machine

section
variable {d : Device}

/-! ### Control registers -/

theorem attCtrl_go (ini off : Nat) : d.attCtrl ini 1 off = d.attGo ini off := rfl
theorem attCtrl_newNonce (ini off : Nat) : d.attCtrl ini 2 off = d.newNonce iniHost := rfl
theorem tokenCtrl_submit (ini : Nat) : d.tokenCtrl ini 1 = d.tokenSubmit ini := rfl
theorem tokenCtrl_newNonce (ini : Nat) : d.tokenCtrl ini 2 = d.newNonce ini := rfl

/-! ### The engine's first request -/

/-- A report shown in its registers. -/
def Device.reportShown (d : Device) (b : List Byte) : Device :=
  (d.each (List.range 129) (fun e w => e.put (F.HOST_REPORT w) (leNat ((b.drop (4 * w)).take 4)))).pathResult
    iniHost 0 true

theorem pathResult_host_scribes (d : Device) (reason : Nat) :
    (d.pathResult iniHost reason true).scribes = d.scribes := rfl

theorem reportShown_scribes (b : List Byte) : (d.reportShown b).scribes = d.scribes :=
  (pathResult_host_scribes _ 0).trans (each_eq (·.scribes) d fun _ _ _ => put_scribes _ _ _)

/-- A report done: none without the part's key, and a bell for the host where SCRIBE[0] runs. -/
theorem reportDone_report {x : Nat} {nonce : List Byte} {rest : List TokenReq}
    (h : d.sec.reqs = ⟨true, x, nonce⟩ :: rest) :
    let e : Device := d.modSec (fun k => { k with reqs := rest })
    let shown := e.reportShown (e.report nonce)
    d.reportDone =
      if d.sec.store.keyOk = false then e.pathResult iniHost 9 true
      else if (vget d.scribes 0 {}).running = true ∧ (vget d.scribes 0 {}).halted = false then
        shown.ring iniHost (2 ^ 28)
      else shown := by
  intro e shown
  unfold Device.reportDone
  rw [h]
  refine if_congr (by rw [Bool.not_eq_true']; rfl) rfl (if_congr ?_ ?_ rfl)
  · have hscribes : shown.scribes = d.scribes := reportShown_scribes _
    rw [Bool.not_eq_true, ← hscribes]
    rfl
  · rw [bellSw, Nat.one_shiftLeft]
    rfl

/-- A token's outcome (R440, R441): the reply to a waiting PROOF_CLEAR and the device. -/
theorem tokenDone_token {ini : Nat} {t : List Byte} {rest : List TokenReq}
    (h : d.sec.reqs = ⟨false, ini, t⟩ :: rest) :
    let e : Device := d.modSec (fun k => { k with reqs := rest })
    let reason := d.tokenReason ini t (d.nonce ini)
    let r : Nat × Device :=
      if reason ≠ 0 then
        (0, (if reason ≤ 3 ∨ reason = 9 then e else e.dropNonce ini).raiseBit F.KS_FAULT_TOKEN 0x0901 wholeDevice)
      else (e.dropNonce ini).tokenAct ini t
    d.tokenDone = (r.2.pathResult ini reason false).clearReply ini reason r.1 := by
  intro e reason r
  unfold Device.tokenDone
  rw [h]
  dsimp only
  have hr : r = if reason = 0 then (if reason = 0 ∨ 4 ≤ reason ∧ reason ≠ 9 then e.dropNonce ini else e).tokenAct ini t
      else (0, (if reason = 0 ∨ 4 ≤ reason ∧ reason ≠ 9 then e.dropNonce ini else e).raiseBit F.KS_FAULT_TOKEN 0x0901
        wholeDevice) := by
    by_cases hpass : reason = 0
    · simp [r, hpass]
    · by_cases hearly : reason ≤ 3 ∨ reason = 9
      · have hlate : ¬ (reason = 0 ∨ 4 ≤ reason ∧ reason ≠ 9) := by omega
        rw [if_neg hpass, if_neg hlate]
        simp only [r, ne_eq, hpass, not_false_eq_true, if_true, hearly]
      · have hlate : reason = 0 ∨ 4 ≤ reason ∧ reason ≠ 9 := by omega
        rw [if_neg hpass, if_pos hlate]
        simp only [r, ne_eq, hpass, not_false_eq_true, if_true, if_neg hearly]
  rw [hr]

end

/-- Settles O33: each request to the engine is queued, and each answer is that of its first request. -/
theorem tokensComplete : Obligations.TokensComplete := by
  unfold Obligations.TokensComplete
  intro s
  refine ⟨fun ini ha => ⟨?_, ?_⟩, fun x nonce rest hreq => ?_, fun n ha => ⟨?_, ?_⟩, fun ini t rest hreq => ?_⟩
  · exact (exec_attGo ini s).trans (next_after_congr s ((writeReg_attCtrl s.dev ini 1 ha).trans (attCtrl_go _ _)))
  · exact (exec_attNewNonce ini s).trans (next_after_congr s ((writeReg_attCtrl s.dev ini 2 ha).trans (attCtrl_newNonce _ _)))
  · exact (exec_attReportDone s).trans (next_after_congr s (reportDone_report hreq))
  · exact (exec_ksTokenSubmit _ s).trans (next_after_congr s ((writeReg_tokenCtrl s.dev _ 1 ha).trans (tokenCtrl_submit _)))
  · exact (exec_ksNewNonce _ s).trans (next_after_congr s ((writeReg_tokenCtrl s.dev _ 2 ha).trans (tokenCtrl_newNonce _)))
  · exact (exec_tokenCheckDone s).trans (next_after_congr s (tokenDone_token hreq))

end Sys2Proof.Machine
end

section
/-! The instructions of the TAP (R435, R442, R443). -/

namespace Sys2Proof.Machine

section
variable {d : Device}

/-- PROVISION programs the lowest free slot of a BLANK part (R435). -/
theorem jtagProvision_eq (d : Device) (hash : BitVec 512) : d.jtagProvision hash =
    if d.sec.store.active ≠ none then d.jtagBypass
    else match d.sec.prov, (List.range 4).find? (fun i => !bit d.sec.store.programmed i && !bit d.sec.store.killed i) with
      | none, some i => (d.jtagIr 0x14 []).program i (leBytes 64 hash.toNat)
      | _, _ => d.jtagIr 0x14 [] :=
  if_congr Option.isSome_iff_ne_none rfl rfl

theorem provisionVerify_good {slot : Nat} {h : List Byte} (hprov : d.sec.prov = some (slot, h)) :
    d.provisionVerify true = (d.modSec (fun k => { k with prov := none, store := { k.store with
      programmed := k.store.programmed ||| 2 ^ slot, hashes := k.store.hashes.set slot h } })).showKeys.raise 0x0904
        wholeDevice := by
  unfold Device.provisionVerify
  rw [hprov, ← Nat.one_shiftLeft]
  rfl

theorem provisionVerify_bad {slot : Nat} {h : List Byte} (hprov : d.sec.prov = some (slot, h)) :
    d.provisionVerify false = (d.modSec (fun k => { k with prov := none, store := { k.store with
      killed := k.store.killed ||| 2 ^ slot } })).showKeys.raiseBit F.KS_FAULT_FUSE 0x0905 wholeDevice := by
  unfold Device.provisionVerify
  rw [hprov, ← Nat.one_shiftLeft]
  rfl

/-- The domains whose clocks SCAN needs stopped: all but AON and those of the Scribes. -/
theorem clockless_iff (d : Device) :
    ((List.range 118).map (· + 1) ++ (List.range 4).map (· + 123)).all (fun i => d.domState i = 0) = true ↔
      decide (∀ i : Fin 127, 1 ≤ i.val → ¬ (119 ≤ i.val ∧ i.val ≤ 122) → d.domState i = 0) = true := by
  simp only [List.all_eq_true, List.mem_append, List.mem_map, List.mem_range, decide_eq_true_eq]
  constructor
  · intro h i hone hscribe
    refine h i ?_
    by_cases hi : i.val ≤ 118
    · exact .inl ⟨i.val - 1, by omega, by omega⟩
    · exact .inr ⟨i.val - 123, by omega, by omega⟩
  · rintro h i (⟨j, hj, rfl⟩ | ⟨j, hj, rfl⟩)
    · exact h ⟨j + 1, by omega⟩ (by simp) (by simp; omega)
    · exact h ⟨j + 123, by omega⟩ (by simp) (by simp)

theorem jtagScan_eq (d : Device) : d.jtagScan =
    if d.fld F.KS_STATE_JTAG = 2 ∧
        decide (∀ i : Fin 127, 1 ≤ i.val → ¬ (119 ≤ i.val ∧ i.val ≤ 122) → d.domState i = 0) = true then
      d.draw.2.jtagIr 0x21 (bitsOut 256 d.draw.1.toNat)
    else d.jtagBypass :=
  if_congr (and_congr_right fun _ => clockless_iff d) rfl rfl

end

/-- Settles O34: each instruction of the TAP, in and outside the states it may be used in. -/
theorem jtagCompletes : Obligations.JtagCompletes := by
  unfold Obligations.JtagCompletes
  intro s shift
  refine ⟨exec_bypass s, exec_idcode s, fun pins load => ⟨exec_samplePreload pins load s, exec_extest pins load s⟩,
    exec_clamp s, exec_highz s, exec_challenge s, fun t => exec_token t s, exec_jtagStatus s, exec_relock s,
    fun hash => ?_, fun slot h hprov => ⟨?_, ?_⟩, fun tied => ⟨fun a len => exec_jtagDebug _ tied s,
      fun a l => exec_jtagDebug _ tied s, fun n => ⟨exec_jtagDebug _ tied s, exec_jtagDebug _ tied s⟩⟩, ?_,
    exec_testLogicReset s⟩
  · exact (exec_provision hash s).trans (next_after_congr s (jtagProvision_eq s.dev hash))
  · exact (exec_provisionVerify true s).trans (next_after_congr s (provisionVerify_good hprov))
  · exact (exec_provisionVerify false s).trans (next_after_congr s (provisionVerify_bad hprov))
  · exact (exec_jtagScan s).trans (next_after_congr s (jtagScan_eq s.dev))

end Sys2Proof.Machine
end

section
/-! The indirect access port of the host window (R427, R428). -/

namespace Sys2Proof.Machine

theorem regAt_indData : regAt F.HOST_IND_DATA.addr ⟨.host, 0, 0x1008⟩ = true := by decide +kernel
theorem regAt_indCtrl : regAt F.HOST_IND_CTRL_AUTOINC.addr ⟨.host, 0, 0x100C⟩ = true := by decide +kernel

section
variable {d : Device}

/-- With AON on, the host is served at a register of its window. -/
theorem admits_host {a off : Nat} (hat : regAt a ⟨.host, 0, off⟩ = true) (hwin : inRange a hostBase 0x10000 = true)
    (hsame : iniAddr .host a = a) (hdom : d.domState domAon = 2) (wr : Bool) : d.admits .host a wr = true := by
  have hplace : regLoc a = some ⟨.host, 0, off⟩ := by
    simp only [regAt, Bool.and_eq_true, beq_iff_eq] at hat
    exact hat.1.1.1.1.1
  have hserved : d.served a domAon = true := by
    have hlow : hostBase ≤ a ∧ a < hostBase + 0x10000 := by simpa [inRange] using hwin
    unfold hostBase at hlow
    have h1 : inRange a 0x0100000000 0x40000000 = false := inRange_eq_false (by omega)
    have h2 : inRange a 0x0200000000 0x20000000 = false := inRange_eq_false (by omega)
    have h3 : inRange a 0x0400000000 0x4000000 = false := inRange_eq_false (by omega)
    simp [Device.served, h1, h2, h3, hdom]
  have hreach : d.reach Ini.host.num a wr = true := (reach_host d a wr).trans (by rw [hwin, Bool.true_or])
  have hopen : d.shut Ini.host.num = false := rfl
  simp only [Device.admits, hplace, hsame, hreach, hopen]
  exact hserved

/-! ### Writes of IND_CTRL and IND_DATA, and a read of IND_DATA -/

theorem hostWrite_indCtrl (hdom : d.domState domAon = 2) (w : Word) : d.hostWrite 0x100C w =
    if d.flag F.HOST_IND_STATUS_BUSY = true then d.accError iniHost 4 0x100C else d.indCtrl w := by
  obtain ⟨r, -, h⟩ := writeReg_at d .host _ w _ regAt_indCtrl
    (admits_host regAt_indCtrl (by decide) (by decide) hdom true)
  exact h

theorem hostWrite_indData (hdom : d.domState domAon = 2) (w : Word) : d.hostWrite 0x1008 w =
    if d.flag F.HOST_IND_STATUS_BUSY = true then d.accError iniHost 4 0x1008 else d.indDataWrite w := by
  obtain ⟨r, -, h⟩ := writeReg_at d .host _ w _ regAt_indData
    (admits_host regAt_indData (by decide) (by decide) hdom true)
  exact h

theorem hostRead_indData (hdom : d.domState domAon = 2) : d.hostRead 0x1008 =
    if d.flag F.HOST_IND_STATUS_BUSY = true then (0, d.accError iniHost 4 0x1008)
    else ((d.word F.HOST_IND_DATA.addr).toNat, d.indDataRead.2) := by
  obtain ⟨r, hr⟩ := Option.isSome_iff_exists.1
    (show (regRow (busAddr F.HOST_IND_DATA.addr / 4 * 4)).isSome = true by decide +kernel)
  have hplace : regLoc (busAddr F.HOST_IND_DATA.addr) = some ⟨.host, 0, 0x1008⟩ := by decide +kernel
  have hbus : busAddr F.HOST_IND_DATA.addr = F.HOST_IND_DATA.addr := by decide +kernel
  have hfirst : regLoc F.HOST_IND_DATA.addr = some ⟨.host, 0, 0x1008⟩ := by decide +kernel
  have hadm := admits_host (d := d) regAt_indData (by decide) (by decide) hdom false
  simp only [Device.admits, hfirst, Bool.and_eq_true, Bool.not_eq_true'] at hadm
  obtain ⟨⟨hreach, hopen⟩, hserved⟩ := hadm
  have hread := busRead_reg d iniHost F.HOST_IND_DATA.addr ⟨.host, 0, 0x1008⟩ r hreach hopen
    (by decide +kernel) hplace hr (by decide) (by rw [hbus]; exact hserved)
  have hreg : d.regRead iniHost ⟨.host, 0, 0x1008⟩ (busAddr F.HOST_IND_DATA.addr) r (busOff F.HOST_IND_DATA.addr) =
      if d.flag F.HOST_IND_STATUS_BUSY = true then (0, d.accError iniHost 4 0x1008) else d.indDataRead := by
    have hoff : busOff F.HOST_IND_DATA.addr = 0x1008 := by decide
    have hport : inRange 0x1008 0x1000 0x10 = true := by decide
    unfold Device.regRead
    simp only [hoff, hport, true_and, if_true]
  have hzero : leNat (leBytes 4 0) = 0 := leNat_leBytes 4 0
  have hword : leNat (leBytes 4 (d.fld F.HOST_IND_DATA)) = (d.word F.HOST_IND_DATA.addr).toNat := by
    rw [fld_whole rfl rfl, leNat_leBytes]
    exact Nat.mod_eq_of_lt (d.word _).isLt
  unfold Device.hostRead
  rw [show hostBase + 0x1008 = F.HOST_IND_DATA.addr from rfl, hread, hreg]
  split
  · exact congrArg (·, d.accError iniHost 4 0x1008) hzero
  · exact congrArg (·, d.indDataRead.2) hword

/-- What the host's GO writes: AUTOINC as given, and the direction. -/
theorem indCtrl_go (d : Device) (wr set : Bool) :
    d.indCtrl (BitVec.ofNat 32 (1 + 2 * b2n wr + 4 * b2n set)) =
      (d.put F.HOST_IND_CTRL_AUTOINC (b2n set)).indStart wr := by
  cases wr <;> cases set <;> rfl

theorem indGo_eq (hdom : d.domState domAon = 2) (wr set : Bool) : d.indGo wr set =
    if d.flag F.HOST_IND_STATUS_BUSY = true then d.accError iniHost 4 0x100C
    else (d.put F.HOST_IND_CTRL_AUTOINC (b2n set)).indStart wr :=
  (hostWrite_indCtrl hdom _).trans (if_congr Iff.rfl rfl (indCtrl_go d wr set))

theorem indAutoWrite_eq (hdom : d.domState domAon = 2) (v : Word) : d.indAutoWrite v =
    if d.flag F.HOST_IND_STATUS_BUSY = true then d.accError iniHost 4 0x1008
    else if d.flag F.HOST_IND_CTRL_AUTOINC = true then ((d.put F.HOST_IND_DATA v.toNat).indStart true).indNext
    else d.put F.HOST_IND_DATA v.toNat := by
  have hinc : (d.put F.HOST_IND_DATA v.toNat).flag F.HOST_IND_CTRL_AUTOINC = d.flag F.HOST_IND_CTRL_AUTOINC :=
    congrArg (· != 0) (fld_put_addr d _ _ _ (by decide))
  refine (hostWrite_indData hdom v).trans (if_congr Iff.rfl rfl ?_)
  unfold Device.indDataWrite
  dsimp only
  rw [hinc]

theorem indAutoRead_eq (hdom : d.domState domAon = 2) : d.indAutoRead =
    if d.flag F.HOST_IND_STATUS_BUSY = true then { d.accError iniHost 4 0x1008 with rdata := 0 }
    else { (if d.flag F.HOST_IND_CTRL_AUTOINC = true then d.indNext.indStart false else d) with
      rdata := d.word F.HOST_IND_DATA.addr } := by
  unfold Device.indAutoRead
  rw [hostRead_indData hdom]
  split
  · rfl
  · have hword : BitVec.ofNat 32 (d.word F.HOST_IND_DATA.addr).toNat = d.word F.HOST_IND_DATA.addr := by simp
    dsimp only
    rw [hword]
    rfl

/-! ### The end of an access -/

theorem indDone_access {a : Nat} {wr : Bool} (h : d.host.ind = some (a, wr)) :
    let e : Device := (d.put F.HOST_IND_STATUS_BUSY 0).modHost (fun h => { h with ind := none })
    let made : Device := if wr = true then e.busWrite iniHost a (leBytes 4 (e.fld F.HOST_IND_DATA))
      else (e.busRead iniHost a 4).2.put F.HOST_IND_DATA (leNat (e.busRead iniHost a 4).1)
    d.indDone =
      if e.indOpen a wr = false then (e.accError iniHost 3 0x1008).indFail 1
      else if e.mapped (busAddr a) = false then made.indFail 2
      else if e.ueAt (busAddr a) = true then made.indFail 3
      else made := by
  intro e made
  unfold Device.indDone
  rw [h]
  refine if_congr ?_ rfl (if_congr ?_ rfl rfl)
  · rw [Bool.not_eq_true']
  · rw [Bool.not_eq_true']

end

/-- Settles O32: the port's registers start an access where none is under way, and its end shows how it went. -/
theorem indirectPortCompletes : Obligations.IndirectPortCompletes := by
  unfold Obligations.IndirectPortCompletes
  intro s
  refine ⟨fun hdom => ⟨fun set => ⟨?_, ?_⟩, ?_, fun v => ?_⟩, fun a wr hind => ?_⟩
  · exact (exec_indRead set s).trans (next_after_congr s (indGo_eq hdom false set))
  · exact (exec_indWrite set s).trans (next_after_congr s (indGo_eq hdom true set))
  · exact (exec_indAutoincRead s).trans (next_after_congr s (indAutoRead_eq hdom))
  · exact (exec_indAutoincWrite v s).trans (next_after_congr s (indAutoWrite_eq hdom v))
  · exact (exec_indAccessDone s).trans (next_after_congr s (indDone_access hind))

end Sys2Proof.Machine
end

section
/-! Flash sessions in RECOVERY (R399, R400). -/

namespace Sys2Proof.Machine

theorem regAt_flashSession : regAt F.BOOT_FLASH_SESSION_ACTIVE.addr ⟨.boot, 0, 0x1C⟩ = true := by decide +kernel

section
variable {d : Device}

/-! ### Image-load packets -/

/-- An operation offered by a path: begun, or rejected. -/
theorem flashBegin_fst (d : Device) (path : Nat) (op : FlashOp) : (d.flashBegin path op).1 =
    if (d.sessionOpen path op.seq).flashOk path op = true then
      (d.sessionOpen path op.seq).modBoot (fun b => { b with op := some (op, path) })
    else (d.sessionOpen path op.seq).flashReject := by
  unfold Device.flashBegin
  dsimp only
  split <;> rfl

/-- The agent takes a packet of the kind that comes. -/
theorem imageLoad_next {e : Nat × List Byte} {rest : List (Nat × List Byte)} {op : FlashOp} (hboot : d.boot = 9)
    (hop : d.bootc.op = none) (hq : d.imageRx.dropWhile (fun e => (flashPacket e.2).isNone) = e :: rest)
    (hpacket : flashPacket e.2 = some op) {kind : Nat} (hkind : op.kind = kind) :
    d.imageLoad kind = (({ d with imageRx := rest } : Device).flashBegin (8 + e.1) op).1 := by
  have hfree : ¬ (d.boot ≠ 9 ∨ d.bootc.op.isSome = true) := by simp [hboot, hop]
  unfold Device.imageLoad
  rw [if_neg hfree]
  dsimp only
  rw [hq]
  dsimp only
  rw [hpacket]
  exact if_pos hkind

/-! ### The end of an operation -/

/-- What an operation does, by its kind: an erase, a write, an end. -/
theorem flashDo_eq (d : Device) (op : FlashOp) : d.flashDo op =
    if op.kind = 0 then ({ d with flash := { d.flash with
        bytes := mapClear (op.cs * 2 ^ 32 + op.off) op.aux d.flash.bytes } } : Device).modBoot
      (fun b => { b with erased := b.erased ++ [(op.cs, op.off, op.aux)] })
    else if op.kind = 1 then { d with flash := (List.range op.data.length).foldl (fun f i =>
        f.setByte op.cs (op.off + i) (op.data.getD i 0)) d.flash }
    else if decide (padTo 64 (sha512 (d.flash.linBytes 0 op.aux)) = op.data) = true then
      ((d.put F.BOOT_FLASH_SESSION_ACTIVE 0).put F.BOOT_STATUS_IMAGE_OK 1).modBoot (fun b => { b with erased := [] })
    else d.raise 0x0811 wholeDevice := by
  obtain ⟨kind, _, _, _, _, _⟩ := op
  match kind with
  | 0 => rfl
  | 1 => rfl
  | k + 2 =>
    have hzero : k + 2 ≠ 0 := by omega
    have hone : k + 2 ≠ 1 := by omega
    exact (if_congr decide_eq_true_iff.symm rfl rfl).trans ((if_neg hzero).trans (if_neg hone)).symm

theorem flashDone_op {op : FlashOp} {path : Nat} (h : d.bootc.op = some (op, path)) :
    let e := ((d.flashDo op).modBoot (fun b => { b with op := none })).put F.BOOT_NEXT_SEQ
      ((d.flashDo op).fld F.BOOT_NEXT_SEQ + 1)
    d.flashDone =
      if path = iniHost then
        e.flashReply (if op.kind = 2 ∧ e.flag F.BOOT_FLASH_SESSION_ACTIVE = true then 7 else 0)
      else e := by
  intro e
  unfold Device.flashDone
  rw [h]
  refine if_congr Iff.rfl (congrArg (Device.flashReply · e) (if_congr ?_ rfl rfl)) rfl
  rw [Bool.and_eq_true, decide_eq_true_eq]
  rfl

/-! ### Hardground's end of a session -/

theorem writeFld_flashSession (ha : d.admits .hg F.BOOT_FLASH_SESSION_ACTIVE.addr = true) :
    d.writeFld .hg F.BOOT_FLASH_SESSION_ACTIVE 0 = d.sessionClose := by
  obtain ⟨r, -, h⟩ := writeReg_at d .hg _ (setBits (d.word F.BOOT_FLASH_SESSION_ACTIVE.addr) 31 1 0) _
    regAt_flashSession ha
  have hbits := bits_setBits_same (d.word F.BOOT_FLASH_SESSION_ACTIVE.addr) 31 1 0 (by decide)
  have hbit : ¬ bit (setBits (d.word F.BOOT_FLASH_SESSION_ACTIVE.addr) 31 1 0).toNat 31 = true := by
    rw [bit_eq, hbits]
    decide
  exact h.trans (if_pos ⟨rfl, hbit⟩)

end

/-- Settles O27: packets that begin an operation, the operation's end, and Hardground's end of a session. -/
theorem flashSessionsComplete : Obligations.FlashSessionsComplete := by
  unfold Obligations.FlashSessionsComplete
  intro s
  refine ⟨fun e rest op hboot hop hq hpacket => ?_, fun op path hop => ?_, fun ha => ?_⟩
  · intro d r
    have hload : ∀ kind, op.kind = kind → s.dev.imageLoad kind = r := fun kind hkind =>
      (imageLoad_next hboot hop hq hpacket hkind).trans (flashBegin_fst _ _ _)
    exact ⟨fun hkind => (exec_imageLoadWrite s).trans (next_after_congr s (hload 1 hkind)),
      fun hkind => (exec_imageLoadErase s).trans (next_after_congr s (hload 0 hkind)),
      fun hkind => (exec_imageLoadEnd s).trans (next_after_congr s (hload 2 hkind))⟩
  · have hdone := flashDone_op hop
    rw [flashDo_eq] at hdone
    exact (exec_flashOperationDone s).trans (next_after_congr s hdone)
  · exact (exec_flashSessionRevoke s).trans (next_after_congr s (writeFld_flashSession ha))

end Sys2Proof.Machine
end

section
/-! Firmware messages (R424 to R427). -/

namespace Sys2Proof.Machine

/-! ### The server -/

/-- The reply to a request that a command answers, or what it leaves where the answer comes later. -/
def answered (b : List Byte) (r : Option (Nat × List Byte) × Device) : Device :=
  match r.1 with
  | some x => r.2.reply b x.1 x.2
  | none => r.2

/-- Whether R425 lists a command, and whether this server does not serve it. -/
def listedCmd (c : Nat) : Bool := decide (c ∈ [1, 2, 3, 4, 5, 6, 0x10, 0x11, 0x12, 0x20])
abbrev servedElsewhere (ready : Bool) (c : Nat) : Prop :=
  (ready = true ∧ c ∈ [0x10, 0x11, 0x12]) ∨ (ready = false ∧ c ∈ [4, 5, 6, 0x20])

section
variable {d : Device} {b : List Byte}

/-- The request that waits in MBOX[0] is one for the server. -/
theorem asked_of (hserving : d.serving = true) (hfull : d.mboxFull 0 = true) (hrcvr : d.mboxRcvr 0 = 2)
    (hlost : d.host.lost = false) : d.asked = true := by
  simp [Device.asked, hserving, hfull, hrcvr, hlost]

theorem contains_listed (c : Nat) : knownCmds.contains c = listedCmd c := by simp [knownCmds, listedCmd]

theorem servedElsewhere_iff (ready : Bool) (c : Nat) :
    ((ready && flashCmds.contains c) || (!ready && firmwareCmds.contains c)) = true ↔ servedElsewhere ready c := by
  simp [servedElsewhere, flashCmds, firmwareCmds]

/-- A request of a command served: refused as R425 says for every command, or answered as its own meaning says. -/
def Device.outcome (d : Device) (b : List Byte) (f : List Byte → Device) : Device :=
  let c := msgCmd b
  if listedCmd c = false then d.takeMsg.reply b 1 []
  else match d.payload b with
    | none => d.takeMsg.reply b 2 []
    | some p => if servedElsewhere d.takeMsg.ready c then d.takeMsg.reply b 6 [] else f p

theorem serve_asked {cmd : Nat} {f : List Byte → List Byte → Device → Option (Nat × List Byte) × Device}
    (g : List Byte → Device) (hasked : d.asked = true) (hmore : msgMore (d.mboxBytes 0) = false)
    (hcmd : listedCmd (msgCmd (d.mboxBytes 0)) = false ∨ msgCmd (d.mboxBytes 0) = cmd)
    (hg : ∀ p, answered (d.mboxBytes 0) (f (d.mboxBytes 0) p d.takeMsg) = g p) :
    d.serve cmd f = d.outcome (d.mboxBytes 0) g := by
  have htaken : ¬ (!d.asked || msgMore (d.mboxBytes 0) || (msgCmd (d.mboxBytes 0) != cmd &&
      knownCmds.contains (msgCmd (d.mboxBytes 0)))) = true := by
    rw [hasked, hmore, contains_listed]
    rcases hcmd with h | h <;> simp [h]
  unfold Device.serve Device.outcome
  dsimp only
  rw [if_neg htaken]
  have hunlisted : (!knownCmds.contains (msgCmd (d.mboxBytes 0))) = true ↔ listedCmd (msgCmd (d.mboxBytes 0)) = false := by
    rw [contains_listed, Bool.not_eq_true']
  refine if_congr hunlisted rfl ?_
  cases d.payload (d.mboxBytes 0) with
  | none => rfl
  | some p => exact if_congr (servedElsewhere_iff _ _) rfl (hg p)

/-! ### What each command answers -/

/-- Without a payload, an answer of its own, else BAD_LEN. -/
theorem answered_empty {p : List Byte} (k : Nat) (l : List Byte) (t : Device) :
    answered b (if !p.isEmpty then (some (2, []), t) else (some (k, l), t)) =
      if p = [] then t.reply b k l else t.reply b 2 [] := by
  cases p <;> rfl

/-- BAD_LEN or an answer of its own. -/
theorem answered_if {c : Prop} [Decidable c] {r : Option (Nat × List Byte) × Device} {e : Device} (t : Device)
    (hr : answered b r = e) :
    answered b (if c then (some (2, []), t) else r) = if c then t.reply b 2 [] else e := by
  split
  · rfl
  · exact hr

/-- A flash operation of the host path: begun, out of rule, or busy (R399, R400). -/
theorem answered_flashMsg (op : FlashOp) (t : Device) : answered b (t.flashMsg b op) =
    if t.bootc.op ≠ none then t.reply b 4 []
    else if (t.sessionOpen iniHost op.seq).flashOk iniHost op = true then
      ((t.sessionOpen iniHost op.seq).modBoot (fun x => { x with op := some (op, iniHost) })).modHost
        (fun h => { h with flashTag := some b })
    else (t.sessionOpen iniHost op.seq).flashReject.reply b 5
      (leBytes 4 ((t.sessionOpen iniHost op.seq).flashReject.fld F.BOOT_NEXT_SEQ)) := by
  unfold Device.flashMsg Device.flashBegin
  by_cases hbusy : t.bootc.op = none
  · have hfree : ¬ t.bootc.op.isSome = true := by simp [hbusy]
    rw [if_neg hfree, if_neg (not_not.2 hbusy)]
    dsimp only
    split <;> rfl
  · rw [if_pos (Option.isSome_iff_ne_none.2 hbusy), if_pos hbusy]
    rfl

/-- A request of OPEN_WINDOW (R427): the window that its size and the free ones give, in a range that POLICY gives. -/
theorem answered_openWindow (t : Device) (lg win : Option Nat) (inside : Bool) (base perm : Nat) :
    answered b (match lg, win with
      | some k, some i =>
        if inside && decide (base % 4096 = 0) && decide (base < 2 ^ 40) then
          let d := (((t.put (F.HOST_IND_WIN0_VALID i) 1).put (F.HOST_IND_WIN0_RD i) (perm % 2)).put (F.HOST_IND_WIN0_WR i)
            (perm / 2)).put (F.HOST_IND_WIN0_BASE_HI i) (base >>> 32)
          let d := (d.put (F.HOST_IND_WIN1_BASE_LO i) (base >>> 12)).put (F.HOST_IND_WIN1_SIZE i) k
          (some (0, leBytes 4 i), d)
        else (some (3, []), t)
      | _, _ => (some (3, []), t)) =
      match lg, win with
      | some k, some i =>
        if inside = true ∧ base % 4096 = 0 ∧ base < 2 ^ 40 then
          ((((((t.put (F.HOST_IND_WIN0_VALID i) 1).put (F.HOST_IND_WIN0_RD i) (perm % 2)).put (F.HOST_IND_WIN0_WR i)
            (perm / 2)).put (F.HOST_IND_WIN0_BASE_HI i) (base >>> 32)).put (F.HOST_IND_WIN1_BASE_LO i)
            (base >>> 12)).put (F.HOST_IND_WIN1_SIZE i) k).reply b 0 (leBytes 4 i)
        else t.reply b 3 []
      | _, _ => t.reply b 3 [] := by
  rcases lg with - | k
  · rfl
  rcases win with - | i
  · rfl
  simp only [Bool.and_eq_true, decide_eq_true_eq, and_assoc]
  split <;> rfl

theorem answered_ping (p : List Byte) (t : Device) :
    answered b (some (if p.length ≤ 56 then (0, p) else (2, [])), t) =
      if p.length ≤ 56 then t.reply b 0 p else t.reply b 2 [] := by
  split <;> rfl

theorem answered_closeWindow (i : Nat) (t : Device) :
    answered b (if i < 8 then (some (0, []), (t.putWord (F.HOST_IND_WIN0_VALID i).addr 0).putWord
        (F.HOST_IND_WIN1_SIZE i).addr 0) else (some (3, []), t)) =
      if i < 8 then ((t.putWord (F.HOST_IND_WIN0_VALID i).addr 0).putWord (F.HOST_IND_WIN1_SIZE i).addr 0).reply b 0 []
      else t.reply b 3 [] := by
  split <;> rfl

theorem answered_proofClear (p : List Byte) (t : Device) :
    answered b (if t.host.clearTag.isSome then (some (4, []), t)
      else (none, (t.request ⟨false, iniHost, p⟩).modHost (fun h => { h with clearTag := some b }))) =
      if t.host.clearTag ≠ none then t.reply b 4 []
      else (t.request ⟨false, iniHost, p⟩).modHost (fun h => { h with clearTag := some b }) := by
  simp only [← Option.isSome_iff_ne_none]
  split <;> rfl

/-! ### Parts -/

theorem messagePart_asked (hasked : d.asked = true) (hmore : msgMore (d.mboxBytes 0) = true) :
    d.messagePart =
      if (d.host.tag = none ∨ d.host.tag = some (msgTag (d.mboxBytes 0))) ∧
          (d.mboxBytes 0).length = 8 + msgPlen (d.mboxBytes 0) ∧
          (d.host.parts ++ (d.mboxBytes 0).drop 8).length ≤ 1024 then
        (d.takeMsg.modHost (fun h => { h with
          tag := some (msgTag (d.mboxBytes 0)), parts := d.host.parts ++ (d.mboxBytes 0).drop 8 })).reply
            (d.mboxBytes 0) 0 []
      else d.takeMsg.reply (d.mboxBytes 0) 2 [] := by
  unfold Device.messagePart
  dsimp only
  rw [if_neg (by simp [hasked, hmore])]
  refine if_congr ?_ rfl rfl
  cases d.host.tag <;> simp [and_assoc]

end

/-- Settles O31: each command's answer, and a part that is not the last. -/
theorem messagesComplete : Obligations.MessagesComplete := by
  unfold Obligations.MessagesComplete
  intro s b c t hserving hfull hrcvr hlost
  have hasked := asked_of hserving hfull hrcvr hlost
  refine ⟨fun hmore => ?_, fun hmore => (exec_messagePart s).trans (next_after_congr s (messagePart_asked hasked hmore))⟩
  intro listed answer got flash
  refine ⟨fun hc => (exec_ping s).trans (next_after_congr s (serve_asked _ hasked hmore hc fun p => ?_)),
    fun hc => (exec_getVersion s).trans (next_after_congr s (serve_asked _ hasked hmore hc fun p => ?_)),
    fun hc => (exec_getState s).trans (next_after_congr s (serve_asked _ hasked hmore hc fun p => ?_)),
    fun hc => (exec_readFaults s).trans (next_after_congr s (serve_asked _ hasked hmore hc fun p => ?_)),
    fun hc => (exec_openWindow s).trans (next_after_congr s (serve_asked _ hasked hmore hc fun p => ?_)),
    fun hc => (exec_closeWindow s).trans (next_after_congr s (serve_asked _ hasked hmore hc fun p => ?_)),
    fun hc => (exec_flashErase s).trans (next_after_congr s (serve_asked _ hasked hmore hc fun p => ?_)),
    fun hc => (exec_flashWrite s).trans (next_after_congr s (serve_asked _ hasked hmore hc fun p => ?_)),
    fun hc => (exec_flashEnd s).trans (next_after_congr s (serve_asked _ hasked hmore hc fun p => ?_)),
    fun hc => (exec_proofClear s).trans (next_after_congr s (serve_asked _ hasked hmore hc fun p => ?_))⟩
  · exact answered_ping p t
  · exact answered_empty _ _ _
  · exact answered_empty _ _ _
  · exact answered_empty _ _ _
  · exact answered_if t (answered_openWindow t _ _ _ _ _)
  · exact answered_if t (answered_closeWindow _ t)
  · exact answered_if t (answered_flashMsg _ t)
  · exact answered_if t (answered_flashMsg _ t)
  · exact answered_if t (answered_flashMsg _ t)
  · exact answered_if t (answered_proofClear p t)

end Sys2Proof.Machine
end

section
/-! Mirror packets of a pair (R449, R452 to R462). -/

namespace Sys2Proof.Machine

section
variable {d : Device} {b : List Byte} {rest : List (Nat × List Byte)}

/-! ### The packet at the head -/

/-- The packet at the head, of its kind and for a CONTROL packet of its command, is taken. -/
theorem mirrorTake_head {kind : Nat} {cmd : Option Nat} (f : Nat → Nat → List Byte → Device → Device)
    (h : d.mirrorHead kind b rest = true) (hcmd : cmd = none ∨ cmd = some (wordAt b 4)) (hello : Bool)
    (hhello : (decide (kind = 0x43) && decide (wordAt b 4 = 0)) = hello) :
    d.mirrorTake kind cmd f = f (wordAt b 4) (wordAt b 12) (b.drop 16) (d.mirrorGot hello b rest) := by
  simp only [Device.mirrorHead, Bool.and_eq_true, beq_iff_eq, decide_eq_true_eq] at h
  obtain ⟨⟨⟨⟨hhead, htail⟩, hrole⟩, hen⟩, hkind⟩ := h
  unfold Device.mirrorTake
  cases hq : d.mirrorRx.filter d.mirrorValid with
  | nil => simp [hq] at hhead
  | cons x q =>
    rw [hq] at hhead htail
    obtain ⟨n, b'⟩ := x
    obtain rfl : b' = b := Option.some.inj hhead
    obtain rfl : q = rest := htail
    have htaken : ¬ (d.pairRole = 0 ∨ ¬ d.flag F.PAIR_CFG_EN = true ∨ (b'.getD 1 0).toNat ≠ kind ∨
        (cmd.isSome = true ∧ cmd ≠ some (wordAt b' 4))) := by
      rintro (h | h | h | ⟨h, h'⟩)
      · exact hrole h
      · exact h hen
      · exact h hkind
      · rcases hcmd with hc | hc
        · simp [hc] at h
        · exact h' hc
    refine (if_neg htaken).trans ?_
    refine congrArg (fun e : Device => f _ _ _ e.mirrorHeard) (if_congr ?_ rfl rfl)
    rw [← hhello, Bool.and_eq_true, decide_eq_true_eq, Bool.not_eq_true']
    exact Iff.rfl

/-- A CONTROL packet taken. -/
theorem controlTake {n : Nat} (f : Nat → Nat → List Byte → Device → Device) (h : d.mirrorHead 0x43 b rest = true)
    (hnum : wordAt b 4 = n) : d.mirrorTake 0x43 (some n) f =
      f n (wordAt b 12) (b.drop 16) (d.mirrorGot (decide (n = 0)) b rest) := by
  subst hnum
  exact mirrorTake_head f h (.inr rfl) _ (Bool.true_and _)

/-- A packet of another kind taken. -/
theorem kindTake {kind : Nat} (f : Nat → Nat → List Byte → Device → Device) (h : d.mirrorHead kind b rest = true)
    (hkind : kind ≠ 0x43) : d.mirrorTake kind none f =
      f (wordAt b 4) (wordAt b 12) (b.drop 16) (d.mirrorGot false b rest) :=
  mirrorTake_head f h (.inl rfl) false (by simp [hkind])

/-! ### Roles (R449) -/

/-- Of two parts that claim LEAD, the one that yields. -/
theorem twoLeads_eq (d : Device) (prom : Bool) (id : Nat) : d.twoLeads prom id =
    let both : Device := d.raiseBit F.PAIR_FAULT_ROLE 0x0A0A wholeDevice
    if d.pairState = 1 ∧ d.pair.partState ≠ 1 then (d.put F.PAIR_STATUS_ROLE 2).sendHello
    else if d.pairState ≠ 1 ∧ d.pair.partState ≤ 1 then d
    else if (if d.flag F.PAIR_STATUS_PROMOTED ≠ prom then d.flag F.PAIR_STATUS_PROMOTED
        else decide (id < leNat (both.deviceId.take 4))) = true then
      ((both.put F.PAIR_STATUS_STATE 1).put F.PAIR_STATUS_ROLE 2).sendHello
    else both := by
  refine if_congr ?_ rfl (if_congr ?_ rfl rfl)
  · simp
  · simp

theorem ite_neither {α : Type} {p q : Prop} [Decidable p] [Decidable q] (x y : α) :
    (if p ∧ q then x else y) = if ¬ p ∨ ¬ q then y else x :=
  ((if_congr not_and_or.symm rfl rfl).trans (ite_not _ _ _)).symm

/-- HELLO's news of the partner: its image may be another's. -/
def Device.helloPartner (d : Device) (x : List Byte) : Device :=
  let same := decide ((x.drop 8).take 8 = d.imageHash.take 8)
  let e := d.modPair (fun p => { p with
    partPromoted := bit (byteAt x 1) 0, partForced := bit (byteAt x 1) 1, imageOk := same })
  if same = true then e else e.raiseBit F.PAIR_FAULT_IMAGE 0x0A0B wholeDevice

/-- HELLO of a part that claims LEAD, at a part that does. -/
def Device.helloRole (d : Device) (x : List Byte) : Device :=
  if d.pairRole = 1 ∧ byteAt x 0 = 1 then d.twoLeads (bit (byteAt x 1) 0) (wordAt x 4) else d

theorem helloRole_eq (d : Device) (x : List Byte) : d.helloRole x =
    let both : Device := d.raiseBit F.PAIR_FAULT_ROLE 0x0A0A wholeDevice
    if d.pairRole ≠ 1 ∨ byteAt x 0 ≠ 1 then d
    else if d.pairState = 1 ∧ d.pair.partState ≠ 1 then (d.put F.PAIR_STATUS_ROLE 2).sendHello
    else if d.pairState ≠ 1 ∧ d.pair.partState ≤ 1 then d
    else if (if d.flag F.PAIR_STATUS_PROMOTED ≠ bit (byteAt x 1) 0 then d.flag F.PAIR_STATUS_PROMOTED
        else decide (wordAt x 4 < leNat (both.deviceId.take 4))) = true then
      ((both.put F.PAIR_STATUS_STATE 1).put F.PAIR_STATUS_ROLE 2).sendHello
    else both := by
  rw [Device.helloRole, ite_neither, twoLeads_eq]

theorem helloRx_head (h : d.mirrorHead 0x43 b rest = true) (hn : wordAt b 4 = 0) :
    let g := d.mirrorGot true b rest
    let x := b.drop 16
    let e := (g.helloPartner x).helloRole x
    d.helloRx =
      if e.pairRole = 2 ∧ byteAt x 0 = 1 ∧ decide ((x.drop 8).take 8 = g.imageHash.take 8) = true ∧ e.pairState = 1 ∧
          e.flag F.HG_STATUS_FORCED = false then e.askSync
      else e := by
  intro g x e
  refine (controlTake _ h hn).trans (if_congr ?_ rfl rfl)
  rw [Bool.not_eq_true]
  exact Iff.rfl

/-! ### Divergence, dirty blocks and state blocks (R460 to R462) -/

theorem divergeRx_head (h : d.mirrorHead 0x43 b rest = true) (hn : wordAt b 4 = 4) :
    let x := b.drop 16
    let e := ((d.mirrorGot false b rest).modPair (fun p => { p with partDriving := true })).showDiverge
    d.divergeRx =
      if e.pairRole ≠ 1 ∨ e.pairState ≠ 3 ∨ e.pair.decided ≠ none then e
      else match e.pair.div with
        | some v => e.decideNow v.own (decide (byteAt x 1 ≠ 0))
        | none => e.decideNow (e.suspect (byteAt x 0 % 2) (wordAt x 4)) (decide (byteAt x 1 ≠ 0)) := by
  intro x e
  refine (controlTake _ h hn).trans (if_congr (or_congr_right (or_congr_right ?_)) rfl rfl)
  exact Option.isSome_iff_ne_none

theorem nackRx_head (h : d.mirrorHead 0x43 b rest = true) (hn : wordAt b 4 = 9) :
    let x := b.drop 16
    let g := d.mirrorGot false b rest
    d.nackRx = match g.pair.resync with
      | some r =>
        if g.pairRole = 1 ∧ wordAt x 0 < r.next ∧ wordAt x 0 ∉ r.dirty then
          g.modPair (fun p => { p with resync := some { r with dirty := r.dirty ++ [wordAt x 0] } })
        else g
      | none => g := by
  intro x g
  refine (controlTake _ h hn).trans ?_
  change (match g.pair.resync with | some r => _ | none => g) = _
  cases g.pair.resync with
  | none => rfl
  | some r => exact if_congr (and_congr_right fun _ => and_congr_right fun _ => not_congr List.contains_iff_mem) rfl rfl

theorem stateBlockRx_head (h : d.mirrorHead 0x42 b rest = true) :
    let x := b.drop 16
    let g := d.mirrorGot false b rest
    let a := leNat (x.take 8)
    let n := wordAt b 12
    d.stateBlockRx =
      if g.pairRole ≠ 2 ∨ g.pair.resync = none then g
      else if 1 ≤ n ∧ n ≤ 4096 ∧ x.length = 8 + n ∧ syncable a n = true then
        (g.syncWrite a (x.drop 8)).bump F.PAIR_RESYNC_BLOCKS
      else g.mirrorSend 0x43 9 0 (padTo 16 (leBytes 4 (wordAt b 4))) := by
  intro x g a n
  refine (kindTake _ h (by decide)).trans (if_congr (or_congr_right Option.isNone_iff_eq_none) rfl ?_)
  have hbad : (n = 0 ∨ 4096 < n ∨ x.length ≠ 8 + n ∨ ¬ syncable a n = true) ↔
      ¬ (1 ≤ n ∧ n ≤ 4096 ∧ x.length = 8 + n ∧ syncable a n = true) := by
    rw [not_and_or, not_and_or, not_and_or, Nat.not_le, Nat.not_le, Nat.lt_one_iff]
  exact (if_congr hbad rfl rfl).trans (ite_not _ _ _)

end

/-- Settles O35: each packet at the head is taken, and then has the effect of its kind. -/
theorem pairPacketsComplete : Obligations.PairPacketsComplete := by
  unfold Obligations.PairPacketsComplete
  intro s b rest g x
  refine ⟨fun h => ⟨fun hn => ?_, fun hn => ?_, fun hn => ?_, fun hn => ?_, fun hn => ?_, fun hn => ?_, fun hn => ?_,
    fun hn => ?_, fun hn => ?_⟩, fun h => ?_, fun h => ?_, fun h => ?_⟩
  · have hhello := helloRx_head h hn
    dsimp only at hhello
    rw [helloRole_eq] at hhello
    exact (exec_hello s).trans (next_after_congr s hhello)
  · exact (exec_draft s).trans (next_after_congr s (controlTake _ h hn))
  · exact (exec_keepalive s).trans (next_after_congr s (controlTake _ h hn))
  · exact (exec_forced s).trans (next_after_congr s (controlTake _ h hn))
  · exact (exec_diverge s).trans (next_after_congr s (divergeRx_head h hn))
  · exact (exec_decideMsg s).trans (next_after_congr s (controlTake _ h hn))
  · exact (exec_resyncReq s).trans (next_after_congr s (controlTake _ h hn))
  · exact (exec_join s).trans (next_after_congr s (controlTake _ h hn))
  · exact (exec_nack s).trans (next_after_congr s (nackRx_head h hn))
  · exact (exec_stateBlock s).trans (next_after_congr s (stateBlockRx_head h))
  · exact (exec_stepDigest s).trans (next_after_congr s (kindTake _ h (by decide)))
  · exact (exec_frameDigest s).trans (next_after_congr s (kindTake _ h (by decide)))

end Sys2Proof.Machine
end

section
/-! What a pair does by itself and by command (R449, R451, R458, R460 to R463, R465). -/

namespace Sys2Proof.Machine

section
variable {d : Device}

/-! ### Resynchronisation (R462) -/

/-- Whether a block of the state set is live: none beyond its end. -/
theorem itemLive_at (d : Device) (r : Resync) :
    (fun j : Nat => match r.set[j]? with | some x => d.itemLive x | none => false) =
      fun j => (r.set[j]?.map d.itemLive).getD false :=
  funext fun j => by cases r.set[j]? <;> rfl

/-- The LEAD with a resynchronisation at a point of its own. -/
def Device.syncAt (d : Device) (r : Resync) : Device := d.modPair (fun p => { p with resync := some r })

/-- A resynchronisation at the start of a round: its blocks counted. -/
def Resync.round (r : Resync) : Resync :=
  if r.left = 0 then { r with rounds := r.rounds + 1, left := r.dirty.length } else r

theorem Resync.dirty_round (r : Resync) : r.round.dirty = r.dirty := by
  unfold Resync.round
  split <;> rfl

/-- The LEAD's next dirty block of a round. -/
theorem resyncSend_round (d : Device) (r : Resync) :
    (match r.round.dirty with
      | x :: rest => (d.syncAt { r.round with dirty := rest, left := r.round.left - 1 }).sendBlock x
      | [] => d.syncAt { r.round with left := 0 }) =
    match r.dirty with
      | x :: rest => (d.syncAt { r.round with dirty := rest, left := r.round.left - 1 }).sendBlock x
      | [] => d.syncAt { r.round with left := 0 } := by
  rw [Resync.dirty_round]

theorem resyncSend_lead {r : Resync} (hr : d.pair.resync = some r) (hlead : d.pairRole = 1)
    (halive : d.flag F.PAIR_STATUS_ALIVE = true) : d.resyncSend =
      match r.cut with
      | some (t, i) =>
        if d.pausedAt t i = false then d
        else match r.dirty with
          | x :: rest => (d.syncAt { r with dirty := rest }).sendBlock x
          | [] =>
            if r.bulkLen + r.lateNext < r.set.length then
              (d.syncAt { r with lateNext := r.lateNext + 1 }).sendBlock (r.bulkLen + r.lateNext)
            else
              let f := (d.fld F.HATCH_FRAME + 1) % 2 ^ 32
              (d.mirrorSend 0x43 8 0 (padTo 16 (leBytes 4 t ++ leBytes 4 i ++ leBytes 4 f))).locked t f
      | none =>
        if r.cutFn ≠ none then d
        else if r.next < r.bulkLen then
          match ((List.range r.bulkLen).drop r.next).find? (fun k => (r.set[k]?.map d.itemLive).getD false) with
          | some j => (d.syncAt { r with next := j + 1 }).sendBlock j
          | none => d.syncAt { r with next := r.bulkLen }
        else if r.dirty.length ≤ d.fld F.PAIR_CUT_BLOCKS ∨ (8 ≤ r.rounds ∧ r.left = 0) then d.sendJoin r
        else match r.dirty with
          | x :: rest => (d.syncAt { r.round with dirty := rest, left := r.round.left - 1 }).sendBlock x
          | [] => d.syncAt { r.round with left := 0 } := by
  have hready : ¬ (d.pairRole ≠ 1 ∨ ¬ d.flag F.PAIR_STATUS_ALIVE = true) := by simp [hlead, halive]
  rw [← resyncSend_round, ← itemLive_at]
  unfold Device.resyncSend
  rw [hr]
  refine (if_neg hready).trans ?_
  obtain ⟨set, next, dirty, rounds, left, tries, lateNext, cutFn, latch, cut⟩ := r
  cases cut with
  | none => exact if_congr Option.isSome_iff_ne_none rfl rfl
  | some c => exact if_congr (iff_of_eq (Bool.not_eq_true' _)) rfl rfl

/-! ### What time brings (R451, R449, R460) -/

theorem suspectWait_late {v : Diverged} (hv : d.pair.div = some v) (hlead : d.pairRole = 1)
    (hlate : 2000 ≤ d.since v.at_) : d.suspectWait = d.decideNow v.own false := by
  unfold Device.suspectWait
  rw [hv]
  exact if_pos ⟨hlead, hlate⟩

theorem joinWaitExpire_late {t : Nat} (ht : d.pair.joinAt = some t) (halive : d.flag F.PAIR_STATUS_ALIVE = true)
    (hmate : d.pairRole = 2) (hwait : d.pairState = 1) (hlate : d.fld F.PAIR_JOIN_WAIT ≤ d.since t) :
    d.joinWaitExpire =
      (((d.modPair (fun p => { p with joinAt := none })).setPairState 5).put F.PAIR_STATUS_ROLE 1).sendHello := by
  unfold Device.joinWaitExpire
  rw [ht]
  exact if_pos ⟨halive, hmate, hwait, hlate⟩

theorem pairKickExpire_late {t : Nat} (ht : d.pair.kickAt = some t) (hlate : d.hbTimeout < 2 * d.since t) :
    d.pairKickExpire = (d.modPair (fun p => { p with kickAt := none })).showAlive := by
  unfold Device.pairKickExpire
  rw [ht]
  exact if_pos hlate

/-! ### Kicks and commands (R451, R465) -/

theorem writeCmd_pairKick {ini : Ini} (ha : d.admits ini F.PAIR_KICK.addr = true) : d.writeCmd ini F.PAIR_KICK 1 =
    if ini = .scribe 3 then (d.modPair (fun p => { p with kickAt := some d.timebase })).showAlive else d := by
  refine (writeReg_pairKick d ini _ ha).trans (if_congr ?_ rfl rfl)
  have hkick : bit (setBits 0 F.PAIR_KICK.lo F.PAIR_KICK.len 1).toNat 0 = true := by decide
  rw [and_iff_left hkick]
  cases ini with
  | scribe n =>
    simp only [Ini.num, iniScribe, Ini.scribe.injEq, Fin.ext_iff]
    omega
  | host => simp [Ini.num, iniScribe]
  | hg => simp [Ini.num, iniScribe]

theorem demote_eq (d : Device) (ini off : Nat) : d.demote ini off =
    if d.pairRole ≠ 1 ∨ d.pair.decided ≠ none ∨ d.pair.div ≠ none then d.accError ini 4 off
    else
      let fe := (d.fld F.HATCH_FRAME + 1) % 2 ^ 32
      (d.modPair (fun p => { p with decided := some (1, fe), demoting := true })).mirrorSend 0x43 5 0
        (padTo 16 (leBytes 1 1 ++ leBytes 3 0 ++ leBytes 4 fe)) :=
  if_congr (or_congr_right (or_congr Option.isSome_iff_ne_none Option.isSome_iff_ne_none)) rfl rfl

end

/-- Settles O36: what the LEAD and the MATE do as time passes, and what a kick and a command of the pair do. -/
theorem pairControlCompletes : Obligations.PairControlCompletes := by
  unfold Obligations.PairControlCompletes
  intro s
  refine ⟨fun b rest => ?_, fun r hr hlead halive => ?_, fun v hv hlead hlate => ?_,
    fun halive => ⟨fun hnow hhalf => ?_, fun hsent => ?_, fun t ht hmate hwait hlate => ?_⟩,
    fun hen => ⟨fun hgone hlate => ?_, fun hgone hlate hquiet => ?_⟩, ?_, fun ini ha => ?_, fun t ht hlate => ?_,
    fun ini ha => ⟨?_, ?_, ?_⟩⟩
  · intro d t i f h hn
    exact (exec_cutover s).trans (next_after_congr s ((controlTake _ h hn).trans
      (if_congr (or_congr_right Option.isNone_iff_eq_none) rfl rfl)))
  · exact (exec_resyncBlockSend s).trans (next_after_congr s (resyncSend_lead hr hlead halive))
  · exact (exec_suspectWaitExpire s).trans (next_after_congr s (suspectWait_late hv hlead hlate))
  · exact (exec_hbToggle s).trans (next_after_congr s (if_pos ⟨halive, hnow, hhalf⟩))
  · exact (exec_mirrorKeepaliveDue s).trans (next_after_congr s (if_pos ⟨halive, hsent⟩))
  · exact (exec_joinWaitExpire s).trans (next_after_congr s (joinWaitExpire_late ht halive hmate hwait hlate))
  · exact (exec_partnerHbLost s).trans (next_after_congr s (if_pos ⟨hen, Bool.eq_false_iff.1 hgone, hlate⟩))
  · exact (exec_mirrorSilent s).trans (next_after_congr s
      (if_pos ⟨hen, Bool.eq_false_iff.1 hgone, hlate, Bool.eq_false_iff.1 hquiet⟩))
  · exact exec_mateHbInEdge s
  · exact (exec_pairKick ini s).trans (next_after_congr s (writeCmd_pairKick ha))
  · exact (exec_pairKickExpire s).trans (next_after_congr s (pairKickExpire_late ht hlate))
  · exact (exec_pairResyncCmd ini s).trans (next_after_congr s (writeReg_pairCmd s.dev ini _ ha))
  · exact (exec_demote ini s).trans (next_after_congr s ((writeReg_pairCmd s.dev ini _ ha).trans (demote_eq _ _ _)))
  · exact (exec_leave ini s).trans (next_after_congr s (writeReg_pairCmd s.dev ini _ ha))

end Sys2Proof.Machine
end
